-- ==== Sys2Proof/Word.lean ====
section
/-!
DEFINITION. The word and byte types (R4, R5).
-/
namespace Sys2Proof

/-- A register (R5). -/
abbrev Word := BitVec 32

/-- A byte of a frame, a table or memory. -/
abbrev Byte := BitVec 8

end Sys2Proof
end

