-- ==== Sys2Proof/Machine/Bits.lean ====
section
/-!
DEFINITION. The plainest arithmetic: wrapping differences, bit fields, sign extension and byte order (R4, R5, R14).
-/
namespace Sys2Proof

/-- Wrap `v` to `w` bits. -/
def wrap (w v : Nat) : Nat := v % 2 ^ w

/-- `a - b` in `w` bits (R14). -/
def subW (w a b : Nat) : Nat := (a % 2 ^ w + (2 ^ w - b % 2 ^ w)) % 2 ^ w

/-- R14: `a` is at or after `b` when the two's-complement difference in `w` bits is not negative. -/
def atOrAfter (w a b : Nat) : Bool := subW w a b < 2 ^ (w - 1)

/-- The two's-complement value of the low `w` bits of `v`. -/
def sextNat (w v : Nat) : Int :=
  if v % 2 ^ w < 2 ^ (w - 1) then (v % 2 ^ w : Int) else (v % 2 ^ w : Int) - 2 ^ w

/-- Add one, held at the largest value of `w` bits. -/
def satInc (w v : Nat) : Nat := if v + 1 < 2 ^ w then v + 1 else 2 ^ w - 1

/-- Held at the largest value of `w` bits. -/
def satTo (w v : Nat) : Nat := min v (2 ^ w - 1)

/-- Bit `i` of `v`. -/
def bitAt (v i : Nat) : Bool := v / 2 ^ i % 2 == 1

/-- `1` for true. -/
def b2n (b : Bool) : Nat := if b then 1 else 0

/-- Bits `lo` to `lo + w - 1` of `v`. -/
def bitsAt (v lo w : Nat) : Nat := v / 2 ^ lo % 2 ^ w

/-- A natural number's low bytes, lowest first (R4, little-endian). -/
def bytesLE : Nat → Nat → List Byte
  | 0, _ => []
  | n + 1, v => BitVec.ofNat 8 v :: bytesLE n (v / 256)

/-- The number whose bytes are given lowest first (R4). -/
def ofBytesLE : List Byte → Nat
  | [] => 0
  | b :: bs => b.toNat + 256 * ofBytesLE bs

/-- The number whose bytes are given highest first (R4, network byte order). -/
def ofBytesBE (bs : List Byte) : Nat := bs.foldl (fun a b => a * 256 + b.toNat) 0

/-- A natural number's low bytes, highest first (R4, network byte order). -/
def bytesBE (n v : Nat) : List Byte := (bytesLE n v).reverse

/-- The little-endian words of a byte list. -/
def wordsOf : Nat → List Byte → List Word
  | 0, _ => []
  | n + 1, bs => BitVec.ofNat 32 (ofBytesLE (bs.take 4)) :: wordsOf n (bs.drop 4)

/-- One round of SipHash on its four words (R245). -/
def sipRound (v : BitVec 64 × BitVec 64 × BitVec 64 × BitVec 64) : BitVec 64 × BitVec 64 × BitVec 64 × BitVec 64 :=
  let a := v.1 + v.2.1
  let b := v.2.1.rotateLeft 13 ^^^ a
  let a := a.rotateLeft 32
  let c := v.2.2.1 + v.2.2.2
  let d := v.2.2.2.rotateLeft 16 ^^^ c
  let a := a + d
  let d := d.rotateLeft 21 ^^^ a
  let c := c + b
  let b := b.rotateLeft 17 ^^^ c
  (a, b, c.rotateLeft 32, d)

/-- SipHash-2-4 takes a word: two rounds between its two additions. -/
def sipWord (v : BitVec 64 × BitVec 64 × BitVec 64 × BitVec 64) (m : BitVec 64) :
    BitVec 64 × BitVec 64 × BitVec 64 × BitVec 64 :=
  let r := sipRound (sipRound (v.1, v.2.1, v.2.2.1, v.2.2.2 ^^^ m))
  (r.1 ^^^ m, r.2)

/-- The 64-bit output of SipHash-2-4 over a message under a 128-bit key (R245, R263). -/
def sipHash (key : BitVec 128) (msg : List Byte) : BitVec 64 :=
  let k0 := key.extractLsb' 0 64
  let k1 := key.extractLsb' 64 64
  let n := msg.length
  let word (i : Nat) : BitVec 64 := BitVec.ofNat 64 (ofBytesLE ((msg.drop (8 * i)).take 8))
  let v := (List.range (n / 8)).foldl (fun v i => sipWord v (word i))
    (k0 ^^^ 0x736f6d6570736575#64, k1 ^^^ 0x646f72616e646f6d#64, k0 ^^^ 0x6c7967656e657261#64, k1 ^^^ 0x7465646279746573#64)
  let v := sipWord v (word (n / 8) ||| BitVec.ofNat 64 (n % 256) <<< 56)
  let v := sipRound (sipRound (sipRound (sipRound (v.1, v.2.1, v.2.2.1 ^^^ 0xff#64, v.2.2.2))))
  v.1 ^^^ v.2.1 ^^^ v.2.2.1 ^^^ v.2.2.2

/-- Update position `i` of a list. -/
def updAt {α : Type} (l : List α) (i : Nat) (f : α → α) : List α :=
  match l[i]? with
  | some x => l.set i (f x)
  | none => l

end Sys2Proof
end

