-- ==== Sys2Proof/Machine/Operands.lean ====
section
/-!
DEFINITION. What the commands of Syntax.lean carry: who sends one, which engine executes an instruction, and the
messages whose contents come from outside the device.
-/
namespace Sys2Proof

/-- Who reaches the register space (R10, R132): `boot` is the boot process itself, which sends no command. -/
inductive Requester where
  | host | ccx | debug | boot
  deriving DecidableEq, Repr

/-- Who can send a register access as a command (R101). -/
inductive Sender where
  | host | ccx | debug
  deriving DecidableEq, Repr

/-- The requester that a sender is. -/
def Sender.req : Sender → Requester
  | .host => .host
  | .ccx => .ccx
  | .debug => .debug

/-- What executes a program of the Rake instruction set (R202): a Rake, or the gateway engine. -/
inductive EngId where
  | rake (r : Fin 32)
  | gateway
  deriving DecidableEq, Repr

namespace Machine

/-- A message of a legacy bus: the record of R389 with its data. -/
structure Msg where
  channel : Nat
  format : Nat
  flags : Nat
  id : Nat
  sdt : Nat
  vcid : Nat
  kind : Nat
  status : Nat
  af : Nat
  time : Nat
  data : List Byte
  deriving DecidableEq, Repr

/-- How a frame on a CAN bus ended for a controller (R378): `lec` names the error as GWE_CAN_ERR.LEC does, 0 for none; `extra`:
a receiver meets a dominant bit after its own error flag, or a transmitter an exception of ISO 11898-1, whose TEC does not
count. -/
structure CanErr where
  lec : Nat
  extra : Bool
  deriving DecidableEq, Repr

/-- What the host sets in configuration space for the time that the link stays up (R403): Max_Read_Request_Size in bytes, and
D3hot. -/
structure HostSetup where
  mrrs : Nat
  d3hot : Bool
  deriving DecidableEq, Repr

/-- A header on a LIN bus (R379, R389): its identifier, and T64 of the falling edge of its break. -/
structure LinHead where
  id : Fin 64
  time : Nat
  deriving DecidableEq, Repr

/-- How the reception of a frame ended beside its FCS (R167, R175): the PHY signalled an error, the frame came in
fragments, and their reassembly failed. -/
structure RxEnd where
  phyErr : Bool
  frags : Bool
  asmErr : Bool
  deriving DecidableEq, Repr

/-- What the far side of a transmission gave: the host buffer addresses that the copy goes to, and the collisions that its
port counted (R175, R418). -/
structure TxEnd where
  bufs : List Nat
  collisions : Nat
  deriving DecidableEq, Repr

/-- What a HELLO of the pair link names (R491): UID, PAIR_SIDE, PAIR_ID, IMAGE_ID, CAPSULE_CHAIN, nonce and ephemeral
public key. -/
structure PairPeer where
  uid : Nat
  side : Nat
  pairId : Nat
  image : Nat
  chain : Nat
  nonce : List Byte
  eph : List Byte
  deriving DecidableEq, Repr

/-- The body of a POLL (R488). -/
structure PollBody where
  holder : Nat
  term : Nat
  leaseMs : Nat
  deriving DecidableEq, Repr

/-- A message to the firmware that a restart delays (R465): of management, or a frame of the pair link. -/
inductive FwInput where
  | hello (via addr : Nat) (nonce eph credential : List Byte) (sigOk : Bool)
  | finish (k via addr : Nat) (ok : Bool)
  | cert (via addr off : Nat)
  | request (k via addr seq : Nat) (tagOk : Bool) (reqId opcode : Nat) (params : List Byte)
  | close (k via addr seq : Nat) (tagOk : Bool)
  | pairHello (h : PairPeer)
  | pairProof (ok : Bool)
  | pairHealth (ok : Bool) (counter health : Nat)
  | pairTime (ok : Bool) (counter : Nat) (trk0 trk1 wc : BitVec 64) (back : Nat)
  | crate (ok : Bool) (counter seq frag : Nat) (last : Bool) (body : List Byte)
  deriving DecidableEq, Repr

end Machine

end Sys2Proof
end

