-- ==== Sys2Proof/Syntax.lean ====
section
/-!
DEFINITION. The commands: one constructor for each row of the opcode table, with what the row leaves to the outside as
operands. Operands named `ok`, `...Ok` or `bad` stand for the outcome of a check that the model does not compute (a
signature, a hash, a tag, a known answer).
-/
namespace Sys2Proof

/-- A command of the device. -/
inductive Instr where
  /-- REGISTER_WRITE (R6). -/
  | registerWrite (q : Sender) (a : Nat) (w : Word)
  /-- RC_READ (R6). -/
  | rcRead (q : Sender) (a : Nat)
  /-- COUNTER_LOW_READ (R10). -/
  | counterLowRead (q : Sender) (a : Nat)
  /-- FULL_TIME_READ (R12). -/
  | fullTimeRead (q : Sender) (c : Fin 3)
  /-- UNMAPPED_ACCESS (R31). -/
  | unmappedAccess (q : Sender) (a : Nat) (w : Option Word)
  /-- CHIP_RESET (R27). -/
  | chipReset (src : Fin 768)
  /-- COLD_RESET (R27). -/
  | coldReset (cause : Fin 3)
  /-- BLOCK_RESET (R30). -/
  | blockReset (b : Fin 23) (src : Fin 768)
  /-- BLOCK_RESET_COMPLETE (R30). -/
  | blockResetComplete (b : Fin 23)
  /-- TEST_PORT_RESET (R27). -/
  | testPortReset
  /-- RESET_CMD_CHIP_RESET (R35). -/
  | resetCmdChipReset (q : Sender)
  /-- RESET_CMD_BLOCK_RESET (R35). -/
  | resetCmdBlockReset (q : Sender) (b : Fin 32)
  /-- INT_EOI (R34). -/
  | intEoi (q : Sender) (m : Word)
  /-- MSIX_UNMASK (R34). -/
  | msixUnmask (v : Option (Fin 64)) (enable mask : Bool)
  /-- COLD_RESET_RELEASE (R47). -/
  | coldResetRelease (boot : Fin 4) (pairEn pairSide pcie safe : Bool)
  /-- TEMPERATURE_SAMPLE (R94). -/
  | temperatureSample (v : BitVec 12)
  /-- PMBUS_TIMEOUT (R64). -/
  | pmbusTimeout
  /-- POWER_LOSS (R77). -/
  | powerLoss
  /-- PWR_CMD_SLEEP_D (R79). -/
  | pwrCmdSleepD (q : Sender) (pins : BitVec 4)
  /-- PWR_CMD_SLEEP_R (R79). -/
  | pwrCmdSleepR (q : Sender) (pins : BitVec 4)
  /-- PWR_CMD_STANDBY (R77). -/
  | pwrCmdStandby (q : Sender) (pins : BitVec 4)
  /-- PWR_CMD_ACTIVE (R78). -/
  | pwrCmdActive (q : Sender) (pins : BitVec 4)
  /-- SLEEP_ENTRY_STEP (R79). -/
  | sleepEntryStep
  /-- WAKE_CONFIRMED (R81). -/
  | wakeConfirmed (c : Fin 66)
  /-- WAKE_TIMER_EXPIRY (R81). -/
  | wakeTimerExpiry
  /-- PGOOD_WAIT_DONE (R86). -/
  | pgoodWaitDone
  /-- PGOOD_TIMEOUT (R87). -/
  | pgoodTimeout
  /-- SEQUENCE_RETRY (R87). -/
  | sequenceRetry
  /-- START_TABLE_STEP (R91). -/
  | startTableStep
  /-- INTERNAL_READY (R95). -/
  | internalReady (tagOk ddrLate : Bool)
  /-- PGOOD_LOSS (R88). -/
  | pgoodLoss (n : Fin 8)
  /-- PGOOD_RECOVERY (R88). -/
  | pgoodRecovery (n : Fin 8)
  /-- PMBUS_ALERT (R89). -/
  | pmbusAlert (words : List Word)
  /-- PWR_SEQ_CFG_WRITE (R91). -/
  | pwrSeqCfgWrite (q : Sender) (w : Word)
  /-- VOLTAGE_MONITOR_EVENT (R92). -/
  | voltageMonitorEvent (r : Fin 8) (level : Fin 3)
  /-- CLOCK_LOSS (R93). -/
  | clockLoss (c : Fin 20)
  /-- CLOCK_RECOVERY (R157). -/
  | clockRecovery (c : Fin 20)
  /-- MR4_TEMPERATURE_REPORT (R483). -/
  | mr4TemperatureReport (rate : Nat) (hot : Bool)
  /-- BOOT_START (R99); `readA` and `readB`: the flash answers the reads of that slot's header in time. -/
  | bootStart (comp1 comp2 : Option Nat) (trngBad : Nat) (fuseBad readA readB sigA sigB : Bool)
  /-- PASS1_COMPLETE (R117); the flash answered, and no read took over 10 ms (R114 code 0x1). -/
  | pass1Complete (answers inTime hashOk : Bool)
  /-- DRAM_TRAINING_DONE (R113); training succeeded, and within 15 ms. -/
  | dramTrainingDone (ok inTime : Bool)
  /-- IMAGE_COMMIT (R122). -/
  | imageCommit (readOk hashOk : Bool)
  /-- RESUME_RETAG_DONE (R125). -/
  | resumeRetagDone
  /-- STAGE_CHUNK_SUBMIT (R119). -/
  | stageChunkSubmit (q : Sender) (w : Word)
  /-- STAGE_CHUNK_TAKEN (R119); the chunk follows the one before it in the image (R120), and for one that completes a
  header the outcome of its signature check (R105): SIGNER_KEY is a P-384 public key, and the signature verifies. -/
  | stageChunkTaken (inOrder keyOk sigOk : Bool)
  /-- PCIE_IMAGE_TIMEOUT (R121). -/
  | pcieImageTimeout
  /-- BEGIN_IMAGE (R127). -/
  | beginImage (q : Sender)
  /-- BEGIN_RUNTIME (R128). -/
  | beginRuntime (q : Sender)
  /-- UPDATE_ERASE_DONE (R127). -/
  | updateEraseDone
  /-- BOOT_UPDATE_END (R127). -/
  | bootUpdateEnd (q : Sender)
  /-- UPDATE_VERIFY_DONE (R128). -/
  | updateVerifyDone (readOk hashOk keyOk sigOk : Bool)
  /-- BOOT_UPDATE_COMMIT (R127). -/
  | bootUpdateCommit (q : Sender) (tries : Fin 8)
  /-- RUNTIME_APPLY_DONE (R128); `refused`: the section, if any, whose entry fails to take effect for a cause that R128 does not
  name (its list of causes is by example). -/
  | runtimeApplyDone (refused : Option Nat)
  /-- BOOT_UPDATE_CONFIRM (R127). -/
  | bootUpdateConfirm (q : Sender)
  /-- BOOT_UPDATE_CANCEL (R129). -/
  | bootUpdateCancel (q : Sender)
  /-- FLASH_TIMEOUT (R130). -/
  | flashTimeout
  /-- LIFECYCLE_CMD (R136). -/
  | lifecycleCmd (q : Sender) (target : Fin 4)
  /-- FUSE_WRITE_DONE (R137). -/
  | fuseWriteDone
  /-- SEC_ZEROIZE (R154). -/
  | secZeroize (q : Sender)
  /-- DEBUG_CHALLENGE_READ (R151). -/
  | debugChallengeRead (q : Sender)
  /-- DEBUG_TOKEN_CHECK (R153). -/
  | debugTokenCheck (q : Sender) (keyOk sigOk : Bool)
  /-- CHALLENGE_EXPIRY (R151). -/
  | challengeExpiry
  /-- CHALLENGE_REFUSAL_END (R152). -/
  | challengeRefusalEnd
  /-- TRNG_HEALTH_FAIL (R150). -/
  | trngHealthFail
  /-- DRBG_RESTART (R150). -/
  | drbgRestart
  /-- DRBG_RESEED (R149). -/
  | drbgReseed
  /-- KEY_SLOT_WRITE (R146). -/
  | keySlotWrite (k : Fin 256) (alg : Fin 16) (usage : BitVec 8) (lock drawn : Bool)
  /-- PORT_CFG_WRITE (R161). -/
  | portCfgWrite (q : Sender) (n : Fin 24) (w : Word)
  /-- LINK_SIGNAL_DETECT (R160). -/
  | linkSignalDetect (n : Fin 24)
  /-- LINK_TRAINING_DONE (R160). -/
  | linkTrainingDone (n : Fin 24) (speed : Fin 8) (lpPause : Bool)
  /-- UP_FILTER_EXPIRY (R160). -/
  | upFilterExpiry (n : Fin 24)
  /-- LINK_LOSS (R161). -/
  | linkLoss (n : Fin 24) (localF remoteF : Bool)
  /-- LINK_LOSS_FILTER_EXPIRY (R161). -/
  | linkLossFilterExpiry (n : Fin 24)
  /-- LINK_DOWN_FLUSH_DONE (R279). -/
  | linkDownFlushDone (n : Fin 24)
  /-- HOLDOFF_EXPIRY (R280). -/
  | holdoffExpiry (n : Fin 24)
  /-- PFC_FRAME_RECEIVED (R165). -/
  | pfcFrameReceived (n : Fin 24) (vec : BitVec 8) (quanta : List Nat)
  /-- PAUSE_FRAME_RECEIVED (R166). -/
  | pauseFrameReceived (n : Fin 24) (quanta : BitVec 16)
  /-- PAUSE_TIMER_EXPIRY (R165). -/
  | pauseTimerExpiry (n : Fin 24) (c : Fin 8)
  /-- PREEMPT_VERIFY_TIMER (R168). -/
  | preemptVerifyTimer (n : Fin 24)
  /-- PREEMPT_VERIFY_RESPONSE (R168). -/
  | preemptVerifyResponse (n : Fin 24)
  /-- SQI_UPDATE (R169). -/
  | sqiUpdate (p : Fin 12) (sqi : Fin 8)
  /-- PLCA_BEACON_CONFLICT (R170). -/
  | plcaBeaconConflict (p : Fin 4)
  /-- TC10_SLEEP_ACK (R171). -/
  | tc10SleepAck (p : Fin 12)
  /-- TC10_SLEEP_TIMEOUT (R171). -/
  | tc10SleepTimeout (p : Fin 12)
  /-- TC10_CMD_SLEEP (R171). -/
  | tc10CmdSleep (q : Sender) (p : Fin 12)
  /-- TC10_CMD_WAKE (R171). -/
  | tc10CmdWake (q : Sender) (p : Fin 12)
  /-- TC10_WAKE_DETECT (R171). -/
  | tc10WakeDetect (p : Fin 12)
  /-- MDIO_ADDRESS (R172). -/
  | mdioAddress (q : Sender) (prtad devad : Fin 32) (addr : BitVec 16)
  /-- MDIO_WRITE (R172). -/
  | mdioWrite (q : Sender) (c45 : Bool) (prtad devad : Fin 32) (data : BitVec 16)
  /-- MDIO_READ (R172). -/
  | mdioRead (q : Sender) (c45 : Bool) (prtad devad : Fin 32)
  /-- MDIO_READ_INCREMENT (R172). -/
  | mdioReadIncrement (q : Sender) (prtad devad : Fin 32)
  /-- MDIO_FRAME_DONE (R172). -/
  | mdioFrameDone (data : BitVec 16)
  /-- MDIO_POLL (R173). -/
  | mdioPoll
  /-- EXT_PHY_INTERRUPT (R173). -/
  | extPhyInterrupt (n : Fin 4)
  /-- RATE_WINDOW_EXPIRY (R473). -/
  | rateWindowExpiry (src : Fin 768)
  /-- PFC_FRAME_SEND (R275). -/
  | pfcFrameSend (n : Fin 24)
  /-- PAUSE_REPEAT_TIMER (R275). -/
  | pauseRepeatTimer (n : Fin 24)
  /-- FRAME_ARRIVAL (R16). -/
  | frameArrival (n : Fin 24)
  /-- CELL_ARRIVAL (R270). -/
  | cellArrival (fid : Nat) (b : List Byte)
  /-- FRAME_END (R278). -/
  | frameEnd (fid : Nat) (fcsOk : Bool) (rx : Machine.RxEnd)
  /-- ICV_VERIFIED (R358). -/
  | icvVerified (fid : Nat) (ok : Bool) (err : List Byte)
  /-- RAKE_DISPATCH (R177). -/
  | rakeDispatch
  /-- RAKE_STALL_END (R17). -/
  | rakeStallEnd (r : Fin 32)
  /-- KEY_RECORD_WRITTEN (R182). -/
  | keyRecordWritten (r : Fin 32)
  /-- SESSION_CREATION_WRITE (R248). -/
  | sessionCreationWrite
  /-- FORWARDING_DECISION (R264). -/
  | forwardingDecision (p : Fin 30)
  /-- RECIRCULATION_PASS (R195). -/
  | recirculationPass
  /-- LEARNING_REQUEST (R265). -/
  | learningRequest
  /-- TRANSMISSION_SELECTION (R309). -/
  | transmissionSelection (e : Fin 30)
  /-- MACSEC_EGRESS_DISPATCH (R360). -/
  | macsecEgressDispatch (e : Fin 24)
  /-- TRANSMIT_END (R258). -/
  | transmitEnd (e : Fin 30) (tx : Machine.TxEnd)
  /-- FIRMWARE_FRAME_SEND (R21). -/
  | firmwareFrameSend (c : Fin 8) (b : List Byte) (oneStep : Bool)
  /-- ADD (R206). -/
  | add (e : EngId)
  /-- SUB (R206). -/
  | sub (e : EngId)
  /-- AND (R206). -/
  | and (e : EngId)
  /-- OR (R206). -/
  | or (e : EngId)
  /-- XOR (R206). -/
  | xor (e : EngId)
  /-- SHL (R206). -/
  | shl (e : EngId)
  /-- SHR (R206). -/
  | shr (e : EngId)
  /-- MOV (R206). -/
  | mov (e : EngId)
  /-- EXT (R206). -/
  | ext (e : EngId)
  /-- CMP (R204). -/
  | cmp (e : EngId)
  /-- TST (R204). -/
  | tst (e : EngId)
  /-- RDS (R208). -/
  | rds (e : EngId)
  /-- BR (R207). -/
  | br (e : EngId)
  /-- CALL (R215). -/
  | call (e : EngId)
  /-- RET (R215). -/
  | ret (e : EngId)
  /-- BRX (R206). -/
  | brx (e : EngId)
  /-- END (R216). -/
  | endProg (e : EngId)
  /-- NOP (R206). -/
  | nop (e : EngId)
  /-- LD (R209). -/
  | ld (e : EngId)
  /-- ST (R210). -/
  | st (e : EngId)
  /-- SETCUR (R206). -/
  | setcur (e : EngId)
  /-- HDR (R212). -/
  | hdr (e : EngId)
  /-- MALF (R216). -/
  | malf (e : EngId)
  /-- RECIRC (R216). -/
  | recirc (e : EngId)
  /-- LKP (R217). -/
  | lkp (e : EngId)
  /-- AUTH (R217). -/
  | auth (e : EngId)
  /-- SEND (R217). -/
  | send (e : EngId)
  /-- OLEN (R206). -/
  | olen (e : EngId)
  /-- EPOCH_SWAP (R241). -/
  | epochSwap (q : Sender)
  /-- SWAP_SETTLED (R241). -/
  | swapSettled
  /-- TREE_DATA_HI_WRITE (R243). -/
  | treeDataHiWrite (q : Sender) (w : Word)
  /-- TREE_DATA_LO_READ (R243). -/
  | treeDataLoRead (q : Sender)
  /-- TREE_DIRECT_WRITE (R227). -/
  | treeDirectWrite (q : Sender) (i : Fin 262144) (hi : Bool) (w : Word)
  /-- TREE_DIRECT_READ (R227). -/
  | treeDirectRead (q : Sender) (i : Fin 262144) (hi : Bool)
  /-- SESSION_AGEING_SCAN (R251). -/
  | sessionAgeingScan
  /-- STASH_MOVE (R249). -/
  | stashMove (i : Fin 256)
  /-- FWL_LOOKUP (R522). -/
  | fwlLookup (q : Sender)
  /-- FWL_READ (R522). -/
  | fwlRead (q : Sender)
  /-- FWL_INSERT (R522). -/
  | fwlInsert (q : Sender)
  /-- FWL_DELETE (R252). -/
  | fwlDelete (q : Sender)
  /-- FWL_FLUSH (R522). -/
  | fwlFlush (q : Sender) (all : Bool)
  /-- FWL_FLUSH_DONE (R522). -/
  | fwlFlushDone
  /-- FDB_AGEING_SCAN (R266). -/
  | fdbAgeingScan
  /-- FDB_LOOKUP (R268). -/
  | fdbLookup (q : Sender)
  /-- FDB_READ (R268). -/
  | fdbRead (q : Sender)
  /-- FDB_INSERT (R268). -/
  | fdbInsert (q : Sender)
  /-- FDB_DELETE (R268). -/
  | fdbDelete (q : Sender)
  /-- FDB_FLUSH (R281). -/
  | fdbFlush (q : Sender) (port : Fin 32) (all : Bool)
  /-- FDB_FLUSH_DONE (R281). -/
  | fdbFlushDone
  /-- METER_REFILL_TICK (R294). -/
  | meterRefillTick
  /-- SHAPER_CREDIT_TICK (R305). -/
  | shaperCreditTick
  /-- FRER_RECOVERY_RESET (R299). -/
  | frerRecoveryReset (f : Fin 1024)
  /-- STM_TABLE_READ (R315). -/
  | stmTableRead (q : Sender)
  /-- STM_TABLE_WRITE (R315). -/
  | stmTableWrite (q : Sender)
  /-- STM_TABLE_READ_CLEAR (R315). -/
  | stmTableReadClear (q : Sender)
  /-- TRACKER_RATE_WRITE (R318). -/
  | trackerRateWrite (q : Sender) (d : Fin 2) (w : Word)
  /-- TRACKER_ADJUST (R318). -/
  | trackerAdjust (q : Sender) (d : Fin 2) (w : Word)
  /-- TRACKER_REFRESH (R318). -/
  | trackerRefresh (q : Sender) (d : Fin 2)
  /-- TRACKER_HEALTH_TIMEOUT (R318). -/
  | trackerHealthTimeout (d : Fin 2)
  /-- WORKING_CLOCK_UPDATE (R320). -/
  | workingClockUpdate
  /-- WC_CFG_WRITE (R322). -/
  | wcCfgWrite (q : Sender) (w : Word)
  /-- STEP (R323). -/
  | step (q : Sender) (d : Fin 2)
  /-- CANCEL_STEP (R323). -/
  | cancelStep (q : Sender)
  /-- STEP_BOUNDARY (R323). -/
  | stepBoundary
  /-- TXTS_READ (R326). -/
  | txtsRead (q : Sender)
  /-- CONFIG_CHANGE (R333). -/
  | configChange (q : Sender) (i : Fin 96)
  /-- CONFIG_COPY_DONE (R333). -/
  | configCopyDone (i : Fin 96)
  /-- GATE_CANCEL (R334). -/
  | gateCancel (q : Sender) (i : Fin 96)
  /-- CONFIG_CHANGE_TIME (R333). -/
  | configChangeTime (i : Fin 96)
  /-- GATE_ENTRY_START (R332). -/
  | gateEntryStart (i : Fin 96)
  /-- GATE_LIST_ENABLE_WRITE (R331). -/
  | gateListEnableWrite (q : Sender) (i : Fin 96) (w : Word)
  /-- TRAVEL_COUNT (R340). -/
  | travelCount (a b : Bool)
  /-- TRIGGER_ENABLE (R346). -/
  | triggerEnable (q : Sender) (k : Fin 8) (w : Word)
  /-- TRIGGER_DUE (R345). -/
  | triggerDue (k : Fin 8)
  /-- TRIGGER_PULSE_END (R345). -/
  | triggerPulseEnd (k : Fin 8)
  /-- CAPTURE_EDGE (R348). -/
  | captureEdge (k : Fin 8) (rise : Bool)
  /-- CAPTURE_READ (R348). -/
  | captureRead (q : Sender) (k : Fin 8)
  /-- SLUICE_DISPATCH (R353). -/
  | sluiceDispatch
  /-- PAN_JOB_COMPLETE (R352). -/
  | panJobComplete (p : Fin 4)
  /-- KNOWN_ANSWER_TEST (R367). -/
  | knownAnswerTest (bad : BitVec 4)
  /-- PAN_RETURN (R367). -/
  | panReturn (q : Sender) (m bad : BitVec 4)
  /-- CPH_TABLE_READ (R373). -/
  | cphTableRead (q : Sender)
  /-- CPH_TABLE_WRITE (R373). -/
  | cphTableWrite (q : Sender)
  /-- CPH_TABLE_READ_CLEAR (R373). -/
  | cphTableReadClear (q : Sender)
  /-- CPH_TABLE_RESTORE (R364). -/
  | cphTableRestore (q : Sender)
  /-- REKEY_REQ_CLEAR (R373). -/
  | rekeyReqClear (q : Sender) (i : Fin 32) (m : Word)
  /-- CHANNEL_RX (R391). -/
  | channelRx (c : Fin 32) (m : Machine.Msg) (e : Machine.CanErr)
  /-- CHANNEL_TX_START (R396). -/
  | channelTxStart (c : Fin 32)
  /-- CHANNEL_TX_DONE (R391). -/
  | channelTxDone (c : Fin 32) (ok : Bool) (e : Machine.CanErr)
  /-- BUS_OFF_RECOVERY (R378). -/
  | busOffRecovery (c : Fin 16)
  /-- LIN_SLOT_START (R379). -/
  | linSlotStart (k : Fin 8)
  /-- LIN_HEADER_RECEIVED (R379). -/
  | linHeaderReceived (k : Fin 8) (h : Machine.LinHead)
  /-- LIN_RESPONSE_TIMEOUT (R380). -/
  | linResponseTimeout (k : Fin 8)
  /-- LIN_IDLE_SLEEP (R382). -/
  | linIdleSleep (k : Fin 8)
  /-- SERIAL_MESSAGE_END (R381). -/
  | serialMessageEnd (k : Fin 8)
  /-- CHANNEL_RECOVER (R378). -/
  | channelRecover (q : Sender) (c : Fin 64)
  /-- CHANNEL_SLEEP (R384). -/
  | channelSleep (q : Sender) (c : Fin 64)
  /-- CHANNEL_WAKE (R384). -/
  | channelWake (q : Sender) (c : Fin 64)
  /-- CHANNEL_FLUSH_TX (R382). -/
  | channelFlushTx (q : Sender) (c : Fin 64)
  /-- CHANNEL_WAKE_DETECT (R384). -/
  | channelWakeDetect (c : Fin 32)
  /-- LIN_SCHEDULE_RESUME (R384). -/
  | linScheduleResume (k : Fin 8)
  /-- GATEWAY_SLICE (R393). -/
  | gatewaySlice (run : Bool)
  /-- GATEWAY_TIMER (R391). -/
  | gatewayTimer (c : Fin 64)
  /-- CONTEXT_WRITE (R387). -/
  | contextWrite (q : Sender) (c : Fin 64) (o : Fin 128) (w : Word)
  /-- PANTRY_DATA_WRITE (R388). -/
  | pantryDataWrite (q : Sender) (w : Word)
  /-- PANTRY_DATA_READ (R388). -/
  | pantryDataRead (q : Sender)
  /-- DECAPSULATION (R399). -/
  | decapsulation
  /-- PCIE_RESET (R404). -/
  | pcieReset (down : Bool)
  /-- PCIE_LINK_UP (R403). -/
  | pcieLinkUp (speed width mps : Nat) (host : Machine.HostSetup)
  /-- INBOUND_READ (R411). -/
  | inboundRead (bar off n tag : Nat) (whole answers : Bool)
  /-- INBOUND_READ_TIMEOUT (R411). -/
  | inboundReadTimeout (tag : Nat)
  /-- INBOUND_WRITE (R412). -/
  | inboundWrite (bar off reqId : Nat) (b : List Byte) (whole : Bool) (aux : Nat)
  /-- POISONED_TLP (R412). -/
  | poisonedTlp (bar off n reqId : Nat)
  /-- WINDOW_CFG_WRITE (R407). -/
  | windowCfgWrite (q : Sender) (k : Fin 16) (w : Word)
  /-- PREFETCH_FILL_DONE (R409). -/
  | prefetchFillDone (i : Fin 16)
  /-- PREFETCH_EXPIRY (R409). -/
  | prefetchExpiry (i : Fin 16)
  /-- RING_TAIL_WRITE (R415). -/
  | ringTailWrite (q : Sender) (r : Fin 32) (w : Word)
  /-- RING_CFG_WRITE (R415). -/
  | ringCfgWrite (q : Sender) (r : Fin 32) (w : Word)
  /-- TX_RING_FETCH (R417). -/
  | txRingFetch (r : Fin 16)
  /-- DMA_READ_COMPLETION (R417). -/
  | dmaReadCompletion (r : Fin 16) (b : List Byte)
  /-- DMA_READ_TIMEOUT (R416). -/
  | dmaReadTimeout (r : Fin 32)
  /-- RX_RING_DELIVERY (R418). -/
  | rxRingDelivery (ana : Bool) (bufs : List Nat)
  /-- COALESCE_TIMER_EXPIRY (R419). -/
  | coalesceTimerExpiry (r : Fin 32)
  /-- DMA_WRITE_FAILURE (R420). -/
  | dmaWriteFailure (r : Fin 32) (first : BitVec 16)
  /-- HATCH_PUSH (R429). -/
  | hatchPush (q : Sender) (h : Fin 64) (w : Word)
  /-- HATCH_PUSH_END (R429). -/
  | hatchPushEnd (q : Sender) (h : Fin 64)
  /-- HATCH_POP (R428). -/
  | hatchPop (h : Fin 64) (k tag : Nat)
  /-- HATCH_LINE_MOVE (R426). -/
  | hatchLineMove (h : Fin 64)
  /-- HATCH_FLUSH (R430). -/
  | hatchFlush (q : Sender) (h : Fin 64)
  /-- HATCH_ARM (R431). -/
  | hatchArm (q : Sender) (h : Fin 64)
  /-- HATCH_CFG_WRITE (R430). -/
  | hatchCfgWrite (q : Sender) (h : Fin 64) (w : Word)
  /-- STRONGROOM_RECORD (R438). -/
  | strongroomRecord
  /-- STG_TRIGGER (R444). -/
  | stgTrigger (q : Sender) (reason : BitVec 8)
  /-- INCIDENT_POST_EXPIRY (R446). -/
  | incidentPostExpiry (i : Fin 8)
  /-- INCIDENT_LIMIT_EXPIRY (R446). -/
  | incidentLimitExpiry (i : Fin 8)
  /-- INCIDENT_RELEASE (R447). -/
  | incidentRelease (q : Sender) (i : Fin 8)
  /-- INCIDENT_EXPORT (R448). -/
  | incidentExport (q : Sender) (i : Fin 8)
  /-- EXPORT_FRAME (R448). -/
  | exportFrame
  /-- STOP_EXPORT (R448). -/
  | stopExport (q : Sender)
  /-- CLEAR_RING (R450). -/
  | clearRing (q : Sender)
  /-- LOCKSTEP_MISMATCH (R456). -/
  | lockstepMismatch (g : Fin 16)
  /-- RAIL_DISAGREEMENT (R456). -/
  | railDisagreement (g : Fin 16)
  /-- COMPARATOR_TEST (R457). -/
  | comparatorTest (fail : Option Nat)
  /-- CHECKPOINT_NOTICE (R459). -/
  | checkpointNotice
  /-- CHECKPOINT (R459). -/
  | checkpoint (parked agree : Bool)
  /-- CCX_RESTART (R461). -/
  | ccxRestart (tcm bad : Bool) (fail : Option Nat)
  /-- CCX_DONE (R461). -/
  | ccxDone
  /-- RESTART_TIMEOUT (R461). -/
  | restartTimeout
  /-- FAULT_MESSAGE (R472). -/
  | faultMessage (b : Fin 24) (bad : Bool)
  /-- DUAL_RAIL_CHANGE (R470). -/
  | dualRailChange (src : Fin 768) (bad : Bool)
  /-- PENDING_CLEAR (R475). -/
  | pendingClear (q : Sender) (src : Fin 768)
  /-- FLT_CLEAR (R475). -/
  | fltClear (q : Sender) (v : BitVec 16)
  /-- FAULT_PIN_TIMER_EXPIRY (R480). -/
  | faultPinTimerExpiry
  /-- FAULT_PIN_RELEASE (R481). -/
  | faultPinRelease (q : Sender)
  /-- REFEREE_POLL (R489). -/
  | refereePoll (ok : Bool) (pairId counter : Nat) (side : Fin 3) (body : Machine.PollBody)
  /-- REFEREE_GRANT (R490). -/
  | refereeGrant (ok : Bool) (pairId counter : Nat) (side : Fin 2) (term leaseMs echo : Nat)
  /-- LEASE_EXPIRY (R486). -/
  | leaseExpiry
  /-- RELINQUISH (R486). -/
  | relinquish (q : Sender)
  /-- SELFTEST_NOW (R498). -/
  | selftestNow (q : Sender) (bad : BitVec 4)
  /-- PAIR_LINK_BLOCK_LOCK (R491). -/
  | pairLinkBlockLock
  /-- PAIR_HELLO (R491). -/
  | pairHello (h : Machine.PairPeer)
  /-- PAIR_PROOF (R491). -/
  | pairProof (ok : Bool)
  /-- PAIR_LINK_LOSS (R492). -/
  | pairLinkLoss (lane : Bool)
  /-- PAIR_HEALTH_SEND (R492). -/
  | pairHealthSend
  /-- PAIR_HEALTH_RECEIVED (R492). -/
  | pairHealthReceived (ok : Bool) (counter : Nat) (health : Byte)
  /-- PAIR_TIME_SEND (R494). -/
  | pairTimeSend
  /-- PAIR_TIME_RECEIVED (R494), with the T64 values of the frame; `back`: ns from the partner's receipt of the last frame to its
  transmission of this one. -/
  | pairTimeReceived (ok : Bool) (counter : Nat) (trk0 trk1 wc : BitVec 64) (back : Nat)
  /-- CRATE_SEND (R495). -/
  | crateSend (sweep : Word)
  /-- CRATE_FRAGMENT (R496). -/
  | crateFragment (ok : Bool) (counter seq frag : Nat) (last : Bool) (body : List Byte)
  /-- CRATE_APPLIED (R496). -/
  | crateApplied
  /-- STANDBY_SELFTEST (R498). -/
  | standbySelftest (bad : BitVec 4)
  /-- SELFTEST_BANK_FREE (R498). -/
  | selftestBankFree
  /-- SELFTEST_DONE (R498). -/
  | selftestDone (cellsOk : Bool)
  /-- TAKEOVER_COMPLETE (R501). -/
  | takeoverComplete
  /-- MGT_HELLO (R510). -/
  | mgtHello (via : Fin 4) (addr : Nat) (nonce eph credential : List Byte) (sigOk : Bool)
  /-- MGT_FINISH (R510). -/
  | mgtFinish (k : Fin 8) (via : Fin 4) (addr : Nat) (ok : Bool)
  /-- FINISH_TIMEOUT (R511). -/
  | finishTimeout (k : Fin 8)
  /-- CERT_REQ (R510). -/
  | certReq (via : Fin 4) (addr : Nat) (off : BitVec 16)
  /-- MGT_REQUEST (R512). -/
  | mgtRequest (k : Fin 8) (via : Fin 4) (addr : Nat) (seq : Nat) (tagOk : Bool) (reqId opcode : BitVec 16) (params : List Byte)
  /-- MGT_CLOSE (R519). -/
  | mgtClose (k : Fin 8) (via : Fin 4) (addr : Nat) (seq : Nat) (tagOk fromDevice : Bool)
  /-- SESSION_IDLE_TIMEOUT (R519). -/
  | sessionIdleTimeout (k : Fin 8)
  /-- GET_INFO (R515). -/
  | getInfo
  /-- REG_READ (R515). -/
  | regRead
  /-- REG_WRITE (R516). -/
  | regWrite
  /-- REG_MODIFY (R516). -/
  | regModify
  /-- CNT_READ (R515). -/
  | cntRead
  /-- FAULT_CLEAR (R515). -/
  | faultClear
  /-- UPDATE_BEGIN (R517). -/
  | updateBegin
  /-- UPDATE_CHUNK (R517). -/
  | updateChunk
  /-- UPDATE_END (R517). -/
  | updateEnd (late : Bool)
  /-- UPDATE_COMMIT (R515). -/
  | updateCommit
  /-- UPDATE_CONFIRM (R515). -/
  | updateConfirm
  /-- UPDATE_CANCEL (R515). -/
  | updateCancel
  /-- UPDATE_STATUS (R515). -/
  | updateStatus
  /-- RULESET_SWAP (R515). -/
  | rulesetSwap (late : Bool)
  /-- TIME_GET (R515). -/
  | timeGet
  /-- TIME_STEP (R515). -/
  | timeStep
  /-- TIME_SOURCE (R515). -/
  | timeSource
  /-- GATE_CHANGE (R515). -/
  | gateChange (late : Bool)
  /-- ATTEST (R141). -/
  | attest
  /-- PAIR_STATUS (R515). -/
  | pairStatus
  /-- PAIR_RELINQUISH (R515). -/
  | pairRelinquish
  /-- PAIR_SELFTEST (R515). -/
  | pairSelftest (bad : BitVec 4)
  /-- ZEROIZE (R515). -/
  | zeroize
  /-- POWER (R515). -/
  | power
  /-- RESET (R515). -/
  | reset
  deriving DecidableEq, Repr

end Sys2Proof
end

