-- ==== Sys2Proof/Decode.lean ====
section
/-!
DEFINITION. The command that a word spells. The opcode table gives its rows no bits: the commands reach the device as
register accesses, wires, frames and timers, never as words, so no word spells one.
-/
namespace Sys2Proof

/-- The command that the bits `w` spell: no row of the table has bits. -/
def decodeTableWord (_nbits _w : Nat) : Option Instr := none

end Sys2Proof
end

