-- ==== Sys2Proof/Config.lean ====
section
/-!
DEFINITION. What an implementation fixes and the spec leaves open, as constants with no body: nothing in
Lean can prove a value of them, and a statement about them holds for every value. The free values drawn
while the device runs are applied to `State.draws`, a counter of the model's own that each draw advances.
-/
namespace Sys2Proof.Config

/-- Random words drawn from the DRBG (R149, R151, R245): the value of draw `n`. -/
opaque random : Nat → Word

/-- Byte `i` of a field that the device cannot fill because its DRBG is halted, by draw (R510, R511). -/
opaque crypto : Nat → Nat → Byte

/-- Byte `i` of the AES-CMAC under key material `k` over a message (R369, R488, R493). -/
opaque cmac : Nat → List Byte → Nat → Byte

/-- AES-GCM under key material `k` with an IV: byte `i` of the key stream, and byte `i` of the tag over associated data and
ciphertext (R357, R360, R371). -/
opaque gcmPad : Nat → List Byte → Nat → Byte
opaque gcmTag : Nat → List Byte → List Byte → List Byte → Nat → Byte

/-- The 128-bit per-boot hash key that draw `k` of the DRBG gives (R245). -/
opaque hashKey : Nat → BitVec 128

/-- Contents of DRAM byte `a` where no rule gives them: after power-on and after each loss of the
contents (R28), numbered by the epoch of the loss. -/
opaque dramByte : Nat → Nat → Byte

/-- A value a rule leaves open, by draw. -/
opaque free : Nat → Nat

/-- Whether the PHY of port `p` has received a PLCA beacon within the last 4 cycles of the segment, at a core cycle (R170). -/
opaque beaconHeard : Nat → Nat → Bool

/-- Whether the DRAM misses the 100 µs of a self-refresh entry or exit, at a core cycle (R483). -/
opaque refreshLate : Nat → Bool

/-- Whether ODO_A leading ODO_B is the forward direction (R340 says only that direction follows the phase). -/
opaque quadForward : Bool

/-- Firmware version in ROM (R452). -/
opaque fwVersion : Word

/-- The PCI-SIG identifier fused as Vendor ID (R403). -/
opaque pcieVendor : BitVec 16

/-- SHA-384 of a byte string, byte by byte (R141). -/
opaque hash384 : List Byte → Nat → Byte

/-- The key that the KDF of R139 gives for an input key and a label, and the P-384 scalar that the rejection method takes
from its output. -/
opaque kdf : List Byte → List Byte → Nat
opaque kdfScalar : List Byte → List Byte → Nat

/-- Byte `i` of the `n` bytes that the KDF of R139 gives for an input and a label (R510). -/
opaque kdfBytes : List Byte → List Byte → Nat → Nat → Byte

/-- P-384: byte `i` of the public key x ‖ y of private key `d`, the shared secret of private key `d` and a public key, and byte
`i` of the signature r ‖ s by private key `d` over a digest with nonce draw `n` (R491). -/
opaque ecPublic : Nat → Nat → Byte
opaque ecdh : Nat → List Byte → List Byte
opaque ecSign : Nat → List Byte → Nat → Nat → Byte

/-- The bytes that the key unwrap of NIST SP 800-38F recovers under key-encryption key `k`; none where it fails (R148). -/
opaque kwUnwrap : Nat → List Byte → Option (List Byte)

/-- Key material that a wrapped SAK gives under the pair's wrap key `k`, and byte `i` of material `m` wrapped under `k`
(R496). -/
opaque unwrap : Nat → List Byte → Nat
opaque keyWrap : Nat → Nat → Nat → Byte

end Sys2Proof.Config
end

