-- ==== Sys2Proof/Machine/Sparse.lean ====
section
/-!
DEFINITION. Sparse storage in one canonical form: a list of (key, value) pairs with strictly rising
keys, in which no entry equals what an unlisted key reads as. The registers, the memories and every
large table of the device are held so, so that equal contents are equal data.
-/
namespace Sys2Proof.Machine

/-- Values by key; what an unlisted key reads as is given at each read. -/
abbrev Sparse (α : Type) := List (Nat × α)

/-- The value at key `k`; an unlisted key reads as `d k`. -/
def spGet {α : Type} (d : Nat → α) : Sparse α → Nat → α
  | [], k => d k
  | (j, v) :: m, k => if j = k then v else spGet d m k

/-- Remove key `k`. -/
def spErase {α : Type} : Sparse α → Nat → Sparse α
  | [], _ => []
  | (j, v) :: m, k => if j = k then spErase m k else (j, v) :: spErase m k

/-- Put `v` at key `k`, keeping the keys rising. -/
def spInsert {α : Type} : Sparse α → Nat → α → Sparse α
  | [], k, v => [(k, v)]
  | (j, w) :: m, k, v =>
    if k < j then (k, v) :: (j, w) :: m
    else if k = j then (k, v) :: m
    else (j, w) :: spInsert m k v

/-- Write `v` at key `k`; writing what an unlisted key reads as removes the entry. -/
def spSet {α : Type} [DecidableEq α] (d : Nat → α) (m : Sparse α) (k : Nat) (v : α) : Sparse α :=
  if v = d k then spErase m k else spInsert m k v

/-- The keys rise strictly and every key is above `lo`, and no entry equals the unlisted value. -/
def spWfFrom {α : Type} [DecidableEq α] (d : Nat → α) : Sparse α → Nat → Bool
  | [], _ => true
  | (j, v) :: m, lo => decide (lo ≤ j) && decide (v ≠ d j) && spWfFrom d m (j + 1)

/-- The canonical form. -/
def spWf {α : Type} [DecidableEq α] (d : Nat → α) (m : Sparse α) : Bool := spWfFrom d m 0

/-- Keep the entries whose key satisfies `p`; the others read as unlisted. -/
def spKeep {α : Type} (m : Sparse α) (p : Nat → Bool) : Sparse α := m.filter (fun e => p e.1)

end Sys2Proof.Machine
end

