-- ==== Sys2Proof/Machine/RegMap.lean ====
section
/-!
DEFINITION. The register map of R5, R6, R9 and R31: one row per register or register array of the
register tables of spec/, with the access type and the reset value of every field. A bit in no field
is reserved (R9): it resets to 0, reads 0 and ignores writes.
The per-index resets the tables state (TOP_INT_ROUTE, SWC_QUEUE_CFG, SWC_VLAN_MEMBER and SWC_VLAN_UNTAG,
SCH_PORT_CFG, FWL_AGE, HAT_SPILL, TIM_DOM_CFG) are rows or steps of their own. Fields whose
reset the tables give as Strap, Fuses, OTP, ROM or Hardware rest at 0 here; their reads come from
the state's straps, fuses and constants (Machine/Bus.lean).
-/
namespace Sys2Proof.Machine

/-- The access types of R6. -/
inductive Acc where
  | rw | ro | wo | w1c | w1s | rc | lk
  deriving DecidableEq, Repr

/-- One field of a register: lowest bit, width, access type, reset value. -/
structure FieldRow where
  lo : Nat
  width : Nat
  acc : Acc
  rst : Nat
  deriving DecidableEq, Repr

/-- A register array: first address, stride, number of registers, what the reset word gains per
index, and the fields. -/
structure RegRow where
  base : Nat
  stride : Nat
  count : Nat
  rstStep : Nat
  fields : List FieldRow
  deriving DecidableEq, Repr

/-- Registers of block TOP, from the register tables of the chapter that owns it. -/
def regRowsTOP : List RegRow := [
  ⟨0x0, 4, 1, 0, [⟨20, 12, .ro, 0x7A5⟩, ⟨4, 16, .ro, 0x8425⟩]⟩,
  ⟨0x4, 4, 1, 0, [⟨8, 8, .ro, 1⟩, ⟨0, 8, .ro, 0⟩]⟩,
  ⟨0x10, 4, 1, 0, [⟨31, 1, .ro, 0⟩, ⟨5, 1, .ro, 0⟩, ⟨4, 1, .ro, 0⟩, ⟨3, 1, .ro, 0⟩, ⟨2, 1, .ro, 0⟩, ⟨0, 2, .ro, 0⟩]⟩,
  ⟨0x20, 4, 1, 0, [⟨20, 4, .ro, 0⟩, ⟨18, 2, .ro, 0⟩, ⟨17, 1, .ro, 0⟩, ⟨11, 1, .ro, 0⟩, ⟨10, 1, .ro, 0⟩, ⟨9, 1, .ro, 0⟩, ⟨8, 1, .ro, 0⟩, ⟨4, 3, .ro, 0⟩, ⟨0, 3, .ro, 3⟩]⟩,
  ⟨0x24, 4, 1, 0, [⟨31, 1, .w1c, 1⟩, ⟨30, 1, .w1c, 0⟩, ⟨29, 1, .w1c, 0⟩, ⟨28, 1, .w1c, 0⟩, ⟨27, 1, .w1c, 0⟩, ⟨0, 10, .ro, 0⟩]⟩,
  ⟨0x28, 4, 1, 0, [⟨16, 16, .wo, 0⟩, ⟨8, 5, .wo, 0⟩, ⟨0, 4, .wo, 0⟩]⟩,
  ⟨0x100, 4, 1, 0, [⟨0, 23, .ro, 0⟩]⟩,
  ⟨0x104, 4, 1, 0, [⟨0, 23, .wo, 0⟩]⟩,
  ⟨0x200, 0x4, 1, 0, [⟨31, 1, .rw, 0⟩, ⟨30, 1, .rw, 0⟩, ⟨29, 1, .rw, 1⟩, ⟨0, 6, .rw, 0⟩]⟩,
  ⟨0x204, 0x4, 6, 0, [⟨31, 1, .rw, 0⟩, ⟨30, 1, .rw, 0⟩, ⟨29, 1, .ro, 1⟩, ⟨0, 6, .rw, 0⟩]⟩,
  ⟨0x21C, 0x4, 16, 0, [⟨31, 1, .rw, 0⟩, ⟨30, 1, .rw, 0⟩, ⟨29, 1, .rw, 1⟩, ⟨0, 6, .rw, 0⟩]⟩]

/-- Registers of block PWR, from the register tables of the chapter that owns it. -/
def regRowsPWR : List RegRow := [
  ⟨0x10000, 4, 1, 0, [⟨16, 16, .wo, 0⟩, ⟨0, 3, .wo, 0⟩]⟩,
  ⟨0x10004, 4, 1, 0, [⟨24, 3, .ro, 0⟩, ⟨16, 2, .ro, 0⟩, ⟨8, 1, .w1c, 0⟩, ⟨4, 1, .ro, 0⟩, ⟨0, 3, .ro, 3⟩]⟩,
  ⟨0x10010, 4, 1, 0, [⟨16, 12, .rw, 0⟩, ⟨9, 1, .rw, 0⟩, ⟨8, 1, .rw, 0⟩, ⟨0, 4, .rw, 0⟩]⟩,
  ⟨0x10014, 4, 1, 0, [⟨16, 8, .rw, 0⟩, ⟨0, 16, .rw, 0⟩]⟩,
  ⟨0x10018, 4, 1, 0, [⟨31, 1, .w1c, 0⟩, ⟨30, 1, .w1c, 0⟩, ⟨0, 8, .ro, 0⟩]⟩,
  ⟨0x10020, 0x4, 4, 0, [⟨8, 2, .rw, 0⟩, ⟨0, 8, .rw, 0⟩]⟩,
  ⟨0x10030, 4, 1, 0, [⟨0, 32, .rw, 0⟩]⟩,
  ⟨0x10034, 4, 1, 0, [⟨0, 32, .rw, 0⟩]⟩,
  ⟨0x10038, 0x4, 2, 0, [⟨0, 32, .ro, 0⟩]⟩,
  ⟨0x10100, 4, 1, 0, [⟨24, 8, .lk, 0xA⟩, ⟨23, 1, .lk, 0⟩, ⟨8, 7, .lk, 0⟩, ⟨7, 1, .ro, 0⟩, ⟨0, 4, .lk, 0⟩]⟩,
  ⟨0x10104, 0x4, 8, 0, [⟨31, 1, .lk, 0⟩, ⟨30, 1, .lk, 0⟩, ⟨24, 6, .lk, 0⟩, ⟨16, 8, .lk, 0⟩, ⟨8, 8, .lk, 0⟩, ⟨0, 8, .lk, 0⟩]⟩,
  ⟨0x10200, 0x4, 64, 0, [⟨31, 1, .lk, 0⟩, ⟨8, 8, .lk, 0⟩, ⟨0, 8, .lk, 0⟩]⟩,
  ⟨0x10300, 0x4, 8, 0, [⟨31, 1, .lk, 0⟩, ⟨30, 1, .lk, 0⟩, ⟨24, 3, .lk, 0⟩, ⟨16, 7, .lk, 0⟩]⟩,
  ⟨0x10320, 4, 1, 0, [⟨31, 1, .w1c, 0⟩, ⟨16, 7, .ro, 0⟩, ⟨0, 16, .ro, 0⟩]⟩,
  ⟨0x10400, 4, 1, 0, [⟨24, 8, .rw, 0x73⟩, ⟨16, 8, .rw, 0x6E⟩, ⟨0, 12, .ro, 0⟩]⟩,
  ⟨0x10410, 4, 1, 0, [⟨12, 1, .ro, 0⟩, ⟨8, 4, .ro, 0⟩, ⟨0, 8, .ro, 0⟩]⟩]

/-- Registers of block BOOT, from the register tables of the chapter that owns it. -/
def regRowsBOOT : List RegRow := [
  ⟨0x20000, 4, 1, 0, [⟨24, 1, .ro, 0⟩, ⟨20, 4, .ro, 0⟩, ⟨16, 4, .ro, 0⟩, ⟨12, 4, .ro, 0⟩, ⟨8, 4, .ro, 0⟩, ⟨0, 3, .ro, 0⟩]⟩,
  ⟨0x20010, 0x4, 4, 0, [⟨0, 32, .ro, 0⟩]⟩,
  ⟨0x20020, 4, 1, 0, [⟨8, 8, .ro, 0⟩, ⟨0, 8, .ro, 0⟩]⟩,
  ⟨0x20024, 4, 1, 0, [⟨0, 32, .ro, 0⟩]⟩,
  ⟨0x20028, 4, 1, 0, [⟨16, 16, .ro, 0⟩, ⟨8, 3, .ro, 0⟩, ⟨1, 1, .ro, 0⟩, ⟨0, 1, .ro, 0⟩]⟩,
  ⟨0x20040, 4, 1, 0, [⟨16, 16, .wo, 0⟩, ⟨8, 3, .wo, 0⟩, ⟨0, 3, .wo, 0⟩]⟩,
  ⟨0x20044, 4, 1, 0, [⟨16, 4, .ro, 0⟩, ⟨8, 1, .w1c, 0⟩, ⟨4, 1, .ro, 0⟩, ⟨0, 3, .ro, 0⟩]⟩,
  ⟨0x20050, 4, 1, 0, [⟨0, 16, .wo, 0⟩]⟩,
  ⟨0x20054, 4, 1, 0, [⟨31, 1, .ro, 1⟩, ⟨30, 1, .w1c, 0⟩, ⟨24, 2, .ro, 0⟩, ⟨0, 24, .ro, 0⟩]⟩,
  ⟨0x28000, 0x4, 8192, 0, [⟨0, 32, .rw, 0⟩]⟩]

/-- Registers of block SEC, from the register tables of the chapter that owns it. -/
def regRowsSEC : List RegRow := [
  ⟨0x30000, 4, 1, 0, [⟨7, 1, .ro, 0⟩, ⟨6, 1, .w1c, 0⟩, ⟨5, 1, .ro, 0⟩, ⟨4, 1, .ro, 0⟩, ⟨3, 1, .ro, 0⟩, ⟨2, 1, .ro, 0⟩, ⟨0, 2, .ro, 0⟩]⟩,
  ⟨0x30008, 4, 1, 0, [⟨16, 16, .wo, 0⟩, ⟨0, 2, .wo, 0⟩]⟩,
  ⟨0x30010, 0x4, 4, 0, [⟨0, 32, .ro, 0⟩]⟩,
  ⟨0x30020, 4, 1, 0, [⟨0, 32, .ro, 0⟩]⟩,
  ⟨0x30030, 4, 1, 0, [⟨31, 1, .lk, 0⟩, ⟨30, 1, .lk, 0⟩, ⟨0, 23, .lk, 0x7FFF87⟩]⟩,
  ⟨0x30040, 4, 1, 0, [⟨16, 16, .wo, 0⟩, ⟨0, 1, .wo, 0⟩]⟩,
  ⟨0x30050, 4, 1, 0, [⟨0, 12, .ro, 0⟩]⟩,
  ⟨0x30100, 0x4, 8, 0, [⟨0, 32, .ro, 0⟩]⟩,
  ⟨0x30200, 0x4, 62, 0, [⟨0, 32, .wo, 0⟩]⟩,
  ⟨0x30300, 4, 1, 0, [⟨16, 16, .wo, 0⟩, ⟨0, 1, .wo, 0⟩]⟩,
  ⟨0x31000, 0x4, 256, 0, [⟨31, 1, .ro, 0⟩, ⟨30, 1, .ro, 0⟩, ⟨29, 1, .ro, 0⟩, ⟨24, 2, .ro, 0⟩, ⟨16, 8, .ro, 0⟩, ⟨0, 11, .ro, 0⟩]⟩,
  ⟨0x34000, 0x4, 512, 0, [⟨0, 32, .ro, 0⟩]⟩]

/-- Registers of block CCX, from the register tables of the chapter that owns it. -/
def regRowsCCX : List RegRow := [
  ⟨0x40000, 4, 1, 0, [⟨31, 1, .ro, 0⟩, ⟨30, 1, .ro, 0⟩, ⟨29, 1, .ro, 0⟩, ⟨24, 4, .ro, 0⟩, ⟨20, 4, .ro, 0⟩, ⟨0, 16, .ro, 0⟩]⟩,
  ⟨0x40004, 4, 1, 0, [⟨0, 7, .lk, 0xA⟩]⟩,
  ⟨0x40008, 4, 1, 0, [⟨0, 32, .ro, 0⟩]⟩,
  ⟨0x4000C, 4, 1, 0, [⟨0, 32, .ro, 0⟩]⟩,
  ⟨0x40010, 4, 1, 0, [⟨31, 1, .ro, 0⟩, ⟨30, 1, .w1c, 0⟩, ⟨16, 6, .ro, 0⟩, ⟨0, 16, .ro, 0⟩]⟩,
  ⟨0x40020, 4, 1, 0, [⟨16, 16, .ro, 0⟩, ⟨0, 16, .ro, 0⟩]⟩,
  ⟨0x40030, 4, 1, 0, [⟨31, 1, .lk, 0⟩, ⟨8, 6, .lk, 0x3F⟩, ⟨0, 6, .lk, 0x3E⟩]⟩,
  ⟨0x40040, 4, 1, 0, [⟨16, 3, .rw, 0⟩, ⟨2, 1, .w1c, 0⟩, ⟨1, 1, .w1c, 0⟩, ⟨0, 1, .w1c, 0⟩]⟩,
  ⟨0x40100, 0x4, 16, 0, [⟨0, 16, .ro, 0⟩]⟩]

/-- Registers of block FLT, from the register tables of the chapter that owns it. -/
def regRowsFLT : List RegRow := [
  ⟨0x50000, 4, 1, 0, [⟨31, 1, .rw, 1⟩, ⟨0, 14, .rw, 0x64⟩]⟩,
  ⟨0x50004, 4, 1, 0, [⟨16, 16, .wo, 0⟩, ⟨0, 1, .wo, 0⟩]⟩,
  ⟨0x50008, 4, 1, 0, [⟨31, 1, .ro, 1⟩, ⟨30, 1, .ro, 1⟩, ⟨29, 1, .ro, 0⟩, ⟨28, 1, .w1c, 0⟩, ⟨0, 10, .ro, 0⟩]⟩,
  ⟨0x5000C, 4, 1, 0, [⟨16, 16, .wo, 0⟩, ⟨15, 1, .wo, 0⟩, ⟨14, 1, .wo, 0⟩, ⟨13, 1, .wo, 0⟩, ⟨12, 1, .wo, 0⟩, ⟨0, 10, .wo, 0⟩]⟩,
  ⟨0x50010, 4, 1, 0, [⟨31, 1, .ro, 0⟩, ⟨0, 10, .ro, 0⟩]⟩,
  ⟨0x50100, 0x4, 24, 0, [⟨0, 32, .ro, 0⟩]⟩,
  ⟨0x54000, 0x4, 768, 0, [⟨4, 1, .rw, 0⟩, ⟨3, 1, .rw, 0⟩, ⟨2, 1, .rw, 0⟩, ⟨1, 1, .rw, 0⟩, ⟨0, 1, .rw, 1⟩]⟩,
  ⟨0x58000, 0x20, 768, 0, [⟨31, 1, .ro, 0⟩, ⟨30, 1, .w1c, 0⟩, ⟨29, 1, .ro, 0⟩, ⟨28, 1, .ro, 0⟩, ⟨27, 1, .ro, 0⟩, ⟨26, 1, .ro, 0⟩, ⟨16, 6, .ro, 0⟩, ⟨0, 16, .ro, 0⟩]⟩,
  ⟨0x58004, 0x20, 768, 0, [⟨0, 32, .ro, 0⟩]⟩,
  ⟨0x58008, 0x20, 768, 0, [⟨0, 32, .ro, 0⟩]⟩,
  ⟨0x5800C, 0x20, 768, 0, [⟨0, 32, .ro, 0⟩]⟩,
  ⟨0x58010, 0x20, 768, 0, [⟨0, 6, .ro, 0⟩]⟩,
  ⟨0x58014, 0x20, 768, 0, [⟨0, 32, .ro, 0⟩]⟩,
  ⟨0x58018, 0x20, 768, 0, [⟨0, 32, .ro, 0⟩]⟩,
  ⟨0x5801C, 0x20, 768, 0, [⟨0, 32, .ro, 0⟩]⟩,
  ⟨0x50180, 0x4, 24, 0, [⟨0, 32, .ro, 0⟩]⟩]

/-- Registers of block PAIR, from the register tables of the chapter that owns it. -/
def regRowsPAIR : List RegRow := [
  ⟨0x60000, 4, 1, 0, [⟨26, 6, .lk, 0xA⟩, ⟨16, 10, .lk, 0xA⟩, ⟨0, 9, .lk, 0x14⟩]⟩,
  ⟨0x60004, 4, 1, 0, [⟨16, 16, .lk, 0x26⟩, ⟨0, 16, .lk, 0x32⟩]⟩,
  ⟨0x60008, 4, 1, 0, [⟨31, 1, .lk, 0⟩, ⟨16, 15, .lk, 0x40⟩, ⟨8, 8, .lk, 0⟩, ⟨0, 8, .lk, 0⟩]⟩,
  ⟨0x6000C, 4, 1, 0, [⟨0, 32, .lk, 0⟩]⟩,
  ⟨0x60010, 0x4, 4, 0, [⟨0, 32, .lk, 0⟩]⟩,
  ⟨0x60040, 4, 1, 0, [⟨31, 1, .ro, 0⟩, ⟨30, 1, .ro, 1⟩, ⟨29, 1, .ro, 0⟩, ⟨28, 1, .ro, 0⟩, ⟨27, 1, .ro, 0⟩, ⟨22, 2, .ro, 3⟩]⟩,
  ⟨0x60044, 4, 1, 0, [⟨0, 32, .ro, 0⟩]⟩,
  ⟨0x60048, 4, 1, 0, [⟨0, 32, .ro, 0⟩]⟩,
  ⟨0x6004C, 4, 1, 0, [⟨0, 32, .ro, 0xFFFFFFFF⟩]⟩,
  ⟨0x60050, 4, 1, 0, [⟨0, 32, .ro, 0⟩]⟩,
  ⟨0x60060, 4, 1, 0, [⟨16, 16, .wo, 0⟩, ⟨0, 2, .wo, 0⟩]⟩,
  ⟨0x60070, 4, 1, 0, [⟨16, 5, .rw, 0⟩, ⟨4, 1, .w1c, 0⟩, ⟨3, 1, .w1c, 0⟩, ⟨2, 1, .w1c, 0⟩, ⟨1, 1, .w1c, 0⟩, ⟨0, 1, .w1c, 0⟩]⟩]

/-- Registers of block TIM, part 1, from the register tables of the chapter that owns it. -/
def regRowsTIM0 : List RegRow := [
  ⟨0x70000, 4, 1, 0, [⟨9, 3, .ro, 0⟩, ⟨8, 1, .ro, 0⟩, ⟨4, 2, .ro, 0⟩, ⟨3, 1, .ro, 0⟩, ⟨0, 3, .ro, 0⟩]⟩,
  ⟨0x70004, 4, 1, 0, [⟨31, 1, .rw, 0⟩, ⟨12, 10, .rw, 0x64⟩, ⟨0, 12, .rw, 0xA⟩]⟩,
  ⟨0x70008, 4, 1, 0, [⟨16, 16, .wo, 0⟩, ⟨8, 1, .wo, 0⟩, ⟨0, 2, .wo, 0⟩]⟩,
  ⟨0x70010, 4, 1, 0, [⟨0, 32, .ro, 0⟩]⟩,
  ⟨0x70014, 4, 1, 0, [⟨0, 32, .ro, 0⟩]⟩,
  ⟨0x70018, 4, 1, 0, [⟨16, 16, .ro, 0⟩, ⟨0, 16, .ro, 0⟩]⟩,
  ⟨0x70020, 4, 1, 0, [⟨16, 8, .rw, 0⟩, ⟨7, 1, .w1c, 0⟩, ⟨6, 1, .w1c, 0⟩, ⟨5, 1, .w1c, 0⟩, ⟨4, 1, .w1c, 0⟩, ⟨3, 1, .w1c, 0⟩, ⟨2, 1, .w1c, 0⟩, ⟨1, 1, .w1c, 0⟩, ⟨0, 1, .w1c, 0⟩]⟩,
  ⟨0x70030, 4, 1, 0, [⟨3, 1, .rw, 0⟩, ⟨2, 1, .rw, 0⟩, ⟨0, 2, .rw, 0⟩]⟩,
  ⟨0x70034, 4, 1, 0, [⟨0, 32, .rw, 0⟩]⟩,
  ⟨0x70038, 4, 1, 0, [⟨0, 32, .ro, 0⟩]⟩,
  ⟨0x7003C, 4, 1, 0, [⟨0, 16, .ro, 0⟩]⟩,
  ⟨0x70040, 4, 1, 0, [⟨0, 32, .ro, 0⟩]⟩,
  ⟨0x70100, 0x40, 2, 0x1, [⟨31, 1, .rw, 0⟩, ⟨30, 1, .ro, 0⟩, ⟨29, 1, .wo, 0⟩, ⟨12, 12, .rw, 0x177⟩, ⟨0, 8, .rw, 0⟩]⟩,
  ⟨0x70104, 0x40, 2, 0, [⟨0, 32, .rw, 0⟩]⟩,
  ⟨0x70108, 0x40, 2, 0, [⟨0, 32, .rw, 0⟩]⟩,
  ⟨0x7010C, 0x40, 2, 0, [⟨0, 32, .rw, 0⟩]⟩,
  ⟨0x70110, 0x40, 2, 0, [⟨0, 32, .ro, 0⟩]⟩,
  ⟨0x70114, 0x40, 2, 0, [⟨0, 32, .ro, 0⟩]⟩,
  ⟨0x70118, 0x40, 2, 0, [⟨16, 16, .ro, 0⟩, ⟨0, 16, .ro, 0⟩]⟩,
  ⟨0x70180, 4, 1, 0, [⟨31, 1, .ro, 0⟩, ⟨29, 2, .ro, 0⟩, ⟨24, 5, .ro, 0⟩, ⟨20, 4, .ro, 0⟩, ⟨0, 16, .ro, 0⟩]⟩,
  ⟨0x70184, 4, 1, 0, [⟨0, 32, .ro, 0⟩]⟩,
  ⟨0x70188, 4, 1, 0, [⟨0, 32, .ro, 0⟩]⟩,
  ⟨0x7018C, 4, 1, 0, [⟨16, 16, .ro, 0⟩, ⟨0, 16, .ro, 0⟩]⟩,
  ⟨0x70190, 4, 1, 0, [⟨0, 8, .ro, 0⟩]⟩]

/-- Registers of block TIM, part 2, from the register tables of the chapter that owns it. -/
def regRowsTIM1 : List RegRow := [
  ⟨0x70200, 0x4, 24, 0, [⟨31, 1, .rw, 0⟩, ⟨30, 1, .rw, 0⟩, ⟨15, 15, .rw, 0⟩, ⟨0, 15, .rw, 0⟩]⟩,
  ⟨0x70800, 0x20, 8, 0, [⟨31, 1, .rw, 0⟩, ⟨30, 1, .rw, 0⟩, ⟨29, 1, .rw, 0⟩, ⟨28, 1, .rw, 0⟩, ⟨26, 2, .rw, 0⟩]⟩,
  ⟨0x70804, 0x20, 8, 0, [⟨0, 32, .rw, 0⟩]⟩,
  ⟨0x70808, 0x20, 8, 0, [⟨0, 32, .rw, 0⟩]⟩,
  ⟨0x7080C, 0x20, 8, 0, [⟨0, 32, .rw, 0⟩]⟩,
  ⟨0x70810, 0x20, 8, 0, [⟨0, 32, .rw, 0x64⟩]⟩,
  ⟨0x70814, 0x20, 8, 0, [⟨31, 1, .w1c, 0⟩, ⟨30, 1, .w1c, 0⟩, ⟨0, 16, .rc, 0⟩]⟩,
  ⟨0x70A00, 0x20, 8, 0, [⟨31, 1, .rw, 0⟩, ⟨29, 2, .rw, 1⟩, ⟨27, 2, .rw, 0⟩]⟩,
  ⟨0x70A04, 0x20, 8, 0, [⟨0, 32, .ro, 0⟩]⟩,
  ⟨0x70A08, 0x20, 8, 0, [⟨0, 32, .ro, 0⟩]⟩,
  ⟨0x70A0C, 0x20, 8, 0, [⟨0, 32, .ro, 0⟩]⟩,
  ⟨0x70A10, 0x20, 8, 0, [⟨31, 1, .ro, 0⟩, ⟨30, 1, .ro, 0⟩, ⟨29, 1, .ro, 0⟩, ⟨0, 16, .ro, 0⟩]⟩]

/-- Registers of block GAT, part 1, from the register tables of the chapter that owns it. -/
def regRowsGAT0 : List RegRow := [
  ⟨0x80000, 4, 1, 0, [⟨16, 6, .rw, 0⟩, ⟨0, 5, .rw, 0⟩]⟩,
  ⟨0x80004, 4, 1, 0, [⟨16, 3, .rw, 0⟩, ⟨2, 1, .w1c, 0⟩, ⟨1, 1, .w1c, 0⟩, ⟨0, 1, .w1c, 0⟩]⟩,
  ⟨0x80100, 0x40, 24, 0, [⟨31, 1, .rw, 0⟩, ⟨0, 11, .rw, 1⟩]⟩,
  ⟨0x80900, 0x40, 64, 0, [⟨31, 1, .rw, 0⟩, ⟨0, 11, .rw, 1⟩]⟩,
  ⟨0x80104, 0x40, 24, 0, [⟨0, 32, .rw, 0⟩]⟩,
  ⟨0x80904, 0x40, 64, 0, [⟨0, 32, .rw, 0⟩]⟩,
  ⟨0x80108, 0x40, 24, 0, [⟨0, 32, .rw, 0⟩]⟩,
  ⟨0x80908, 0x40, 64, 0, [⟨0, 32, .rw, 0⟩]⟩,
  ⟨0x8010C, 0x40, 24, 0, [⟨0, 32, .rw, 0xF4240⟩]⟩,
  ⟨0x8090C, 0x40, 64, 0, [⟨0, 32, .rw, 0xF4240⟩]⟩,
  ⟨0x80110, 0x40, 24, 0, [⟨16, 16, .wo, 0⟩, ⟨0, 2, .wo, 0⟩]⟩,
  ⟨0x80910, 0x40, 64, 0, [⟨16, 16, .wo, 0⟩, ⟨0, 2, .wo, 0⟩]⟩,
  ⟨0x80114, 0x40, 24, 0, [⟨31, 1, .ro, 0⟩, ⟨30, 1, .ro, 0⟩, ⟨29, 1, .w1c, 0⟩, ⟨28, 1, .w1c, 0⟩, ⟨27, 1, .w1c, 0⟩, ⟨24, 3, .ro, 0⟩, ⟨12, 11, .ro, 0⟩, ⟨0, 10, .ro, 0⟩]⟩,
  ⟨0x80914, 0x40, 64, 0, [⟨31, 1, .ro, 0⟩, ⟨30, 1, .ro, 0⟩, ⟨29, 1, .w1c, 0⟩, ⟨28, 1, .w1c, 0⟩, ⟨27, 1, .w1c, 0⟩, ⟨24, 3, .ro, 0⟩, ⟨12, 11, .ro, 0⟩, ⟨0, 10, .ro, 0⟩]⟩,
  ⟨0x80118, 0x40, 24, 0, [⟨0, 32, .ro, 0⟩]⟩,
  ⟨0x80918, 0x40, 64, 0, [⟨0, 32, .ro, 0⟩]⟩,
  ⟨0x8011C, 0x40, 24, 0, [⟨0, 32, .ro, 0⟩]⟩,
  ⟨0x8091C, 0x40, 64, 0, [⟨0, 32, .ro, 0⟩]⟩,
  ⟨0x80120, 0x40, 24, 0, [⟨0, 32, .ro, 0⟩]⟩,
  ⟨0x80920, 0x40, 64, 0, [⟨0, 32, .ro, 0⟩]⟩,
  ⟨0x80124, 0x40, 24, 0, [⟨0, 32, .ro, 0⟩]⟩,
  ⟨0x80924, 0x40, 64, 0, [⟨0, 32, .ro, 0⟩]⟩,
  ⟨0x80128, 0x40, 24, 0, [⟨0, 32, .ro, 0⟩]⟩,
  ⟨0x80928, 0x40, 64, 0, [⟨0, 32, .ro, 0⟩]⟩]

/-- Registers of block GAT, part 2, from the register tables of the chapter that owns it. -/
def regRowsGAT1 : List RegRow := [
  ⟨0x8012C, 0x40, 24, 0, [⟨0, 32, .ro, 0⟩]⟩,
  ⟨0x8092C, 0x40, 64, 0, [⟨0, 32, .ro, 0⟩]⟩,
  ⟨0x80130, 0x40, 24, 0, [⟨15, 1, .ro, 0⟩, ⟨12, 3, .ro, 0⟩, ⟨8, 1, .ro, 1⟩, ⟨0, 8, .ro, 0xFF⟩]⟩,
  ⟨0x80930, 0x40, 64, 0, [⟨15, 1, .ro, 0⟩, ⟨12, 3, .ro, 0⟩, ⟨8, 1, .ro, 1⟩, ⟨0, 8, .ro, 0xFF⟩]⟩]

/-- Registers of block MAC, from the register tables of the chapter that owns it. -/
def regRowsMAC : List RegRow := [
  ⟨0x100000, 0x1000, 24, 0, [⟨31, 1, .rw, 0⟩, ⟨14, 14, .rw, 0x5F2⟩, ⟨0, 4, .lk, 0⟩]⟩,
  ⟨0x100004, 0x1000, 24, 0, [⟨24, 8, .rw, 0⟩, ⟨16, 8, .rw, 0⟩, ⟨4, 12, .rw, 0⟩, ⟨1, 3, .rw, 0⟩, ⟨0, 1, .rw, 1⟩]⟩,
  ⟨0x100008, 0x1000, 24, 0, [⟨31, 1, .w1c, 0⟩, ⟨10, 1, .ro, 0⟩, ⟨9, 1, .ro, 0⟩, ⟨8, 1, .ro, 0⟩, ⟨4, 3, .ro, 0⟩, ⟨0, 3, .ro, 0⟩]⟩,
  ⟨0x100010, 0x1000, 24, 0, [⟨31, 1, .rw, 0⟩, ⟨30, 1, .rw, 0⟩, ⟨0, 8, .rw, 0xFF⟩]⟩,
  ⟨0x100018, 0x1000, 24, 0, [⟨0, 32, .rw, 0⟩]⟩,
  ⟨0x10001C, 0x1000, 24, 0, [⟨0, 16, .rw, 0⟩]⟩,
  ⟨0x100020, 0x1000, 24, 0, [⟨31, 1, .rw, 0⟩, ⟨30, 1, .rw, 0⟩, ⟨16, 8, .rw, 0xA⟩, ⟨8, 2, .rw, 0⟩, ⟨0, 3, .ro, 0⟩]⟩,
  ⟨0x100030, 0x1000, 24, 0, [⟨16, 5, .rw, 0⟩, ⟨4, 1, .w1c, 0⟩, ⟨3, 1, .w1c, 0⟩, ⟨2, 1, .w1c, 0⟩, ⟨1, 1, .w1c, 0⟩, ⟨0, 1, .w1c, 0⟩]⟩,
  ⟨0x120000, 4, 1, 0, [⟨0, 8, .rw, 0xC7⟩]⟩,
  ⟨0x120004, 4, 1, 0, [⟨31, 1, .wo, 0⟩, ⟨30, 1, .ro, 0⟩, ⟨28, 2, .rw, 0⟩, ⟨27, 1, .rw, 0⟩, ⟨22, 5, .rw, 0⟩, ⟨17, 5, .rw, 0⟩, ⟨0, 16, .rw, 0⟩]⟩,
  ⟨0x120008, 4, 1, 0, [⟨31, 1, .rc, 0⟩, ⟨30, 1, .w1c, 0⟩, ⟨0, 16, .ro, 0⟩]⟩,
  ⟨0x120010, 0x4, 4, 0, [⟨31, 1, .rw, 0⟩, ⟨30, 1, .rw, 0⟩, ⟨25, 5, .rw, 0⟩, ⟨20, 5, .rw, 0⟩, ⟨16, 4, .rw, 0⟩, ⟨0, 16, .rw, 0⟩]⟩]

/-- Registers of block PHY, from the register tables of the chapter that owns it. -/
def regRowsPHY : List RegRow := [
  ⟨0x140000, 0x1000, 12, 0, [⟨31, 1, .rw, 0⟩, ⟨30, 1, .rw, 0⟩, ⟨29, 1, .rw, 0⟩]⟩,
  ⟨0x140004, 0x1000, 12, 0, [⟨31, 1, .w1c, 0⟩, ⟨8, 3, .ro, 0⟩, ⟨4, 2, .ro, 0⟩]⟩,
  ⟨0x148010, 0x1000, 4, 0, [⟨31, 1, .rw, 0⟩, ⟨16, 8, .rw, 0x20⟩, ⟨12, 4, .rw, 8⟩, ⟨8, 3, .rw, 0⟩, ⟨0, 8, .rw, 0⟩]⟩,
  ⟨0x148014, 0x1000, 4, 0, [⟨31, 1, .ro, 0⟩, ⟨30, 1, .w1c, 0⟩]⟩,
  ⟨0x140020, 0x1000, 12, 0, [⟨0, 2, .wo, 0⟩]⟩]

/-- Registers of block RAK, from the register tables of the chapter that owns it. -/
def regRowsRAK : List RegRow := [
  ⟨0x180000, 0x4, 29, 0, [⟨30, 2, .rw, 0⟩, ⟨24, 6, .rw, 0⟩, ⟨16, 4, .rw, 8⟩, ⟨8, 7, .rw, 0x40⟩, ⟨0, 6, .rw, 0⟩]⟩,
  ⟨0x180084, 0x4, 15, 0, [⟨30, 2, .rw, 0⟩, ⟨24, 6, .rw, 0⟩]⟩,
  ⟨0x1800C0, 4, 1, 0, [⟨0, 3, .rw, 1⟩]⟩,
  ⟨0x1800C4, 4, 1, 0, [⟨20, 10, .rw, 0⟩, ⟨10, 10, .rw, 0⟩, ⟨0, 10, .rw, 0⟩]⟩,
  ⟨0x180100, 4, 1, 0, [⟨0, 32, .ro, 0⟩]⟩,
  ⟨0x180104, 4, 1, 0, [⟨0, 32, .ro, 0⟩]⟩,
  ⟨0x180108, 4, 1, 0, [⟨16, 16, .rc, 0⟩, ⟨0, 16, .ro, 0⟩]⟩,
  ⟨0x18010C, 4, 1, 0, [⟨0, 24, .rc, 0⟩]⟩,
  ⟨0x180110, 4, 1, 0, [⟨16, 3, .rw, 0⟩, ⟨2, 1, .w1c, 0⟩, ⟨1, 1, .w1c, 0⟩, ⟨0, 1, .w1c, 0⟩]⟩]

/-- Registers of block CLS, from the register tables of the chapter that owns it. -/
def regRowsCLS : List RegRow := [
  ⟨0x190000, 4, 1, 0, [⟨0, 1, .lk, 0⟩]⟩,
  ⟨0x190010, 0x4, 30, 0, [⟨31, 1, .rw, 0⟩, ⟨8, 5, .rw, 0⟩, ⟨0, 5, .rw, 0⟩]⟩,
  ⟨0x190100, 4, 1, 0, [⟨16, 16, .wo, 0⟩, ⟨0, 2, .wo, 0⟩]⟩,
  ⟨0x190104, 4, 1, 0, [⟨31, 1, .ro, 0⟩, ⟨30, 1, .ro, 1⟩, ⟨29, 1, .ro, 0⟩, ⟨28, 1, .w1c, 0⟩, ⟨26, 2, .ro, 0⟩, ⟨17, 8, .ro, 0⟩, ⟨0, 17, .ro, 0⟩]⟩,
  ⟨0x194000, 0x4, 4096, 0, [⟨31, 1, .rw, 0⟩, ⟨8, 5, .rw, 0⟩, ⟨0, 5, .rw, 0⟩]⟩,
  ⟨0x190110, 4, 1, 0, [⟨16, 2, .rw, 0⟩, ⟨1, 1, .w1c, 0⟩, ⟨0, 1, .w1c, 0⟩]⟩,
  ⟨0x190200, 4, 1, 0, [⟨31, 1, .rw, 0⟩, ⟨0, 18, .rw, 0⟩]⟩,
  ⟨0x190204, 4, 1, 0, [⟨0, 32, .rw, 0⟩]⟩,
  ⟨0x190208, 4, 1, 0, [⟨0, 32, .rw, 0⟩]⟩]

/-- Registers of block FWL, from the register tables of the chapter that owns it. -/
def regRowsFWL : List RegRow := [
  ⟨0x1A0000, 4, 1, 0, [⟨2, 1, .rw, 1⟩, ⟨1, 1, .rw, 0⟩, ⟨0, 1, .lk, 1⟩]⟩,
  ⟨0x1A0004, 4, 1, 0, [⟨0, 6, .rw, 1⟩]⟩,
  ⟨0x1A0010, 0x4, 1, 0, [⟨0, 32, .rw, 0x1E⟩]⟩,
  ⟨0x1A0014, 0x4, 1, 0, [⟨0, 32, .rw, 0xE10⟩]⟩,
  ⟨0x1A0018, 0x4, 1, 0, [⟨0, 32, .rw, 0x3C⟩]⟩,
  ⟨0x1A001C, 0x4, 1, 0, [⟨0, 32, .rw, 0xA⟩]⟩,
  ⟨0x1A0020, 0x4, 1, 0, [⟨0, 32, .rw, 0x1E⟩]⟩,
  ⟨0x1A0024, 0x4, 1, 0, [⟨0, 32, .rw, 0xB4⟩]⟩,
  ⟨0x1A0028, 0x4, 1, 0, [⟨0, 32, .rw, 0xA⟩]⟩,
  ⟨0x1A002C, 0x4, 1, 0, [⟨0, 32, .rw, 0x3C⟩]⟩,
  ⟨0x1A0100, 4, 1, 0, [⟨16, 16, .wo, 0⟩, ⟨3, 1, .wo, 0⟩, ⟨0, 3, .wo, 0⟩]⟩,
  ⟨0x1A0104, 4, 1, 0, [⟨31, 1, .ro, 0⟩, ⟨16, 3, .ro, 0⟩, ⟨0, 16, .rw, 0⟩]⟩,
  ⟨0x1A0108, 4, 1, 0, [⟨16, 9, .ro, 0⟩, ⟨0, 16, .ro, 0⟩]⟩,
  ⟨0x1A010C, 4, 1, 0, [⟨24, 8, .rw, 0⟩, ⟨12, 12, .rw, 0⟩, ⟨0, 12, .rw, 0⟩]⟩,
  ⟨0x1A0140, 0x4, 16, 0, [⟨0, 32, .rw, 0⟩]⟩,
  ⟨0x1A0110, 4, 1, 0, [⟨16, 2, .rw, 0⟩, ⟨1, 1, .w1c, 0⟩, ⟨0, 1, .w1c, 0⟩]⟩]

/-- Registers of block SWC, part 1, from the register tables of the chapter that owns it. -/
def regRowsSWC0 : List RegRow := [
  ⟨0x200000, 0x4, 30, 0, [⟨22, 10, .rw, 0xA⟩, ⟨21, 1, .rw, 0⟩, ⟨20, 1, .rw, 1⟩, ⟨18, 2, .rw, 1⟩, ⟨17, 1, .rw, 1⟩, ⟨15, 2, .rw, 0⟩, ⟨12, 3, .rw, 0⟩, ⟨0, 12, .rw, 1⟩]⟩,
  ⟨0x200080, 0x4, 30, 0, [⟨0, 24, .rw, 0xFAC688⟩]⟩,
  ⟨0x200100, 0x4, 29, 0, [⟨24, 8, .lk, 0⟩, ⟨12, 12, .lk, 0⟩, ⟨0, 12, .lk, 0x10⟩]⟩,
  ⟨0x200180, 0x4, 29, 0, [⟨16, 16, .rw, 0xFFFF⟩, ⟨0, 16, .lk, 0⟩]⟩,
  ⟨0x200200, 0x4, 24, 0, [⟨30, 2, .rw, 0⟩, ⟨16, 14, .rw, 0x400⟩, ⟨0, 14, .rw, 0x300⟩]⟩,
  ⟨0x200280, 0x4, 30, 0, [⟨30, 2, .ro, 3⟩, ⟨16, 12, .ro, 0⟩, ⟨8, 1, .ro, 0⟩, ⟨0, 8, .ro, 0⟩]⟩,
  ⟨0x200400, 0x10, 192, 0, [⟨31, 1, .rw, 0⟩, ⟨0, 16, .rw, 0xFFFF⟩]⟩,
  ⟨0x201000, 0x10, 48, 0, [⟨31, 1, .ro, 1⟩, ⟨0, 16, .rw, 0xFFFF⟩]⟩,
  ⟨0x200404, 0x10, 240, 0, [⟨16, 16, .ro, 0⟩, ⟨0, 16, .ro, 0⟩]⟩,
  ⟨0x201400, 4, 1, 0, [⟨16, 16, .rw, 0xFFFF⟩, ⟨12, 3, .rw, 1⟩]⟩,
  ⟨0x201404, 4, 1, 0, [⟨16, 16, .rw, 0x400⟩, ⟨0, 16, .ro, 0xBE30⟩]⟩,
  ⟨0x201408, 4, 1, 0, [⟨16, 16, .ro, 0xBE30⟩, ⟨0, 16, .ro, 0xFFFF⟩]⟩,
  ⟨0x20140C, 4, 1, 0, [⟨16, 16, .rw, 0⟩, ⟨0, 16, .rw, 0⟩]⟩,
  ⟨0x201410, 4, 1, 0, [⟨31, 1, .rw, 1⟩, ⟨4, 8, .rw, 0x4B⟩, ⟨0, 4, .rw, 4⟩]⟩,
  ⟨0x201420, 4, 1, 0, [⟨16, 16, .wo, 0⟩, ⟨4, 5, .wo, 0⟩, ⟨3, 1, .wo, 0⟩, ⟨0, 3, .wo, 0⟩]⟩,
  ⟨0x201424, 4, 1, 0, [⟨31, 1, .ro, 0⟩, ⟨16, 3, .ro, 0⟩, ⟨0, 14, .rw, 0⟩]⟩,
  ⟨0x201430, 0x4, 4, 0, [⟨0, 32, .rw, 0⟩]⟩,
  ⟨0x201500, 0x8, 4, 0, [⟨31, 1, .rw, 0⟩, ⟨29, 2, .rw, 0⟩, ⟨24, 5, .rw, 0x1D⟩, ⟨20, 3, .rw, 0⟩, ⟨8, 12, .rw, 0⟩, ⟨0, 8, .rw, 0⟩]⟩,
  ⟨0x201504, 0x8, 4, 0, [⟨0, 30, .rw, 0⟩]⟩,
  ⟨0x201600, 4, 1, 0, [⟨16, 5, .rw, 0⟩, ⟨4, 1, .w1c, 0⟩, ⟨3, 1, .w1c, 0⟩, ⟨2, 1, .w1c, 0⟩, ⟨1, 1, .w1c, 0⟩, ⟨0, 1, .w1c, 0⟩]⟩,
  ⟨0x210000, 0x8, 1, 0, [⟨31, 1, .rw, 0⟩, ⟨30, 1, .rw, 0⟩, ⟨0, 30, .rw, 0⟩]⟩,
  ⟨0x210008, 0x8, 1, 0, [⟨31, 1, .rw, 1⟩, ⟨30, 1, .rw, 0⟩, ⟨0, 30, .rw, 0xFFFFFF⟩]⟩,
  ⟨0x210010, 0x8, 4094, 0, [⟨31, 1, .rw, 0⟩, ⟨30, 1, .rw, 0⟩, ⟨0, 30, .rw, 0⟩]⟩,
  ⟨0x210004, 0x8, 1, 0, [⟨31, 1, .rw, 0⟩, ⟨30, 1, .rw, 0⟩, ⟨0, 30, .rw, 0⟩]⟩]

/-- Registers of block SWC, part 2, from the register tables of the chapter that owns it. -/
def regRowsSWC1 : List RegRow := [
  ⟨0x21000C, 0x8, 1, 0, [⟨31, 1, .rw, 0⟩, ⟨30, 1, .rw, 0⟩, ⟨0, 30, .rw, 0xFFFFFF⟩]⟩,
  ⟨0x210014, 0x8, 4094, 0, [⟨31, 1, .rw, 0⟩, ⟨30, 1, .rw, 0⟩, ⟨0, 30, .rw, 0⟩]⟩]

/-- Registers of block STM, from the register tables of the chapter that owns it. -/
def regRowsSTM : List RegRow := [
  ⟨0x240000, 4, 1, 0, [⟨16, 3, .rw, 0⟩, ⟨0, 12, .rw, 0⟩]⟩,
  ⟨0x240004, 4, 1, 0, [⟨16, 16, .wo, 0⟩, ⟨15, 1, .ro, 0⟩, ⟨12, 3, .ro, 0⟩, ⟨0, 2, .wo, 0⟩]⟩,
  ⟨0x240008, 4, 1, 0, [⟨16, 16, .rw, 0⟩, ⟨0, 16, .rw, 0⟩]⟩,
  ⟨0x240010, 4, 1, 0, [⟨16, 3, .rw, 0⟩, ⟨2, 1, .w1c, 0⟩, ⟨1, 1, .w1c, 0⟩, ⟨0, 1, .w1c, 0⟩]⟩,
  ⟨0x240040, 0x4, 32, 0, [⟨0, 32, .rw, 0⟩]⟩]

/-- Registers of block SCH, from the register tables of the chapter that owns it. -/
def regRowsSCH : List RegRow := [
  ⟨0x280000, 0x4, 24, 0, [⟨16, 8, .rw, 0xFF⟩, ⟨8, 8, .rw, 0xFF⟩, ⟨0, 8, .rw, 0x14⟩]⟩,
  ⟨0x280060, 0x4, 6, 0, [⟨16, 8, .rw, 0xFF⟩, ⟨8, 8, .rw, 0xFF⟩, ⟨0, 8, .rw, 0⟩]⟩,
  ⟨0x281000, 0x10, 240, 0, [⟨30, 2, .rw, 0⟩, ⟨0, 24, .rw, 0⟩]⟩,
  ⟨0x281004, 0x10, 240, 0, [⟨0, 26, .rw, 0⟩]⟩,
  ⟨0x281008, 0x10, 240, 0, [⟨0, 32, .ro, 0⟩]⟩,
  ⟨0x28100C, 0x10, 240, 0, [⟨16, 16, .ro, 0⟩, ⟨0, 16, .rw, 0x600⟩]⟩,
  ⟨0x283000, 0x4, 240, 0, [⟨16, 16, .rc, 0⟩, ⟨0, 16, .rc, 0⟩]⟩,
  ⟨0x283400, 0x4, 240, 0, [⟨0, 16, .ro, 0⟩]⟩,
  ⟨0x283800, 4, 1, 0, [⟨31, 1, .rw, 0⟩, ⟨0, 8, .rw, 0⟩]⟩,
  ⟨0x283840, 0x4, 16, 0, [⟨0, 32, .ro, 0⟩]⟩]

/-- Registers of block CPH, from the register tables of the chapter that owns it. -/
def regRowsCPH : List RegRow := [
  ⟨0x2C0000, 4, 1, 0, [⟨24, 8, .rw, 0x64⟩, ⟨12, 12, .rw, 0x7D0⟩, ⟨0, 1, .rw, 0⟩]⟩,
  ⟨0x2C0004, 4, 1, 0, [⟨8, 4, .ro, 0⟩, ⟨0, 7, .ro, 0⟩]⟩,
  ⟨0x2C0008, 4, 1, 0, [⟨16, 16, .wo, 0⟩, ⟨0, 4, .wo, 0⟩]⟩,
  ⟨0x2C0010, 4, 1, 0, [⟨0, 32, .rw, 0xC0000000⟩]⟩,
  ⟨0x2C0014, 4, 1, 0, [⟨0, 32, .rw, 0⟩]⟩,
  ⟨0x2C0018, 4, 1, 0, [⟨0, 32, .rw, 0xC0000000⟩]⟩,
  ⟨0x2C001C, 4, 1, 0, [⟨0, 32, .rw, 0x100000⟩]⟩,
  ⟨0x2C0020, 4, 1, 0, [⟨0, 32, .rw, 0⟩]⟩,
  ⟨0x2C0024, 4, 1, 0, [⟨0, 32, .rw, 0x10000⟩]⟩,
  ⟨0x2C0028, 4, 1, 0, [⟨21, 11, .rw, 0⟩, ⟨10, 11, .rw, 0⟩, ⟨0, 10, .rw, 0⟩]⟩,
  ⟨0x2C0030, 4, 1, 0, [⟨16, 5, .rw, 0⟩, ⟨4, 1, .w1c, 0⟩, ⟨3, 1, .w1c, 0⟩, ⟨2, 1, .w1c, 0⟩, ⟨1, 1, .w1c, 0⟩, ⟨0, 1, .w1c, 0⟩]⟩,
  ⟨0x2C0040, 4, 1, 0, [⟨16, 3, .rw, 0⟩, ⟨0, 10, .rw, 0⟩]⟩,
  ⟨0x2C0044, 4, 1, 0, [⟨16, 16, .wo, 0⟩, ⟨15, 1, .ro, 0⟩, ⟨12, 3, .ro, 0⟩, ⟨0, 3, .wo, 0⟩]⟩,
  ⟨0x2C0080, 0x4, 12, 0, [⟨0, 32, .rw, 0⟩]⟩,
  ⟨0x2C0100, 0x4, 32, 0, [⟨0, 32, .w1c, 0⟩]⟩]

/-- Registers of block GWE, from the register tables of the chapter that owns it. -/
def regRowsGWE : List RegRow := [
  ⟨0x300000, 0x40, 32, 0, [⟨31, 1, .rw, 0⟩, ⟨30, 1, .rw, 0⟩, ⟨29, 1, .rw, 0⟩, ⟨28, 1, .rw, 1⟩, ⟨27, 1, .rw, 0⟩, ⟨26, 1, .rw, 0⟩, ⟨16, 10, .rw, 0⟩, ⟨0, 4, .lk, 0⟩]⟩,
  ⟨0x300004, 0x40, 16, 0, [⟨24, 8, .rw, 0⟩, ⟨16, 8, .rw, 0x7F⟩, ⟨9, 7, .rw, 0x1F⟩, ⟨2, 7, .rw, 0x1F⟩]⟩,
  ⟨0x300008, 0x40, 16, 0, [⟨27, 5, .rw, 0⟩, ⟨22, 5, .rw, 0x1E⟩, ⟨18, 4, .rw, 7⟩, ⟨14, 4, .rw, 7⟩, ⟨13, 1, .rw, 0⟩, ⟨6, 7, .rw, 0⟩]⟩,
  ⟨0x30000C, 0x40, 16, 0, [⟨27, 5, .rw, 0⟩, ⟨22, 5, .rw, 0x1E⟩, ⟨18, 4, .rw, 7⟩, ⟨14, 4, .rw, 7⟩, ⟨13, 1, .rw, 0⟩, ⟨6, 7, .rw, 0⟩]⟩,
  ⟨0x300010, 0x40, 16, 0, [⟨30, 2, .ro, 0⟩, ⟨27, 3, .ro, 0⟩, ⟨16, 8, .ro, 0⟩, ⟨0, 9, .ro, 0⟩]⟩,
  ⟨0x300014, 0x40, 16, 0, [⟨31, 1, .rw, 0⟩, ⟨12, 6, .rw, 0⟩, ⟨6, 6, .rw, 0⟩, ⟨0, 6, .rw, 0⟩]⟩,
  ⟨0x300404, 0x40, 8, 0, [⟨16, 16, .rw, 0x208⟩, ⟨15, 1, .rw, 0⟩, ⟨8, 4, .rw, 0⟩, ⟨0, 5, .rw, 0⟩]⟩,
  ⟨0x300604, 0x40, 8, 0, [⟨10, 22, .rw, 0x21E9⟩, ⟨9, 1, .rw, 0⟩, ⟨7, 2, .rw, 0⟩, ⟨6, 1, .rw, 0⟩]⟩,
  ⟨0x300608, 0x40, 8, 0, [⟨24, 8, .rw, 3⟩, ⟨16, 8, .rw, 0⟩, ⟨15, 1, .rw, 0⟩]⟩,
  ⟨0x301000, 0x4, 256, 0, [⟨31, 1, .rw, 0⟩, ⟨16, 6, .rw, 0⟩, ⟨0, 16, .rw, 0x64⟩]⟩,
  ⟨0x302000, 0x4, 64, 0, [⟨29, 3, .ro, 0⟩, ⟨28, 1, .ro, 0⟩, ⟨16, 8, .ro, 0⟩, ⟨8, 5, .ro, 0⟩, ⟨0, 5, .ro, 0⟩]⟩,
  ⟨0x302100, 4, 1, 0, [⟨16, 16, .wo, 0⟩, ⟨8, 6, .wo, 0⟩, ⟨0, 3, .wo, 0⟩]⟩,
  ⟨0x302104, 4, 1, 0, [⟨16, 16, .rc, 0⟩, ⟨8, 6, .ro, 0⟩, ⟨7, 1, .ro, 0⟩, ⟨0, 7, .ro, 0⟩]⟩,
  ⟨0x302110, 4, 1, 0, [⟨16, 4, .rw, 0⟩, ⟨3, 1, .w1c, 0⟩, ⟨2, 1, .w1c, 0⟩, ⟨1, 1, .w1c, 0⟩, ⟨0, 1, .w1c, 0⟩]⟩,
  ⟨0x302200, 4, 1, 0, [⟨31, 1, .rw, 0⟩, ⟨0, 20, .rw, 0⟩]⟩,
  ⟨0x302204, 4, 1, 0, [⟨0, 32, .rw, 0⟩]⟩]

/-- Registers of block HAT, from the register tables of the chapter that owns it. -/
def regRowsHAT : List RegRow := [
  ⟨0x340000, 0x10, 64, 0, [⟨31, 1, .rw, 0⟩, ⟨30, 1, .rw, 0⟩, ⟨16, 8, .rw, 1⟩, ⟨15, 1, .rw, 0⟩, ⟨0, 6, .rw, 0⟩]⟩,
  ⟨0x340004, 0x10, 64, 0x10000, [⟨16, 16, .lk, 0⟩, ⟨0, 7, .lk, 1⟩]⟩,
  ⟨0x340008, 0x10, 64, 0, [⟨12, 20, .ro, 0⟩, ⟨11, 1, .ro, 0⟩, ⟨10, 1, .ro, 0⟩]⟩,
  ⟨0x34000C, 0x10, 64, 0, [⟨1, 1, .wo, 0⟩, ⟨0, 1, .wo, 0⟩]⟩,
  ⟨0x350000, 0x10, 64, 0, [⟨0, 32, .wo, 0⟩]⟩,
  ⟨0x350004, 0x10, 64, 0, [⟨0, 32, .wo, 0⟩]⟩,
  ⟨0x360000, 4, 1, 0, [⟨16, 3, .rw, 0⟩, ⟨2, 1, .w1c, 0⟩, ⟨1, 1, .w1c, 0⟩, ⟨0, 1, .w1c, 0⟩]⟩]

/-- Registers of block BRG, from the register tables of the chapter that owns it. -/
def regRowsBRG : List RegRow := [
  ⟨0x380000, 4, 1, 0, [⟨31, 1, .rw, 1⟩, ⟨16, 8, .rw, 0x10⟩, ⟨0, 5, .rw, 0x10⟩]⟩,
  ⟨0x380004, 4, 1, 0, [⟨31, 1, .ro, 0⟩, ⟨8, 6, .ro, 0⟩, ⟨4, 4, .ro, 0⟩, ⟨0, 4, .ro, 0⟩]⟩,
  ⟨0x380008, 4, 1, 0, [⟨0, 32, .rw, 0⟩]⟩,
  ⟨0x38000C, 4, 1, 0, [⟨16, 16, .lk, 0⟩, ⟨0, 16, .lk, 0⟩]⟩,
  ⟨0x380010, 4, 1, 0, [⟨16, 4, .rw, 0⟩, ⟨3, 1, .w1c, 0⟩, ⟨2, 1, .w1c, 0⟩, ⟨1, 1, .w1c, 0⟩, ⟨0, 1, .w1c, 0⟩]⟩,
  ⟨0x380014, 4, 1, 0, [⟨24, 8, .ro, 0⟩, ⟨0, 16, .rc, 0⟩]⟩,
  ⟨0x380100, 0x10, 16, 0, [⟨31, 1, .rw, 0⟩, ⟨30, 1, .rw, 0⟩, ⟨29, 1, .rw, 0⟩, ⟨0, 15, .rw, 0⟩]⟩,
  ⟨0x380104, 0x10, 16, 0, [⟨12, 20, .rw, 0⟩]⟩,
  ⟨0x380108, 0x10, 16, 0, [⟨0, 8, .rw, 0⟩]⟩,
  ⟨0x380200, 0x10, 16, 0, [⟨0, 32, .ro, 0⟩]⟩,
  ⟨0x380204, 0x10, 16, 0, [⟨31, 1, .w1c, 0⟩, ⟨29, 2, .ro, 0⟩, ⟨23, 6, .ro, 0⟩, ⟨0, 13, .ro, 0⟩]⟩,
  ⟨0x380208, 0x10, 16, 0, [⟨16, 16, .ro, 0⟩, ⟨0, 8, .ro, 0⟩]⟩,
  ⟨0x38020C, 0x10, 16, 0, [⟨0, 32, .ro, 0⟩]⟩,
  ⟨0x381000, 0x40, 32, 0, [⟨6, 26, .rw, 0⟩]⟩,
  ⟨0x381004, 0x40, 32, 0, [⟨0, 32, .rw, 0⟩]⟩,
  ⟨0x381008, 0x40, 32, 0, [⟨31, 1, .rw, 0⟩, ⟨30, 1, .ro, 0⟩, ⟨29, 1, .rw, 0⟩, ⟨24, 4, .rw, 4⟩, ⟨16, 8, .rw, 8⟩, ⟨6, 10, .rw, 0⟩, ⟨0, 6, .rw, 0⟩]⟩,
  ⟨0x38100C, 0x40, 32, 0, [⟨0, 16, .rw, 0⟩]⟩,
  ⟨0x381010, 0x40, 32, 0, [⟨0, 16, .ro, 0⟩]⟩,
  ⟨0x381014, 0x40, 32, 0, [⟨31, 1, .w1c, 0⟩, ⟨28, 3, .ro, 0⟩, ⟨0, 16, .ro, 0⟩]⟩]

/-- Registers of block STG, from the register tables of the chapter that owns it. -/
def regRowsSTG : List RegRow := [
  ⟨0x3C0000, 4, 1, 0, [⟨31, 1, .rw, 0⟩, ⟨30, 1, .rw, 0⟩, ⟨24, 6, .rw, 0⟩, ⟨16, 8, .lk, 0⟩, ⟨8, 8, .lk, 0⟩]⟩,
  ⟨0x3C0004, 4, 1, 0, [⟨16, 16, .lk, 0⟩, ⟨0, 14, .lk, 0⟩]⟩,
  ⟨0x3C0008, 4, 1, 0, [⟨31, 1, .ro, 0⟩, ⟨30, 1, .ro, 0⟩, ⟨29, 1, .w1c, 0⟩, ⟨26, 3, .ro, 0⟩, ⟨0, 14, .ro, 0⟩]⟩,
  ⟨0x3C000C, 4, 1, 0, [⟨16, 16, .wo, 0⟩, ⟨8, 8, .wo, 0⟩, ⟨5, 3, .wo, 0⟩, ⟨0, 3, .wo, 0⟩]⟩,
  ⟨0x3C0010, 4, 1, 0, [⟨16, 16, .rw, 0x88B5⟩, ⟨13, 3, .rw, 0⟩, ⟨12, 1, .rw, 0⟩, ⟨0, 12, .rw, 0⟩]⟩,
  ⟨0x3C0014, 4, 1, 0, [⟨0, 32, .rw, 0⟩]⟩,
  ⟨0x3C0018, 4, 1, 0, [⟨0, 16, .rw, 0⟩]⟩,
  ⟨0x3C001C, 4, 1, 0, [⟨0, 32, .rw, 0⟩]⟩,
  ⟨0x3C0020, 4, 1, 0, [⟨0, 16, .rw, 0⟩]⟩,
  ⟨0x3C0024, 4, 1, 0, [⟨16, 4, .rw, 0⟩, ⟨3, 1, .w1c, 0⟩, ⟨2, 1, .w1c, 0⟩, ⟨1, 1, .w1c, 0⟩, ⟨0, 1, .w1c, 0⟩]⟩,
  ⟨0x3C0100, 0x4, 32, 0, [⟨31, 1, .rw, 0⟩, ⟨12, 3, .rw, 0⟩, ⟨0, 12, .rw, 0⟩]⟩,
  ⟨0x3C0200, 0x4, 18, 0, [⟨31, 1, .rw, 0⟩, ⟨30, 1, .rw, 0⟩, ⟨29, 1, .rw, 0⟩, ⟨21, 8, .rw, 0x3C⟩, ⟨10, 11, .rw, 0x12C⟩, ⟨0, 10, .rw, 0x64⟩]⟩,
  ⟨0x3C0300, 0x8, 8, 0, [⟨29, 3, .ro, 0⟩, ⟨24, 5, .ro, 0⟩, ⟨19, 5, .ro, 0⟩, ⟨0, 8, .ro, 0⟩]⟩,
  ⟨0x3C0304, 0x8, 8, 0, [⟨16, 14, .ro, 0⟩, ⟨0, 14, .ro, 0⟩]⟩]

/-- Registers of block MGT, from the register tables of the chapter that owns it. -/
def regRowsMGT : List RegRow := [
  ⟨0x400000, 4, 1, 0, [⟨31, 1, .lk, 0⟩, ⟨30, 1, .lk, 0⟩, ⟨16, 3, .rw, 1⟩, ⟨0, 16, .lk, 0xC22A⟩]⟩,
  ⟨0x400004, 4, 1, 0, [⟨0, 32, .lk, 0⟩]⟩,
  ⟨0x400008, 4, 1, 0, [⟨0, 16, .lk, 0⟩]⟩,
  ⟨0x40000C, 4, 1, 0, [⟨0, 32, .lk, 0⟩]⟩,
  ⟨0x400010, 0x4, 4, 0, [⟨0, 32, .lk, 0⟩]⟩,
  ⟨0x400020, 4, 1, 0, [⟨24, 8, .lk, 0xE0⟩, ⟨0, 16, .rw, 0x12C⟩]⟩,
  ⟨0x400024, 4, 1, 0, [⟨0, 23, .lk, 0x7FFFA3⟩]⟩,
  ⟨0x400030, 4, 1, 0, [⟨24, 8, .ro, 0⟩, ⟨8, 6, .ro, 0⟩, ⟨0, 3, .ro, 0⟩]⟩,
  ⟨0x400040, 4, 1, 0, [⟨16, 2, .rw, 0⟩, ⟨1, 1, .w1c, 0⟩, ⟨0, 1, .w1c, 0⟩]⟩]

/-- The registers of the block whose window (R31) holds address `a`. -/
def regRowsNear (a : Nat) : List RegRow :=
  if a < 0x10000 then regRowsTOP
  else if a < 0x20000 then regRowsPWR
  else if a < 0x30000 then regRowsBOOT
  else if a < 0x40000 then regRowsSEC
  else if a < 0x50000 then regRowsCCX
  else if a < 0x60000 then regRowsFLT
  else if a < 0x70000 then regRowsPAIR
  else if a < 0x80000 then regRowsTIM0 ++ regRowsTIM1
  else if a < 0x100000 then regRowsGAT0 ++ regRowsGAT1
  else if a < 0x140000 then regRowsMAC
  else if a < 0x180000 then regRowsPHY
  else if a < 0x190000 then regRowsRAK
  else if a < 0x1A0000 then regRowsCLS
  else if a < 0x200000 then regRowsFWL
  else if a < 0x240000 then regRowsSWC0 ++ regRowsSWC1
  else if a < 0x280000 then regRowsSTM
  else if a < 0x2C0000 then regRowsSCH
  else if a < 0x300000 then regRowsCPH
  else if a < 0x340000 then regRowsGWE
  else if a < 0x380000 then regRowsHAT
  else if a < 0x3C0000 then regRowsBRG
  else if a < 0x400000 then regRowsSTG
  else if a < 0x440000 then regRowsMGT
  else []

/-- Whether address `a` is one of the row's registers. -/
def RegRow.has (r : RegRow) (a : Nat) : Bool :=
  r.base ≤ a && (a - r.base) % r.stride == 0 && (a - r.base) / r.stride < r.count

/-- The row that holds address `a`. -/
def regRowAt (a : Nat) : Option RegRow := (regRowsNear a).find? (fun r => r.has a)

/-- The word formed by the reset values of a row's fields. -/
def RegRow.resetAt (r : RegRow) (a : Nat) : Nat :=
  (r.fields.map (fun f => f.rst * 2 ^ f.lo)).sum + r.rstStep * ((a - r.base) / r.stride)

/-- The reset value of the register at `a`; an address with no register reads 0 (R31). -/
def resetWord (a : Nat) : BitVec 32 :=
  match regRowAt a with
  | some r => BitVec.ofNat 32 (r.resetAt a)
  | none => 0

end Sys2Proof.Machine
end

