-- ==== Sys2Proof/Machine/Fields.lean ====
section
/-!
DEFINITION. Names for the registers and their fields, as the register tables of spec/ name them:
`Reg.<REGISTER>` is an address (R31), `Fld.<REGISTER>_<FIELD>` a field (address, lowest bit, width).
-/
namespace Sys2Proof.Machine

/-- A field of a register: the register's address, lowest bit and width. -/
structure Fld where
  addr : Nat
  lo : Nat
  width : Nat
  deriving DecidableEq, Repr

def Reg.TOP_ID : Nat := 0x0
def Fld.TOP_ID_VENDOR : Fld := ⟨Reg.TOP_ID, 20, 12⟩
def Fld.TOP_ID_PART : Fld := ⟨Reg.TOP_ID, 4, 16⟩
def Reg.TOP_REV : Nat := 0x4
def Fld.TOP_REV_MAJOR : Fld := ⟨Reg.TOP_REV, 8, 8⟩
def Fld.TOP_REV_MINOR : Fld := ⟨Reg.TOP_REV, 0, 8⟩
def Reg.TOP_STRAP : Nat := 0x10
def Fld.TOP_STRAP_STRAP_INVALID : Fld := ⟨Reg.TOP_STRAP, 31, 1⟩
def Fld.TOP_STRAP_XSPI_SAFE : Fld := ⟨Reg.TOP_STRAP, 5, 1⟩
def Fld.TOP_STRAP_PCIE_EN : Fld := ⟨Reg.TOP_STRAP, 4, 1⟩
def Fld.TOP_STRAP_PAIR_SIDE : Fld := ⟨Reg.TOP_STRAP, 3, 1⟩
def Fld.TOP_STRAP_PAIR_EN : Fld := ⟨Reg.TOP_STRAP, 2, 1⟩
def Fld.TOP_STRAP_BOOT_MODE : Fld := ⟨Reg.TOP_STRAP, 0, 2⟩
def Reg.TOP_STATE : Nat := 0x20
def Fld.TOP_STATE_BOOT_PHASE : Fld := ⟨Reg.TOP_STATE, 20, 4⟩
def Fld.TOP_STATE_PAIR_ROLE : Fld := ⟨Reg.TOP_STATE, 18, 2⟩
def Fld.TOP_STATE_LEASE : Fld := ⟨Reg.TOP_STATE, 17, 1⟩
def Fld.TOP_STATE_HOLDOVER : Fld := ⟨Reg.TOP_STATE, 11, 1⟩
def Fld.TOP_STATE_CCX_RESTART : Fld := ⟨Reg.TOP_STATE, 10, 1⟩
def Fld.TOP_STATE_FWD_EN : Fld := ⟨Reg.TOP_STATE, 9, 1⟩
def Fld.TOP_STATE_COMMITTED : Fld := ⟨Reg.TOP_STATE, 8, 1⟩
def Fld.TOP_STATE_PREV_PWR : Fld := ⟨Reg.TOP_STATE, 4, 3⟩
def Fld.TOP_STATE_PWR_STATE : Fld := ⟨Reg.TOP_STATE, 0, 3⟩
def Reg.TOP_RESET_CAUSE : Nat := 0x24
def Fld.TOP_RESET_CAUSE_COLD : Fld := ⟨Reg.TOP_RESET_CAUSE, 31, 1⟩
def Fld.TOP_RESET_CAUSE_WAKE_D : Fld := ⟨Reg.TOP_RESET_CAUSE, 30, 1⟩
def Fld.TOP_RESET_CAUSE_SUPPLY : Fld := ⟨Reg.TOP_RESET_CAUSE, 29, 1⟩
def Fld.TOP_RESET_CAUSE_CHIP_FAULT : Fld := ⟨Reg.TOP_RESET_CAUSE, 28, 1⟩
def Fld.TOP_RESET_CAUSE_CHIP_CMD : Fld := ⟨Reg.TOP_RESET_CAUSE, 27, 1⟩
def Fld.TOP_RESET_CAUSE_FAULT_SRC : Fld := ⟨Reg.TOP_RESET_CAUSE, 0, 10⟩
def Reg.TOP_RESET_CMD : Nat := 0x28
def Fld.TOP_RESET_CMD_KEY : Fld := ⟨Reg.TOP_RESET_CMD, 16, 16⟩
def Fld.TOP_RESET_CMD_BLOCK : Fld := ⟨Reg.TOP_RESET_CMD, 8, 5⟩
def Fld.TOP_RESET_CMD_ACTION : Fld := ⟨Reg.TOP_RESET_CMD, 0, 4⟩
def Reg.TOP_INT_STATUS : Nat := 0x100
def Fld.TOP_INT_STATUS_LINE : Fld := ⟨Reg.TOP_INT_STATUS, 0, 23⟩
def Reg.TOP_INT_EOI : Nat := 0x104
def Fld.TOP_INT_EOI_LINE : Fld := ⟨Reg.TOP_INT_EOI, 0, 23⟩
def Reg.TOP_INT_ROUTE (n : Nat) : Nat := 0x200 + 0x4 * n
def Fld.TOP_INT_ROUTE_PIN_EN (n : Nat) : Fld := ⟨Reg.TOP_INT_ROUTE n, 31, 1⟩
def Fld.TOP_INT_ROUTE_MSIX_EN (n : Nat) : Fld := ⟨Reg.TOP_INT_ROUTE n, 30, 1⟩
def Fld.TOP_INT_ROUTE_CCX_EN (n : Nat) : Fld := ⟨Reg.TOP_INT_ROUTE n, 29, 1⟩
def Fld.TOP_INT_ROUTE_VECTOR (n : Nat) : Fld := ⟨Reg.TOP_INT_ROUTE n, 0, 6⟩
def Reg.PWR_CMD : Nat := 0x10000
def Fld.PWR_CMD_KEY : Fld := ⟨Reg.PWR_CMD, 16, 16⟩
def Fld.PWR_CMD_TARGET : Fld := ⟨Reg.PWR_CMD, 0, 3⟩
def Reg.PWR_STATUS : Nat := 0x10004
def Fld.PWR_STATUS_REFUSE : Fld := ⟨Reg.PWR_STATUS, 24, 3⟩
def Fld.PWR_STATUS_SEQ_FAILS : Fld := ⟨Reg.PWR_STATUS, 16, 2⟩
def Fld.PWR_STATUS_SEQ_FAIL : Fld := ⟨Reg.PWR_STATUS, 8, 1⟩
def Fld.PWR_STATUS_BUSY : Fld := ⟨Reg.PWR_STATUS, 4, 1⟩
def Fld.PWR_STATUS_STATE : Fld := ⟨Reg.PWR_STATUS, 0, 3⟩
def Reg.PWR_WAKE_EN : Nat := 0x10010
def Fld.PWR_WAKE_EN_TC10 : Fld := ⟨Reg.PWR_WAKE_EN, 16, 12⟩
def Fld.PWR_WAKE_EN_DIST : Fld := ⟨Reg.PWR_WAKE_EN, 9, 1⟩
def Fld.PWR_WAKE_EN_TIMER : Fld := ⟨Reg.PWR_WAKE_EN, 8, 1⟩
def Fld.PWR_WAKE_EN_WAKE_IN : Fld := ⟨Reg.PWR_WAKE_EN, 0, 4⟩
def Reg.PWR_BUS_WAKE : Nat := 0x10014
def Fld.PWR_BUS_WAKE_LIN : Fld := ⟨Reg.PWR_BUS_WAKE, 16, 8⟩
def Fld.PWR_BUS_WAKE_CAN : Fld := ⟨Reg.PWR_BUS_WAKE, 0, 16⟩
def Reg.PWR_WAKE_CAUSE : Nat := 0x10018
def Fld.PWR_WAKE_CAUSE_EARLY : Fld := ⟨Reg.PWR_WAKE_CAUSE, 31, 1⟩
def Fld.PWR_WAKE_CAUSE_MORE : Fld := ⟨Reg.PWR_WAKE_CAUSE, 30, 1⟩
def Fld.PWR_WAKE_CAUSE_FIRST : Fld := ⟨Reg.PWR_WAKE_CAUSE, 0, 8⟩
def Reg.PWR_WAKE_IN_CFG (n : Nat) : Nat := 0x10020 + 0x4 * n
def Fld.PWR_WAKE_IN_CFG_MODE (n : Nat) : Fld := ⟨Reg.PWR_WAKE_IN_CFG n, 8, 2⟩
def Fld.PWR_WAKE_IN_CFG_FILTER (n : Nat) : Fld := ⟨Reg.PWR_WAKE_IN_CFG n, 0, 8⟩
def Reg.PWR_WAKE_TIMER : Nat := 0x10030
def Fld.PWR_WAKE_TIMER_MS : Fld := ⟨Reg.PWR_WAKE_TIMER, 0, 32⟩
def Reg.PWR_WAKE_DIST : Nat := 0x10034
def Fld.PWR_WAKE_DIST_TARGET : Fld := ⟨Reg.PWR_WAKE_DIST, 0, 32⟩
def Reg.PWR_WAKE_D48 (n : Nat) : Nat := 0x10038 + 0x4 * n
def Fld.PWR_WAKE_D48_D48 (n : Nat) : Fld := ⟨Reg.PWR_WAKE_D48 n, 0, 32⟩
def Reg.PWR_SEQ_CFG : Nat := 0x10100
def Fld.PWR_SEQ_CFG_INH_WAIT : Fld := ⟨Reg.PWR_SEQ_CFG, 24, 8⟩
def Fld.PWR_SEQ_CFG_INH_R : Fld := ⟨Reg.PWR_SEQ_CFG, 23, 1⟩
def Fld.PWR_SEQ_CFG_NSTART : Fld := ⟨Reg.PWR_SEQ_CFG, 8, 7⟩
def Fld.PWR_SEQ_CFG_TABLE_BAD : Fld := ⟨Reg.PWR_SEQ_CFG, 7, 1⟩
def Fld.PWR_SEQ_CFG_NSEQ : Fld := ⟨Reg.PWR_SEQ_CFG, 0, 4⟩
def Reg.PWR_SEQ (n : Nat) : Nat := 0x10104 + 0x4 * n
def Fld.PWR_SEQ_DOWN_D (n : Nat) : Fld := ⟨Reg.PWR_SEQ n, 31, 1⟩
def Fld.PWR_SEQ_DOWN_R (n : Nat) : Fld := ⟨Reg.PWR_SEQ n, 30, 1⟩
def Fld.PWR_SEQ_DELAY (n : Nat) : Fld := ⟨Reg.PWR_SEQ n, 24, 6⟩
def Fld.PWR_SEQ_TIMEOUT (n : Nat) : Fld := ⟨Reg.PWR_SEQ n, 16, 8⟩
def Fld.PWR_SEQ_PG_MASK (n : Nat) : Fld := ⟨Reg.PWR_SEQ n, 8, 8⟩
def Fld.PWR_SEQ_EN_MASK (n : Nat) : Fld := ⟨Reg.PWR_SEQ n, 0, 8⟩
def Reg.PWR_START (n : Nat) : Nat := 0x10200 + 0x4 * n
def Fld.PWR_START_SAME_STEP (n : Nat) : Fld := ⟨Reg.PWR_START n, 31, 1⟩
def Fld.PWR_START_SPACING (n : Nat) : Fld := ⟨Reg.PWR_START n, 8, 8⟩
def Fld.PWR_START_UNIT (n : Nat) : Fld := ⟨Reg.PWR_START n, 0, 8⟩
def Reg.PWR_PMB_DEV (n : Nat) : Nat := 0x10300 + 0x4 * n
def Fld.PWR_PMB_DEV_EN (n : Nat) : Fld := ⟨Reg.PWR_PMB_DEV n, 31, 1⟩
def Fld.PWR_PMB_DEV_OPER (n : Nat) : Fld := ⟨Reg.PWR_PMB_DEV n, 30, 1⟩
def Fld.PWR_PMB_DEV_STEP (n : Nat) : Fld := ⟨Reg.PWR_PMB_DEV n, 24, 3⟩
def Fld.PWR_PMB_DEV_ADDR (n : Nat) : Fld := ⟨Reg.PWR_PMB_DEV n, 16, 7⟩
def Reg.PWR_PMB_STATUS : Nat := 0x10320
def Fld.PWR_PMB_STATUS_VALID : Fld := ⟨Reg.PWR_PMB_STATUS, 31, 1⟩
def Fld.PWR_PMB_STATUS_ADDR : Fld := ⟨Reg.PWR_PMB_STATUS, 16, 7⟩
def Fld.PWR_PMB_STATUS_STATUS_WORD : Fld := ⟨Reg.PWR_PMB_STATUS, 0, 16⟩
def Reg.PWR_TEMP : Nat := 0x10400
def Fld.PWR_TEMP_WARN_HI : Fld := ⟨Reg.PWR_TEMP, 24, 8⟩
def Fld.PWR_TEMP_WARN_CLR : Fld := ⟨Reg.PWR_TEMP, 16, 8⟩
def Fld.PWR_TEMP_TEMP : Fld := ⟨Reg.PWR_TEMP, 0, 12⟩
def Reg.PWR_MON_STATUS : Nat := 0x10410
def Fld.PWR_MON_STATUS_PLL : Fld := ⟨Reg.PWR_MON_STATUS, 12, 1⟩
def Fld.PWR_MON_STATUS_CLK : Fld := ⟨Reg.PWR_MON_STATUS, 8, 4⟩
def Fld.PWR_MON_STATUS_VOLT : Fld := ⟨Reg.PWR_MON_STATUS, 0, 8⟩
def Reg.BOOT_STATUS : Nat := 0x20000
def Fld.BOOT_STATUS_TRIAL : Fld := ⟨Reg.BOOT_STATUS, 24, 1⟩
def Fld.BOOT_STATUS_RESUME_CODE : Fld := ⟨Reg.BOOT_STATUS, 20, 4⟩
def Fld.BOOT_STATUS_PCIE_CODE : Fld := ⟨Reg.BOOT_STATUS, 16, 4⟩
def Fld.BOOT_STATUS_B_CODE : Fld := ⟨Reg.BOOT_STATUS, 12, 4⟩
def Fld.BOOT_STATUS_A_CODE : Fld := ⟨Reg.BOOT_STATUS, 8, 4⟩
def Fld.BOOT_STATUS_SOURCE : Fld := ⟨Reg.BOOT_STATUS, 0, 3⟩
def Reg.BOOT_IMAGE_ID (n : Nat) : Nat := 0x20010 + 0x4 * n
def Fld.BOOT_IMAGE_ID_ID (n : Nat) : Fld := ⟨Reg.BOOT_IMAGE_ID n, 0, 32⟩
def Reg.BOOT_VERSION : Nat := 0x20020
def Fld.BOOT_VERSION_FLOOR : Fld := ⟨Reg.BOOT_VERSION, 8, 8⟩
def Fld.BOOT_VERSION_RUN : Fld := ⟨Reg.BOOT_VERSION, 0, 8⟩
def Reg.BOOT_TIME : Nat := 0x20024
def Fld.BOOT_TIME_US : Fld := ⟨Reg.BOOT_TIME, 0, 32⟩
def Reg.BOOT_CTRL_REC : Nat := 0x20028
def Fld.BOOT_CTRL_REC_SEQ : Fld := ⟨Reg.BOOT_CTRL_REC, 16, 16⟩
def Fld.BOOT_CTRL_REC_TRIES : Fld := ⟨Reg.BOOT_CTRL_REC, 8, 3⟩
def Fld.BOOT_CTRL_REC_TRIAL : Fld := ⟨Reg.BOOT_CTRL_REC, 1, 1⟩
def Fld.BOOT_CTRL_REC_PREF : Fld := ⟨Reg.BOOT_CTRL_REC, 0, 1⟩
def Reg.BOOT_UPDATE_CMD : Nat := 0x20040
def Fld.BOOT_UPDATE_CMD_KEY : Fld := ⟨Reg.BOOT_UPDATE_CMD, 16, 16⟩
def Fld.BOOT_UPDATE_CMD_TRIES : Fld := ⟨Reg.BOOT_UPDATE_CMD, 8, 3⟩
def Fld.BOOT_UPDATE_CMD_ACTION : Fld := ⟨Reg.BOOT_UPDATE_CMD, 0, 3⟩
def Reg.BOOT_UPDATE_STATUS : Nat := 0x20044
def Fld.BOOT_UPDATE_STATUS_CODE : Fld := ⟨Reg.BOOT_UPDATE_STATUS, 16, 4⟩
def Fld.BOOT_UPDATE_STATUS_REFUSED : Fld := ⟨Reg.BOOT_UPDATE_STATUS, 8, 1⟩
def Fld.BOOT_UPDATE_STATUS_BUSY : Fld := ⟨Reg.BOOT_UPDATE_STATUS, 4, 1⟩
def Fld.BOOT_UPDATE_STATUS_STATE : Fld := ⟨Reg.BOOT_UPDATE_STATUS, 0, 3⟩
def Reg.BOOT_STAGE_LEN : Nat := 0x20050
def Fld.BOOT_STAGE_LEN_LEN : Fld := ⟨Reg.BOOT_STAGE_LEN, 0, 16⟩
def Reg.BOOT_STAGE_STATUS : Nat := 0x20054
def Fld.BOOT_STAGE_STATUS_READY : Fld := ⟨Reg.BOOT_STAGE_STATUS, 31, 1⟩
def Fld.BOOT_STAGE_STATUS_ORDER_ERR : Fld := ⟨Reg.BOOT_STAGE_STATUS, 30, 1⟩
def Fld.BOOT_STAGE_STATUS_PASS : Fld := ⟨Reg.BOOT_STAGE_STATUS, 24, 2⟩
def Fld.BOOT_STAGE_STATUS_NEXT : Fld := ⟨Reg.BOOT_STAGE_STATUS, 0, 24⟩
def Reg.BOOT_STAGE_BUF (n : Nat) : Nat := 0x28000 + 0x4 * n
def Fld.BOOT_STAGE_BUF_DATA (n : Nat) : Fld := ⟨Reg.BOOT_STAGE_BUF n, 0, 32⟩
def Reg.SEC_STATUS : Nat := 0x30000
def Fld.SEC_STATUS_PROV : Fld := ⟨Reg.SEC_STATUS, 7, 1⟩
def Fld.SEC_STATUS_PARTNER_BAD : Fld := ⟨Reg.SEC_STATUS, 6, 1⟩
def Fld.SEC_STATUS_DRBG_HALT : Fld := ⟨Reg.SEC_STATUS, 5, 1⟩
def Fld.SEC_STATUS_ZEROIZED : Fld := ⟨Reg.SEC_STATUS, 4, 1⟩
def Fld.SEC_STATUS_DEBUG : Fld := ⟨Reg.SEC_STATUS, 3, 1⟩
def Fld.SEC_STATUS_CERT : Fld := ⟨Reg.SEC_STATUS, 2, 1⟩
def Fld.SEC_STATUS_LIFECYCLE : Fld := ⟨Reg.SEC_STATUS, 0, 2⟩
def Reg.SEC_LIFECYCLE_CMD : Nat := 0x30008
def Fld.SEC_LIFECYCLE_CMD_KEY : Fld := ⟨Reg.SEC_LIFECYCLE_CMD, 16, 16⟩
def Fld.SEC_LIFECYCLE_CMD_TARGET : Fld := ⟨Reg.SEC_LIFECYCLE_CMD, 0, 2⟩
def Reg.SEC_UID (n : Nat) : Nat := 0x30010 + 0x4 * n
def Fld.SEC_UID_UID (n : Nat) : Fld := ⟨Reg.SEC_UID n, 0, 32⟩
def Reg.SEC_CLASS : Nat := 0x30020
def Fld.SEC_CLASS_CLASS : Fld := ⟨Reg.SEC_CLASS, 0, 32⟩
def Reg.SEC_ACCESS : Nat := 0x30030
def Fld.SEC_ACCESS_HOST_PWR : Fld := ⟨Reg.SEC_ACCESS, 31, 1⟩
def Fld.SEC_ACCESS_HOST_RESET : Fld := ⟨Reg.SEC_ACCESS, 30, 1⟩
def Fld.SEC_ACCESS_HOST_WR : Fld := ⟨Reg.SEC_ACCESS, 0, 23⟩
def Reg.SEC_ZEROIZE : Nat := 0x30040
def Fld.SEC_ZEROIZE_KEY : Fld := ⟨Reg.SEC_ZEROIZE, 16, 16⟩
def Fld.SEC_ZEROIZE_GO : Fld := ⟨Reg.SEC_ZEROIZE, 0, 1⟩
def Reg.SEC_CERT_LEN : Nat := 0x30050
def Fld.SEC_CERT_LEN_LEN : Fld := ⟨Reg.SEC_CERT_LEN, 0, 12⟩
def Reg.SEC_DEBUG_CHAL (n : Nat) : Nat := 0x30100 + 0x4 * n
def Fld.SEC_DEBUG_CHAL_CHAL (n : Nat) : Fld := ⟨Reg.SEC_DEBUG_CHAL n, 0, 32⟩
def Reg.SEC_DEBUG_TOKEN (n : Nat) : Nat := 0x30200 + 0x4 * n
def Fld.SEC_DEBUG_TOKEN_DATA (n : Nat) : Fld := ⟨Reg.SEC_DEBUG_TOKEN n, 0, 32⟩
def Reg.SEC_DEBUG_CMD : Nat := 0x30300
def Fld.SEC_DEBUG_CMD_KEY : Fld := ⟨Reg.SEC_DEBUG_CMD, 16, 16⟩
def Fld.SEC_DEBUG_CMD_CHECK : Fld := ⟨Reg.SEC_DEBUG_CMD, 0, 1⟩
def Reg.SEC_KEY_ATTR (n : Nat) : Nat := 0x31000 + 0x4 * n
def Fld.SEC_KEY_ATTR_VALID (n : Nat) : Fld := ⟨Reg.SEC_KEY_ATTR n, 31, 1⟩
def Fld.SEC_KEY_ATTR_LOCK (n : Nat) : Fld := ⟨Reg.SEC_KEY_ATTR n, 30, 1⟩
def Fld.SEC_KEY_ATTR_KEK (n : Nat) : Fld := ⟨Reg.SEC_KEY_ATTR n, 29, 1⟩
def Fld.SEC_KEY_ATTR_ALG (n : Nat) : Fld := ⟨Reg.SEC_KEY_ATTR n, 24, 2⟩
def Fld.SEC_KEY_ATTR_USAGE (n : Nat) : Fld := ⟨Reg.SEC_KEY_ATTR n, 16, 8⟩
def Fld.SEC_KEY_ATTR_USE (n : Nat) : Fld := ⟨Reg.SEC_KEY_ATTR n, 0, 11⟩
def Reg.SEC_CERT (n : Nat) : Nat := 0x34000 + 0x4 * n
def Fld.SEC_CERT_DATA (n : Nat) : Fld := ⟨Reg.SEC_CERT n, 0, 32⟩
def Reg.CCX_STATUS : Nat := 0x40000
def Fld.CCX_STATUS_RESTART : Fld := ⟨Reg.CCX_STATUS, 31, 1⟩
def Fld.CCX_STATUS_CKPT_VALID : Fld := ⟨Reg.CCX_STATUS, 30, 1⟩
def Fld.CCX_STATUS_CUR_BUF : Fld := ⟨Reg.CCX_STATUS, 29, 1⟩
def Fld.CCX_STATUS_LAST_GROUP : Fld := ⟨Reg.CCX_STATUS, 24, 4⟩
def Fld.CCX_STATUS_LAST_CAUSE : Fld := ⟨Reg.CCX_STATUS, 20, 4⟩
def Fld.CCX_STATUS_RESTARTS : Fld := ⟨Reg.CCX_STATUS, 0, 16⟩
def Reg.CCX_CFG : Nat := 0x40004
def Fld.CCX_CFG_CKPT_MS : Fld := ⟨Reg.CCX_CFG, 0, 7⟩
def Reg.CCX_CKPT_TIME_LO : Nat := 0x40008
def Fld.CCX_CKPT_TIME_LO_T64_LO : Fld := ⟨Reg.CCX_CKPT_TIME_LO, 0, 32⟩
def Reg.CCX_CKPT_TIME_HI : Nat := 0x4000C
def Fld.CCX_CKPT_TIME_HI_T64_HI : Fld := ⟨Reg.CCX_CKPT_TIME_HI, 0, 32⟩
def Reg.CCX_TEST_STATUS : Nat := 0x40010
def Fld.CCX_TEST_STATUS_START_PASS : Fld := ⟨Reg.CCX_TEST_STATUS, 31, 1⟩
def Fld.CCX_TEST_STATUS_FAIL : Fld := ⟨Reg.CCX_TEST_STATUS, 30, 1⟩
def Fld.CCX_TEST_STATUS_LAST_INJ : Fld := ⟨Reg.CCX_TEST_STATUS, 16, 6⟩
def Fld.CCX_TEST_STATUS_RUNS : Fld := ⟨Reg.CCX_TEST_STATUS, 0, 16⟩
def Reg.CCX_FW_VERSION : Nat := 0x40020
def Fld.CCX_FW_VERSION_MAJOR : Fld := ⟨Reg.CCX_FW_VERSION, 16, 16⟩
def Fld.CCX_FW_VERSION_MINOR : Fld := ⟨Reg.CCX_FW_VERSION, 0, 16⟩
def Reg.CCX_MBOX_CFG : Nat := 0x40030
def Fld.CCX_MBOX_CFG_EN : Fld := ⟨Reg.CCX_MBOX_CFG, 31, 1⟩
def Fld.CCX_MBOX_CFG_RESP_HATCH : Fld := ⟨Reg.CCX_MBOX_CFG, 8, 6⟩
def Fld.CCX_MBOX_CFG_REQ_HATCH : Fld := ⟨Reg.CCX_MBOX_CFG, 0, 6⟩
def Reg.CCX_INT : Nat := 0x40040
def Fld.CCX_INT_EN : Fld := ⟨Reg.CCX_INT, 16, 3⟩
def Fld.CCX_INT_TEST_FAIL : Fld := ⟨Reg.CCX_INT, 2, 1⟩
def Fld.CCX_INT_RAIL : Fld := ⟨Reg.CCX_INT, 1, 1⟩
def Fld.CCX_INT_RESTART : Fld := ⟨Reg.CCX_INT, 0, 1⟩
def Reg.CCX_GROUP (n : Nat) : Nat := 0x40100 + 0x4 * n
def Fld.CCX_GROUP_COUNT (n : Nat) : Fld := ⟨Reg.CCX_GROUP n, 0, 16⟩
def Reg.FLT_PIN_CFG : Nat := 0x50000
def Fld.FLT_PIN_CFG_HOLD : Fld := ⟨Reg.FLT_PIN_CFG, 31, 1⟩
def Fld.FLT_PIN_CFG_MINW : Fld := ⟨Reg.FLT_PIN_CFG, 0, 14⟩
def Reg.FLT_PIN_CMD : Nat := 0x50004
def Fld.FLT_PIN_CMD_KEY : Fld := ⟨Reg.FLT_PIN_CMD, 16, 16⟩
def Fld.FLT_PIN_CMD_RELEASE : Fld := ⟨Reg.FLT_PIN_CMD, 0, 1⟩
def Reg.FLT_PIN_STATUS : Nat := 0x50008
def Fld.FLT_PIN_STATUS_ASSERTED : Fld := ⟨Reg.FLT_PIN_STATUS, 31, 1⟩
def Fld.FLT_PIN_STATUS_RESET_HOLD : Fld := ⟨Reg.FLT_PIN_STATUS, 30, 1⟩
def Fld.FLT_PIN_STATUS_TIMING : Fld := ⟨Reg.FLT_PIN_STATUS, 29, 1⟩
def Fld.FLT_PIN_STATUS_REFUSED : Fld := ⟨Reg.FLT_PIN_STATUS, 28, 1⟩
def Fld.FLT_PIN_STATUS_SOURCE : Fld := ⟨Reg.FLT_PIN_STATUS, 0, 10⟩
def Reg.FLT_CLEAR : Nat := 0x5000C
def Fld.FLT_CLEAR_KEY : Fld := ⟨Reg.FLT_CLEAR, 16, 16⟩
def Fld.FLT_CLEAR_ALL : Fld := ⟨Reg.FLT_CLEAR, 15, 1⟩
def Fld.FLT_CLEAR_COUNT : Fld := ⟨Reg.FLT_CLEAR, 14, 1⟩
def Fld.FLT_CLEAR_LAST : Fld := ⟨Reg.FLT_CLEAR, 13, 1⟩
def Fld.FLT_CLEAR_PEND : Fld := ⟨Reg.FLT_CLEAR, 12, 1⟩
def Fld.FLT_CLEAR_SOURCE : Fld := ⟨Reg.FLT_CLEAR, 0, 10⟩
def Reg.FLT_NEXT : Nat := 0x50010
def Fld.FLT_NEXT_VALID : Fld := ⟨Reg.FLT_NEXT, 31, 1⟩
def Fld.FLT_NEXT_SOURCE : Fld := ⟨Reg.FLT_NEXT, 0, 10⟩
def Reg.FLT_PEND (n : Nat) : Nat := 0x50100 + 0x4 * n
def Fld.FLT_PEND_PEND (n : Nat) : Fld := ⟨Reg.FLT_PEND n, 0, 32⟩
def Reg.FLT_SRC_CFG (n : Nat) : Nat := 0x54000 + 0x4 * n
def Fld.FLT_SRC_CFG_PIN (n : Nat) : Fld := ⟨Reg.FLT_SRC_CFG n, 4, 1⟩
def Fld.FLT_SRC_CFG_CHIP_RESET (n : Nat) : Fld := ⟨Reg.FLT_SRC_CFG n, 3, 1⟩
def Fld.FLT_SRC_CFG_BLOCK_RESET (n : Nat) : Fld := ⟨Reg.FLT_SRC_CFG n, 2, 1⟩
def Fld.FLT_SRC_CFG_NMI (n : Nat) : Fld := ⟨Reg.FLT_SRC_CFG n, 1, 1⟩
def Fld.FLT_SRC_CFG_INT (n : Nat) : Fld := ⟨Reg.FLT_SRC_CFG n, 0, 1⟩
def Reg.FLT_SRC_STATUS (n : Nat) : Nat := 0x58000 + 0x20 * n
def Fld.FLT_SRC_STATUS_ACTIVE (n : Nat) : Fld := ⟨Reg.FLT_SRC_STATUS n, 31, 1⟩
def Fld.FLT_SRC_STATUS_PENDING (n : Nat) : Fld := ⟨Reg.FLT_SRC_STATUS n, 30, 1⟩
def Fld.FLT_SRC_STATUS_FIRST_VALID (n : Nat) : Fld := ⟨Reg.FLT_SRC_STATUS n, 29, 1⟩
def Fld.FLT_SRC_STATUS_LAST_VALID (n : Nat) : Fld := ⟨Reg.FLT_SRC_STATUS n, 28, 1⟩
def Fld.FLT_SRC_STATUS_LOST (n : Nat) : Fld := ⟨Reg.FLT_SRC_STATUS n, 27, 1⟩
def Fld.FLT_SRC_STATUS_MODE (n : Nat) : Fld := ⟨Reg.FLT_SRC_STATUS n, 26, 1⟩
def Fld.FLT_SRC_STATUS_FIRST_KIND (n : Nat) : Fld := ⟨Reg.FLT_SRC_STATUS n, 16, 6⟩
def Fld.FLT_SRC_STATUS_COUNT (n : Nat) : Fld := ⟨Reg.FLT_SRC_STATUS n, 0, 16⟩
def Reg.FLT_SRC_FIRST_ADDR (n : Nat) : Nat := 0x58004 + 0x20 * n
def Fld.FLT_SRC_FIRST_ADDR_ADDR (n : Nat) : Fld := ⟨Reg.FLT_SRC_FIRST_ADDR n, 0, 32⟩
def Reg.FLT_SRC_FIRST_TIME_LO (n : Nat) : Nat := 0x58008 + 0x20 * n
def Fld.FLT_SRC_FIRST_TIME_LO_T64_LO (n : Nat) : Fld := ⟨Reg.FLT_SRC_FIRST_TIME_LO n, 0, 32⟩
def Reg.FLT_SRC_FIRST_TIME_HI (n : Nat) : Nat := 0x5800C + 0x20 * n
def Fld.FLT_SRC_FIRST_TIME_HI_T64_HI (n : Nat) : Fld := ⟨Reg.FLT_SRC_FIRST_TIME_HI n, 0, 32⟩
def Reg.FLT_SRC_LAST_KIND (n : Nat) : Nat := 0x58010 + 0x20 * n
def Fld.FLT_SRC_LAST_KIND_KIND (n : Nat) : Fld := ⟨Reg.FLT_SRC_LAST_KIND n, 0, 6⟩
def Reg.FLT_SRC_LAST_ADDR (n : Nat) : Nat := 0x58014 + 0x20 * n
def Fld.FLT_SRC_LAST_ADDR_ADDR (n : Nat) : Fld := ⟨Reg.FLT_SRC_LAST_ADDR n, 0, 32⟩
def Reg.FLT_SRC_LAST_TIME_LO (n : Nat) : Nat := 0x58018 + 0x20 * n
def Fld.FLT_SRC_LAST_TIME_LO_T64_LO (n : Nat) : Fld := ⟨Reg.FLT_SRC_LAST_TIME_LO n, 0, 32⟩
def Reg.FLT_SRC_LAST_TIME_HI (n : Nat) : Nat := 0x5801C + 0x20 * n
def Fld.FLT_SRC_LAST_TIME_HI_T64_HI (n : Nat) : Fld := ⟨Reg.FLT_SRC_LAST_TIME_HI n, 0, 32⟩
def Reg.FLT_ACT (n : Nat) : Nat := 0x50180 + 0x4 * n
def Fld.FLT_ACT_ACT (n : Nat) : Fld := ⟨Reg.FLT_ACT n, 0, 32⟩
def Reg.PAIR_CFG : Nat := 0x60000
def Fld.PAIR_CFG_SELFTEST : Fld := ⟨Reg.PAIR_CFG, 26, 6⟩
def Fld.PAIR_CFG_CRATE_MS : Fld := ⟨Reg.PAIR_CFG, 16, 10⟩
def Fld.PAIR_CFG_LEASE_MS : Fld := ⟨Reg.PAIR_CFG, 0, 9⟩
def Reg.PAIR_AGE_CFG : Nat := 0x60004
def Fld.PAIR_AGE_CFG_SA_MAX_AGE_MS : Fld := ⟨Reg.PAIR_AGE_CFG, 16, 16⟩
def Fld.PAIR_AGE_CFG_STALE_MS : Fld := ⟨Reg.PAIR_AGE_CFG, 0, 16⟩
def Reg.PAIR_MISC : Nat := 0x60008
def Fld.PAIR_MISC_PARTNER_CHECK : Fld := ⟨Reg.PAIR_MISC, 31, 1⟩
def Fld.PAIR_MISC_CRATE_BASE_MIB : Fld := ⟨Reg.PAIR_MISC, 16, 15⟩
def Fld.PAIR_MISC_PAIR_SLOT : Fld := ⟨Reg.PAIR_MISC, 8, 8⟩
def Fld.PAIR_MISC_REF_SLOT : Fld := ⟨Reg.PAIR_MISC, 0, 8⟩
def Reg.PAIR_ID : Nat := 0x6000C
def Fld.PAIR_ID_ID : Fld := ⟨Reg.PAIR_ID, 0, 32⟩
def Reg.PAIR_PARTNER_UID (n : Nat) : Nat := 0x60010 + 0x4 * n
def Fld.PAIR_PARTNER_UID_UID (n : Nat) : Fld := ⟨Reg.PAIR_PARTNER_UID n, 0, 32⟩
def Reg.PAIR_STATUS : Nat := 0x60040
def Fld.PAIR_STATUS_LINK_UP : Fld := ⟨Reg.PAIR_STATUS, 31, 1⟩
def Fld.PAIR_STATUS_STALE : Fld := ⟨Reg.PAIR_STATUS, 30, 1⟩
def Fld.PAIR_STATUS_SIDE_CONFLICT : Fld := ⟨Reg.PAIR_STATUS, 29, 1⟩
def Fld.PAIR_STATUS_CONFIG_MATCH : Fld := ⟨Reg.PAIR_STATUS, 28, 1⟩
def Fld.PAIR_STATUS_SELFTEST_OK : Fld := ⟨Reg.PAIR_STATUS, 27, 1⟩
def Fld.PAIR_STATUS_HOLDER : Fld := ⟨Reg.PAIR_STATUS, 22, 2⟩
def Reg.PAIR_TERM : Nat := 0x60044
def Fld.PAIR_TERM_TERM : Fld := ⟨Reg.PAIR_TERM, 0, 32⟩
def Reg.PAIR_LEASE_LEFT : Nat := 0x60048
def Fld.PAIR_LEASE_LEFT_US : Fld := ⟨Reg.PAIR_LEASE_LEFT, 0, 32⟩
def Reg.PAIR_CRATE_AGE : Nat := 0x6004C
def Fld.PAIR_CRATE_AGE_US : Fld := ⟨Reg.PAIR_CRATE_AGE, 0, 32⟩
def Reg.PAIR_GAP : Nat := 0x60050
def Fld.PAIR_GAP_CYCLES : Fld := ⟨Reg.PAIR_GAP, 0, 32⟩
def Reg.PAIR_CMD : Nat := 0x60060
def Fld.PAIR_CMD_KEY : Fld := ⟨Reg.PAIR_CMD, 16, 16⟩
def Fld.PAIR_CMD_ACTION : Fld := ⟨Reg.PAIR_CMD, 0, 2⟩
def Reg.PAIR_INT : Nat := 0x60070
def Fld.PAIR_INT_EN : Fld := ⟨Reg.PAIR_INT, 16, 5⟩
def Fld.PAIR_INT_STALE : Fld := ⟨Reg.PAIR_INT, 4, 1⟩
def Fld.PAIR_INT_LINK_UP : Fld := ⟨Reg.PAIR_INT, 3, 1⟩
def Fld.PAIR_INT_LINK_DOWN : Fld := ⟨Reg.PAIR_INT, 2, 1⟩
def Fld.PAIR_INT_LEASE_LOST : Fld := ⟨Reg.PAIR_INT, 1, 1⟩
def Fld.PAIR_INT_TAKEOVER : Fld := ⟨Reg.PAIR_INT, 0, 1⟩
def Reg.TIM_STATUS : Nat := 0x70000
def Fld.TIM_STATUS_STEP_CODE : Fld := ⟨Reg.TIM_STATUS, 9, 3⟩
def Fld.TIM_STATUS_STEP_PENDING : Fld := ⟨Reg.TIM_STATUS, 8, 1⟩
def Fld.TIM_STATUS_HEALTHY : Fld := ⟨Reg.TIM_STATUS, 4, 2⟩
def Fld.TIM_STATUS_SOURCE : Fld := ⟨Reg.TIM_STATUS, 3, 1⟩
def Fld.TIM_STATUS_STATE : Fld := ⟨Reg.TIM_STATUS, 0, 3⟩
def Reg.TIM_WC_CFG : Nat := 0x70004
def Fld.TIM_WC_CFG_SOURCE : Fld := ⟨Reg.TIM_WC_CFG, 31, 1⟩
def Fld.TIM_WC_CFG_SLEW_LIMIT : Fld := ⟨Reg.TIM_WC_CFG, 12, 10⟩
def Fld.TIM_WC_CFG_SLEW_WIN : Fld := ⟨Reg.TIM_WC_CFG, 0, 12⟩
def Reg.TIM_WC_CMD : Nat := 0x70008
def Fld.TIM_WC_CMD_KEY : Fld := ⟨Reg.TIM_WC_CMD, 16, 16⟩
def Fld.TIM_WC_CMD_SRC : Fld := ⟨Reg.TIM_WC_CMD, 8, 1⟩
def Fld.TIM_WC_CMD_ACTION : Fld := ⟨Reg.TIM_WC_CMD, 0, 2⟩
def Reg.TIM_WC_TIME_NS : Nat := 0x70010
def Fld.TIM_WC_TIME_NS_NS : Fld := ⟨Reg.TIM_WC_TIME_NS, 0, 32⟩
def Reg.TIM_WC_TIME_SEC : Nat := 0x70014
def Fld.TIM_WC_TIME_SEC_SEC_LO : Fld := ⟨Reg.TIM_WC_TIME_SEC, 0, 32⟩
def Reg.TIM_WC_TIME_HI : Nat := 0x70018
def Fld.TIM_WC_TIME_HI_FRAC : Fld := ⟨Reg.TIM_WC_TIME_HI, 16, 16⟩
def Fld.TIM_WC_TIME_HI_SEC_HI : Fld := ⟨Reg.TIM_WC_TIME_HI, 0, 16⟩
def Reg.TIM_INT : Nat := 0x70020
def Fld.TIM_INT_EN : Fld := ⟨Reg.TIM_INT, 16, 8⟩
def Fld.TIM_INT_QERR : Fld := ⟨Reg.TIM_INT, 7, 1⟩
def Fld.TIM_INT_TRIG : Fld := ⟨Reg.TIM_INT, 6, 1⟩
def Fld.TIM_INT_CAPT : Fld := ⟨Reg.TIM_INT, 5, 1⟩
def Fld.TIM_INT_TXTS : Fld := ⟨Reg.TIM_INT, 4, 1⟩
def Fld.TIM_INT_STEP_DONE : Fld := ⟨Reg.TIM_INT, 3, 1⟩
def Fld.TIM_INT_HOLDOVER : Fld := ⟨Reg.TIM_INT, 2, 1⟩
def Fld.TIM_INT_DOMAIN_CHANGED : Fld := ⟨Reg.TIM_INT, 1, 1⟩
def Fld.TIM_INT_DISCONT : Fld := ⟨Reg.TIM_INT, 0, 1⟩
def Reg.TIM_ODO_CFG : Nat := 0x70030
def Fld.TIM_ODO_CFG_REVERSE_MODE : Fld := ⟨Reg.TIM_ODO_CFG, 3, 1⟩
def Fld.TIM_ODO_CFG_INVERT : Fld := ⟨Reg.TIM_ODO_CFG, 2, 1⟩
def Fld.TIM_ODO_CFG_MODE : Fld := ⟨Reg.TIM_ODO_CFG, 0, 2⟩
def Reg.TIM_ODO_SCALE : Nat := 0x70034
def Fld.TIM_ODO_SCALE_SCALE : Fld := ⟨Reg.TIM_ODO_SCALE, 0, 32⟩
def Reg.TIM_ODO_D48_LO : Nat := 0x70038
def Fld.TIM_ODO_D48_LO_D48_LO : Fld := ⟨Reg.TIM_ODO_D48_LO, 0, 32⟩
def Reg.TIM_ODO_D48_HI : Nat := 0x7003C
def Fld.TIM_ODO_D48_HI_D48_HI : Fld := ⟨Reg.TIM_ODO_D48_HI, 0, 16⟩
def Reg.TIM_ODO_REVERSE : Nat := 0x70040
def Fld.TIM_ODO_REVERSE_MM : Fld := ⟨Reg.TIM_ODO_REVERSE, 0, 32⟩
def Reg.TIM_DOM_CFG (n : Nat) : Nat := 0x70100 + 0x40 * n
def Fld.TIM_DOM_CFG_EN (n : Nat) : Fld := ⟨Reg.TIM_DOM_CFG n, 31, 1⟩
def Fld.TIM_DOM_CFG_HEALTHY (n : Nat) : Fld := ⟨Reg.TIM_DOM_CFG n, 30, 1⟩
def Fld.TIM_DOM_CFG_REFRESH (n : Nat) : Fld := ⟨Reg.TIM_DOM_CFG n, 29, 1⟩
def Fld.TIM_DOM_CFG_TIMEOUT (n : Nat) : Fld := ⟨Reg.TIM_DOM_CFG n, 12, 12⟩
def Fld.TIM_DOM_CFG_NUMBER (n : Nat) : Fld := ⟨Reg.TIM_DOM_CFG n, 0, 8⟩
def Reg.TIM_DOM_RATE (n : Nat) : Nat := 0x70104 + 0x40 * n
def Fld.TIM_DOM_RATE_RATE (n : Nat) : Fld := ⟨Reg.TIM_DOM_RATE n, 0, 32⟩
def Reg.TIM_DOM_ADJ_LO (n : Nat) : Nat := 0x70108 + 0x40 * n
def Fld.TIM_DOM_ADJ_LO_ADJ_LO (n : Nat) : Fld := ⟨Reg.TIM_DOM_ADJ_LO n, 0, 32⟩
def Reg.TIM_DOM_ADJ_HI (n : Nat) : Nat := 0x7010C + 0x40 * n
def Fld.TIM_DOM_ADJ_HI_ADJ_HI (n : Nat) : Fld := ⟨Reg.TIM_DOM_ADJ_HI n, 0, 32⟩
def Reg.TIM_DOM_TIME_NS (n : Nat) : Nat := 0x70110 + 0x40 * n
def Fld.TIM_DOM_TIME_NS_NS (n : Nat) : Fld := ⟨Reg.TIM_DOM_TIME_NS n, 0, 32⟩
def Reg.TIM_DOM_TIME_SEC (n : Nat) : Nat := 0x70114 + 0x40 * n
def Fld.TIM_DOM_TIME_SEC_SEC_LO (n : Nat) : Fld := ⟨Reg.TIM_DOM_TIME_SEC n, 0, 32⟩
def Reg.TIM_DOM_TIME_HI (n : Nat) : Nat := 0x70118 + 0x40 * n
def Fld.TIM_DOM_TIME_HI_FRAC (n : Nat) : Fld := ⟨Reg.TIM_DOM_TIME_HI n, 16, 16⟩
def Fld.TIM_DOM_TIME_HI_SEC_HI (n : Nat) : Fld := ⟨Reg.TIM_DOM_TIME_HI n, 0, 16⟩
def Reg.TIM_TXTS0 : Nat := 0x70180
def Fld.TIM_TXTS0_VALID : Fld := ⟨Reg.TIM_TXTS0, 31, 1⟩
def Fld.TIM_TXTS0_CLOCK : Fld := ⟨Reg.TIM_TXTS0, 29, 2⟩
def Fld.TIM_TXTS0_PORT : Fld := ⟨Reg.TIM_TXTS0, 24, 5⟩
def Fld.TIM_TXTS0_MSGTYPE : Fld := ⟨Reg.TIM_TXTS0, 20, 4⟩
def Fld.TIM_TXTS0_SEQ_ID : Fld := ⟨Reg.TIM_TXTS0, 0, 16⟩
def Reg.TIM_TXTS1 : Nat := 0x70184
def Fld.TIM_TXTS1_NS : Fld := ⟨Reg.TIM_TXTS1, 0, 32⟩
def Reg.TIM_TXTS2 : Nat := 0x70188
def Fld.TIM_TXTS2_SEC_LO : Fld := ⟨Reg.TIM_TXTS2, 0, 32⟩
def Reg.TIM_TXTS3 : Nat := 0x7018C
def Fld.TIM_TXTS3_FRAC : Fld := ⟨Reg.TIM_TXTS3, 16, 16⟩
def Fld.TIM_TXTS3_SEC_HI : Fld := ⟨Reg.TIM_TXTS3, 0, 16⟩
def Reg.TIM_TXTS4 : Nat := 0x70190
def Fld.TIM_TXTS4_DOMAIN : Fld := ⟨Reg.TIM_TXTS4, 0, 8⟩
def Reg.TIM_PORT_CFG (n : Nat) : Nat := 0x70200 + 0x4 * n
def Fld.TIM_PORT_CFG_ONE_STEP_EN (n : Nat) : Fld := ⟨Reg.TIM_PORT_CFG n, 31, 1⟩
def Fld.TIM_PORT_CFG_RX_INSERT (n : Nat) : Fld := ⟨Reg.TIM_PORT_CFG n, 30, 1⟩
def Fld.TIM_PORT_CFG_RX_LAT (n : Nat) : Fld := ⟨Reg.TIM_PORT_CFG n, 15, 15⟩
def Fld.TIM_PORT_CFG_TX_LAT (n : Nat) : Fld := ⟨Reg.TIM_PORT_CFG n, 0, 15⟩
def Reg.TIM_TRIG_CFG (n : Nat) : Nat := 0x70800 + 0x20 * n
def Fld.TIM_TRIG_CFG_EN (n : Nat) : Fld := ⟨Reg.TIM_TRIG_CFG n, 31, 1⟩
def Fld.TIM_TRIG_CFG_OUT_EN (n : Nat) : Fld := ⟨Reg.TIM_TRIG_CFG n, 30, 1⟩
def Fld.TIM_TRIG_CFG_POL (n : Nat) : Fld := ⟨Reg.TIM_TRIG_CFG n, 29, 1⟩
def Fld.TIM_TRIG_CFG_PERIODIC (n : Nat) : Fld := ⟨Reg.TIM_TRIG_CFG n, 28, 1⟩
def Fld.TIM_TRIG_CFG_BASE (n : Nat) : Fld := ⟨Reg.TIM_TRIG_CFG n, 26, 2⟩
def Reg.TIM_TRIG_TARGET_LO (n : Nat) : Nat := 0x70804 + 0x20 * n
def Fld.TIM_TRIG_TARGET_LO_TARGET_LO (n : Nat) : Fld := ⟨Reg.TIM_TRIG_TARGET_LO n, 0, 32⟩
def Reg.TIM_TRIG_TARGET_HI (n : Nat) : Nat := 0x70808 + 0x20 * n
def Fld.TIM_TRIG_TARGET_HI_TARGET_HI (n : Nat) : Fld := ⟨Reg.TIM_TRIG_TARGET_HI n, 0, 32⟩
def Reg.TIM_TRIG_PERIOD (n : Nat) : Nat := 0x7080C + 0x20 * n
def Fld.TIM_TRIG_PERIOD_PERIOD (n : Nat) : Fld := ⟨Reg.TIM_TRIG_PERIOD n, 0, 32⟩
def Reg.TIM_TRIG_WIDTH (n : Nat) : Nat := 0x70810 + 0x20 * n
def Fld.TIM_TRIG_WIDTH_WIDTH (n : Nat) : Fld := ⟨Reg.TIM_TRIG_WIDTH n, 0, 32⟩
def Reg.TIM_TRIG_STATUS (n : Nat) : Nat := 0x70814 + 0x20 * n
def Fld.TIM_TRIG_STATUS_FIRED (n : Nat) : Fld := ⟨Reg.TIM_TRIG_STATUS n, 31, 1⟩
def Fld.TIM_TRIG_STATUS_LATE (n : Nat) : Fld := ⟨Reg.TIM_TRIG_STATUS n, 30, 1⟩
def Fld.TIM_TRIG_STATUS_MISSED (n : Nat) : Fld := ⟨Reg.TIM_TRIG_STATUS n, 0, 16⟩
def Reg.TIM_CAPT_CFG (n : Nat) : Nat := 0x70A00 + 0x20 * n
def Fld.TIM_CAPT_CFG_EN (n : Nat) : Fld := ⟨Reg.TIM_CAPT_CFG n, 31, 1⟩
def Fld.TIM_CAPT_CFG_EDGE (n : Nat) : Fld := ⟨Reg.TIM_CAPT_CFG n, 29, 2⟩
def Fld.TIM_CAPT_CFG_BASE (n : Nat) : Fld := ⟨Reg.TIM_CAPT_CFG n, 27, 2⟩
def Reg.TIM_CAPT_TIME_LO (n : Nat) : Nat := 0x70A04 + 0x20 * n
def Fld.TIM_CAPT_TIME_LO_T64_LO (n : Nat) : Fld := ⟨Reg.TIM_CAPT_TIME_LO n, 0, 32⟩
def Reg.TIM_CAPT_TIME_HI (n : Nat) : Nat := 0x70A08 + 0x20 * n
def Fld.TIM_CAPT_TIME_HI_T64_HI (n : Nat) : Fld := ⟨Reg.TIM_CAPT_TIME_HI n, 0, 32⟩
def Reg.TIM_CAPT_DIST_LO (n : Nat) : Nat := 0x70A0C + 0x20 * n
def Fld.TIM_CAPT_DIST_LO_D48_LO (n : Nat) : Fld := ⟨Reg.TIM_CAPT_DIST_LO n, 0, 32⟩
def Reg.TIM_CAPT_DIST_HI (n : Nat) : Nat := 0x70A10 + 0x20 * n
def Fld.TIM_CAPT_DIST_HI_VALID (n : Nat) : Fld := ⟨Reg.TIM_CAPT_DIST_HI n, 31, 1⟩
def Fld.TIM_CAPT_DIST_HI_RISE (n : Nat) : Fld := ⟨Reg.TIM_CAPT_DIST_HI n, 30, 1⟩
def Fld.TIM_CAPT_DIST_HI_LOST (n : Nat) : Fld := ⟨Reg.TIM_CAPT_DIST_HI n, 29, 1⟩
def Fld.TIM_CAPT_DIST_HI_D48_HI (n : Nat) : Fld := ⟨Reg.TIM_CAPT_DIST_HI n, 0, 16⟩
def Reg.GAT_SEL : Nat := 0x80000
def Fld.GAT_SEL_IN_LIST : Fld := ⟨Reg.GAT_SEL, 16, 6⟩
def Fld.GAT_SEL_EG_LIST : Fld := ⟨Reg.GAT_SEL, 0, 5⟩
def Reg.GAT_INT : Nat := 0x80004
def Fld.GAT_INT_EN : Fld := ⟨Reg.GAT_INT, 16, 3⟩
def Fld.GAT_INT_ECC : Fld := ⟨Reg.GAT_INT, 2, 1⟩
def Fld.GAT_INT_REFUSED : Fld := ⟨Reg.GAT_INT, 1, 1⟩
def Fld.GAT_INT_CHANGE : Fld := ⟨Reg.GAT_INT, 0, 1⟩
def Reg.GAT_ADMIN_CFG (n : Nat) : Nat := 0x80100 + 0x40 * n
def Fld.GAT_ADMIN_CFG_ENABLE (n : Nat) : Fld := ⟨Reg.GAT_ADMIN_CFG n, 31, 1⟩
def Fld.GAT_ADMIN_CFG_ADMIN_LEN (n : Nat) : Fld := ⟨Reg.GAT_ADMIN_CFG n, 0, 11⟩
def Reg.GAT_ADMIN_BASE_LO (n : Nat) : Nat := 0x80104 + 0x40 * n
def Fld.GAT_ADMIN_BASE_LO_BASE_LO (n : Nat) : Fld := ⟨Reg.GAT_ADMIN_BASE_LO n, 0, 32⟩
def Reg.GAT_ADMIN_BASE_HI (n : Nat) : Nat := 0x80108 + 0x40 * n
def Fld.GAT_ADMIN_BASE_HI_BASE_HI (n : Nat) : Fld := ⟨Reg.GAT_ADMIN_BASE_HI n, 0, 32⟩
def Reg.GAT_ADMIN_CYCLE (n : Nat) : Nat := 0x8010C + 0x40 * n
def Fld.GAT_ADMIN_CYCLE_CYCLE (n : Nat) : Fld := ⟨Reg.GAT_ADMIN_CYCLE n, 0, 32⟩
def Reg.GAT_CMD (n : Nat) : Nat := 0x80110 + 0x40 * n
def Fld.GAT_CMD_KEY (n : Nat) : Fld := ⟨Reg.GAT_CMD n, 16, 16⟩
def Fld.GAT_CMD_ACTION (n : Nat) : Fld := ⟨Reg.GAT_CMD n, 0, 2⟩
def Reg.GAT_STATUS (n : Nat) : Nat := 0x80114 + 0x40 * n
def Fld.GAT_STATUS_PENDING (n : Nat) : Fld := ⟨Reg.GAT_STATUS n, 31, 1⟩
def Fld.GAT_STATUS_BASE_PAST (n : Nat) : Fld := ⟨Reg.GAT_STATUS n, 30, 1⟩
def Fld.GAT_STATUS_RESTARTED (n : Nat) : Fld := ⟨Reg.GAT_STATUS n, 29, 1⟩
def Fld.GAT_STATUS_ECC (n : Nat) : Fld := ⟨Reg.GAT_STATUS n, 28, 1⟩
def Fld.GAT_STATUS_REFUSED (n : Nat) : Fld := ⟨Reg.GAT_STATUS n, 27, 1⟩
def Fld.GAT_STATUS_REFUSE_CODE (n : Nat) : Fld := ⟨Reg.GAT_STATUS n, 24, 3⟩
def Fld.GAT_STATUS_OPER_LEN (n : Nat) : Fld := ⟨Reg.GAT_STATUS n, 12, 11⟩
def Fld.GAT_STATUS_ENTRY (n : Nat) : Fld := ⟨Reg.GAT_STATUS n, 0, 10⟩
def Reg.GAT_CHANGE_LO (n : Nat) : Nat := 0x80118 + 0x40 * n
def Fld.GAT_CHANGE_LO_CHANGE_LO (n : Nat) : Fld := ⟨Reg.GAT_CHANGE_LO n, 0, 32⟩
def Reg.GAT_CHANGE_HI (n : Nat) : Nat := 0x8011C + 0x40 * n
def Fld.GAT_CHANGE_HI_CHANGE_HI (n : Nat) : Fld := ⟨Reg.GAT_CHANGE_HI n, 0, 32⟩
def Reg.GAT_N (n : Nat) : Nat := 0x80120 + 0x40 * n
def Fld.GAT_N_N (n : Nat) : Fld := ⟨Reg.GAT_N n, 0, 32⟩
def Reg.GAT_OPER_BASE_LO (n : Nat) : Nat := 0x80124 + 0x40 * n
def Fld.GAT_OPER_BASE_LO_BASE_LO (n : Nat) : Fld := ⟨Reg.GAT_OPER_BASE_LO n, 0, 32⟩
def Reg.GAT_OPER_BASE_HI (n : Nat) : Nat := 0x80128 + 0x40 * n
def Fld.GAT_OPER_BASE_HI_BASE_HI (n : Nat) : Fld := ⟨Reg.GAT_OPER_BASE_HI n, 0, 32⟩
def Reg.GAT_OPER_CYCLE (n : Nat) : Nat := 0x8012C + 0x40 * n
def Fld.GAT_OPER_CYCLE_CYCLE (n : Nat) : Fld := ⟨Reg.GAT_OPER_CYCLE n, 0, 32⟩
def Reg.GAT_GATES (n : Nat) : Nat := 0x80130 + 0x40 * n
def Fld.GAT_GATES_IPV_EN (n : Nat) : Fld := ⟨Reg.GAT_GATES n, 15, 1⟩
def Fld.GAT_GATES_IPV (n : Nat) : Fld := ⟨Reg.GAT_GATES n, 12, 3⟩
def Fld.GAT_GATES_OPEN (n : Nat) : Fld := ⟨Reg.GAT_GATES n, 8, 1⟩
def Fld.GAT_GATES_GATES (n : Nat) : Fld := ⟨Reg.GAT_GATES n, 0, 8⟩
def Reg.MAC_PORT_CFG (n : Nat) : Nat := 0x100000 + 0x1000 * n
def Fld.MAC_PORT_CFG_ENABLE (n : Nat) : Fld := ⟨Reg.MAC_PORT_CFG n, 31, 1⟩
def Fld.MAC_PORT_CFG_MAX_FRAME (n : Nat) : Fld := ⟨Reg.MAC_PORT_CFG n, 14, 14⟩
def Fld.MAC_PORT_CFG_MODE (n : Nat) : Fld := ⟨Reg.MAC_PORT_CFG n, 0, 4⟩
def Reg.MAC_LINK_CFG (n : Nat) : Nat := 0x100004 + 0x1000 * n
def Fld.MAC_LINK_CFG_UP_FILTER (n : Nat) : Fld := ⟨Reg.MAC_LINK_CFG n, 24, 8⟩
def Fld.MAC_LINK_CFG_DN_FILTER (n : Nat) : Fld := ⟨Reg.MAC_LINK_CFG n, 16, 8⟩
def Fld.MAC_LINK_CFG_ERR_THR (n : Nat) : Fld := ⟨Reg.MAC_LINK_CFG n, 4, 12⟩
def Fld.MAC_LINK_CFG_FORCE_SPEED (n : Nat) : Fld := ⟨Reg.MAC_LINK_CFG n, 1, 3⟩
def Fld.MAC_LINK_CFG_AN_EN (n : Nat) : Fld := ⟨Reg.MAC_LINK_CFG n, 0, 1⟩
def Reg.MAC_LINK_STATUS (n : Nat) : Nat := 0x100008 + 0x1000 * n
def Fld.MAC_LINK_STATUS_CHANGE (n : Nat) : Fld := ⟨Reg.MAC_LINK_STATUS n, 31, 1⟩
def Fld.MAC_LINK_STATUS_LP_PAUSE (n : Nat) : Fld := ⟨Reg.MAC_LINK_STATUS n, 10, 1⟩
def Fld.MAC_LINK_STATUS_REMOTE_FAULT (n : Nat) : Fld := ⟨Reg.MAC_LINK_STATUS n, 9, 1⟩
def Fld.MAC_LINK_STATUS_LOCAL_FAULT (n : Nat) : Fld := ⟨Reg.MAC_LINK_STATUS n, 8, 1⟩
def Fld.MAC_LINK_STATUS_SPEED (n : Nat) : Fld := ⟨Reg.MAC_LINK_STATUS n, 4, 3⟩
def Fld.MAC_LINK_STATUS_STATE (n : Nat) : Fld := ⟨Reg.MAC_LINK_STATUS n, 0, 3⟩
def Reg.MAC_FC_CFG (n : Nat) : Nat := 0x100010 + 0x1000 * n
def Fld.MAC_FC_CFG_PAUSE_RX_EN (n : Nat) : Fld := ⟨Reg.MAC_FC_CFG n, 31, 1⟩
def Fld.MAC_FC_CFG_PFC_RX_EN (n : Nat) : Fld := ⟨Reg.MAC_FC_CFG n, 30, 1⟩
def Fld.MAC_FC_CFG_PFC_RX_MASK (n : Nat) : Fld := ⟨Reg.MAC_FC_CFG n, 0, 8⟩
def Reg.MAC_ADDR_LO (n : Nat) : Nat := 0x100018 + 0x1000 * n
def Fld.MAC_ADDR_LO_ADDR_LO (n : Nat) : Fld := ⟨Reg.MAC_ADDR_LO n, 0, 32⟩
def Reg.MAC_ADDR_HI (n : Nat) : Nat := 0x10001C + 0x1000 * n
def Fld.MAC_ADDR_HI_ADDR_HI (n : Nat) : Fld := ⟨Reg.MAC_ADDR_HI n, 0, 16⟩
def Reg.MAC_PREEMPT (n : Nat) : Nat := 0x100020 + 0x1000 * n
def Fld.MAC_PREEMPT_EN (n : Nat) : Fld := ⟨Reg.MAC_PREEMPT n, 31, 1⟩
def Fld.MAC_PREEMPT_VERIFY_DIS (n : Nat) : Fld := ⟨Reg.MAC_PREEMPT n, 30, 1⟩
def Fld.MAC_PREEMPT_VERIFY_TIME (n : Nat) : Fld := ⟨Reg.MAC_PREEMPT n, 16, 8⟩
def Fld.MAC_PREEMPT_ADD_FRAG (n : Nat) : Fld := ⟨Reg.MAC_PREEMPT n, 8, 2⟩
def Fld.MAC_PREEMPT_VERIFY_STATUS (n : Nat) : Fld := ⟨Reg.MAC_PREEMPT n, 0, 3⟩
def Reg.MAC_INT (n : Nat) : Nat := 0x100030 + 0x1000 * n
def Fld.MAC_INT_EN (n : Nat) : Fld := ⟨Reg.MAC_INT n, 16, 5⟩
def Fld.MAC_INT_PREEMPT_FAIL (n : Nat) : Fld := ⟨Reg.MAC_INT n, 4, 1⟩
def Fld.MAC_INT_ERR_RATE (n : Nat) : Fld := ⟨Reg.MAC_INT n, 3, 1⟩
def Fld.MAC_INT_EXT_PHY (n : Nat) : Fld := ⟨Reg.MAC_INT n, 2, 1⟩
def Fld.MAC_INT_LINK_UP (n : Nat) : Fld := ⟨Reg.MAC_INT n, 1, 1⟩
def Fld.MAC_INT_LINK_DOWN (n : Nat) : Fld := ⟨Reg.MAC_INT n, 0, 1⟩
def Reg.MAC_MDIO_CFG : Nat := 0x120000
def Fld.MAC_MDIO_CFG_DIV : Fld := ⟨Reg.MAC_MDIO_CFG, 0, 8⟩
def Reg.MAC_MDIO_CMD : Nat := 0x120004
def Fld.MAC_MDIO_CMD_GO : Fld := ⟨Reg.MAC_MDIO_CMD, 31, 1⟩
def Fld.MAC_MDIO_CMD_BUSY : Fld := ⟨Reg.MAC_MDIO_CMD, 30, 1⟩
def Fld.MAC_MDIO_CMD_OP : Fld := ⟨Reg.MAC_MDIO_CMD, 28, 2⟩
def Fld.MAC_MDIO_CMD_C45 : Fld := ⟨Reg.MAC_MDIO_CMD, 27, 1⟩
def Fld.MAC_MDIO_CMD_PRTAD : Fld := ⟨Reg.MAC_MDIO_CMD, 22, 5⟩
def Fld.MAC_MDIO_CMD_DEVAD : Fld := ⟨Reg.MAC_MDIO_CMD, 17, 5⟩
def Fld.MAC_MDIO_CMD_DATA : Fld := ⟨Reg.MAC_MDIO_CMD, 0, 16⟩
def Reg.MAC_MDIO_DATA : Nat := 0x120008
def Fld.MAC_MDIO_DATA_VALID : Fld := ⟨Reg.MAC_MDIO_DATA, 31, 1⟩
def Fld.MAC_MDIO_DATA_LOST : Fld := ⟨Reg.MAC_MDIO_DATA, 30, 1⟩
def Fld.MAC_MDIO_DATA_DATA : Fld := ⟨Reg.MAC_MDIO_DATA, 0, 16⟩
def Reg.MAC_MDIO_POLL (n : Nat) : Nat := 0x120010 + 0x4 * n
def Fld.MAC_MDIO_POLL_EN (n : Nat) : Fld := ⟨Reg.MAC_MDIO_POLL n, 31, 1⟩
def Fld.MAC_MDIO_POLL_C45 (n : Nat) : Fld := ⟨Reg.MAC_MDIO_POLL n, 30, 1⟩
def Fld.MAC_MDIO_POLL_PRTAD (n : Nat) : Fld := ⟨Reg.MAC_MDIO_POLL n, 25, 5⟩
def Fld.MAC_MDIO_POLL_DEVAD (n : Nat) : Fld := ⟨Reg.MAC_MDIO_POLL n, 20, 5⟩
def Fld.MAC_MDIO_POLL_BIT (n : Nat) : Fld := ⟨Reg.MAC_MDIO_POLL n, 16, 4⟩
def Fld.MAC_MDIO_POLL_REG (n : Nat) : Fld := ⟨Reg.MAC_MDIO_POLL n, 0, 16⟩
def Reg.PHY_CFG (n : Nat) : Nat := 0x140000 + 0x1000 * (n - 12)
def Fld.PHY_CFG_ROLE (n : Nat) : Fld := ⟨Reg.PHY_CFG n, 31, 1⟩
def Fld.PHY_CFG_TC10_SLEEP (n : Nat) : Fld := ⟨Reg.PHY_CFG n, 30, 1⟩
def Fld.PHY_CFG_TC10_WAKE_FWD (n : Nat) : Fld := ⟨Reg.PHY_CFG n, 29, 1⟩
def Reg.PHY_STATUS (n : Nat) : Nat := 0x140004 + 0x1000 * (n - 12)
def Fld.PHY_STATUS_TC10_NOACK (n : Nat) : Fld := ⟨Reg.PHY_STATUS n, 31, 1⟩
def Fld.PHY_STATUS_SQI (n : Nat) : Fld := ⟨Reg.PHY_STATUS n, 8, 3⟩
def Fld.PHY_STATUS_TC10_STATE (n : Nat) : Fld := ⟨Reg.PHY_STATUS n, 4, 2⟩
def Reg.PHY_PLCA (n : Nat) : Nat := 0x140010 + 0x1000 * (n - 12)
def Fld.PHY_PLCA_EN (n : Nat) : Fld := ⟨Reg.PHY_PLCA n, 31, 1⟩
def Fld.PHY_PLCA_TO_TIMER (n : Nat) : Fld := ⟨Reg.PHY_PLCA n, 16, 8⟩
def Fld.PHY_PLCA_NODE_COUNT (n : Nat) : Fld := ⟨Reg.PHY_PLCA n, 12, 4⟩
def Fld.PHY_PLCA_NODE_ID (n : Nat) : Fld := ⟨Reg.PHY_PLCA n, 8, 3⟩
def Fld.PHY_PLCA_BURST_COUNT (n : Nat) : Fld := ⟨Reg.PHY_PLCA n, 0, 8⟩
def Reg.PHY_PLCA_STATUS (n : Nat) : Nat := 0x140014 + 0x1000 * (n - 12)
def Fld.PHY_PLCA_STATUS_ACTIVE (n : Nat) : Fld := ⟨Reg.PHY_PLCA_STATUS n, 31, 1⟩
def Fld.PHY_PLCA_STATUS_CONFLICT (n : Nat) : Fld := ⟨Reg.PHY_PLCA_STATUS n, 30, 1⟩
def Reg.PHY_TC10_CMD (n : Nat) : Nat := 0x140020 + 0x1000 * (n - 12)
def Fld.PHY_TC10_CMD_ACTION (n : Nat) : Fld := ⟨Reg.PHY_TC10_CMD n, 0, 2⟩
def Reg.RAK_PORT_CFG (n : Nat) : Nat := 0x180000 + 0x4 * n
def Fld.RAK_PORT_CFG_DEPTH_ACT (n : Nat) : Fld := ⟨Reg.RAK_PORT_CFG n, 30, 2⟩
def Fld.RAK_PORT_CFG_DEPTH_HATCH (n : Nat) : Fld := ⟨Reg.RAK_PORT_CFG n, 24, 6⟩
def Fld.RAK_PORT_CFG_DEPTH (n : Nat) : Fld := ⟨Reg.RAK_PORT_CFG n, 16, 4⟩
def Fld.RAK_PORT_CFG_WINDOW (n : Nat) : Fld := ⟨Reg.RAK_PORT_CFG n, 8, 7⟩
def Fld.RAK_PORT_CFG_ENTRY (n : Nat) : Fld := ⟨Reg.RAK_PORT_CFG n, 0, 6⟩
def Reg.RAK_MALF_ACT (n : Nat) : Nat := 0x180080 + 0x4 * n
def Fld.RAK_MALF_ACT_ACT (n : Nat) : Fld := ⟨Reg.RAK_MALF_ACT n, 30, 2⟩
def Fld.RAK_MALF_ACT_HATCH (n : Nat) : Fld := ⟨Reg.RAK_MALF_ACT n, 24, 6⟩
def Reg.RAK_EXC_CFG : Nat := 0x1800C0
def Fld.RAK_EXC_CFG_CCX_CLASS : Fld := ⟨Reg.RAK_EXC_CFG, 0, 3⟩
def Reg.RAK_RATE_CFG : Nat := 0x1800C4
def Fld.RAK_RATE_CFG_EXEC_THR : Fld := ⟨Reg.RAK_RATE_CFG, 20, 10⟩
def Fld.RAK_RATE_CFG_DEPTH_THR : Fld := ⟨Reg.RAK_RATE_CFG, 10, 10⟩
def Fld.RAK_RATE_CFG_MALF_THR : Fld := ⟨Reg.RAK_RATE_CFG, 0, 10⟩
def Reg.RAK_BUSY : Nat := 0x180100
def Fld.RAK_BUSY_BUSY : Fld := ⟨Reg.RAK_BUSY, 0, 32⟩
def Reg.RAK_STALLED : Nat := 0x180104
def Fld.RAK_STALLED_STALLED : Fld := ⟨Reg.RAK_STALLED, 0, 32⟩
def Reg.RAK_WAIT : Nat := 0x180108
def Fld.RAK_WAIT_MAX_WAIT : Fld := ⟨Reg.RAK_WAIT, 16, 16⟩
def Fld.RAK_WAIT_WAIT : Fld := ⟨Reg.RAK_WAIT, 0, 16⟩
def Reg.RAK_MAX_CYCLES : Nat := 0x18010C
def Fld.RAK_MAX_CYCLES_CYCLES : Fld := ⟨Reg.RAK_MAX_CYCLES, 0, 24⟩
def Reg.RAK_INT : Nat := 0x180110
def Fld.RAK_INT_EN : Fld := ⟨Reg.RAK_INT, 16, 3⟩
def Fld.RAK_INT_EXEC : Fld := ⟨Reg.RAK_INT, 2, 1⟩
def Fld.RAK_INT_PASS_LIMIT : Fld := ⟨Reg.RAK_INT, 1, 1⟩
def Fld.RAK_INT_LATE : Fld := ⟨Reg.RAK_INT, 0, 1⟩
def Reg.CLS_CFG : Nat := 0x190000
def Fld.CLS_CFG_BYPASS : Fld := ⟨Reg.CLS_CFG, 0, 1⟩
def Reg.CLS_PORT_ZONE (n : Nat) : Nat := 0x190010 + 0x4 * n
def Fld.CLS_PORT_ZONE_VID_EN (n : Nat) : Fld := ⟨Reg.CLS_PORT_ZONE n, 31, 1⟩
def Fld.CLS_PORT_ZONE_MULTI_ZONE (n : Nat) : Fld := ⟨Reg.CLS_PORT_ZONE n, 8, 5⟩
def Fld.CLS_PORT_ZONE_ZONE (n : Nat) : Fld := ⟨Reg.CLS_PORT_ZONE n, 0, 5⟩
def Reg.CLS_EPOCH_CMD : Nat := 0x190100
def Fld.CLS_EPOCH_CMD_KEY : Fld := ⟨Reg.CLS_EPOCH_CMD, 16, 16⟩
def Fld.CLS_EPOCH_CMD_ACTION : Fld := ⟨Reg.CLS_EPOCH_CMD, 0, 2⟩
def Reg.CLS_EPOCH_STATUS : Nat := 0x190104
def Fld.CLS_EPOCH_STATUS_ACTIVE : Fld := ⟨Reg.CLS_EPOCH_STATUS, 31, 1⟩
def Fld.CLS_EPOCH_STATUS_OLD_FREE : Fld := ⟨Reg.CLS_EPOCH_STATUS, 30, 1⟩
def Fld.CLS_EPOCH_STATUS_SWAP_PENDING : Fld := ⟨Reg.CLS_EPOCH_STATUS, 29, 1⟩
def Fld.CLS_EPOCH_STATUS_REFUSED : Fld := ⟨Reg.CLS_EPOCH_STATUS, 28, 1⟩
def Fld.CLS_EPOCH_STATUS_REFUSE_CODE : Fld := ⟨Reg.CLS_EPOCH_STATUS, 26, 2⟩
def Fld.CLS_EPOCH_STATUS_EPOCH : Fld := ⟨Reg.CLS_EPOCH_STATUS, 17, 8⟩
def Fld.CLS_EPOCH_STATUS_OLD_REFS : Fld := ⟨Reg.CLS_EPOCH_STATUS, 0, 17⟩
def Reg.CLS_VID_ZONE (n : Nat) : Nat := 0x194000 + 0x4 * n
def Fld.CLS_VID_ZONE_VALID (n : Nat) : Fld := ⟨Reg.CLS_VID_ZONE n, 31, 1⟩
def Fld.CLS_VID_ZONE_MULTI_ZONE (n : Nat) : Fld := ⟨Reg.CLS_VID_ZONE n, 8, 5⟩
def Fld.CLS_VID_ZONE_ZONE (n : Nat) : Fld := ⟨Reg.CLS_VID_ZONE n, 0, 5⟩
def Reg.CLS_INT : Nat := 0x190110
def Fld.CLS_INT_EN : Fld := ⟨Reg.CLS_INT, 16, 2⟩
def Fld.CLS_INT_OLD_FREE : Fld := ⟨Reg.CLS_INT, 1, 1⟩
def Fld.CLS_INT_WALK_FAULT : Fld := ⟨Reg.CLS_INT, 0, 1⟩
def Reg.CLS_TREE_ADDR : Nat := 0x190200
def Fld.CLS_TREE_ADDR_AUTO_INC : Fld := ⟨Reg.CLS_TREE_ADDR, 31, 1⟩
def Fld.CLS_TREE_ADDR_WORD : Fld := ⟨Reg.CLS_TREE_ADDR, 0, 18⟩
def Reg.CLS_TREE_DATA_LO : Nat := 0x190204
def Fld.CLS_TREE_DATA_LO_DATA_LO : Fld := ⟨Reg.CLS_TREE_DATA_LO, 0, 32⟩
def Reg.CLS_TREE_DATA_HI : Nat := 0x190208
def Fld.CLS_TREE_DATA_HI_DATA_HI : Fld := ⟨Reg.CLS_TREE_DATA_HI, 0, 32⟩
def Reg.FWL_CFG : Nat := 0x1A0000
def Fld.FWL_CFG_TCP_STRICT : Fld := ⟨Reg.FWL_CFG, 2, 1⟩
def Fld.FWL_CFG_FULL_POLICY : Fld := ⟨Reg.FWL_CFG, 1, 1⟩
def Fld.FWL_CFG_EN : Fld := ⟨Reg.FWL_CFG, 0, 1⟩
def Reg.FWL_AGE_CFG : Nat := 0x1A0004
def Fld.FWL_AGE_CFG_SCAN : Fld := ⟨Reg.FWL_AGE_CFG, 0, 6⟩
def Reg.FWL_AGE (n : Nat) : Nat := 0x1A0010 + 0x4 * n
def Fld.FWL_AGE_SECONDS (n : Nat) : Fld := ⟨Reg.FWL_AGE n, 0, 32⟩
def Reg.FWL_CMD : Nat := 0x1A0100
def Fld.FWL_CMD_KEY : Fld := ⟨Reg.FWL_CMD, 16, 16⟩
def Fld.FWL_CMD_ALL : Fld := ⟨Reg.FWL_CMD, 3, 1⟩
def Fld.FWL_CMD_OP : Fld := ⟨Reg.FWL_CMD, 0, 3⟩
def Reg.FWL_CMD_STATUS : Nat := 0x1A0104
def Fld.FWL_CMD_STATUS_BUSY : Fld := ⟨Reg.FWL_CMD_STATUS, 31, 1⟩
def Fld.FWL_CMD_STATUS_RESULT : Fld := ⟨Reg.FWL_CMD_STATUS, 16, 3⟩
def Fld.FWL_CMD_STATUS_INDEX : Fld := ⟨Reg.FWL_CMD_STATUS, 0, 16⟩
def Reg.FWL_OCCUPANCY : Nat := 0x1A0108
def Fld.FWL_OCCUPANCY_STASH : Fld := ⟨Reg.FWL_OCCUPANCY, 16, 9⟩
def Fld.FWL_OCCUPANCY_WAYS : Fld := ⟨Reg.FWL_OCCUPANCY, 0, 16⟩
def Reg.FWL_RATE_CFG : Nat := 0x1A010C
def Fld.FWL_RATE_CFG_STASH_THR : Fld := ⟨Reg.FWL_RATE_CFG, 24, 8⟩
def Fld.FWL_RATE_CFG_NOSESS_THR : Fld := ⟨Reg.FWL_RATE_CFG, 12, 12⟩
def Fld.FWL_RATE_CFG_FULL_THR : Fld := ⟨Reg.FWL_RATE_CFG, 0, 12⟩
def Reg.FWL_CMD_DATA (n : Nat) : Nat := 0x1A0140 + 0x4 * n
def Fld.FWL_CMD_DATA_DATA (n : Nat) : Fld := ⟨Reg.FWL_CMD_DATA n, 0, 32⟩
def Reg.FWL_INT : Nat := 0x1A0110
def Fld.FWL_INT_EN : Fld := ⟨Reg.FWL_INT, 16, 2⟩
def Fld.FWL_INT_FULL : Fld := ⟨Reg.FWL_INT, 1, 1⟩
def Fld.FWL_INT_CMD_DONE : Fld := ⟨Reg.FWL_INT, 0, 1⟩
def Reg.SWC_PORT_CFG (n : Nat) : Nat := 0x200000 + 0x4 * n
def Fld.SWC_PORT_CFG_HOLDOFF (n : Nat) : Fld := ⟨Reg.SWC_PORT_CFG n, 22, 10⟩
def Fld.SWC_PORT_CFG_CT_EN (n : Nat) : Fld := ⟨Reg.SWC_PORT_CFG n, 21, 1⟩
def Fld.SWC_PORT_CFG_FDB_FLUSH (n : Nat) : Fld := ⟨Reg.SWC_PORT_CFG n, 20, 1⟩
def Fld.SWC_PORT_CFG_LEARN (n : Nat) : Fld := ⟨Reg.SWC_PORT_CFG n, 18, 2⟩
def Fld.SWC_PORT_CFG_ING_FILTER (n : Nat) : Fld := ⟨Reg.SWC_PORT_CFG n, 17, 1⟩
def Fld.SWC_PORT_CFG_ACCEPT (n : Nat) : Fld := ⟨Reg.SWC_PORT_CFG n, 15, 2⟩
def Fld.SWC_PORT_CFG_DEF_PCP (n : Nat) : Fld := ⟨Reg.SWC_PORT_CFG n, 12, 3⟩
def Fld.SWC_PORT_CFG_PVID (n : Nat) : Fld := ⟨Reg.SWC_PORT_CFG n, 0, 12⟩
def Reg.SWC_PCP_MAP (n : Nat) : Nat := 0x200080 + 0x4 * n
def Fld.SWC_PCP_MAP_MAP (n : Nat) : Fld := ⟨Reg.SWC_PCP_MAP n, 0, 24⟩
def Reg.SWC_PORT_ADM (n : Nat) : Nat := 0x200100 + 0x4 * n
def Fld.SWC_PORT_ADM_PROT (n : Nat) : Fld := ⟨Reg.SWC_PORT_ADM n, 24, 8⟩
def Fld.SWC_PORT_ADM_HEADROOM (n : Nat) : Fld := ⟨Reg.SWC_PORT_ADM n, 12, 12⟩
def Fld.SWC_PORT_ADM_MIN (n : Nat) : Fld := ⟨Reg.SWC_PORT_ADM n, 0, 12⟩
def Reg.SWC_PORT_SHARE (n : Nat) : Nat := 0x200180 + 0x4 * n
def Fld.SWC_PORT_SHARE_SHARE_MAX (n : Nat) : Fld := ⟨Reg.SWC_PORT_SHARE n, 16, 16⟩
def Fld.SWC_PORT_SHARE_PROT_RSV (n : Nat) : Fld := ⟨Reg.SWC_PORT_SHARE n, 0, 16⟩
def Reg.SWC_PORT_FC (n : Nat) : Nat := 0x200200 + 0x4 * n
def Fld.SWC_PORT_FC_MODE (n : Nat) : Fld := ⟨Reg.SWC_PORT_FC n, 30, 2⟩
def Fld.SWC_PORT_FC_XOFF (n : Nat) : Fld := ⟨Reg.SWC_PORT_FC n, 16, 14⟩
def Fld.SWC_PORT_FC_XON (n : Nat) : Fld := ⟨Reg.SWC_PORT_FC n, 0, 14⟩
def Reg.SWC_PORT_STATUS (n : Nat) : Nat := 0x200280 + 0x4 * n
def Fld.SWC_PORT_STATUS_EGRESS (n : Nat) : Fld := ⟨Reg.SWC_PORT_STATUS n, 30, 2⟩
def Fld.SWC_PORT_STATUS_HEAD_USE (n : Nat) : Fld := ⟨Reg.SWC_PORT_STATUS n, 16, 12⟩
def Fld.SWC_PORT_STATUS_HELD (n : Nat) : Fld := ⟨Reg.SWC_PORT_STATUS n, 8, 1⟩
def Fld.SWC_PORT_STATUS_XOFF_OUT (n : Nat) : Fld := ⟨Reg.SWC_PORT_STATUS n, 0, 8⟩
def Reg.SWC_QUEUE_CFG (n : Nat) : Nat := 0x200400 + 0x10 * n
def Fld.SWC_QUEUE_CFG_LOSSY (n : Nat) : Fld := ⟨Reg.SWC_QUEUE_CFG n, 31, 1⟩
def Fld.SWC_QUEUE_CFG_CAP (n : Nat) : Fld := ⟨Reg.SWC_QUEUE_CFG n, 0, 16⟩
def Reg.SWC_QUEUE_STATUS (n : Nat) : Nat := 0x200404 + 0x10 * n
def Fld.SWC_QUEUE_STATUS_FRAMES (n : Nat) : Fld := ⟨Reg.SWC_QUEUE_STATUS n, 16, 16⟩
def Fld.SWC_QUEUE_STATUS_CELLS (n : Nat) : Fld := ⟨Reg.SWC_QUEUE_STATUS n, 0, 16⟩
def Reg.SWC_CFG : Nat := 0x201400
def Fld.SWC_CFG_QUANTA : Fld := ⟨Reg.SWC_CFG, 16, 16⟩
def Fld.SWC_CFG_LEARN_CLASS : Fld := ⟨Reg.SWC_CFG, 12, 3⟩
def Reg.SWC_POOL : Nat := 0x201404
def Fld.SWC_POOL_GXOFF : Fld := ⟨Reg.SWC_POOL, 16, 16⟩
def Fld.SWC_POOL_SHARED_FREE : Fld := ⟨Reg.SWC_POOL, 0, 16⟩
def Reg.SWC_POOL_INFO : Nat := 0x201408
def Fld.SWC_POOL_INFO_SHARED_SIZE : Fld := ⟨Reg.SWC_POOL_INFO, 16, 16⟩
def Fld.SWC_POOL_INFO_DESC_FREE : Fld := ⟨Reg.SWC_POOL_INFO, 0, 16⟩
def Reg.SWC_RATE_CFG : Nat := 0x20140C
def Fld.SWC_RATE_CFG_LEARN_THR : Fld := ⟨Reg.SWC_RATE_CFG, 16, 16⟩
def Fld.SWC_RATE_CFG_HDROP_THR : Fld := ⟨Reg.SWC_RATE_CFG, 0, 16⟩
def Reg.SWC_AGE_CFG : Nat := 0x201410
def Fld.SWC_AGE_CFG_EN : Fld := ⟨Reg.SWC_AGE_CFG, 31, 1⟩
def Fld.SWC_AGE_CFG_PERIOD : Fld := ⟨Reg.SWC_AGE_CFG, 4, 8⟩
def Fld.SWC_AGE_CFG_LIMIT : Fld := ⟨Reg.SWC_AGE_CFG, 0, 4⟩
def Reg.SWC_FDB_CMD : Nat := 0x201420
def Fld.SWC_FDB_CMD_KEY : Fld := ⟨Reg.SWC_FDB_CMD, 16, 16⟩
def Fld.SWC_FDB_CMD_PORT : Fld := ⟨Reg.SWC_FDB_CMD, 4, 5⟩
def Fld.SWC_FDB_CMD_ALL : Fld := ⟨Reg.SWC_FDB_CMD, 3, 1⟩
def Fld.SWC_FDB_CMD_OP : Fld := ⟨Reg.SWC_FDB_CMD, 0, 3⟩
def Reg.SWC_FDB_STATUS : Nat := 0x201424
def Fld.SWC_FDB_STATUS_BUSY : Fld := ⟨Reg.SWC_FDB_STATUS, 31, 1⟩
def Fld.SWC_FDB_STATUS_RESULT : Fld := ⟨Reg.SWC_FDB_STATUS, 16, 3⟩
def Fld.SWC_FDB_STATUS_INDEX : Fld := ⟨Reg.SWC_FDB_STATUS, 0, 14⟩
def Reg.SWC_FDB_DATA (n : Nat) : Nat := 0x201430 + 0x4 * n
def Fld.SWC_FDB_DATA_DATA (n : Nat) : Fld := ⟨Reg.SWC_FDB_DATA n, 0, 32⟩
def Reg.SWC_MIRROR_CFG (n : Nat) : Nat := 0x201500 + 0x8 * n
def Fld.SWC_MIRROR_CFG_EN (n : Nat) : Fld := ⟨Reg.SWC_MIRROR_CFG n, 31, 1⟩
def Fld.SWC_MIRROR_CFG_DIR (n : Nat) : Fld := ⟨Reg.SWC_MIRROR_CFG n, 29, 2⟩
def Fld.SWC_MIRROR_CFG_DEST (n : Nat) : Fld := ⟨Reg.SWC_MIRROR_CFG n, 24, 5⟩
def Fld.SWC_MIRROR_CFG_CLASS (n : Nat) : Fld := ⟨Reg.SWC_MIRROR_CFG n, 20, 3⟩
def Fld.SWC_MIRROR_CFG_SAMPLE (n : Nat) : Fld := ⟨Reg.SWC_MIRROR_CFG n, 8, 12⟩
def Fld.SWC_MIRROR_CFG_TRUNC (n : Nat) : Fld := ⟨Reg.SWC_MIRROR_CFG n, 0, 8⟩
def Reg.SWC_MIRROR_SRC (n : Nat) : Nat := 0x201504 + 0x8 * n
def Fld.SWC_MIRROR_SRC_PORTS (n : Nat) : Fld := ⟨Reg.SWC_MIRROR_SRC n, 0, 30⟩
def Reg.SWC_INT : Nat := 0x201600
def Fld.SWC_INT_EN : Fld := ⟨Reg.SWC_INT, 16, 5⟩
def Fld.SWC_INT_FLUSH_DONE : Fld := ⟨Reg.SWC_INT, 4, 1⟩
def Fld.SWC_INT_FDB_CMD_DONE : Fld := ⟨Reg.SWC_INT, 3, 1⟩
def Fld.SWC_INT_LEARN_FULL : Fld := ⟨Reg.SWC_INT, 2, 1⟩
def Fld.SWC_INT_RESERVE_DROP : Fld := ⟨Reg.SWC_INT, 1, 1⟩
def Fld.SWC_INT_HEADROOM_DROP : Fld := ⟨Reg.SWC_INT, 0, 1⟩
def Reg.SWC_VLAN_MEMBER (n : Nat) : Nat := 0x210000 + 0x8 * n
def Fld.SWC_VLAN_MEMBER_VALID (n : Nat) : Fld := ⟨Reg.SWC_VLAN_MEMBER n, 31, 1⟩
def Fld.SWC_VLAN_MEMBER_LEARN_DIS (n : Nat) : Fld := ⟨Reg.SWC_VLAN_MEMBER n, 30, 1⟩
def Fld.SWC_VLAN_MEMBER_MEMBER (n : Nat) : Fld := ⟨Reg.SWC_VLAN_MEMBER n, 0, 30⟩
def Reg.SWC_VLAN_UNTAG (n : Nat) : Nat := 0x210004 + 0x8 * n
def Fld.SWC_VLAN_UNTAG_UU_DROP (n : Nat) : Fld := ⟨Reg.SWC_VLAN_UNTAG n, 31, 1⟩
def Fld.SWC_VLAN_UNTAG_MC_DROP (n : Nat) : Fld := ⟨Reg.SWC_VLAN_UNTAG n, 30, 1⟩
def Fld.SWC_VLAN_UNTAG_UNTAG (n : Nat) : Fld := ⟨Reg.SWC_VLAN_UNTAG n, 0, 30⟩
def Reg.STM_IND_ADDR : Nat := 0x240000
def Fld.STM_IND_ADDR_TABLE : Fld := ⟨Reg.STM_IND_ADDR, 16, 3⟩
def Fld.STM_IND_ADDR_INDEX : Fld := ⟨Reg.STM_IND_ADDR, 0, 12⟩
def Reg.STM_IND_CMD : Nat := 0x240004
def Fld.STM_IND_CMD_KEY : Fld := ⟨Reg.STM_IND_CMD, 16, 16⟩
def Fld.STM_IND_CMD_BUSY : Fld := ⟨Reg.STM_IND_CMD, 15, 1⟩
def Fld.STM_IND_CMD_RESULT : Fld := ⟨Reg.STM_IND_CMD, 12, 3⟩
def Fld.STM_IND_CMD_OP : Fld := ⟨Reg.STM_IND_CMD, 0, 2⟩
def Reg.STM_RATE_CFG : Nat := 0x240008
def Fld.STM_RATE_CFG_ROGUE_THR : Fld := ⟨Reg.STM_RATE_CFG, 16, 16⟩
def Fld.STM_RATE_CFG_RED_THR : Fld := ⟨Reg.STM_RATE_CFG, 0, 16⟩
def Reg.STM_INT : Nat := 0x240010
def Fld.STM_INT_EN : Fld := ⟨Reg.STM_INT, 16, 3⟩
def Fld.STM_INT_IND_DONE : Fld := ⟨Reg.STM_INT, 2, 1⟩
def Fld.STM_INT_FRER_RESET : Fld := ⟨Reg.STM_INT, 1, 1⟩
def Fld.STM_INT_BLOCKED : Fld := ⟨Reg.STM_INT, 0, 1⟩
def Reg.STM_IND_DATA (n : Nat) : Nat := 0x240040 + 0x4 * n
def Fld.STM_IND_DATA_DATA (n : Nat) : Fld := ⟨Reg.STM_IND_DATA n, 0, 32⟩
def Reg.SCH_PORT_CFG (n : Nat) : Nat := 0x280000 + 0x4 * n
def Fld.SCH_PORT_CFG_SP (n : Nat) : Fld := ⟨Reg.SCH_PORT_CFG n, 16, 8⟩
def Fld.SCH_PORT_CFG_EXPRESS (n : Nat) : Fld := ⟨Reg.SCH_PORT_CFG n, 8, 8⟩
def Fld.SCH_PORT_CFG_LEN_OVH (n : Nat) : Fld := ⟨Reg.SCH_PORT_CFG n, 0, 8⟩
def Reg.SCH_SHAPER_CFG (n : Nat) : Nat := 0x281000 + 0x10 * n
def Fld.SCH_SHAPER_CFG_MODE (n : Nat) : Fld := ⟨Reg.SCH_SHAPER_CFG n, 30, 2⟩
def Fld.SCH_SHAPER_CFG_BURST (n : Nat) : Fld := ⟨Reg.SCH_SHAPER_CFG n, 0, 24⟩
def Reg.SCH_SHAPER_RATE (n : Nat) : Nat := 0x281004 + 0x10 * n
def Fld.SCH_SHAPER_RATE_RATE (n : Nat) : Fld := ⟨Reg.SCH_SHAPER_RATE n, 0, 26⟩
def Reg.SCH_SHAPER_CREDIT (n : Nat) : Nat := 0x281008 + 0x10 * n
def Fld.SCH_SHAPER_CREDIT_CREDIT (n : Nat) : Fld := ⟨Reg.SCH_SHAPER_CREDIT n, 0, 32⟩
def Reg.SCH_DWRR (n : Nat) : Nat := 0x28100C + 0x10 * n
def Fld.SCH_DWRR_DEFICIT (n : Nat) : Fld := ⟨Reg.SCH_DWRR n, 16, 16⟩
def Fld.SCH_DWRR_QUANTUM (n : Nat) : Fld := ⟨Reg.SCH_DWRR n, 0, 16⟩
def Reg.SCH_QMAX (n : Nat) : Nat := 0x283000 + 0x4 * n
def Fld.SCH_QMAX_MAX_CELLS (n : Nat) : Fld := ⟨Reg.SCH_QMAX n, 16, 16⟩
def Fld.SCH_QMAX_MAX_SOJ (n : Nat) : Fld := ⟨Reg.SCH_QMAX n, 0, 16⟩
def Reg.SCH_QHEAD (n : Nat) : Nat := 0x283400 + 0x4 * n
def Fld.SCH_QHEAD_SOJ (n : Nat) : Fld := ⟨Reg.SCH_QHEAD n, 0, 16⟩
def Reg.SCH_HIST_SEL : Nat := 0x283800
def Fld.SCH_HIST_SEL_CLR : Fld := ⟨Reg.SCH_HIST_SEL, 31, 1⟩
def Fld.SCH_HIST_SEL_QUEUE : Fld := ⟨Reg.SCH_HIST_SEL, 0, 8⟩
def Reg.SCH_HIST (n : Nat) : Nat := 0x283840 + 0x4 * n
def Fld.SCH_HIST_COUNT (n : Nat) : Fld := ⟨Reg.SCH_HIST n, 0, 32⟩
def Reg.CPH_CFG : Nat := 0x2C0000
def Fld.CPH_CFG_KAT_MS : Fld := ⟨Reg.CPH_CFG, 24, 8⟩
def Fld.CPH_CFG_EGRESS_GUARD : Fld := ⟨Reg.CPH_CFG, 12, 12⟩
def Fld.CPH_CFG_ICV_ISOLATE : Fld := ⟨Reg.CPH_CFG, 0, 1⟩
def Reg.CPH_STATUS : Nat := 0x2C0004
def Fld.CPH_STATUS_PAN_OUT : Fld := ⟨Reg.CPH_STATUS, 8, 4⟩
def Fld.CPH_STATUS_SUSPENDED : Fld := ⟨Reg.CPH_STATUS, 0, 7⟩
def Reg.CPH_PAN_CMD : Nat := 0x2C0008
def Fld.CPH_PAN_CMD_KEY : Fld := ⟨Reg.CPH_PAN_CMD, 16, 16⟩
def Fld.CPH_PAN_CMD_RETURN : Fld := ⟨Reg.CPH_PAN_CMD, 0, 4⟩
def Reg.CPH_PN_REKEY : Nat := 0x2C0010
def Fld.CPH_PN_REKEY_PN : Fld := ⟨Reg.CPH_PN_REKEY, 0, 32⟩
def Reg.CPH_PN_REKEY_XPN_LO : Nat := 0x2C0014
def Fld.CPH_PN_REKEY_XPN_LO_PN_LO : Fld := ⟨Reg.CPH_PN_REKEY_XPN_LO, 0, 32⟩
def Reg.CPH_PN_REKEY_XPN_HI : Nat := 0x2C0018
def Fld.CPH_PN_REKEY_XPN_HI_PN_HI : Fld := ⟨Reg.CPH_PN_REKEY_XPN_HI, 0, 32⟩
def Reg.CPH_PN_MARGIN_LO : Nat := 0x2C001C
def Fld.CPH_PN_MARGIN_LO_MARGIN_LO : Fld := ⟨Reg.CPH_PN_MARGIN_LO, 0, 32⟩
def Reg.CPH_PN_MARGIN_HI : Nat := 0x2C0020
def Fld.CPH_PN_MARGIN_HI_MARGIN_HI : Fld := ⟨Reg.CPH_PN_MARGIN_HI, 0, 32⟩
def Reg.CPH_FRESH_MARGIN : Nat := 0x2C0024
def Fld.CPH_FRESH_MARGIN_MARGIN : Fld := ⟨Reg.CPH_FRESH_MARGIN, 0, 32⟩
def Reg.CPH_RATE_CFG : Nat := 0x2C0028
def Fld.CPH_RATE_CFG_AUTH_THR : Fld := ⟨Reg.CPH_RATE_CFG, 21, 11⟩
def Fld.CPH_RATE_CFG_PAN_THR : Fld := ⟨Reg.CPH_RATE_CFG, 10, 11⟩
def Fld.CPH_RATE_CFG_ICV_THR : Fld := ⟨Reg.CPH_RATE_CFG, 0, 10⟩
def Reg.CPH_INT : Nat := 0x2C0030
def Fld.CPH_INT_EN : Fld := ⟨Reg.CPH_INT, 16, 5⟩
def Fld.CPH_INT_PAN_OUT : Fld := ⟨Reg.CPH_INT, 4, 1⟩
def Fld.CPH_INT_FRESH_LIMIT : Fld := ⟨Reg.CPH_INT, 3, 1⟩
def Fld.CPH_INT_PN_EXHAUSTED : Fld := ⟨Reg.CPH_INT, 2, 1⟩
def Fld.CPH_INT_REKEY : Fld := ⟨Reg.CPH_INT, 1, 1⟩
def Fld.CPH_INT_ICV_RATE : Fld := ⟨Reg.CPH_INT, 0, 1⟩
def Reg.CPH_IND_ADDR : Nat := 0x2C0040
def Fld.CPH_IND_ADDR_TABLE : Fld := ⟨Reg.CPH_IND_ADDR, 16, 3⟩
def Fld.CPH_IND_ADDR_INDEX : Fld := ⟨Reg.CPH_IND_ADDR, 0, 10⟩
def Reg.CPH_IND_CMD : Nat := 0x2C0044
def Fld.CPH_IND_CMD_KEY : Fld := ⟨Reg.CPH_IND_CMD, 16, 16⟩
def Fld.CPH_IND_CMD_BUSY : Fld := ⟨Reg.CPH_IND_CMD, 15, 1⟩
def Fld.CPH_IND_CMD_RESULT : Fld := ⟨Reg.CPH_IND_CMD, 12, 3⟩
def Fld.CPH_IND_CMD_OP : Fld := ⟨Reg.CPH_IND_CMD, 0, 3⟩
def Reg.CPH_IND_DATA (n : Nat) : Nat := 0x2C0080 + 0x4 * n
def Fld.CPH_IND_DATA_DATA (n : Nat) : Fld := ⟨Reg.CPH_IND_DATA n, 0, 32⟩
def Reg.CPH_REKEY_REQ (n : Nat) : Nat := 0x2C0100 + 0x4 * n
def Fld.CPH_REKEY_REQ_REQ (n : Nat) : Fld := ⟨Reg.CPH_REKEY_REQ n, 0, 32⟩
def Reg.GWE_CH_CFG (n : Nat) : Nat := 0x300000 + 0x40 * n
def Fld.GWE_CH_CFG_ENABLE (n : Nat) : Fld := ⟨Reg.GWE_CH_CFG n, 31, 1⟩
def Fld.GWE_CH_CFG_TXC_EN (n : Nat) : Fld := ⟨Reg.GWE_CH_CFG n, 30, 1⟩
def Fld.GWE_CH_CFG_ERR_EVT (n : Nat) : Fld := ⟨Reg.GWE_CH_CFG n, 29, 1⟩
def Fld.GWE_CH_CFG_AUTO_RECOVER (n : Nat) : Fld := ⟨Reg.GWE_CH_CFG n, 28, 1⟩
def Fld.GWE_CH_CFG_TX_ORDER (n : Nat) : Fld := ⟨Reg.GWE_CH_CFG n, 27, 1⟩
def Fld.GWE_CH_CFG_IDLE_SLEEP (n : Nat) : Fld := ⟨Reg.GWE_CH_CFG n, 26, 1⟩
def Fld.GWE_CH_CFG_ERR_THR (n : Nat) : Fld := ⟨Reg.GWE_CH_CFG n, 16, 10⟩
def Fld.GWE_CH_CFG_MODE (n : Nat) : Fld := ⟨Reg.GWE_CH_CFG n, 0, 4⟩
def Reg.GWE_CAN_NBT (n : Nat) : Nat := 0x300004 + 0x40 * n
def Fld.GWE_CAN_NBT_BRP (n : Nat) : Fld := ⟨Reg.GWE_CAN_NBT n, 24, 8⟩
def Fld.GWE_CAN_NBT_TSEG1 (n : Nat) : Fld := ⟨Reg.GWE_CAN_NBT n, 16, 8⟩
def Fld.GWE_CAN_NBT_TSEG2 (n : Nat) : Fld := ⟨Reg.GWE_CAN_NBT n, 9, 7⟩
def Fld.GWE_CAN_NBT_SJW (n : Nat) : Fld := ⟨Reg.GWE_CAN_NBT n, 2, 7⟩
def Reg.GWE_CAN_DBT (n : Nat) : Nat := 0x300008 + 0x40 * n
def Fld.GWE_CAN_DBT_BRP (n : Nat) : Fld := ⟨Reg.GWE_CAN_DBT n, 27, 5⟩
def Fld.GWE_CAN_DBT_TSEG1 (n : Nat) : Fld := ⟨Reg.GWE_CAN_DBT n, 22, 5⟩
def Fld.GWE_CAN_DBT_TSEG2 (n : Nat) : Fld := ⟨Reg.GWE_CAN_DBT n, 18, 4⟩
def Fld.GWE_CAN_DBT_SJW (n : Nat) : Fld := ⟨Reg.GWE_CAN_DBT n, 14, 4⟩
def Fld.GWE_CAN_DBT_TDC_EN (n : Nat) : Fld := ⟨Reg.GWE_CAN_DBT n, 13, 1⟩
def Fld.GWE_CAN_DBT_TDCO (n : Nat) : Fld := ⟨Reg.GWE_CAN_DBT n, 6, 7⟩
def Reg.GWE_CAN_XBT (n : Nat) : Nat := 0x30000C + 0x40 * n
def Fld.GWE_CAN_XBT_BRP (n : Nat) : Fld := ⟨Reg.GWE_CAN_XBT n, 27, 5⟩
def Fld.GWE_CAN_XBT_TSEG1 (n : Nat) : Fld := ⟨Reg.GWE_CAN_XBT n, 22, 5⟩
def Fld.GWE_CAN_XBT_TSEG2 (n : Nat) : Fld := ⟨Reg.GWE_CAN_XBT n, 18, 4⟩
def Fld.GWE_CAN_XBT_SJW (n : Nat) : Fld := ⟨Reg.GWE_CAN_XBT n, 14, 4⟩
def Fld.GWE_CAN_XBT_TDC_EN (n : Nat) : Fld := ⟨Reg.GWE_CAN_XBT n, 13, 1⟩
def Fld.GWE_CAN_XBT_TDCO (n : Nat) : Fld := ⟨Reg.GWE_CAN_XBT n, 6, 7⟩
def Reg.GWE_CAN_ERR (n : Nat) : Nat := 0x300010 + 0x40 * n
def Fld.GWE_CAN_ERR_STATE (n : Nat) : Fld := ⟨Reg.GWE_CAN_ERR n, 30, 2⟩
def Fld.GWE_CAN_ERR_LEC (n : Nat) : Fld := ⟨Reg.GWE_CAN_ERR n, 27, 3⟩
def Fld.GWE_CAN_ERR_REC (n : Nat) : Fld := ⟨Reg.GWE_CAN_ERR n, 16, 8⟩
def Fld.GWE_CAN_ERR_TEC (n : Nat) : Fld := ⟨Reg.GWE_CAN_ERR n, 0, 9⟩
def Reg.GWE_CAN_PWM (n : Nat) : Nat := 0x300014 + 0x40 * n
def Fld.GWE_CAN_PWM_PWM_EN (n : Nat) : Fld := ⟨Reg.GWE_CAN_PWM n, 31, 1⟩
def Fld.GWE_CAN_PWM_PWMO (n : Nat) : Fld := ⟨Reg.GWE_CAN_PWM n, 12, 6⟩
def Fld.GWE_CAN_PWM_PWML (n : Nat) : Fld := ⟨Reg.GWE_CAN_PWM n, 6, 6⟩
def Fld.GWE_CAN_PWM_PWMS (n : Nat) : Fld := ⟨Reg.GWE_CAN_PWM n, 0, 6⟩
def Reg.GWE_LIN_CFG (n : Nat) : Nat := 0x300004 + 0x40 * n
def Fld.GWE_LIN_CFG_DIV (n : Nat) : Fld := ⟨Reg.GWE_LIN_CFG n, 16, 16⟩
def Fld.GWE_LIN_CFG_CLASSIC (n : Nat) : Fld := ⟨Reg.GWE_LIN_CFG n, 15, 1⟩
def Fld.GWE_LIN_CFG_BREAK_BITS (n : Nat) : Fld := ⟨Reg.GWE_LIN_CFG n, 8, 4⟩
def Fld.GWE_LIN_CFG_NSLOTS (n : Nat) : Fld := ⟨Reg.GWE_LIN_CFG n, 0, 5⟩
def Reg.GWE_SER_CFG (n : Nat) : Nat := 0x300004 + 0x40 * n
def Fld.GWE_SER_CFG_DIV (n : Nat) : Fld := ⟨Reg.GWE_SER_CFG n, 10, 22⟩
def Fld.GWE_SER_CFG_SEVEN (n : Nat) : Fld := ⟨Reg.GWE_SER_CFG n, 9, 1⟩
def Fld.GWE_SER_CFG_PARITY (n : Nat) : Fld := ⟨Reg.GWE_SER_CFG n, 7, 2⟩
def Fld.GWE_SER_CFG_STOP2 (n : Nat) : Fld := ⟨Reg.GWE_SER_CFG n, 6, 1⟩
def Reg.GWE_SER_FRM (n : Nat) : Nat := 0x300008 + 0x40 * n
def Fld.GWE_SER_FRM_IDLE_CHARS (n : Nat) : Fld := ⟨Reg.GWE_SER_FRM n, 24, 8⟩
def Fld.GWE_SER_FRM_ADDR (n : Nat) : Fld := ⟨Reg.GWE_SER_FRM n, 16, 8⟩
def Fld.GWE_SER_FRM_ECHO (n : Nat) : Fld := ⟨Reg.GWE_SER_FRM n, 15, 1⟩
def Reg.GWE_LIN_SCHED (n : Nat) : Nat := 0x301000 + 0x4 * n
def Fld.GWE_LIN_SCHED_PUBLISH (n : Nat) : Fld := ⟨Reg.GWE_LIN_SCHED n, 31, 1⟩
def Fld.GWE_LIN_SCHED_ID (n : Nat) : Fld := ⟨Reg.GWE_LIN_SCHED n, 16, 6⟩
def Fld.GWE_LIN_SCHED_SLOT (n : Nat) : Fld := ⟨Reg.GWE_LIN_SCHED n, 0, 16⟩
def Reg.GWE_CH_STATUS (n : Nat) : Nat := 0x302000 + 0x4 * n
def Fld.GWE_CH_STATUS_STATE (n : Nat) : Fld := ⟨Reg.GWE_CH_STATUS n, 29, 3⟩
def Fld.GWE_CH_STATUS_STOPPED (n : Nat) : Fld := ⟨Reg.GWE_CH_STATUS n, 28, 1⟩
def Fld.GWE_CH_STATUS_EV_BYTES (n : Nat) : Fld := ⟨Reg.GWE_CH_STATUS n, 16, 8⟩
def Fld.GWE_CH_STATUS_EV_COUNT (n : Nat) : Fld := ⟨Reg.GWE_CH_STATUS n, 8, 5⟩
def Fld.GWE_CH_STATUS_TX_COUNT (n : Nat) : Fld := ⟨Reg.GWE_CH_STATUS n, 0, 5⟩
def Reg.GWE_CMD : Nat := 0x302100
def Fld.GWE_CMD_KEY : Fld := ⟨Reg.GWE_CMD, 16, 16⟩
def Fld.GWE_CMD_CHANNEL : Fld := ⟨Reg.GWE_CMD, 8, 6⟩
def Fld.GWE_CMD_ACTION : Fld := ⟨Reg.GWE_CMD, 0, 3⟩
def Reg.GWE_STATUS : Nat := 0x302104
def Fld.GWE_STATUS_MAX_SLICE : Fld := ⟨Reg.GWE_STATUS, 16, 16⟩
def Fld.GWE_STATUS_CHANNEL : Fld := ⟨Reg.GWE_STATUS, 8, 6⟩
def Fld.GWE_STATUS_BUSY : Fld := ⟨Reg.GWE_STATUS, 7, 1⟩
def Fld.GWE_STATUS_PENDING : Fld := ⟨Reg.GWE_STATUS, 0, 7⟩
def Reg.GWE_INT : Nat := 0x302110
def Fld.GWE_INT_EN : Fld := ⟨Reg.GWE_INT, 16, 4⟩
def Fld.GWE_INT_BUS_OFF : Fld := ⟨Reg.GWE_INT, 3, 1⟩
def Fld.GWE_INT_EXEC_FAULT : Fld := ⟨Reg.GWE_INT, 2, 1⟩
def Fld.GWE_INT_RX_OVERFLOW : Fld := ⟨Reg.GWE_INT, 1, 1⟩
def Fld.GWE_INT_WAKE : Fld := ⟨Reg.GWE_INT, 0, 1⟩
def Reg.GWE_PANTRY_ADDR : Nat := 0x302200
def Fld.GWE_PANTRY_ADDR_AUTO_INC : Fld := ⟨Reg.GWE_PANTRY_ADDR, 31, 1⟩
def Fld.GWE_PANTRY_ADDR_WORD : Fld := ⟨Reg.GWE_PANTRY_ADDR, 0, 20⟩
def Reg.GWE_PANTRY_DATA : Nat := 0x302204
def Fld.GWE_PANTRY_DATA_DATA : Fld := ⟨Reg.GWE_PANTRY_DATA, 0, 32⟩
def Reg.HAT_CFG (n : Nat) : Nat := 0x340000 + 0x10 * n
def Fld.HAT_CFG_EN (n : Nat) : Fld := ⟨Reg.HAT_CFG n, 31, 1⟩
def Fld.HAT_CFG_DIR (n : Nat) : Fld := ⟨Reg.HAT_CFG n, 30, 1⟩
def Fld.HAT_CFG_WM (n : Nat) : Fld := ⟨Reg.HAT_CFG n, 16, 8⟩
def Fld.HAT_CFG_VEC_EN (n : Nat) : Fld := ⟨Reg.HAT_CFG n, 15, 1⟩
def Fld.HAT_CFG_VECTOR (n : Nat) : Fld := ⟨Reg.HAT_CFG n, 0, 6⟩
def Reg.HAT_SPILL (n : Nat) : Nat := 0x340004 + 0x10 * n
def Fld.HAT_SPILL_BASE_MIB (n : Nat) : Fld := ⟨Reg.HAT_SPILL n, 16, 16⟩
def Fld.HAT_SPILL_SIZE_MIB (n : Nat) : Fld := ⟨Reg.HAT_SPILL n, 0, 7⟩
def Reg.HAT_STATUS (n : Nat) : Nat := 0x340008 + 0x10 * n
def Fld.HAT_STATUS_LINES (n : Nat) : Fld := ⟨Reg.HAT_STATUS n, 12, 20⟩
def Fld.HAT_STATUS_ARMED (n : Nat) : Fld := ⟨Reg.HAT_STATUS n, 11, 1⟩
def Fld.HAT_STATUS_BROKEN (n : Nat) : Fld := ⟨Reg.HAT_STATUS n, 10, 1⟩
def Reg.HAT_CTRL (n : Nat) : Nat := 0x34000C + 0x10 * n
def Fld.HAT_CTRL_FLUSH (n : Nat) : Fld := ⟨Reg.HAT_CTRL n, 1, 1⟩
def Fld.HAT_CTRL_ARM (n : Nat) : Fld := ⟨Reg.HAT_CTRL n, 0, 1⟩
def Reg.HAT_PUSH (n : Nat) : Nat := 0x350000 + 0x10 * n
def Fld.HAT_PUSH_DATA (n : Nat) : Fld := ⟨Reg.HAT_PUSH n, 0, 32⟩
def Reg.HAT_PUSH_END (n : Nat) : Nat := 0x350004 + 0x10 * n
def Fld.HAT_PUSH_END_DATA (n : Nat) : Fld := ⟨Reg.HAT_PUSH_END n, 0, 32⟩
def Reg.HAT_INT : Nat := 0x360000
def Fld.HAT_INT_EN : Fld := ⟨Reg.HAT_INT, 16, 3⟩
def Fld.HAT_INT_SPILL_ERR : Fld := ⟨Reg.HAT_INT, 2, 1⟩
def Fld.HAT_INT_WR_DISCARD : Fld := ⟨Reg.HAT_INT, 1, 1⟩
def Fld.HAT_INT_DROPPED : Fld := ⟨Reg.HAT_INT, 0, 1⟩
def Reg.BRG_CFG : Nat := 0x380000
def Fld.BRG_CFG_PF_EN : Fld := ⟨Reg.BRG_CFG, 31, 1⟩
def Fld.BRG_CFG_PF_LINES : Fld := ⟨Reg.BRG_CFG, 16, 8⟩
def Fld.BRG_CFG_ANA_RING : Fld := ⟨Reg.BRG_CFG, 0, 5⟩
def Reg.BRG_LINK_STATUS : Nat := 0x380004
def Fld.BRG_LINK_STATUS_UP : Fld := ⟨Reg.BRG_LINK_STATUS, 31, 1⟩
def Fld.BRG_LINK_STATUS_LTSSM : Fld := ⟨Reg.BRG_LINK_STATUS, 8, 6⟩
def Fld.BRG_LINK_STATUS_WIDTH : Fld := ⟨Reg.BRG_LINK_STATUS, 4, 4⟩
def Fld.BRG_LINK_STATUS_SPEED : Fld := ⟨Reg.BRG_LINK_STATUS, 0, 4⟩
def Reg.BRG_RX_MAP : Nat := 0x380008
def Fld.BRG_RX_MAP_MAP : Fld := ⟨Reg.BRG_RX_MAP, 0, 32⟩
def Reg.BRG_SUBSYS : Nat := 0x38000C
def Fld.BRG_SUBSYS_SUBSYS_ID : Fld := ⟨Reg.BRG_SUBSYS, 16, 16⟩
def Fld.BRG_SUBSYS_SUBSYS_VID : Fld := ⟨Reg.BRG_SUBSYS, 0, 16⟩
def Reg.BRG_INT : Nat := 0x380010
def Fld.BRG_INT_EN : Fld := ⟨Reg.BRG_INT, 16, 4⟩
def Fld.BRG_INT_ELOG : Fld := ⟨Reg.BRG_INT, 3, 1⟩
def Fld.BRG_INT_RING_HALT : Fld := ⟨Reg.BRG_INT, 2, 1⟩
def Fld.BRG_INT_LINK_DOWN : Fld := ⟨Reg.BRG_INT, 1, 1⟩
def Fld.BRG_INT_LINK_UP : Fld := ⟨Reg.BRG_INT, 0, 1⟩
def Reg.BRG_ELOG_CTL : Nat := 0x380014
def Fld.BRG_ELOG_CTL_NEXT_SEQ : Fld := ⟨Reg.BRG_ELOG_CTL, 24, 8⟩
def Fld.BRG_ELOG_CTL_OVERFLOW : Fld := ⟨Reg.BRG_ELOG_CTL, 0, 16⟩
def Reg.BRG_WIN_CFG (n : Nat) : Nat := 0x380100 + 0x10 * n
def Fld.BRG_WIN_CFG_EN (n : Nat) : Fld := ⟨Reg.BRG_WIN_CFG n, 31, 1⟩
def Fld.BRG_WIN_CFG_WR (n : Nat) : Fld := ⟨Reg.BRG_WIN_CFG n, 30, 1⟩
def Fld.BRG_WIN_CFG_SE_FREE (n : Nat) : Fld := ⟨Reg.BRG_WIN_CFG n, 29, 1⟩
def Fld.BRG_WIN_CFG_LIMIT (n : Nat) : Fld := ⟨Reg.BRG_WIN_CFG n, 0, 15⟩
def Reg.BRG_WIN_BASE_LO (n : Nat) : Nat := 0x380104 + 0x10 * n
def Fld.BRG_WIN_BASE_LO_BASE_LO (n : Nat) : Fld := ⟨Reg.BRG_WIN_BASE_LO n, 12, 20⟩
def Reg.BRG_WIN_BASE_HI (n : Nat) : Nat := 0x380108 + 0x10 * n
def Fld.BRG_WIN_BASE_HI_BASE_HI (n : Nat) : Fld := ⟨Reg.BRG_WIN_BASE_HI n, 0, 8⟩
def Reg.BRG_ELOG0 (n : Nat) : Nat := 0x380200 + 0x10 * n
def Fld.BRG_ELOG0_OFFSET (n : Nat) : Fld := ⟨Reg.BRG_ELOG0 n, 0, 32⟩
def Reg.BRG_ELOG1 (n : Nat) : Nat := 0x380204 + 0x10 * n
def Fld.BRG_ELOG1_VALID (n : Nat) : Fld := ⟨Reg.BRG_ELOG1 n, 31, 1⟩
def Fld.BRG_ELOG1_SPACE (n : Nat) : Fld := ⟨Reg.BRG_ELOG1 n, 29, 2⟩
def Fld.BRG_ELOG1_KIND (n : Nat) : Fld := ⟨Reg.BRG_ELOG1 n, 23, 6⟩
def Fld.BRG_ELOG1_BYTES (n : Nat) : Fld := ⟨Reg.BRG_ELOG1 n, 0, 13⟩
def Reg.BRG_ELOG2 (n : Nat) : Nat := 0x380208 + 0x10 * n
def Fld.BRG_ELOG2_REQ_ID (n : Nat) : Fld := ⟨Reg.BRG_ELOG2 n, 16, 16⟩
def Fld.BRG_ELOG2_SEQ (n : Nat) : Fld := ⟨Reg.BRG_ELOG2 n, 0, 8⟩
def Reg.BRG_ELOG3 (n : Nat) : Nat := 0x38020C + 0x10 * n
def Fld.BRG_ELOG3_TIME (n : Nat) : Fld := ⟨Reg.BRG_ELOG3 n, 0, 32⟩
def Reg.BRG_RING_BASE_LO (n : Nat) : Nat := 0x381000 + 0x40 * n
def Fld.BRG_RING_BASE_LO_BASE_LO (n : Nat) : Fld := ⟨Reg.BRG_RING_BASE_LO n, 6, 26⟩
def Reg.BRG_RING_BASE_HI (n : Nat) : Nat := 0x381004 + 0x40 * n
def Fld.BRG_RING_BASE_HI_BASE_HI (n : Nat) : Fld := ⟨Reg.BRG_RING_BASE_HI n, 0, 32⟩
def Reg.BRG_RING_CFG (n : Nat) : Nat := 0x381008 + 0x40 * n
def Fld.BRG_RING_CFG_EN (n : Nat) : Fld := ⟨Reg.BRG_RING_CFG n, 31, 1⟩
def Fld.BRG_RING_CFG_HALTED (n : Nat) : Fld := ⟨Reg.BRG_RING_CFG n, 30, 1⟩
def Fld.BRG_RING_CFG_VEC_EN (n : Nat) : Fld := ⟨Reg.BRG_RING_CFG n, 29, 1⟩
def Fld.BRG_RING_CFG_SIZE_LOG (n : Nat) : Fld := ⟨Reg.BRG_RING_CFG n, 24, 4⟩
def Fld.BRG_RING_CFG_BUF_SIZE (n : Nat) : Fld := ⟨Reg.BRG_RING_CFG n, 16, 8⟩
def Fld.BRG_RING_CFG_COAL_US (n : Nat) : Fld := ⟨Reg.BRG_RING_CFG n, 6, 10⟩
def Fld.BRG_RING_CFG_VECTOR (n : Nat) : Fld := ⟨Reg.BRG_RING_CFG n, 0, 6⟩
def Reg.BRG_RING_TAIL (n : Nat) : Nat := 0x38100C + 0x40 * n
def Fld.BRG_RING_TAIL_TAIL (n : Nat) : Fld := ⟨Reg.BRG_RING_TAIL n, 0, 16⟩
def Reg.BRG_RING_HEAD (n : Nat) : Nat := 0x381010 + 0x40 * n
def Fld.BRG_RING_HEAD_HEAD (n : Nat) : Fld := ⟨Reg.BRG_RING_HEAD n, 0, 16⟩
def Reg.BRG_RING_HALT (n : Nat) : Nat := 0x381014 + 0x40 * n
def Fld.BRG_RING_HALT_VALID (n : Nat) : Fld := ⟨Reg.BRG_RING_HALT n, 31, 1⟩
def Fld.BRG_RING_HALT_CODE (n : Nat) : Fld := ⟨Reg.BRG_RING_HALT n, 28, 3⟩
def Fld.BRG_RING_HALT_FIRST (n : Nat) : Fld := ⟨Reg.BRG_RING_HALT n, 0, 16⟩
def Reg.STG_CFG : Nat := 0x3C0000
def Fld.STG_CFG_EN : Fld := ⟨Reg.STG_CFG, 31, 1⟩
def Fld.STG_CFG_GW_EN : Fld := ⟨Reg.STG_CFG, 30, 1⟩
def Fld.STG_CFG_GW_HATCH : Fld := ⟨Reg.STG_CFG, 24, 6⟩
def Fld.STG_CFG_EXPORT_SLOT : Fld := ⟨Reg.STG_CFG, 16, 8⟩
def Fld.STG_CFG_KEY_SLOT : Fld := ⟨Reg.STG_CFG, 8, 8⟩
def Reg.STG_RING : Nat := 0x3C0004
def Fld.STG_RING_BASE_MIB : Fld := ⟨Reg.STG_RING, 16, 16⟩
def Fld.STG_RING_SIZE_MIB : Fld := ⟨Reg.STG_RING, 0, 14⟩
def Reg.STG_STATUS : Nat := 0x3C0008
def Fld.STG_STATUS_RECORDING : Fld := ⟨Reg.STG_STATUS, 31, 1⟩
def Fld.STG_STATUS_EXPORTING : Fld := ⟨Reg.STG_STATUS, 30, 1⟩
def Fld.STG_STATUS_DIR_RESET : Fld := ⟨Reg.STG_STATUS, 29, 1⟩
def Fld.STG_STATUS_REFUSE_CODE : Fld := ⟨Reg.STG_STATUS, 26, 3⟩
def Fld.STG_STATUS_WRITER : Fld := ⟨Reg.STG_STATUS, 0, 14⟩
def Reg.STG_CMD : Nat := 0x3C000C
def Fld.STG_CMD_KEY : Fld := ⟨Reg.STG_CMD, 16, 16⟩
def Fld.STG_CMD_REASON : Fld := ⟨Reg.STG_CMD, 8, 8⟩
def Fld.STG_CMD_INCIDENT : Fld := ⟨Reg.STG_CMD, 5, 3⟩
def Fld.STG_CMD_ACTION : Fld := ⟨Reg.STG_CMD, 0, 3⟩
def Reg.STG_REPLAY_CFG : Nat := 0x3C0010
def Fld.STG_REPLAY_CFG_ETHERTYPE : Fld := ⟨Reg.STG_REPLAY_CFG, 16, 16⟩
def Fld.STG_REPLAY_CFG_CLASS : Fld := ⟨Reg.STG_REPLAY_CFG, 13, 3⟩
def Fld.STG_REPLAY_CFG_TAGGED : Fld := ⟨Reg.STG_REPLAY_CFG, 12, 1⟩
def Fld.STG_REPLAY_CFG_VID : Fld := ⟨Reg.STG_REPLAY_CFG, 0, 12⟩
def Reg.STG_REPLAY_DST_LO : Nat := 0x3C0014
def Fld.STG_REPLAY_DST_LO_ADDR_LO : Fld := ⟨Reg.STG_REPLAY_DST_LO, 0, 32⟩
def Reg.STG_REPLAY_DST_HI : Nat := 0x3C0018
def Fld.STG_REPLAY_DST_HI_ADDR_HI : Fld := ⟨Reg.STG_REPLAY_DST_HI, 0, 16⟩
def Reg.STG_REPLAY_SRC_LO : Nat := 0x3C001C
def Fld.STG_REPLAY_SRC_LO_ADDR_LO : Fld := ⟨Reg.STG_REPLAY_SRC_LO, 0, 32⟩
def Reg.STG_REPLAY_SRC_HI : Nat := 0x3C0020
def Fld.STG_REPLAY_SRC_HI_ADDR_HI : Fld := ⟨Reg.STG_REPLAY_SRC_HI, 0, 16⟩
def Reg.STG_INT : Nat := 0x3C0024
def Fld.STG_INT_EN : Fld := ⟨Reg.STG_INT, 16, 4⟩
def Fld.STG_INT_LOSS : Fld := ⟨Reg.STG_INT, 3, 1⟩
def Fld.STG_INT_EXPORT_DONE : Fld := ⟨Reg.STG_INT, 2, 1⟩
def Fld.STG_INT_CLOSED : Fld := ⟨Reg.STG_INT, 1, 1⟩
def Fld.STG_INT_OPENED : Fld := ⟨Reg.STG_INT, 0, 1⟩
def Reg.STG_SLOT (n : Nat) : Nat := 0x3C0100 + 0x4 * n
def Fld.STG_SLOT_EN (n : Nat) : Fld := ⟨Reg.STG_SLOT n, 31, 1⟩
def Fld.STG_SLOT_CLASS (n : Nat) : Fld := ⟨Reg.STG_SLOT n, 12, 3⟩
def Fld.STG_SLOT_HANDLE (n : Nat) : Fld := ⟨Reg.STG_SLOT n, 0, 12⟩
def Reg.STG_TSRC (n : Nat) : Nat := 0x3C0200 + 0x4 * n
def Fld.STG_TSRC_EN (n : Nat) : Fld := ⟨Reg.STG_TSRC n, 31, 1⟩
def Fld.STG_TSRC_PROTECT (n : Nat) : Fld := ⟨Reg.STG_TSRC n, 30, 1⟩
def Fld.STG_TSRC_UNIT (n : Nat) : Fld := ⟨Reg.STG_TSRC n, 29, 1⟩
def Fld.STG_TSRC_LIMIT (n : Nat) : Fld := ⟨Reg.STG_TSRC n, 21, 8⟩
def Fld.STG_TSRC_PRE (n : Nat) : Fld := ⟨Reg.STG_TSRC n, 10, 11⟩
def Fld.STG_TSRC_POST (n : Nat) : Fld := ⟨Reg.STG_TSRC n, 0, 10⟩
def Reg.STG_INC (n : Nat) : Nat := 0x3C0300 + 0x8 * n
def Fld.STG_INC_STATE (n : Nat) : Fld := ⟨Reg.STG_INC n, 29, 3⟩
def Fld.STG_INC_SOURCE (n : Nat) : Fld := ⟨Reg.STG_INC n, 24, 5⟩
def Fld.STG_INC_FLAGS (n : Nat) : Fld := ⟨Reg.STG_INC n, 19, 5⟩
def Fld.STG_INC_REASON (n : Nat) : Fld := ⟨Reg.STG_INC n, 0, 8⟩
def Reg.STG_INC_SEG (n : Nat) : Nat := 0x3C0304 + 0x8 * n
def Fld.STG_INC_SEG_LAST_SEG (n : Nat) : Fld := ⟨Reg.STG_INC_SEG n, 16, 14⟩
def Fld.STG_INC_SEG_FIRST_SEG (n : Nat) : Fld := ⟨Reg.STG_INC_SEG n, 0, 14⟩
def Reg.MGT_CFG : Nat := 0x400000
def Fld.MGT_CFG_UDP_EN : Fld := ⟨Reg.MGT_CFG, 31, 1⟩
def Fld.MGT_CFG_ETH_EN : Fld := ⟨Reg.MGT_CFG, 30, 1⟩
def Fld.MGT_CFG_CLASS : Fld := ⟨Reg.MGT_CFG, 16, 3⟩
def Fld.MGT_CFG_UDP_PORT : Fld := ⟨Reg.MGT_CFG, 0, 16⟩
def Reg.MGT_MAC_LO : Nat := 0x400004
def Fld.MGT_MAC_LO_ADDR_LO : Fld := ⟨Reg.MGT_MAC_LO, 0, 32⟩
def Reg.MGT_MAC_HI : Nat := 0x400008
def Fld.MGT_MAC_HI_ADDR_HI : Fld := ⟨Reg.MGT_MAC_HI, 0, 16⟩
def Reg.MGT_IPV4 : Nat := 0x40000C
def Fld.MGT_IPV4_ADDR : Fld := ⟨Reg.MGT_IPV4, 0, 32⟩
def Reg.MGT_IPV6 (n : Nat) : Nat := 0x400010 + 0x4 * n
def Fld.MGT_IPV6_ADDR (n : Nat) : Fld := ⟨Reg.MGT_IPV6 n, 0, 32⟩
def Reg.MGT_SESS_CFG : Nat := 0x400020
def Fld.MGT_SESS_CFG_SLOT_BASE : Fld := ⟨Reg.MGT_SESS_CFG, 24, 8⟩
def Fld.MGT_SESS_CFG_IDLE_S : Fld := ⟨Reg.MGT_SESS_CFG, 0, 16⟩
def Reg.MGT_WR_MASK : Nat := 0x400024
def Fld.MGT_WR_MASK_MASK : Fld := ⟨Reg.MGT_WR_MASK, 0, 23⟩
def Reg.MGT_STATUS : Nat := 0x400030
def Fld.MGT_STATUS_SESSIONS : Fld := ⟨Reg.MGT_STATUS, 24, 8⟩
def Fld.MGT_STATUS_QUEUED : Fld := ⟨Reg.MGT_STATUS, 8, 6⟩
def Fld.MGT_STATUS_OWNER : Fld := ⟨Reg.MGT_STATUS, 0, 3⟩
def Reg.MGT_INT : Nat := 0x400040
def Fld.MGT_INT_EN : Fld := ⟨Reg.MGT_INT, 16, 2⟩
def Fld.MGT_INT_AUTH_FAIL : Fld := ⟨Reg.MGT_INT, 1, 1⟩
def Fld.MGT_INT_SESSION_UP : Fld := ⟨Reg.MGT_INT, 0, 1⟩

end Sys2Proof.Machine
end

