-- ==== Sys2Proof/Machine/State.lean ====
section
/-!
DEFINITION. The state of the device as plain data: every register (one sparse file over the register map),
counter, memory, table, queue, timer, mode and pin that spec/ gives it, and the queue of waiting commands.
Fields marked MODEL'S OWN hold nothing the spec names; NOTES.md says why each is there.
-/
namespace Sys2Proof.Machine

/-- No command of this device stops the machine with a fault: every exception the spec describes is a
record in the fault collector (R472) and the machine goes on. The type has no constructor a meaning
answers with; it is inhabited so that tools can print it. -/
inductive Fault where
  /-- Raised by no meaning (safe: the device has no state in which it stops). -/
  | halted
  deriving DecidableEq, Repr

/-- Why a command has no meaning. -/
inductive Refusal where
  /-- A row of the opcode table that the model does not give a meaning; raised only by
  Machine/Dispatch.lean (safe: the machine stops where the device goes on). -/
  | notModelled (mnemonic : String)
  deriving DecidableEq, Repr

/-- How the flash is read (R102, R104): data lanes, double data rate, clock in MHz, and the read command with its dummy
cycles; none where the spec names no command. -/
structure FlashMode where
  lanes : Nat
  ddr : Bool
  mhz : Nat
  command : Option (Nat × Nat)
  deriving DecidableEq, Repr

/-- What leaves the device, newest first in `State.out` (MODEL'S OWN: the spec's outputs are pins, wires
and messages; this log is where a reader of the model sees them). -/
inductive Out where
  | msix (vector : Nat)
  | nmi
  | frame (port : Nat) (bytes : List Byte) (stomped : Bool)
  | macControl (port : Nat) (pfc : Bool) (enable : Nat) (quanta : List Nat)
  | verify (port : Nat) (response : Bool)
  | pmbus (addr command data : Nat)
  | mdio (op : Nat) (c45 : Bool) (prtad devad data : Nat)
  | tc10Sleep (port : Nat)
  | tc10Wake (port : Nat)
  | busMessage (channel : Nat) (bytes : List Byte)
  | linBreak (channel bits pid : Nat)
  /-- Coding of the XL data phase of the frame that follows: PWMS, PWML and PWMO, or NRZ (R377). -/
  | xlPhase (channel : Nat) (pwm : Option (Nat × Nat × Nat))
  /-- A serial transmission stops after its current character (R383). -/
  | busStop (channel : Nat)
  | busWake (channel : Nat)
  | busSleep (channel : Nat)
  | completion (tag : Nat) (status : Nat) (data : List Byte)
  | dmaWrite (addr : Nat) (data : List Byte)
  /-- A DMA write that goes out poisoned (R420). -/
  | dmaPoison (addr : Nat) (data : List Byte)
  | dmaRead (addr len : Nat)
  | pairFrame (bytes : List Byte)
  | refereeStatus (bytes : List Byte)
  /-- A management message over a frame transport: transport, address, class on port 24 and bytes (R506). -/
  | mgtMessage (via addr cls : Nat) (bytes : List Byte)
  | triggerEdge (k : Nat) (level : Bool)
  | flashWrite (what : Nat) (fields : List Nat)
  /-- A read of `len` bytes of region `what` of the flash: 0 and 1 the slots, 2 and 3 the control records (R102, R104). -/
  | flashRead (mode : FlashMode) (what len : Nat)
  /-- A mode register of the DRAM is written (R113). -/
  | dramMode (reg value : Nat)
  | toFirmware (record bytes : List Byte)
  | firmwareSignal (what : Nat)
  | readData (poison : Bool) (data : Word)
  deriving DecidableEq, Repr

/-- MSI-X (R34). The line levels are TOP_INT_STATUS.LINE. -/
structure Irq where
  /-- MSI-X enable and function mask of PCIe configuration space. -/
  msixEnable : Bool
  funcMask : Bool
  /-- Pending bit array of the 64 vectors. -/
  pba : Nat
  /-- Table of BAR4: 64 entries of 4 words; bit 0 of word 3 masks the vector. -/
  table : Sparse Word
  /-- Core cycle at which each line last went active, by block (R34: a line that rises in the cycle of an end of
  interrupt sends one message). -/
  rose : Sparse (Option Nat)
  deriving DecidableEq, Repr
/-- A block's pending slot for one message-mode source (R472). -/
structure Slot where
  firstKind : Nat
  firstAddr : Nat
  firstTime : Nat
  lastKind : Nat
  lastAddr : Nat
  lastTime : Nat
  /-- Events since the slot was empty, saturating at 65,535. -/
  count : Nat
  /-- Present level a SET or CLEAR code carries; none for an EVENT code. -/
  level : Option Bool
  deriving DecidableEq, Repr

/-- The fault collector's state beside its registers, and the reporting sides (R470 to R481). -/
structure Flt where
  /-- Filled pending slots by source. -/
  slots : Sparse (Option Slot)
  /-- Present level each reporting block sees, by level source. -/
  levels : Sparse Bool
  /-- Dual-rail pairs driven active, by source (true: 0b10). -/
  rails : Sparse Bool
  /-- Pulses a dual-rail source has driven that the collector has not sampled, by source. -/
  pulses : Sparse Nat
  /-- Whether a pair shows an invalid code to the collector, by source (R471). -/
  railBad : Sparse Bool
  /-- Consecutive refused messages by block index (R482). -/
  badMsgs : Sparse Nat
  /-- Events of each rate source in the present 1 ms window (R473). -/
  rate : Sparse Nat
  /-- A RELEASE held until the pin timer ends (R481). -/
  heldRelease : Bool
  /-- The timer ended with HOLD = 0 while a source with PIN = 1 was active (R480). -/
  pinWait : Bool
  /-- A PIN occurrence since the reset, before commit (R480). -/
  pinBefore : Bool
  /-- Non-maskable interrupts waiting for the end of a restart (R477). -/
  nmiWaiting : Nat
  /-- A block other than BOOT has reported kind 0x08 since pass 2 began (R111). -/
  misfit : Bool
  deriving DecidableEq, Repr

/-- Which step of sleep entry runs (R79). -/
inductive EntryStep where
  | stopAdmission | checkpoint
  /-- The checkpoint out of schedule has been asked for and is awaited (R464). -/
  | awaitCheckpoint
  | stopUnits | lower (next : Nat) | reachSleep
  deriving DecidableEq, Repr

/-- A sleep entry in progress (R79, R80). -/
structure SleepEntry where
  /-- TARGET: 1 SLEEP-D, 2 SLEEP-R. -/
  target : Nat
  /-- Power state in which the command was accepted. -/
  fromState : Nat
  step : EntryStep
  /-- The commit point of step 4 has passed. -/
  committed : Bool
  /-- A wake was confirmed at or after the commit point. -/
  wakeHeld : Bool
  deriving DecidableEq, Repr

/-- Where a wake or a start sequence stands (R86, R87, R91, R95). -/
inductive WakeStep where
  /-- No wake runs. -/
  | none
  /-- Waiting for the PGOOD inputs of sequence step `i`. -/
  | pgood (i : Nat)
  /-- A failed attempt waits 100 ms for its retry. -/
  | retry
  /-- Every rail is up after SLEEP-D; the internal cold reset comes next. -/
  | coldReset
  /-- Every rail is up; the start table runs and its entry `k` is next. -/
  | start (k : Nat)
  /-- Every unit is started; the complex and the configuration are being restored. -/
  | restore
  deriving DecidableEq, Repr

/-- Power manager state beside the PWR registers (R76 to R95). -/
structure Pwr where
  /-- The device is held in cold reset: PORST_N is low, or the supplies are off. -/
  porst : Bool
  entry : Option SleepEntry
  wake : WakeStep
  /-- Sequence steps whose rails are down, as a mask of steps. -/
  downSteps : Nat
  /-- PWR_EN outputs (bit set: high, the rail is off; R84). -/
  pwrEn : Nat
  /-- INH output. -/
  inh : Bool
  /-- PGOOD inputs as sampled. -/
  pgood : Nat
  /-- Levels of the WAKE_IN inputs as sampled (R78, R82). -/
  wakeIn : Nat
  /-- Wake sources confirmed and not yet recorded as acted on (R78 code 1). -/
  wakePending : Bool
  /-- Units started, by code (R90). -/
  started : Nat
  /-- A start table is selected and valid (NSTART written with a valid table). -/
  tableOk : Bool
  /-- A chip reset held by the temperature sensor (R74) or by the crystal (R93). -/
  tempHold : Bool
  clockHold : Bool
  /-- Failures of this wake not yet reported on source 0x018 (R87). -/
  unreported : Nat
  /-- A sleep state is held (TARGET encoding), 0 while awake. -/
  asleep : Nat
  /-- I/O banks whose supply ramps up or down, as a mask of bank numbers (R55). -/
  ramp : Nat
  /-- The travel wake of this sleep has been confirmed (R81: the first update at or past the target). -/
  distDone : Bool
  /-- The supplies are lost: OFF (R77). -/
  off : Bool
  deriving DecidableEq, Repr

/-- MDIO frames (R172, R173): a command of the software, or the poll of a port's external PHY. -/
inductive MdioJob where
  /-- A software command: OP, C45, PRTAD, DEVAD and DATA as MAC_MDIO_CMD gave them. -/
  | cmd (word : Word)
  /-- The address frame of a Clause 45 poll of port `p`. -/
  | pollAddr (p : Nat)
  | pollRead (p : Nat)
  deriving DecidableEq, Repr

/-- MAC, PHY and MDIO state beside the MAC and PHY registers (R156 to R175). -/
structure Mac where
  /-- Ports whose signal is present and trained: every condition of UP_PENDING holds but the polled bit. -/
  locked : Nat
  /-- The link bit the master polled last, by port 0-3. -/
  pollBit : Nat
  /-- Ports in UP that have lost a condition of UP_PENDING for less than DN_FILTER. -/
  losing : Nat
  /-- References declared lost: bit 0 SD_REFCLK[0], bit 1 SD_REFCLK[1]. -/
  refLost : Nat
  /-- Quanta of the received pause that runs, by port × 8 + class (R165, R166). -/
  pause : Sparse Nat
  /-- Verify frames sent since the last entry into UP, by port (R168). -/
  tries : Sparse Nat
  /-- MODE, AN_EN and FORCE_SPEED that a port took at its last entry into DOWN, by port (R521). -/
  taken : Sparse (Nat × Bool × Nat)
  /-- Speed that auto-negotiation gave (encoding of SPEED) and whether the partner advertised PAUSE, by port. -/
  an : Sparse (Nat × Bool)
  /-- MDIO frame in progress and the jobs waiting. -/
  mdio : Option MdioJob
  mdioWait : List MdioJob
  /-- Ports that wait in SLEEP for a wake-up while the device sleeps, and those of them that forward one (R171), as masks. -/
  dozing : Nat
  dozeFwd : Nat
  deriving DecidableEq, Repr

/-- An FDB entry (R263). -/
structure FdbEntry where
  mac : Nat
  vid : Nat
  dest : Nat
  flags : Nat
  age : Nat
  deriving DecidableEq, Repr

/-- A learning request (R265): source address, VID, ingress port, whether the address is to be learned and
whether a learning copy is to be sent, and the frame it comes from. -/
structure LearnReq where
  fid : Nat
  mac : Nat
  vid : Nat
  port : Nat
  learn : Bool
  copy : Bool
  deriving DecidableEq, Repr

/-- A walk of the FDB in progress (R281): the port (30 with ALL), whether it is a FLUSH command's walk, the core
cycle at which it began and the first index it has not visited. -/
structure FdbWalk where
  port : Nat
  all : Bool
  cmd : Bool
  start : Nat
  pos : Nat
  deriving DecidableEq, Repr

/-- The account a cell is charged to (R270). -/
inductive Acct where
  | min | shared | headroom | prot | none
  deriving DecidableEq, Repr

/-- One Cellar cell held by a frame: its bank, its account with the class charged, and its index (R259, R270). -/
structure CellRef where
  bank : Nat
  acct : Acct
  cls : Nat
  idx : Nat
  deriving DecidableEq, Repr

/-- What a MACsec job works with, as the tables stood when it started (R357, R360, R363): its SA and PN, the key material,
the IV, the TCI and the explicit SCI of a SecTAG to write, and the confidentiality offset. -/
structure SecJob where
  sa : Nat
  pn : Nat
  key : Nat
  iv : List Byte
  tci : Nat
  sci : List Byte
  off : Nat
  deriving DecidableEq, Repr

/-- One copy of a frame, holding one descriptor (R258). -/
structure Copy where
  fid : Nat
  port : Nat
  cls : Nat
  vid : Nat
  pcp : Nat
  dei : Bool
  untag : Bool
  mirror : Bool
  /-- Mirror length limit in bytes; 0 none. -/
  trunc : Nat
  reason : Nat
  /-- Core cycle at which it was enqueued. -/
  tEnq : Nat
  /-- Sequence number to write or R-TAG to remove (R300). -/
  rtag : Option Nat
  rtagStrip : Bool
  /-- Transmission has begun. -/
  begun : Bool
  /-- Begun on the cut-through path. -/
  cut : Bool
  /-- Its cipher job, once that has been dispatched (R360). -/
  macsec : Option SecJob
  /-- Hatch that a copy on port 25 is delivered to, or stream slot of a copy on port 27. -/
  hatch : Option Nat
  /-- Bytes charged when transmission began (R303), and the frame as a one-step edit left it (R327). -/
  charged : Nat
  edited : Option (List Byte)
  /-- Pass of its frame that made it (R23, R195). -/
  pass : Nat
  /-- It has been preempted: it leaves in more than one fragment (R175). -/
  fragged : Bool
  deriving DecidableEq, Repr

/-- Cellar, admission, FDB and learning state beside the SWC registers (R256 to R283). -/
structure Cel where
  /-- Free cells of each of the 16 banks (R257). -/
  bankFree : List Nat
  /-- Bank the allocator takes next. -/
  bankNext : Nat
  /-- Bank withdrawn for the standby self-test. -/
  bankOut : Option Nat
  /-- Free descriptors, and those that mirror copies hold (R283). -/
  descFree : Nat
  mirrorHeld : Nat
  /-- Cells charged, by port: MIN and PROT_RSV; by port × 8 + class: shared and headroom. -/
  useMin : Sparse Nat
  useProt : Sparse Nat
  useShared : Sparse Nat
  useHead : Sparse Nat
  /-- Copies waiting in queue q, head first. -/
  queues : Sparse (List Copy)
  /-- Copy in transmission by port, and the preempted copy whose fragments wait (R168). -/
  wire : Sparse (Option Copy)
  preempted : Sparse (Option Copy)
  /-- Copies whose egress job has started while their port's wire was busy, by port × 2 + preemption part (R353). -/
  staged : Sparse (Option Copy)
  /-- FDB entries by index: MAC, VID, DEST, FLAGS, AGE. -/
  fdb : Sparse (Option FdbEntry)
  /-- FDB flush walks in progress, oldest first (R268, R281). -/
  walks : List FdbWalk
  /-- A command of SWC_FDB_CMD (its word) waits for a link-down walk to end (R268). -/
  fdbWait : Option Word
  /-- Requests waiting for the learning unit (R265). -/
  learn : List LearnReq
  /-- Core cycle of the last learning copy by address and VID. -/
  learnCopyAt : List (Nat × Nat × Nat)
  /-- Mirror sample counters by session (R282). -/
  mirrorCount : Sparse Nat
  /-- Hold-off has expired since the port last entered UP, by port. -/
  holdDone : Sparse Bool
  /-- The port has a queue flush in progress, by port. -/
  flushing : Sparse Bool
  /-- Classes that have left XOFF and whose release frame is not yet sent, by port. -/
  xoffLeft : Sparse Nat
  /-- A PFC or PAUSE frame is due after an XOFF change, by port. -/
  pfcDue : Sparse Bool
  /-- Core cycle at which the frame or fragment on the wire of each port began (R168). -/
  wireAt : Sparse Nat
  /-- Frames that the held senders of ports 24 to 28 wait to send, oldest first: class, bytes and one-step mode (R274). -/
  hold : Sparse (List (Nat × List Byte × Bool))
  deriving DecidableEq, Repr

/-- The key record (R182), field by field; `addr` holds bytes 16 to 47. -/
structure Key where
  depthExceeded : Bool
  malformed : Bool
  frag : Bool
  firstFrag : Bool
  l4Absent : Bool
  tunnelTaken : Bool
  innerL3 : Bool
  passLimit : Bool
  epochValid : Bool
  rtag : Bool
  inPort : Nat
  passes : Nat
  headers : Nat
  epoch : Nat
  malf : Nat
  l3 : Nat
  l4Proto : Nat
  outerTag : Nat
  innerTag : Nat
  ethertype : Nat
  tos : Nat
  ttl : Nat
  addr : List Byte
  l4Src : Nat
  l4Dst : Nat
  tcpFlags : Nat
  tagCount : Nat
  rtagSeq : Nat
  tunnel : Nat
  user : Word
  deriving DecidableEq, Repr

/-- A frame-length check that awaits the end of the frame (R190, R191). -/
structure LenCheck where
  code : Nat
  /-- Offset of the header in the frame. -/
  at_ : Nat
  /-- The length the header states: 802.3 length, IPv4 total length or IPv6 payload length. -/
  stated : Nat
  deriving DecidableEq, Repr

/-- How a parse ended (R189). -/
inductive ParseEnd where
  | normal | depth | malf (code : Nat)
  deriving DecidableEq, Repr

/-- What an instance of a program is doing (R179). -/
inductive EngStatus where
  | idle
  | run
  /-- Stalled until the frame holds `need` bytes or has ended (R17). -/
  | stalled (need : Nat)
  /-- Ended; waits for the end of the frame or of the window for its length checks (R191, R192). -/
  | waitEnd
  | ended
  deriving DecidableEq, Repr

/-- What SEL names for type AUTO: the context the previous header step left (R211). -/
inductive SelCtx where
  | ether | tunnel | ip4 | ip6 | udp | none
  deriving DecidableEq, Repr

/-- An instance of a program: a Rake or the gateway engine (R203). -/
structure Eng where
  status : EngStatus
  w : List Word
  z : Bool
  n : Bool
  c : Bool
  v : Bool
  pc : Nat
  stack : List Nat
  icount : Nat
  cycles : Nat
  /-- Cycles spent stalled, and the core cycle at which the present stall began. -/
  stall : Nat
  stallAt : Nat
  /-- Parser profile: the frame, CUR, SEL and the header step's own state. -/
  fid : Nat
  cur : Nat
  sel : Nat
  l2pos : Bool
  done : Bool
  ctx : SelCtx
  secTag : Bool
  ipEnd : Nat
  udpEnd : Nat
  key : Key
  checks : List LenCheck
  outcome : ParseEnd
  recirc : Option (Option Nat)
  /-- Number of the execution fault that ended the program; 0 none (R220). -/
  fault : Nat
  deriving DecidableEq, Repr

/-- Where a frame stands on the path of R16. -/
inductive Stage where
  /-- Arriving or arrived, waiting for its MACsec verification job (R19). -/
  | verify
  /-- Waiting for a Rake once 64 bytes are written (R176). -/
  | ready
  | parsing (rake : Nat)
  /-- Stages 5 to 7 done; stage 8 needs the length of the whole frame, which still arrives (R291). -/
  | measure
  /-- Stages 5 to 8 done; waits for its turn at stage 9 (R18). -/
  | decide
  /-- Past stage 10. -/
  | queued
  /-- Marked and leaving through port 28 (R195). -/
  | recirc
  deriving DecidableEq, Repr

/-- What stages 5 to 8 found for a frame (R224 to R300). -/
structure Verdict where
  stream : Option Nat
  zoneSrc : Nat
  zoneDst : Nat
  multi : Bool
  rule : Option (Nat × Nat)
  /-- The frame is forwarded (PERMIT, session hit or BYPASS). -/
  forward : Bool
  bypass : Bool
  /-- Delivery to a Hatch or the control complex: destination and reason. -/
  toCcx : Option Nat
  toHatch : Option Nat
  reason : Nat
  session : Option Nat
  sessionNew : Bool
  colour : Nat
  dei : Bool
  clsOverride : Option Nat
  /-- Explicit destination ports of a rule action; none: by FDB. -/
  destPorts : Option Nat
  recirc : Option (Option Nat)
  mirrorMask : Nat
  ipv : Option Nat
  rtagSeq : Option Nat
  fdbDest : Option FdbEntry
  vid : Nat
  pcp : Nat
  noLearn : Bool
  /-- FRER function that stage 8 ran on the first pass, and whether it removes the R-TAG (R290, R301). -/
  frer : Option (Nat × Bool)
  /-- The frame carried a VID of 1 to 4094 when it arrived (R260). -/
  tagged : Bool
  deriving DecidableEq, Repr

/-- A frame as one pass left it (R195): its bytes and what stages 3 to 8 of that pass found. -/
structure FrameView where
  bytes : List Byte
  passes : Nat
  key : Key
  verdict : Verdict
  epoch : Option Nat
  deriving DecidableEq, Repr

/-- A frame in the device (R256, R258). -/
structure Frame where
  inPort : Nat
  /-- Bytes written so far, without FCS. -/
  bytes : List Byte
  ended : Bool
  bad : Bool
  /-- T64 of the stage 1 timestamp, and the order of arrival. -/
  rxTime : Nat
  /-- Tracker stamps of the same tick (R325), in 2^-40 ns, and whether the PTP receive work is done. -/
  rxTrk0 : Nat
  rxTrk1 : Nat
  rxWc : Nat
  /-- D48 in the tick of the stamp (R438). -/
  rxDist : Nat
  ptpDone : Bool
  /-- The firmware sends the event message in one-step mode (R327). -/
  oneStep : Bool
  /-- Working-clock steps applied before the stamp (R338). -/
  stepNo : Nat
  order : Nat
  cls : Nat
  cells : List CellRef
  /-- Dropped at ingress: the rest is discarded as it arrives (R270). -/
  dropped : Bool
  /-- Copies that still hold a descriptor. -/
  refs : Nat
  /-- The descriptor of stage 1 is held (R258). -/
  ownDesc : Bool
  stage : Stage
  passes : Nat
  user : Word
  epoch : Option Nat
  /-- The frame holds a reference to the bank of its stamp (R240). -/
  ref : Bool
  entry : Option Nat
  sc : Option Nat
  /-- PN of the SecTAG and association number while a verification job waits. -/
  secPn : Nat
  secAn : Nat
  key : Key
  checks : List LenCheck
  verdict : Verdict
  fcsLen : Nat
  /-- The passes before the present one, first pass first: what their copies carry (R23, R195). -/
  past : List FrameView
  /-- Its verification job, once that has started (R357). -/
  secJob : Option SecJob
  deriving DecidableEq, Repr

/-- Rakes, dispatch and the program store beside the RAK registers (R176 to R223). -/
structure Rak where
  rakes : Sparse (Option Eng)
  /-- Rake assigned last (R177). -/
  last : Nat
  /-- Program store: 16,384 words of 64 bits, and the 64 entries (VALID, START). -/
  store : Sparse (BitVec 64)
  entries : Sparse (Option Nat)
  deriving DecidableEq, Repr

/-- A firewall session entry (R246): bytes 0 to 39, FLAGS, STATE, RULE, PKTS, LAST and CREATED. -/
structure Sess where
  key : List Byte
  flags : Nat
  state : Nat
  rule : Nat
  pkts : Nat
  last : Nat
  created : Nat
  deriving DecidableEq, Repr

/-- Tree memory and the session table (R227, R245). -/
structure Cls where
  /-- Tree memory, 262,144 words. -/
  tree : Sparse (BitVec 64)
  /-- Low half held for a direct write, by requester (R227). -/
  heldLo : Sparse (Option Word)
  /-- Low word held by CLS_TREE_DATA_LO (R243). -/
  dataLo : Word
  /-- Session table by session index. -/
  sess : Sparse (Option Sess)
  /-- Creations held by the creation unit, oldest first (R248). -/
  held : List Sess
  /-- A session FLUSH walk runs (R522): its ALL bit, the core cycle at which it began and the first index it has not
  visited. -/
  flush : Option (Bool × Nat × Nat)
  /-- Draw that numbers the per-boot hash key (R245). -/
  hashDraw : Nat
  deriving DecidableEq, Repr

/-- Stream tables and scheduler state (R287 to R315). -/
structure Stm where
  /-- STM tables 0 to 3 by table × 4,096 + index, as entry bytes (R315). -/
  tab : Sparse (List Byte)
  /-- Tokens of the committed and excess buckets, in 1/125,000 byte (R294). -/
  tokC : Sparse Nat
  tokE : Sparse Nat
  /-- The recovery timer of a FRER function runs (R299). -/
  frerTimer : Sparse Bool
  /-- Shaper credit by queue, in 1/125,000 byte (R304, R305). -/
  credit : Sparse Int
  /-- DWRR deficit by queue, in bytes (R309). -/
  deficit : Sparse Nat
  /-- DWRR: class whose turn it is, and whether its quantum has been added, by port and preemption part. -/
  turn : Sparse (Nat × Bool)
  /-- Histogram bins by queue × 16 + bin (R311). -/
  hist : Sparse Nat
  deriving DecidableEq, Repr

/-- A gate list configuration that runs or waits (R330 to R333, R339). -/
structure GateConf where
  base : Nat
  cycle : Nat
  /-- INTERVAL and the state word (layout of GAT_GATES) of each entry. -/
  entries : List (Nat × Nat)
  /-- Gate states held before `base` after a restart (R339). -/
  hold : Nat
  restarted : Bool
  deriving DecidableEq, Repr

/-- A pending change of a gate list (R333). -/
structure GatePend where
  conf : GateConf
  adminBase : Nat
  /-- Working clock at acceptance. -/
  accepted : Nat
  /-- The copy has ended and the change time is fixed. -/
  copied : Bool
  deriving DecidableEq, Repr

/-- Gate lists beside the GAT registers. -/
structure Gat where
  /-- Administrative entries, by list × 1,024 + entry (R330). -/
  admin : Sparse (BitVec 64)
  oper : Sparse (Option GateConf)
  pend : Sparse (Option GatePend)
  /-- Previous configurations, newest first: each with the core cycle at which it was left and whether a restart left it (R338). -/
  prev : Sparse (List (Option GateConf × Nat × Bool))
  deriving DecidableEq, Repr

/-- A transmit timestamp record (R326). -/
structure TxRec where
  clock : Nat
  port : Nat
  msgType : Nat
  seqId : Nat
  domain : Nat
  /-- The stamp, in 2^-40 ns. -/
  stamp : Nat
  deriving DecidableEq, Repr

/-- A capture entry (R348). -/
structure CaptRec where
  time : Nat
  dist : Nat
  rise : Bool
  deriving DecidableEq, Repr

/-- The time unit beside the TIM registers (R317 to R348). Clocks count 2^-40 ns. -/
structure Tim where
  wc : Nat
  trk0 : Nat
  trk1 : Nat
  /-- Rate of the working clock, in 2^-12 ppb, as last steered. -/
  wcRate : Int
  /-- Steps written to TIM_DOM_ADJ that apply at the next tick, in ns (R318). -/
  adj0 : Int
  adj1 : Int
  /-- Number of working-clock steps applied (R338 uses it modulo 4). -/
  steps : Nat
  /-- A step waits: tracker and boundary (R323). -/
  stepReq : Option (Nat × Nat)
  txts : List TxRec
  /-- Capture FIFOs by input, head first, and whether an entry has been lost since one was last read. -/
  capt : Sparse (List CaptRec)
  captLost : Sparse Bool
  /-- Travel accumulator and reverse debt, in 2^-16 mm (R340, R341). -/
  odo : Nat
  debt : Nat
  /-- Levels of ODO_A and ODO_B. -/
  odoA : Bool
  odoB : Bool
  /-- Next due moment of each armed trigger (R345); none once finished or disarmed. -/
  due : Sparse (Option Nat)
  /-- Triggers that fell due in the present command, for the Strongroom and the gateway (R347; MODEL'S OWN). -/
  fresh : List Nat
  /-- TRIG[k] is at its active level. -/
  pulse : Sparse Bool
  /-- Receive stamps of the last Pdelay_Req messages by port: sequenceId, clock and stamp (R327). -/
  pdelay : Sparse (List (Nat × Nat × Nat))
  deriving DecidableEq, Repr

/-- What a job of the Sluice works on (R352). -/
inductive JobOf where
  /-- Egress protection of the copy of frame `fid` in class `cls` for `port`. -/
  | egress (port fid cls : Nat)
  /-- Verification of frame `fid`. -/
  | ingress (fid : Nat)
  /-- Service and bulk work of the class given, under the key of a slot. -/
  | other (cls : Nat) (slot : Option Nat)
  /-- The known-answer test of Pan `p` (R367): whether the Pan answers wrongly, and whether CPH_PAN_CMD asked for it. -/
  | kat (p : Nat) (bad back : Bool)
  deriving DecidableEq, Repr

/-- A job, the order of its start, and the context that a suspension saves (R353, R354): the key slot, the IV that heads the
counter block, the byte position and the GHASH accumulator. -/
structure Job where
  work : JobOf
  start : Nat
  slot : Option Nat
  iv : List Byte
  pos : Nat
  ghash : Nat
  deriving DecidableEq, Repr

/-- The Pans, the Sluice and the CPH tables (R352 to R373). -/
structure Cph where
  /-- Waiting jobs in the order of their requests. -/
  waiting : List JobOf
  /-- Job of each Pan, 0 to 3. -/
  pans : Sparse (Option Job)
  /-- Suspended contexts, at most 64. -/
  suspended : List Job
  /-- Pan assigned last, and the number of jobs started. -/
  last : Nat
  started : Nat
  /-- Verification jobs that have ended on a Pan and wait for their verdict: frame and Pan. -/
  verdicts : List (Nat × Nat)
  /-- Tables 0 to 3 by table × 1,024 + index, as entry bytes (R373). -/
  tab : Sparse (List Byte)
  /-- Frames that wait to request their verification job, oldest first: their port has two outstanding (R355). -/
  backlog : List Nat
  /-- Waiting jobs whose wait for a context has been counted (R354). -/
  counted : List JobOf
  /-- ICV failures of each Pan in the window that has ended for it but not yet for every Pan (R366). -/
  winEnd : Sparse (Option Nat)
  /-- The freshness table has been loaded since the last cold reset or wake from SLEEP-D (R370). -/
  loaded : Bool
  deriving DecidableEq, Repr


/-- The security functions beside the SEC registers (R131 to R155). -/
structure Sec where
  /-- Key material of each slot, as a number that stands for it; it is never readable (R31, R131). -/
  mat : Sparse Nat
  /-- Lifecycle state in force: 0 MANUFACTURE, 1 PROVISIONED, 2 DEPLOYED, 3 RETURNED (R135). -/
  life : Nat
  /-- The 3-bit lifecycle fuse field as blown, which takes effect at the next cold reset (R135, R136). -/
  fuse : Nat
  /-- Target of a fuse write in progress (R136, R137). -/
  blowing : Option Nat
  /-- Provisioning data complete (R136). -/
  prov : Bool
  /-- Blown bits of the version fuse field: the anti-rollback floor (R107). -/
  floor : Nat
  /-- The unit KEK and the identity key, where they have been derived (R139, R154). -/
  unitKek : Option Nat
  ident : Option Nat
  /-- A debug challenge is current (R151); challenges are refused (R152). -/
  chal : Bool
  chalShut : Bool
  /-- Level of the debug unlock, 0 none (R153). -/
  level : Nat
  /-- Draw of the DRBG's present seed (R149). -/
  seed : Nat
  /-- UID, class and device certificate as programmed (R138, R140). -/
  uid : List Byte
  cls : Nat
  cert : List Byte
  /-- The pair wrap key, beside the KEKs (R491). -/
  wrap : Option Nat
  /-- The class KEK, where it has been derived (R139, R154). -/
  classKek : Option Nat
  /-- Root key hashes in fuses, by index 0-3, and a mask of the revoked indices (R104, R105). -/
  roots : List (List Byte)
  revoked : Nat
  /-- The 256-bit device unique key and the 256-bit class secret, in fuses (R138). -/
  duk : List Byte
  secret : List Byte
  /-- Generate requests since the DRBG's last reseed (R149). -/
  requests : Nat
  deriving DecidableEq, Repr

/-- Where the start of the unit stands (R99, R103, R118, R125). -/
inductive BootStage where
  /-- Before steps 2 to 6 of R99. -/
  | start
  /-- A source is being read: pass 1 or pass 2. -/
  | pass1 | pass2
  /-- Woken from SLEEP-R: the resume region is to be applied. -/
  | resume
  | committed
  | failed
  deriving DecidableEq, Repr

/-- The source being loaded (R103, R117, R120). -/
structure Load where
  /-- As BOOT_STATUS.SOURCE: 1 slot A, 2 slot B, 3 PCIe, 4 resume. -/
  source : Nat
  /-- Bytes of the image that the present pass has read. -/
  bytes : List Byte
  /-- A PCIe source has passed its header check. -/
  checked : Bool
  /-- Offset of the next section to apply in pass 2. -/
  pos : Nat
  deriving DecidableEq, Repr

/-- A capsule update (R127, R128). -/
structure Upd where
  runtime : Bool
  /-- Bytes received. -/
  len : Nat
  deriving DecidableEq, Repr

/-- The boot process, the flash and the updates beside the BOOT registers (R96 to R130). -/
structure Boot where
  /-- Slots A and B of the flash as their programmed bytes, and the two control record copies (R96, R97). -/
  flashA : List Byte
  flashB : List Byte
  rec0 : List Byte
  rec1 : List Byte
  /-- Control record copy in force; none when neither is valid (R98). -/
  recAt : Option Nat
  /-- The control record in force. -/
  seq : Nat
  pref : Nat
  trial : Bool
  tries : Nat
  /-- Result of each slot's header check at step 6 of R99: a code of R114, 0 passed. -/
  hdrA : Nat
  hdrB : Nat
  /-- Sources not yet tried, in order (R103). -/
  rest : List Nat
  stage : BootStage
  /-- Slot that the running image came from: 0 A, 1 B, 2 PCIe. -/
  slot : Nat
  load : Option Load
  /-- DRAM training: none while it runs or is not needed (R113). -/
  train : Option Bool
  /-- Header of the running image (R104). -/
  header : List Byte
  /-- CAPSULE_CHAIN and PARTIAL of the quote (R141). -/
  chain : List Byte
  partialRun : Bool
  /-- The freshness table as pass 2 found it (R116, R370). -/
  sealed0 : Sparse (List Byte)
  /-- Tagged parts of the resume region, the image first, as offset and length; none while void (R124). -/
  parts : List (Nat × Nat)
  /-- The resume region is being re-tagged (R125). -/
  retag : Bool
  upd : Option Upd
  /-- Length of a chunk submitted and not yet taken (R119). -/
  chunk : Option Nat
  /-- Core cycle of release or wake confirmation (R122). -/
  born : Nat
  /-- How the flash was last read (R102, R104). -/
  flashMode : Option FlashMode
  deriving DecidableEq, Repr

/-- The DRAM section in force (R113). -/
structure DramCfg where
  sizeMib : Nat
  ranks : Nat
  link : Nat
  resumeMib : Nat
  stagingMib : Nat
  /-- Mode registers that the section writes, in order: number and value. -/
  modes : List (Nat × Nat)
  deriving DecidableEq, Repr

/-- The DRAM port and its contents (R113, R483). -/
structure Dram where
  cfg : Option DramCfg
  /-- Trained and out of reset. -/
  up : Bool
  /-- In self-refresh (R76). -/
  selfRefresh : Bool
  /-- Refresh rate that the DRAM last reported in MR4, as the port follows it (R71). -/
  refresh : Nat
  /-- Draw at which the contents were last lost; an unlisted byte is then `Config.dramByte` of it. -/
  epoch : Nat
  /-- Bytes written since, by DRAM offset. -/
  cells : Sparse (Option Byte)
  deriving DecidableEq, Repr

/-- A segment entry of the Strongroom directory (R441). -/
structure SegEnt where
  frozen : Nat
  filled : Bool
  step : Bool
  writing : Bool
  pfx : Nat
  firstTime : Nat
  firstDist : Nat
  deriving DecidableEq, Repr

/-- What the directory keeps of an incident beside STG_INC and STG_INC_SEG, with its window (R441, R446). -/
structure IncInfo where
  time : Nat
  dist : Nat
  baseValue : Nat
  pfx : Nat
  /-- The session record of the incident's session. -/
  sess : List Byte
  unit : Nat
  post : Nat
  /-- Bound of the post window in s, and the core cycle of the trigger (R446). -/
  limit : Nat
  began : Nat
  deriving DecidableEq, Repr

/-- A replay in progress (R448): the segment whose chunk is next, none before the first frame. -/
structure StgExport where
  inc : Nat
  seg : Option Nat
  off : Nat
  seq : Nat
  deriving DecidableEq, Repr

/-- A session of the Strongroom (R439): its prefix, the counter of its next record and its session record. -/
structure StgSess where
  pfx : Nat
  counter : Nat
  record : List Byte
  deriving DecidableEq, Repr

/-- The Strongroom beside the STG registers (R435 to R449). -/
structure Stg where
  segs : Sparse SegEnt
  incs : Sparse (Option IncInfo)
  session : Option StgSess
  /-- Offset in the writer's segment at which the next record goes; none until a segment is entered. -/
  wpos : Option Nat
  /-- BASE_MIB and SIZE_MIB under which the directory was laid. -/
  dirAt : Option (Nat × Nat)
  exp : Option StgExport
  /-- IV prefix drawn at this boot or resume (R150, R371). -/
  pfx : Nat
  deriving DecidableEq, Repr

/-- A line of a Hatch (R423), without its sequence number when it holds no data. -/
structure HLine where
  data : List Byte
  last : Bool
  ovf : Bool
  seq : Nat
  deriving DecidableEq, Repr

/-- A Hatch beside its registers (R422 to R431): the lines of head and tail, and how many lines lie in the spill region. -/
structure Hatch where
  head : List HLine
  tail : List HLine
  /-- Lines in the spill region, and the number within it of the oldest. -/
  spill : Nat
  first : Nat
  /-- SEQ of the next line written. -/
  seq : Nat
  /-- The next message that enters begins with OVF. -/
  ovf : Bool
  /-- The next line that reaches the head has OVF: lines before it were lost (R427). -/
  cut : Bool
  /-- Words of the message being pushed; none while no message is. -/
  push : Option (List Word)
  /-- The first refused write of the message being pushed has been logged (R429). -/
  told : Bool
  deriving DecidableEq, Repr

/-- A prefetch buffer (R409): the internal address and bytes it holds, whether they have arrived, and when. -/
structure PfBuf where
  addr : Nat
  len : Nat
  filled : Bool
  bytes : List Byte
  /-- Order of last use. -/
  used : Nat
  born : Nat
  deriving DecidableEq, Repr

/-- What a transmit ring waits for (R417). -/
inductive RingWait where
  /-- The descriptor at this index. -/
  | desc (idx : Nat)
  /-- Descriptor `idx` is read; its buffer at `addr` waits until the ring may fetch again. -/
  | buf (idx addr len ctrl : Nat)
  /-- `len` bytes of the buffer of descriptor `idx`, with its CTRL. -/
  | data (idx len ctrl : Nat)
  /-- The frame is whole and waits for port 25 (R274). -/
  | enter
  deriving DecidableEq, Repr

/-- A ring beside its registers (R415 to R420). -/
structure Ring where
  wait : Option RingWait
  /-- Transmit: bytes gathered, and LEN and CTRL of each descriptor taken for the frame in fetch. -/
  bytes : List Byte
  descs : List (Nat × Nat)
  /-- The coalescing timer runs. -/
  coal : Bool
  deriving DecidableEq, Repr

/-- The host bridge beside the BRG registers (R403 to R421). -/
structure Brg where
  /-- Prefetch buffers 0 to 15. -/
  bufs : Sparse (Option PfBuf)
  /-- Prefetches started, for the least recently used buffer. -/
  uses : Nat
  rings : Sparse Ring
  /-- Tags of inbound reads whose target has not answered. -/
  open_ : List Nat
  /-- Max_Payload_Size and Max_Read_Request_Size in bytes, as the host sets them. -/
  mps : Nat
  mrrs : Nat
  /-- The function is in D3hot (R403). -/
  d3hot : Bool
  deriving DecidableEq, Repr

/-- LIN commander: where its schedule stands. -/
inductive LinSlot where
  /-- Not running. -/
  | off
  /-- Entry `s` starts next. -/
  | next (s : Nat)
  /-- Waits 100 ms after a wake (R384). -/
  | resume
  deriving DecidableEq, Repr

/-- A bus channel beside its registers (R375 to R400). -/
structure Chan where
  /-- Events that wait, oldest first. -/
  fifo : List Msg
  /-- Messages to send, in order of SEND. -/
  txq : List Msg
  /-- Message on the bus, and whether the queue has been flushed since it started. -/
  onBus : Option Msg
  flushed : Bool
  /-- Loaded LIN responses by ID. -/
  lin : Sparse (Option Msg)
  slot : LinSlot
  /-- A header was seen whose response is awaited: its ID, and T64 of its break. -/
  header : Option (Nat × Nat)
  /-- Core cycle of the last event posted, and how many were posted in it (R392). -/
  posted : Nat × Nat
  /-- RECOVER was given, or AUTO_RECOVER: the channel counts recessive bits (R378). -/
  recovering : Bool
  /-- Characters of the serial message being received, its address or time, and the worst error seen. -/
  rx : List Byte
  rxId : Nat
  rxTime : Nat
  rxErr : Nat
  /-- A SLEEP command waits for the go-to-sleep frame or the frame in transmission to end. -/
  sleeping : Bool
  deriving DecidableEq, Repr

/-- The event the gateway engine serves (R386, R390, R393). -/
structure GwEvent where
  chan : Nat
  msg : Msg
  olen : Nat
  /-- Context bytes as loaded, with the stores made so far. -/
  ctx : List Byte
  /-- Context bytes that the event has stored to. -/
  dirty : List Nat
  base : Nat
  len : Nat
  /-- The context missed the cache: 48 ns more (R393). -/
  miss : Bool
  deriving DecidableEq, Repr

/-- The gateway engine beside the GWE registers (R375 to R402). -/
structure Gwe where
  chans : Sparse Chan
  /-- The Pantry, by byte offset. -/
  pantry : Sparse Byte
  /-- The output buffer of 2,176 bytes (R390). -/
  obuf : Sparse Byte
  eng : Option Eng
  event : Option GwEvent
  /-- Channel served last. -/
  last : Nat
  /-- Contexts in the cache, most recently used first. -/
  cache : List Nat
  /-- SEQ by encapsulation entry (R398). -/
  encap : Sparse Nat
  deriving DecidableEq, Repr

/-- The control complex beside the CCX registers (R452 to R466). The contents of the TCM data region and of the
state image are named by a number, since no rule gives the firmware's own data. -/
structure Ccx where
  /-- Contents of the data region and the state image. -/
  live : Nat
  /-- Contents held in checkpoint buffers 0 and 1; none: invalid. -/
  buf0 : Option Nat
  buf1 : Option Nat
  /-- The firmware has been signalled to park (R459). -/
  noticed : Bool
  /-- A checkpoint out of schedule is due (R456, R464). -/
  unscheduled : Bool
  /-- A restart is at steps 1 to 5 of R461. -/
  halted : Bool
  /-- Core cycle at which the present restart began. -/
  began : Nat
  /-- Core cycles of the mismatches recorded, by group, latest first (R463). -/
  times : Sparse (List Nat)
  /-- Core cycle of the last restart of source 0x056 (R463). -/
  parkFail : Option Nat
  /-- Rotation of the periodic comparator tests (R457): rail × 2 + polarity of the next one. -/
  turn : Nat
  /-- Core cycle at which the next checkpoint of the schedule is due (R459). -/
  due : Nat
  /-- The instruction region of the TCM: the version of the firmware that the ROM copied there; none before (R452, R458). -/
  text : Option Word
  /-- The key store of the TCM (R458): draw of the key of management session k under k, and of the key that the firmware put
  into slot k under 8 + k, each plus 1. -/
  keys : Sparse Nat
  /-- Scratch of the TCM: the frames of port 24 that it buffers, newest first (R458). -/
  scratch : List Byte
  /-- Draw of the MKA member number, plus 1 (0: none), and the message number of the last MKPDU sent (R460). -/
  mkaMember : Nat
  mkaSent : Nat
  /-- Messages to the firmware that wait for the end of a restart, oldest first (R465). -/
  inputs : List FwInput
  deriving DecidableEq, Repr

/-- Where the pair link stands (R491, R492). -/
inductive PairLink where
  | down
  /-- A HELLO is sent; the partner's is awaited. -/
  | hello
  /-- Both HELLOs are exchanged; the partner's PROOF is awaited. -/
  | proof
  | up
  deriving DecidableEq, Repr

/-- A standby self-test in progress (R498): the Cellar bank under test, whether its test has begun, and the result of
the Pans and the ports. -/
structure SelfTest where
  bank : Nat
  begun : Bool
  ok : Bool
  deriving DecidableEq, Repr

/-- Paired operation beside the PAIR registers (R485 to R503). -/
structure Pair where
  /-- Block lock on the pair lane (R491). -/
  lock : Bool
  link : PairLink
  peer : Option PairPeer
  /-- The HELLO sent last: its ephemeral private key and its body (R491). -/
  hello : Option (Nat × List Byte)
  /-- T64 of the transmit timestamp of the last TIME frame, and the link delay in ns (R494). -/
  timeSent : Option Nat
  delay : Int
  /-- Own COUNTER: the draw that gives its high half, and its low half (R489). -/
  cntDraw : Nat
  cntLow : Nat
  /-- Last COUNTER accepted from the referee and from the partner. -/
  refSeen : Nat
  peerSeen : Nat
  /-- Core cycle at which the lease ends (R486). -/
  leaseEnd : Option Nat
  /-- Latest STATUS: its COUNTER and the core cycles of its first bit and last byte (R489). -/
  status : Option (Nat × Nat × Nat)
  /-- Core cycle at which the GRANT of the running take-over arrived (R501). -/
  take : Option Nat
  /-- CRATE_SEQ of the last crate sent (R460). -/
  crateOut : Nat
  /-- Crate being received: CRATE_SEQ, the next fragment and the bytes staged (R496). -/
  crateIn : Option (Nat × Nat × Nat)
  /-- Complete crate staged in DRAM that awaits its application: its bytes and the core cycle of its last. -/
  crateDone : Option (Nat × Nat)
  /-- SWEEP_US of the last applied crate and the core cycle at which its last byte arrived (R497). -/
  applied : Option (Nat × Nat)
  /-- The pair link has gone down since that crate (R499). -/
  lostLink : Bool
  test : Option SelfTest
  /-- Bank of the next self-test (R498). -/
  bank : Nat
  /-- HEALTH byte last received. -/
  health : Nat
  deriving DecidableEq, Repr

/-- A management request that has been accepted (R514): its session (8: one that has ended since), the session's
privileges and the core cycle at which it was accepted. -/
structure MgtReq where
  session : Nat
  priv : Nat
  at_ : Nat
  reqId : Nat
  opcode : Nat
  params : List Byte
  deriving DecidableEq, Repr

/-- A response as built (R513): REQ_ID, STATUS, DETAIL and the result. -/
structure MgtResp where
  reqId : Nat
  opcode : Nat
  status : Nat
  detail : Nat
  result : List Word
  deriving DecidableEq, Repr

/-- A management session (R510 to R513). -/
structure MgtSess where
  /-- FINISH has verified. -/
  up : Bool
  /-- Transport (0 UDP over IPv4, 1 EtherType, 2 mailbox, 3 UDP over IPv6) and source address of its HELLO. -/
  via : Nat
  addr : Nat
  /-- Granted privileges. -/
  priv : Nat
  /-- Highest SEQ accepted and the 64 values up to it that have been (bit 0: the highest). -/
  high : Nat
  window : Nat
  /-- SEQ of the last message sent. -/
  sent : Nat
  /-- Requests accepted and not completed, and the last 8 completed responses, newest first. -/
  open_ : List Nat
  kept : List MgtResp
  /-- Core cycle of HELLO_REPLY, and of the last accepted message. -/
  began : Nat
  heard : Nat
  /-- The ECDH shared secret, from which the keys and the SALTs of both directions follow (R510). -/
  secret : List Byte
  deriving DecidableEq, Repr

/-- The management service beside the MGT registers (R506 to R519). -/
structure Mgt where
  sess : Sparse (Option MgtSess)
  /-- Accepted requests, oldest first (R514). -/
  queue : List MgtReq
  /-- The operation of the oldest request has begun and its result is awaited. -/
  begun : Bool
  /-- Session that owns an update, and the update's bytes not yet passed to BOOT, with the count of all (R517). -/
  owner : Option Nat
  hold : List Byte
  total : Nat
  /-- Payload of the TRUST section (R508). -/
  trust : List Byte
  deriving DecidableEq, Repr
/-- The state of the device. -/
structure State where
  /-- Every register that differs from its reset value, by internal address (R5, R31). -/
  regs : Sparse Word
  /-- The 64-bit counters, by the address of their low word (R10). -/
  ctr : Sparse Nat
  /-- What a latching read left for each requester, by requester and address (R10, R12). -/
  latch : Sparse Word
  /-- Core cycles (R26, 1.000 GHz): the time base of durations, which no reset sets back. -/
  cycles : Nat
  /-- How many free values have been drawn (MODEL'S OWN). -/
  draws : Nat
  /-- What has left the device, newest first (MODEL'S OWN). -/
  out : List Out
  /-- MSI-X (R33, R34). -/
  irq : Irq
  /-- Fault collector and reporting slots (R470 to R481). -/
  flt : Flt
  /-- Power manager (R76 to R95). -/
  pwr : Pwr
  /-- Cellar, queues, FDB and learning (R256 to R283). -/
  cel : Cel
  /-- Ports, PHYs and MDIO (R156 to R175). -/
  mac : Mac
  /-- Frames in the device, by frame number (MODEL'S OWN numbering). -/
  frames : Sparse (Option Frame)
  /-- Number of the next frame (MODEL'S OWN). -/
  nextFid : Nat
  /-- Rakes and program store (R176 to R223). -/
  rak : Rak
  /-- Damaged words of the ECC memories: 1 correctable, 2 uncorrectable (MODEL'S OWN; no command damages a word). -/
  ecc : Sparse Nat
  /-- Tree memory and session table (R227, R245). -/
  cls : Cls
  /-- Stream tables, meters, FRER, shapers and DWRR (R287 to R315). -/
  stm : Stm
  /-- Clocks, travel counter, triggers, captures (R317 to R348). -/
  tim : Tim
  /-- Gate lists (R330 to R339). -/
  gat : Gat
  /-- Cipher engine (R352 to R374). -/
  cph : Cph
  /-- Fault kind of the register write that a block has just refused (R412; MODEL'S OWN). -/
  wfail : Option Nat
  /-- Key material and security state (R133 to R155). -/
  sec : Sec
  /-- DRAM port and contents (R113). -/
  dram : Dram
  /-- Strongroom (R435 to R449). -/
  stg : Stg
  /-- Hatches (R422 to R431). -/
  hat : Sparse Hatch
  /-- Host bridge (R403 to R421). -/
  brg : Brg
  /-- Gateway engine and channels (R375 to R402). -/
  gwe : Gwe
  /-- Boot process, flash and updates (R96 to R130). -/
  boot : Boot
  /-- Control complex (R452 to R466). -/
  ccx : Ccx
  /-- Paired operation (R485 to R503). -/
  pair : Pair
  /-- Management service (R506 to R519). -/
  mgt : Mgt
  /-- Blocks in block reset, bit b for block index b (R30). -/
  blockRst : Nat
  /-- Commands that wait, first in first out. -/
  pending : List Instr
  deriving DecidableEq, Repr

/-- The device in cold reset with PORST_N low and no command waiting (R27, R51): every field at the value the
spec states for reset, and the others at the values the assumption log names. -/
def State.reset : State :=
  {
    regs := [],
    ctr := [],
    latch := [],
    cycles := 0,
    draws := 0,
    out := [],
    irq := ⟨false, false, 0, [], []⟩,
    flt := ⟨[], [], [], [], [], [], [], false, false, false, 0, false⟩,
    pwr := ⟨true, .none, .none, 0, 0, true, 255, 0, false, 0, false, false, false, 0, 0, 0, false, false⟩,
    cel := ⟨List.replicate 16 3072, 0, .none, 65536, 0, [], [], [], [], [], [], [], [], [], [], .none, [], [], [], [], [], [], [], [], []⟩,
    mac := ⟨0, 0, 0, 0, [], [], [], [], .none, [], 0, 0⟩,
    frames := [],
    nextFid := 1,
    rak := ⟨[], 31, [], []⟩,
    ecc := [],
    cls := ⟨[], [], 0, [], [], .none, 0⟩,
    stm := ⟨[], [], [], [], [], [], [], []⟩,
    tim := ⟨0, 0, 0, 0, 0, 0, 0, .none, [], [], [], 0, 0, false, false, [], [], [], []⟩,
    gat := ⟨[], [], [], []⟩,
    cph := ⟨[], [], [], 3, 0, [], [], [], [], [], false⟩,
    wfail := .none,
    sec := ⟨[], 0, 0, .none, false, 0, .none, .none, false, false, 0, 0, List.replicate 16 0, 0, [], .none, .none,
      List.replicate 4 (List.replicate 48 0), 0, List.replicate 32 0, List.replicate 32 0, 0⟩,
    dram := ⟨.none, false, false, 0, 0, []⟩,
    stg := ⟨[], [], .none, .none, .none, .none, 0⟩,
    hat := [],
    brg := ⟨[], 0, [], [], 128, 512, false⟩,
    gwe := ⟨[], [], [], .none, .none, 63, [], []⟩,
    boot := ⟨[], [], [], [], .none, 0, 0, false, 0, 0, 0, [], .start, 0, .none, .none, [], List.replicate 48 0, false, [], [], false, .none, .none, 0, .none⟩,
    ccx := ⟨0, .none, .none, false, false, false, 0, [], .none, 0, 0, .none, [], [], 0, 0, []⟩,
    pair := ⟨false, .down, .none, .none, .none, 0, 0, 0, 0, 0, .none, .none, .none, 0, .none, .none, .none, false, .none, 0, 0⟩,
    mgt := ⟨[], [], false, .none, [], 0, []⟩,
    blockRst := 0,
    pending := [] }

end Sys2Proof.Machine
end

