-- ==== Sys2Proof/Machine/Flags.lean ====
section
/-!
DEFINITION. The flags of the Rake instruction set: what sets them and the conditions that read them (R204, R206, R207).
-/
namespace Sys2Proof.Machine

/-- Z and N from a result, with C. -/
def Eng.flags (g : Eng) (v : Word) (c : Bool) : Eng := { g with z := v = 0, n := v.msb, c := c }

/-- Z from rd, N and C clear (R204, R217). -/
def Eng.flagsZ (g : Eng) (v : Word) : Eng := { g with z := v = 0, n := false, c := false }

/-- ADD and its carry; SUB and its borrow. -/
def addC (a b : Word) : Word × Bool := (a + b, 2 ^ 32 ≤ a.toNat + b.toNat)

def subC (a b : Word) : Word × Bool := (a - b, a.toNat < b.toNat)

/-- Condition CX of BR (R207). -/
def Eng.cond (g : Eng) (cx : Nat) : Bool :=
  match cx with
  | 0 => true
  | 1 => g.z
  | 2 => !g.z
  | 3 => g.n
  | 4 => !g.n
  | 5 => g.c
  | 6 => !g.c
  | 7 => g.v
  | 8 => !g.v
  | _ => false

end Sys2Proof.Machine
end

