-- ==== Sys2Proof/Machine/Ops.lean ====
section
/-!
DEFINITION. The named operations that every block uses: fields of registers (R6), counters (R10), time
(R11, R317), fault reports (R472, R473), interrupt bits, outputs and free values.
-/
namespace Sys2Proof.Machine

/-- The bits of a field of `width` bits at `lo`. -/
def fldMask (lo width : Nat) : Word := (BitVec.allOnes width).setWidth 32 <<< lo

/-- The value of a field of a word. -/
def fldGet (w : Word) (lo width : Nat) : Nat := (w.extractLsb' lo width).toNat

/-- A word with one field replaced. -/
def fldSet (w : Word) (lo width v : Nat) : Word :=
  (w &&& ~~~(fldMask lo width)) ||| (fldMask lo width &&& (BitVec.ofNat 32 v <<< lo))

/-- The register at address `a`. -/
def State.rword (s : State) (a : Nat) : Word := spGet resetWord s.regs a

/-- Set the register at address `a`, as the hardware does. -/
def State.wword (s : State) (a : Nat) (w : Word) : State := { s with regs := spSet resetWord s.regs a w }

/-- Read a field. -/
def State.rf (s : State) (f : Fld) : Nat := fldGet (s.rword f.addr) f.lo f.width

/-- Set a field, as the hardware does. -/
def State.wf (s : State) (f : Fld) (v : Nat) : State :=
  s.wword f.addr (fldSet (s.rword f.addr) f.lo f.width v)

/-- Whether a one-bit field is set. -/
def State.on (s : State) (f : Fld) : Bool := s.rf f == 1

/-- The counter whose low word is at address `a`. -/
def State.cget (s : State) (a : Nat) : Nat := spGet (fun _ => 0) s.ctr a

/-- R10: a counter gains `n` and wraps. -/
def State.cadd (s : State) (a n : Nat) : State :=
  { s with ctr := spSet (fun _ => 0) s.ctr a ((s.cget a + n) % 2 ^ 64) }

/-- A counter gains one. -/
def State.cinc (s : State) (a : Nat) : State := s.cadd a 1

/-- Something leaves the device. -/
def State.emit (s : State) (o : Out) : State := { s with out := o :: s.out }

/-- Draw a fresh free value: its number, and the state in which it is drawn. -/
def State.draw (s : State) : Nat × State := (s.draws, { s with draws := s.draws + 1 })

/-- The DRBG is reseeded from the TRNG (R149). -/
def State.reseed (s : State) : State :=
  let d := s.draw
  { d.2 with sec := { d.2.sec with seed := d.1, requests := 0 } }

/-- One generate request of the DRBG (R149): its draw. The 65,536th since the last reseed is followed by a reseed. -/
def State.generate (s : State) : Nat × State :=
  let d := s.draw
  let s : State := { d.2 with sec := { d.2.sec with requests := d.2.sec.requests + 1 } }
  (d.1, if 65536 ≤ s.sec.requests then s.reseed else s)

/-- A generate request for a key, with prediction resistance: a reseed comes first (R149). -/
def State.generateKey (s : State) : Nat × State := s.reseed.generate

/-- A debug challenge is void (R151, R152). -/
def State.chalVoid (s : State) : State :=
  let s := (List.range 8).foldl (fun s n => s.wword (Reg.SEC_DEBUG_CHAL n) 0) s
  { s with sec := { s.sec with chal := false } }

/-- The working clock in T64 (R11, R317). -/
def State.now (s : State) : Nat := s.tim.wc / 2 ^ 40 % 2 ^ 64

/-- The pending slot of source `src`. -/
def State.slot (s : State) (src : Nat) : Option Slot := spGet (fun _ => none) s.flt.slots src

/-- Store a pending slot. -/
def State.setSlot (s : State) (src : Nat) (x : Option Slot) : State :=
  { s with flt := { s.flt with slots := spSet (fun _ => none) s.flt.slots src x } }

/-- R472: one more event in a slot. -/
def Slot.event (x : Option Slot) (kind addr time : Nat) : Slot :=
  match x with
  | none => ⟨kind, addr, time, kind, addr, time, 1, none⟩
  | some y =>
    if y.count = 0 then ⟨kind, addr, time, kind, addr, time, 1, y.level⟩
    else { y with lastKind := kind, lastAddr := addr, lastTime := time, count := min 65535 (y.count + 1) }

/-- A slot that carries a SET or CLEAR code (R472). -/
def Slot.setLevel (x : Slot) (b : Bool) : Slot := { x with level := some b }

/-- R111: a report of kind 0x08 by a block other than BOOT, which an image in pass 2 does not survive. -/
def State.misfits (s : State) (src kind : Nat) : State :=
  { s with flt := { s.flt with misfit := s.flt.misfit || (kind = 0x08 && !(0x020 ≤ src && src ≤ 0x027)) } }

/-- R472: an event source reports `kind` with `addr`: its pending slot takes the event. -/
def State.report (s : State) (src kind addr : Nat) : State :=
  (s.misfits src kind).setSlot src (some (Slot.event (s.slot src) kind addr s.now))

/-- R472: a report whose address no rule states: the address is a free value. -/
def State.notify (s : State) (src kind : Nat) : State :=
  let d := s.draw
  d.2.report src kind (Config.free d.1)

/-- R412: a block refuses a register write or a command with `kind` on source `src`; the write did not take effect. -/
def State.refuse (s : State) (src kind : Nat) : State := { s.notify src kind with wfail := some kind }

/-- Present level of a level source as its block sees it. -/
def State.level (s : State) (src : Nat) : Bool := spGet (fun _ => false) s.flt.levels src

/-- R473: a message-mode level source rises with SET and the address `addr`. A level that is already up is no
occurrence. -/
def State.raiseAt (s : State) (src kind addr : Nat) : State :=
  if s.level src then s
  else
    let s := { s with flt := { s.flt with levels := spSet (fun _ => false) s.flt.levels src true } }
    s.setSlot src (some ((Slot.event (s.slot src) kind addr s.now).setLevel true))

/-- R473: a level source rises whose address no rule states: it is a free value. -/
def State.raise (s : State) (src kind : Nat) : State :=
  if s.level src then s
  else
    let d := s.draw
    d.2.raiseAt src kind (Config.free d.1)

/-- R473: a message-mode level source falls with CLEAR. -/
def State.lower (s : State) (src : Nat) : State :=
  if s.level src then
    let s := { s with flt := { s.flt with levels := spSet (fun _ => false) s.flt.levels src false } }
    s.setSlot src (some (((s.slot src).getD ⟨0, 0, 0, 0, 0, 0, 0, none⟩).setLevel false))
  else s

/-- R470: a dual-rail source drives its pair. A rise is one pulse for the collector to sample. -/
def State.rail (s : State) (src : Nat) (active : Bool) : State :=
  let was := spGet (fun _ => false) s.flt.rails src
  let s := { s with flt := { s.flt with rails := spSet (fun _ => false) s.flt.rails src active } }
  let n := spGet (fun _ => 0) s.flt.pulses src
  if active && !was then { s with flt := { s.flt with pulses := spSet (fun _ => 0) s.flt.pulses src (n + 1) } } else s

/-- R473: a dual-rail source whose cause is a single event drives its pair active only for that event. -/
def State.pulse (s : State) (src : Nat) : State := (s.rail src true).rail src false

/-- R473: the event of a rate source in the present window; it rises when the count exceeds the threshold, with the
address `addr` where a rule states one. A threshold of 0 turns the source off. -/
def State.rateEventAt (s : State) (src thr : Nat) (addr : Option Nat) : State :=
  let n := spGet (fun _ => 0) s.flt.rate src + 1
  let s := { s with flt := { s.flt with rate := spSet (fun _ => 0) s.flt.rate src n } }
  if thr ≠ 0 && n > thr then
    match addr with
    | some a => s.raiseAt src 0x11 a
    | none => s.raise src 0x11
  else s

/-- R473: the event of a rate source whose address no rule states. -/
def State.rateEvent (s : State) (src thr : Nat) : State := s.rateEventAt src thr none

/-- Latch key of R10: what `r` read at the low word is held for the word at `a`. -/
def latchKey (r : Requester) (a : Nat) : Nat :=
  a * 4 + (match r with | .host => 0 | .ccx => 1 | .debug => 2 | .boot => 3)

/-- What requester `r` has latched for the word at `a` (0 before any latch). -/
def State.latched (s : State) (r : Requester) (a : Nat) : Word := spGet (fun _ => 0) s.latch (latchKey r a)

/-- Latch `w` for requester `r` and the word at `a`. -/
def State.setLatch (s : State) (r : Requester) (a : Nat) (w : Word) : State :=
  { s with latch := spSet (fun _ => 0) s.latch (latchKey r a) w }

/-- The memories that carry ECC or parity, for the damage map `State.ecc`. -/
inductive EccMem where
  | tree | store | entry | rake | cell | fdb | session | stm | cph | pantry | record | gate | dram | ring | hatch | tcm
  | mac | sch | link | tim | event | txq | ddrq
  deriving DecidableEq, Repr

/-- Key of word `i` of memory `m` in the damage map. -/
def eccKey (m : EccMem) (i : Nat) : Nat := i * 32 + m.ctorIdx

/-- Damage of word `i` of memory `m`: 0 none, 1 correctable, 2 uncorrectable. -/
def State.eccAt (s : State) (m : EccMem) (i : Nat) : Nat := spGet (fun _ => 0) s.ecc (eccKey m i)

/-- Forget the damage of a word (it is corrected in place, or written). -/
def State.eccClear (s : State) (m : EccMem) (i : Nat) : State :=
  { s with ecc := spSet (fun _ => 0) s.ecc (eccKey m i) 0 }

/-- A read of a SECDED word: a correctable error is corrected, written back and reported as kind 0x01; an
uncorrectable one is reported as kind 0x02 and answers true. `addr` is the address where a rule states one. -/
def State.eccRead (s : State) (m : EccMem) (i src : Nat) (addr : Option Nat) : Bool × State :=
  let tell (s : State) (kind : Nat) : State :=
    match addr with
    | some a => s.report src kind a
    | none => s.notify src kind
  match s.eccAt m i with
  | 0 => (false, s)
  | 1 => (false, tell (s.eccClear m i) 0x01)
  | _ => (true, tell s 0x02)

/-- A read of the parity word `i` of memory `m`: a damaged one is reported as kind 0x03, and answers true. -/
def State.parityRead (s : State) (m : EccMem) (i src : Nat) : Bool × State :=
  if s.eccAt m i = 0 then (false, s) else (true, (s.eccClear m i).notify src 0x03)

/-- The frame of number `fid`. -/
def State.frame (s : State) (fid : Nat) : Option Frame := spGet (fun _ => none) s.frames fid

/-- Store or forget a frame. -/
def State.setFrame (s : State) (fid : Nat) (f : Option Frame) : State :=
  { s with frames := spSet (fun _ => none) s.frames fid f }

/-- Update a frame. -/
def State.modFrame (s : State) (fid : Nat) (g : Frame → Frame) : State :=
  match s.frame fid with
  | some f => s.setFrame fid (some (g f))
  | none => s

/-- TOP_STATE.FWD_EN: the data plane forwards. -/
def State.fwdEn (s : State) : Bool := s.on .TOP_STATE_FWD_EN

/-- TOP_STATE.COMMITTED: the image is committed and LK fields are locked. -/
def State.committed (s : State) : Bool := s.on .TOP_STATE_COMMITTED

/-- Apply `g` to the state for each element in turn. -/
def State.each {α : Type} (s : State) (l : List α) (g : State → α → State) : State := l.foldl g s

end Sys2Proof.Machine
end

