-- ==== Sys2Proof/Machine/RakeHdr.lean ====
section
/-!
DEFINITION. The header step of the Rakes (R184 to R192, R211 to R214): taking one header of the packet
window into the key record.
-/
namespace Sys2Proof.Machine

/-- Byte `i` of a frame, 0 where the frame has none. -/
def fbyte (bs : List Byte) (i : Nat) : Nat := (bs[i]?.getD 0).toNat

/-- The `n` bytes at `i` in network order. -/
def fbe (bs : List Byte) (i n : Nat) : Nat := ofBytesBE ((bs.drop i).take n)

/-- The key record of a parse that has taken nothing (R182; L4_ABSENT is set at the start of every parse). -/
def Key.empty : Key :=
  { depthExceeded := false, malformed := false, frag := false, firstFrag := false, l4Absent := true,
    tunnelTaken := false, innerL3 := false, passLimit := false, epochValid := false, rtag := false,
    inPort := 0, passes := 0, headers := 0, epoch := 0, malf := 0, l3 := 0, l4Proto := 0, outerTag := 0,
    innerTag := 0, ethertype := 0, tos := 0, ttl := 0, addr := List.replicate 32 0, l4Src := 0, l4Dst := 0,
    tcpFlags := 0, tagCount := 0, rtagSeq := 0, tunnel := 0, user := 0 }

/-- KFLAGS of the key record (R182). -/
def Key.kflags (k : Key) : Nat :=
  b2n k.depthExceeded * 0x8000 + b2n k.malformed * 0x4000 + b2n k.frag * 0x2000 + b2n k.firstFrag * 0x1000 +
  b2n k.l4Absent * 0x800 + b2n k.tunnelTaken * 0x400 + b2n k.innerL3 * 0x200 + b2n k.passLimit * 0x100 +
  b2n k.epochValid * 0x80 + b2n k.rtag * 0x40

/-- The 64 bytes of the key record (R182, little-endian under R4). -/
def Key.bytes (k : Key) : List Byte :=
  bytesLE 2 k.kflags ++ bytesLE 1 k.inPort ++ bytesLE 1 (k.passes * 64 + k.headers * 4) ++ bytesLE 1 k.epoch ++
  bytesLE 1 k.malf ++ bytesLE 1 k.l3 ++ bytesLE 1 k.l4Proto ++ bytesLE 2 k.outerTag ++ bytesLE 2 k.innerTag ++
  bytesLE 2 k.ethertype ++ bytesLE 1 k.tos ++ bytesLE 1 k.ttl ++ k.addr.take 32 ++ bytesLE 2 k.l4Src ++
  bytesLE 2 k.l4Dst ++ bytesLE 1 k.tcpFlags ++ bytesLE 1 k.tagCount ++ bytesLE 2 k.rtagSeq ++
  bytesLE 4 k.tunnel ++ bytesLE 4 k.user.toNat

/-- Put bytes into the ADDR region at key record offset `off` (16 to 47). -/
def Key.putAddr (k : Key) (off : Nat) (bs : List Byte) : Key :=
  { k with addr := k.addr.take (off - 16) ++ bs ++ k.addr.drop (off - 16 + bs.length) }

/-- Clear the L4 fields and set the ABSENT marker (R183, R185). -/
def Key.clearL4 (k : Key) : Key := { k with l4Src := 0, l4Dst := 0, tcpFlags := 0, l4Absent := true }

/-- What a header step does: takes a header, takes nothing, waits for bytes, or stops the pass (R212). -/
inductive HdrOut where
  | took (e : Eng) (len : Nat)
  | nothing (e : Eng)
  | stall (need : Nat)
  | stop (o : ParseEnd)
  deriving DecidableEq, Repr

/-- The window limit, the frame's bytes and whether it has ended, as a header step sees them. -/
structure HdrCtx where
  bs : List Byte
  ended : Bool
  win : Nat
  depth : Nat
  /-- The frame came from a port with ingress MACsec (R184, SecTAG row). -/
  macsec : Bool

/-- R212, R188: the header's bytes up to `stop` (exclusive) must have arrived; a frame that ends first
stops the parse with code 0x1, and a header beyond the window with DEPTH_EXCEEDED. -/
def hdrNeed (h : HdrCtx) (stop : Nat) (k : HdrOut) : HdrOut :=
  if h.bs.length < stop then
    if h.ended then .stop (.malf 1) else .stall stop
  else if h.win < stop then .stop .depth
  else k

/-- R212: a header whose last byte follows from a length field, the byte at `lb`: its bytes and that byte must have
arrived. Where the byte lies beyond the window, which no step reads, the fixed part alone tells the end. -/
def hdrNeedLen (h : HdrCtx) (lb fixed : Nat) (stop : Nat) (k : HdrOut) : HdrOut :=
  if h.bs.length ≤ lb then
    if h.ended then .stop (.malf 1) else .stall (lb + 1)
  else if h.win ≤ lb then hdrNeed h fixed k
  else hdrNeed h (max fixed stop) k

/-- Commit a taken header: count it and set CUR, SEL, L2POS, DONE and the context of SEL (R211, R212). -/
def hdrTook (e : Eng) (key : Key) (cur sel : Nat) (l2 done : Bool) (ctx : SelCtx) (len : Nat) : HdrOut :=
  .took { e with key := { key with headers := key.headers + 1 }, cur := cur % 65536, sel := sel % 65536,
                 l2pos := l2, done := done, ctx := ctx } len

/-- ETHERTYPE is the type field of the outer frame only (R182). -/
def Key.setType (k : Key) (t : Nat) : Key := if k.tunnelTaken then k else { k with ethertype := t }

/-- A tunnel header: TUNNEL keeps the outermost tunnel taken (R185). -/
def Key.takeTunnel (k : Key) (kind id : Nat) : Key :=
  if k.tunnelTaken then k else { k with tunnelTaken := true, tunnel := id % 2 ^ 24 * 256 + kind }

/-- LLC/SNAP at CUR + 2 (R184). -/
def hdrSnap (h : HdrCtx) (e : Eng) : HdrOut :=
  let b := e.cur + 2
  hdrNeed h (b + 8) <|
    let t := fbe h.bs (b + 6) 2
    hdrTook e (e.key.setType t) (b + 6) t true false .ether 6

/-- A VLAN tag at CUR: the first two go to OUTER_TAG and INNER_TAG (R184). -/
def hdrVlan (h : HdrCtx) (e : Eng) : HdrOut :=
  hdrNeed h (e.cur + 6) <|
    let tci := fbe h.bs (e.cur + 2) 2
    let t := fbe h.bs (e.cur + 4) 2
    let k := e.key
    let k := if k.tagCount = 0 then { k with outerTag := tci } else if k.tagCount = 1 then { k with innerTag := tci } else k
    hdrTook e (({ k with tagCount := min 7 (k.tagCount + 1) }).setType t) (e.cur + 4) t true false .ether 4

/-- An R-TAG at CUR (R184). -/
def hdrRtag (h : HdrCtx) (e : Eng) : HdrOut :=
  hdrNeed h (e.cur + 8) <|
    let t := fbe h.bs (e.cur + 6) 2
    hdrTook e (({ e.key with rtag := true, rtagSeq := fbe h.bs (e.cur + 4) 2 }).setType t) (e.cur + 6) t true false .ether 6

/-- The L3 fields of a header inside a tunnel replace the outer ones (R185). -/
def Key.startL3 (k : Key) (l3 tos ttl proto : Nat) (frag first : Bool) : Key :=
  let k := if k.tunnelTaken then { k.clearL4 with innerL3 := true } else k
  let k := { k with l3 := l3, tos := tos, ttl := ttl, l4Proto := proto, frag := frag, firstFrag := first }
  if frag then k.clearL4 else k

/-- An ADDR region laid out for IPv6 takes the layout of the other L3 types again, with the outer MACs and no
outer IP address (R182, R185). -/
def Key.leaveV6 (k : Key) (bs : List Byte) : Key :=
  if k.l3 = 2 then { k with addr := bs.take 12 ++ List.replicate 20 0 } else k

/-- IPv4 (R184 to R186, R190 codes 0x3 and 0x9; code 0x2 awaits the end of the frame). -/
def hdrIpv4 (h : HdrCtx) (e : Eng) : HdrOut :=
  let b := if e.l2pos then e.cur + 2 else e.cur
  let ihl := fbyte h.bs b % 16
  hdrNeedLen h b (b + 20) (b + ihl * 4) <|
    let total := fbe h.bs (b + 2) 2
    if ihl < 5 || total < ihl * 4 then .stop (.malf 3)
    else
      let fo := fbe h.bs (b + 6) 2
      let off := fo % 8192
      let mf := bitAt fo 13
      let frag := mf || off ≠ 0
      if frag && (off * 8 + (total - ihl * 4) > 65535) then .stop (.malf 9)
      else
        let proto := fbyte h.bs (b + 9)
        let key := (e.key.leaveV6 h.bs).startL3 1 (fbyte h.bs (b + 1)) (fbyte h.bs (b + 8)) proto frag (frag && off = 0)
        let key := key.putAddr 28 ((h.bs.drop (b + 12)).take 4)
        let key := key.putAddr 32 ((h.bs.drop (b + 16)).take 4)
        let e := { e with ipEnd := b + total, checks := e.checks ++ [⟨2, b, total⟩] }
        hdrTook e key (b + ihl * 4) proto false frag (if frag then .none else .ip4) (ihl * 4)

/-- IPv6 (R184, R185; code 0x4 awaits the end of the frame). -/
def hdrIpv6 (h : HdrCtx) (e : Eng) : HdrOut :=
  let b := if e.l2pos then e.cur + 2 else e.cur
  hdrNeed h (b + 40) <|
    let plen := fbe h.bs (b + 4) 2
    let nh := fbyte h.bs (b + 6)
    let tc := (fbe h.bs b 2) / 16 % 256
    let key := e.key.startL3 2 tc (fbyte h.bs (b + 7)) nh false false
    let key := key.putAddr 16 ((h.bs.drop (b + 8)).take 32)
    let e := { e with ipEnd := b + 40 + plen, checks := e.checks ++ [⟨4, b, plen⟩] }
    hdrTook e key (b + 40) nh false false .ip6 40

/-- An IPv6 extension header; type 44 is the fragment header (R184, R186, codes 0x8 and 0x9). -/
def hdrExt (h : HdrCtx) (e : Eng) : HdrOut :=
  let b := e.cur
  let isFrag := e.sel = 44
  let len := if isFrag then 8 else (fbyte h.bs (b + 1) + 1) * 8
  hdrNeedLen h (b + 1) (b + 8) (b + len) <|
    let nh := fbyte h.bs b
    if b + len > e.ipEnd then .stop (.malf 8)
    else if isFrag then
      let fo := fbe h.bs (b + 2) 2
      let off := fo / 8
      if off * 8 + (e.ipEnd - (b + 8)) > 65535 then .stop (.malf 9)
      else
        let key := ({ e.key with l4Proto := nh, frag := true, firstFrag := off = 0 }).clearL4
        hdrTook e key (b + len) nh false true .none len
    else hdrTook e { e.key with l4Proto := nh } (b + len) nh false false .ip6 len

/-- ARP at CUR + 2: sender and target address and opcode (R184). Inside a tunnel its L3 fields replace the outer ones, and
those that ARP has not become 0 (R185). -/
def hdrArp (h : HdrCtx) (e : Eng) : HdrOut :=
  let b := e.cur + 2
  hdrNeed h (b + 28) <|
    let key := e.key.leaveV6 h.bs
    let key := if key.tunnelTaken then key.startL3 3 0 0 0 false false else { key with l3 := 3 }
    let key := key.putAddr 28 ((h.bs.drop (b + 14)).take 4)
    let key := key.putAddr 32 ((h.bs.drop (b + 24)).take 4)
    let key := key.putAddr 36 (bytesLE 2 (fbe h.bs (b + 6) 2))
    hdrTook e key (b + 28) 0 false true .none 28

/-- TCP (R184; code 0x7). -/
def hdrTcp (h : HdrCtx) (e : Eng) : HdrOut :=
  let b := e.cur
  let doff := fbyte h.bs (b + 12) / 16
  hdrNeedLen h (b + 12) (b + 20) (b + doff * 4) <|
    if doff < 5 || b + doff * 4 > e.ipEnd then .stop (.malf 7)
    else
      let key := { e.key with l4Src := fbe h.bs b 2, l4Dst := fbe h.bs (b + 2) 2,
                              tcpFlags := fbyte h.bs (b + 13), l4Absent := false }
      hdrTook e key (b + doff * 4) 0 false true .none (doff * 4)

/-- UDP (R184; code 0x5). -/
def hdrUdp (h : HdrCtx) (e : Eng) : HdrOut :=
  let b := e.cur
  hdrNeed h (b + 8) <|
    let len := fbe h.bs (b + 4) 2
    if len < 8 || b + len > e.ipEnd then .stop (.malf 5)
    else
      let dst := fbe h.bs (b + 2) 2
      let follow := dst = 4789 || dst = 6081 || dst = 319 || dst = 320
      let key := { e.key with l4Src := fbe h.bs b 2, l4Dst := dst, l4Absent := false }
      hdrTook { e with udpEnd := b + len } key (b + 8) dst false (!follow) (if follow then .udp else .none) 8

/-- ICMP, ICMPv6 and IGMP: type × 256 + code, and the echo identifier (R182, R184). -/
def hdrIcmp (h : HdrCtx) (e : Eng) : HdrOut :=
  let b := e.cur
  hdrNeed h (b + 8) <|
    let ty := fbyte h.bs b
    let echo := (e.key.l4Proto = 1 && (ty = 8 || ty = 0)) || (e.key.l4Proto = 58 && (ty = 128 || ty = 129))
    let key := { e.key with l4Src := fbe h.bs b 2, l4Dst := if echo then fbe h.bs (b + 4) 2 else 0, l4Absent := false }
    hdrTook e key (b + 8) 0 false true .none 8

/-- GRE with its optional fields (R184; code 0xA). -/
def hdrGre (h : HdrCtx) (e : Eng) : HdrOut :=
  let b := e.cur
  let f := fbyte h.bs b
  let cOff := if bitAt f 7 then 4 else 0
  let kLen := if bitAt f 5 then 4 else 0
  let len := 4 + cOff + kLen + (if bitAt f 4 then 4 else 0)
  hdrNeedLen h b (b + 4) (b + len) <|
    if 4 < len && b + len > e.ipEnd then .stop (.malf 0xA)
    else
      let gkey := if bitAt f 5 then fbe h.bs (b + 4 + cOff) 4 else 0
      let t := fbe h.bs (b + 2) 2
      hdrTook e (e.key.takeTunnel 3 gkey) (b + len) t false false .tunnel len

/-- VXLAN (R184). -/
def hdrVxlan (h : HdrCtx) (e : Eng) : HdrOut :=
  hdrNeed h (e.cur + 8) <|
    hdrTook e (e.key.takeTunnel 1 (fbe h.bs (e.cur + 4) 3)) (e.cur + 8) 0x6558 false false .tunnel 8

/-- GENEVE with its options (R184; code 0xA). -/
def hdrGeneve (h : HdrCtx) (e : Eng) : HdrOut :=
  let b := e.cur
  let len := 8 + fbyte h.bs b % 64 * 4
  hdrNeedLen h b (b + 8) (b + len) <|
    if 8 < len && b + len > e.udpEnd then .stop (.malf 0xA)
    else hdrTook e (e.key.takeTunnel 2 (fbe h.bs (b + 4) 3)) (b + len) (fbe h.bs (b + 2) 2) false false .tunnel len

/-- IP in IP, 0 bytes (R184, R211). -/
def hdrIpIp (e : Eng) : HdrOut :=
  let v6 := e.sel = 41
  hdrTook e (e.key.takeTunnel (if v6 then 5 else 4) 0) e.cur (if v6 then 0x86DD else 0x0800) false false .tunnel 0

/-- Inner Ethernet: fills nothing (R184). -/
def hdrInner (h : HdrCtx) (e : Eng) : HdrOut :=
  hdrNeed h (e.cur + 14) <| hdrTook e e.key (e.cur + 12) (fbe h.bs (e.cur + 12) 2) true false .ether 12

/-- PTP: messageType × 256 + domainNumber (R182, R184). L2_INFO lies in the address region of an IPv6
record, so it is filled only where the record is not IPv6. -/
def hdrPtp (h : HdrCtx) (e : Eng) : HdrOut :=
  let b := if e.l2pos then e.cur + 2 else e.cur
  hdrNeed h (b + 34) <|
    let info := fbyte h.bs b % 16 * 256 + fbyte h.bs (b + 4)
    let key := if e.key.l3 = 2 then e.key else e.key.putAddr 36 (bytesLE 2 info)
    hdrTook e key (b + 34) 0 false true .none 34

/-- AVTP: subtype, and the stream ID when sv = 1 (R184); as `hdrPtp`, not over an IPv6 address. -/
def hdrAvtp (h : HdrCtx) (e : Eng) : HdrOut :=
  let b := e.cur + 2
  let sv := bitAt (fbyte h.bs (b + 1)) 7
  let len := if sv then 12 else 4
  hdrNeedLen h (b + 1) (b + 4) (b + len) <|
    let put (k : Key) (off : Nat) (bs : List Byte) : Key := if k.l3 = 2 then k else k.putAddr off bs
    let key := put e.key 36 (bytesLE 2 (fbyte h.bs b))
    let key := if sv then put key 40 ((h.bs.drop (b + 4)).take 8) else key
    hdrTook e key (b + len) 0 false true .none len

/-- SecTAG on a port without ingress MACsec: L3 = 4 and the parse of headers ends (R184). -/
def hdrSecTag (h : HdrCtx) (e : Eng) : HdrOut :=
  let b := e.cur + 2
  let len := if bitAt (fbyte h.bs b) 5 then 14 else 6
  hdrNeedLen h b (b + 6) (b + len) <|
    hdrTook { e with secTag := true } { e.key.leaveV6 h.bs with l3 := 4, ethertype := 0x88E5 } (b + len) 0 false true .none len

/-- The header type AUTO chooses (R184, R211); `none` where nothing listed follows. For LLC/SNAP the DSAP
and SSAP bytes are looked at by the caller (R188). -/
def hdrMatch (h : HdrCtx) (e : Eng) : Option Nat :=
  match e.ctx with
  | .ether =>
    if e.sel = 0x8100 || e.sel = 0x88A8 then some 2
    else if e.sel = 0xF1C1 then some 3
    else if e.sel = 0x0800 then some 4
    else if e.sel = 0x86DD then some 5
    else if e.sel = 0x0806 then some 7
    else if e.sel = 0x88F7 then some 16
    else if e.sel = 0x22F0 then some 17
    else if e.sel = 0x88E5 && !h.macsec then some 18
    else if e.sel ≤ 1500 && fbyte h.bs (e.cur + 2) = 0xAA && fbyte h.bs (e.cur + 3) = 0xAA then some 1
    else none
  | .tunnel =>
    if e.sel = 0x0800 then some 4
    else if e.sel = 0x86DD then some 5
    else if e.sel = 0x6558 then some 15
    else none
  | .ip6 =>
    if e.sel = 0 || e.sel = 43 || e.sel = 44 || e.sel = 60 then some 6
    else if e.sel = 6 then some 8
    else if e.sel = 17 then some 9
    else if e.sel = 1 || e.sel = 58 || e.sel = 2 then some 10
    else if e.sel = 47 then some 11
    else if e.sel = 4 || e.sel = 41 then some 14
    else none
  | .ip4 =>
    if e.sel = 6 then some 8
    else if e.sel = 17 then some 9
    else if e.sel = 1 || e.sel = 58 || e.sel = 2 then some 10
    else if e.sel = 47 then some 11
    else if e.sel = 4 || e.sel = 41 then some 14
    else none
  | .udp =>
    if e.sel = 4789 then some 12
    else if e.sel = 6081 then some 13
    else if e.sel = 319 || e.sel = 320 then some 16
    else none
  | .none => none

/-- Take a header of type `t`, 1 to 18 (R211). -/
def hdrTake (h : HdrCtx) (e : Eng) (t : Nat) : HdrOut :=
  match t with
  | 1 => hdrSnap h e
  | 2 => hdrVlan h e
  | 3 => hdrRtag h e
  | 4 => hdrIpv4 h e
  | 5 => hdrIpv6 h e
  | 6 => hdrExt h e
  | 7 => hdrArp h e
  | 8 => hdrTcp h e
  | 9 => hdrUdp h e
  | 10 => hdrIcmp h e
  | 11 => hdrGre h e
  | 12 => hdrVxlan h e
  | 13 => hdrGeneve h e
  | 14 => hdrIpIp e
  | 15 => hdrInner h e
  | 16 => hdrPtp h e
  | 17 => hdrAvtp h e
  | _ => hdrSecTag h e

/-- The header step (R212) of type `x`, 0 to 18. -/
def hdrStep (h : HdrCtx) (e : Eng) (x : Nat) : HdrOut :=
  if e.key.frag || e.secTag || (e.done && x = 0) then .nothing e
  else
    -- R188: AUTO looks at DSAP and SSAP, which count as part of the header
    let go (_ : Unit) : HdrOut :=
      match (if x = 0 then hdrMatch h e else some x) with
      | none =>
        let key := if e.l2pos then { e.key.leaveV6 h.bs with l3 := 4, ethertype := e.sel } else e.key
        .nothing { e with done := true, key := key }
      | some t => if e.key.headers ≥ h.depth then .stop .depth else hdrTake h e t
    if x = 0 && e.ctx = .ether && e.sel ≤ 1500 then hdrNeed h (e.cur + 4) (go ()) else go ()

/-- The outer Ethernet header (R211): taken before the first instruction. `none` while its 14 bytes have
neither arrived nor the frame ended. -/
def hdrOuter (h : HdrCtx) (e : Eng) : HdrOut :=
  hdrNeed h 14 <|
    let t := fbe h.bs 12 2
    let key := e.key.putAddr 16 (h.bs.take 12)
    let key := { key with ethertype := t }
    let checks := if t < 1536 then [⟨6, 12, t⟩] else []
    .took { e with key := key, cur := 12, sel := t, l2pos := true, done := false, ctx := .ether,
                   checks := checks } 0

/-- Whether a frame-length check fails for a frame of `len` bytes without FCS (R190). -/
def LenCheck.fails (c : LenCheck) (len : Nat) : Bool :=
  let rest := len - c.at_
  let padded := len = 60
  match c.code with
  | 6 => (1501 ≤ c.stated && c.stated ≤ 1535) ||
         (c.stated < 1501 && c.stated ≠ len - 14 && !(padded && c.stated < len - 14))
  | 2 => c.stated > rest
  | 4 => c.stated = 0 || 40 + c.stated > rest || (40 + c.stated < rest && !padded)
  | _ => false

/-- The failing check of the header that stands first in the frame (R189). -/
def lenFirst (cs : List LenCheck) (len : Nat) : Option LenCheck :=
  (cs.filter (fun c => c.fails len)).foldl (fun m c => match m with
    | some d => if c.at_ < d.at_ then some c else m
    | none => some c) none

/-- The code of the earliest header whose frame-length check fails (R189). -/
def lenVerdict (cs : List LenCheck) (len : Nat) : Option Nat := (lenFirst cs len).map (fun c => c.code)

/-- R189: how a parse that ended with `o` at offset `pos` ends once the length checks are made: a failing check replaces a
stop that a later header caused. -/
def ParseEnd.withChecks (o : ParseEnd) (pos : Nat) (cs : List LenCheck) (len : Nat) : ParseEnd :=
  match o, lenFirst cs len with
  | .normal, some d => .malf d.code
  | .malf c, some d => if c < 0xB && d.at_ < pos then .malf d.code else o
  | .depth, some d => if d.at_ < pos then .malf d.code else o
  | _, none => o

end Sys2Proof.Machine
end

