-- ==== Sys2Proof/Machine/Cls.lean ====
section
/-!
DEFINITION. Zones, classification trees, epochs and the firewall session table (R224 to R255, R522).
-/
namespace Sys2Proof.Machine

/-- CLS, FWL and SWC counters (R253, R254, R285, R286). -/
def Ctr.cls (i : Nat) : Nat := 0x190400 + 8 * i
def Ctr.fwl (i : Nat) : Nat := 0x1A0400 + 8 * i
def Ctr.swc (i : Nat) : Nat := 0x202000 + 8 * i
def Ctr.port (n i : Nat) : Nat := 0x203000 + 0x80 * n + 8 * i

/-- The 16 bits of the per-boot SipHash of a hash input that serve way `w` (R245, R263). -/
def State.hashSlice (s : State) (key : List Byte) (w : Nat) : Nat :=
  ((sipHash (Config.hashKey s.cls.hashDraw) key).extractLsb' (16 * w) 16).toNat

/-- The zone entry of port `n` and VID `v` that R224 uses: a VID entry, or the port's own. -/
def State.zoneFields (s : State) (n v : Nat) : Nat × Nat :=
  if s.on (.CLS_PORT_ZONE_VID_EN n) && s.on (.CLS_VID_ZONE_VALID v) then
    (s.rf (.CLS_VID_ZONE_ZONE v), s.rf (.CLS_VID_ZONE_MULTI_ZONE v))
  else (s.rf (.CLS_PORT_ZONE_ZONE n), s.rf (.CLS_PORT_ZONE_MULTI_ZONE n))

/-- R224: the source zone of a frame of port `n` in VID `v`; also the zone of a port (R226). -/
def State.zoneOf (s : State) (n v : Nat) : Nat := (s.zoneFields n v).1

/-- FDB key of an address and VID: the hash input of R263. -/
def fdbKey (mac vid : Nat) : List Byte := bytesBE 6 mac ++ bytesLE 2 vid

/-- The FDB index of way `w` for an address and VID (R263). -/
def State.fdbIndex (s : State) (mac vid w : Nat) : Nat := w * 4096 + s.hashSlice (fdbKey mac vid) w % 4096

/-- The FDB entry at an index. -/
def State.fdbAt (s : State) (i : Nat) : Option FdbEntry := spGet (fun _ => none) s.cel.fdb i

/-- Store or clear the FDB entry at an index; a write clears the word's damage. -/
def State.fdbPut (s : State) (i : Nat) (e : Option FdbEntry) : State :=
  { s.eccClear .fdb i with cel := { s.cel with fdb := spSet (fun _ => none) s.cel.fdb i e } }

/-- Index of the entry of an address and VID, if any (R263). -/
def State.fdbFind (s : State) (mac vid : Nat) : Option Nat :=
  ((List.range 4).map (s.fdbIndex mac vid)).find? (fun i =>
    match s.fdbAt i with
    | some e => e.mac == mac && e.vid == vid
    | none => false)

/-- R267: a read of an FDB entry with an uncorrectable error invalidates it. -/
def State.fdbCheck (s : State) (i : Nat) : Bool × State :=
  let r := s.eccRead .fdb i 0x142 none
  if r.1 then (false, (r.2.fdbPut i none).cinc (Ctr.swc 8)) else (true, r.2)

/-- Read the FDB for an address and VID (R225, R264, R267). -/
def State.fdbLookup (s : State) (mac vid : Nat) : Option FdbEntry × State :=
  match s.fdbFind mac vid with
  | none => (none, s)
  | some i => let r := s.fdbCheck i; if r.1 then (r.2.fdbAt i, r.2) else (none, r.2)

/-- FDB entry flags (R263). -/
def FdbEntry.static (e : FdbEntry) : Bool := bitAt e.flags 6
def FdbEntry.locked (e : FdbEntry) : Bool := bitAt e.flags 5
def FdbEntry.discard (e : FdbEntry) : Bool := bitAt e.flags 4
def FdbEntry.multi (e : FdbEntry) : Bool := bitAt e.dest 31
/-- The destination set an entry gives: its port, or its port mask (R263, R264). -/
def FdbEntry.ports (e : FdbEntry) : Nat := if e.multi then e.dest % 2 ^ 30 else 2 ^ (e.dest % 32)

/-- A group address: bit 0 of the first octet. -/
def macGroup (mac : Nat) : Bool := bitAt mac 40

/-- R225: the destination zone from the FDB read `r` at the start of stage 6. -/
def State.destZone (s : State) (inPort vid dmac : Nat) (r : Option FdbEntry) : Nat :=
  match r with
  | some e =>
    if !macGroup dmac && !e.multi then s.zoneOf (e.dest % 32) vid else (s.zoneFields inPort vid).2
  | none => (s.zoneFields inPort vid).2

/-- Tree memory word. -/
def State.treeWord (s : State) (w : Nat) : Nat := (spGet (fun _ => 0) s.cls.tree w).toNat

/-- Write a tree memory word; a write clears its damage. -/
def State.treePut (s : State) (w : Nat) (v : Nat) : State :=
  { s.eccClear .tree w with cls := { s.cls with tree := spSet (fun _ => 0) s.cls.tree w (BitVec.ofNat 64 v) } }

/-- First word of bank `b` (R227). -/
def bankBase (b : Nat) : Nat := b * 131072

/-- Half-word `h` of the key record, little-endian (R232). -/
def keyHalf (k : List Byte) (h : Nat) : Nat := ofBytesLE ((k.drop (2 * h)).take 2)

/-- Word `w` of the key record, little-endian (R229). -/
def keyWord (k : List Byte) (w : Nat) : Nat := ofBytesLE ((k.drop (4 * w)).take 4)

/-- One check of a rule (R232). -/
def ruleCheck (k : List Byte) (absent : Bool) (lo hi sel : Nat) : Bool :=
  let h := sel % 32
  if !bitAt sel 5 then true
  else if (h = 24 || h = 25) && absent then bitAt sel 6
  else lo ≤ keyHalf k h && keyHalf k h ≤ hi

/-- R232: whether a rule's two words match a key record. -/
def ruleMatch (k : List Byte) (absent : Bool) (w0 w1 : Nat) : Bool :=
  ruleCheck k absent (bitsAt w0 0 16) (bitsAt w0 16 16) (bitsAt w1 0 8) &&
  ruleCheck k absent (bitsAt w0 32 16) (bitsAt w0 48 16) (bitsAt w1 8 8) &&
  (keyHalf k 0 &&& bitsAt w1 32 16) == bitsAt w1 48 16

/-- How a tree walk ends: an action index and maybe a rule, or a fault at a bank word. -/
inductive WalkOut where
  | action (a : Nat) (rule : Option Nat)
  | fault (word : Nat)
  /-- An uncorrectable word was read (R231). -/
  | ecc (word : Nat)
  deriving DecidableEq, Repr

/-- Read bank word `w` for a walk (R231). -/
def State.walkRead (s : State) (b w : Nat) : Option Nat × State :=
  let r := s.eccRead .tree (bankBase b + w) 0x110 (some w)
  if r.1 then (none, r.2) else (some (s.treeWord (bankBase b + w)), r.2)

/-- The candidates `r`, `r + 1`, … of a leaf, `n` of them, in ascending order (R230). -/
def State.walkLeaf (s : State) (b : Nat) (k : List Byte) (absent : Bool) (dflt : Nat) : Nat → Nat → WalkOut × State
  | 0, _ => (.action dflt none, s)
  | n + 1, r =>
    match s.walkRead b (1024 + 2 * r) with
    | (none, s) => (.ecc (1024 + 2 * r), s)
    | (some w0, s) =>
      match s.walkRead b (1025 + 2 * r) with
      | (none, s) => (.ecc (1025 + 2 * r), s)
      | (some w1, s) =>
        if ruleMatch k absent w0 w1 then (.action (bitsAt w1 16 12) (some r), s)
        else s.walkLeaf b k absent dflt n (r + 1)

/-- R230: the walk from `node`, with the levels that are left. -/
def State.walk (s : State) (b : Nat) (k : List Byte) (absent : Bool) (dflt : Nat) : Nat → Nat → WalkOut × State
  | 0, node => (.fault node, s)
  | fuel + 1, node =>
    if node < 41984 || 131071 < node then (.fault node, s)
    else
      match s.walkRead b node with
      | (none, s) => (.ecc node, s)
      | (some w, s) =>
        match bitsAt w 62 2 with
        | 0 =>
          let shift := bitsAt w 53 5
          let nbits := bitsAt w 50 3
          if shift + nbits + 1 > 32 then (.fault node, s)
          else s.walk b k absent dflt fuel (bitsAt w 0 17 + bitsAt (keyWord k (bitsAt w 58 4)) shift (nbits + 1))
        | 1 =>
          let rule := bitsAt w 0 14
          let count := bitsAt w 48 3
          if rule + count > 16383 then (.fault node, s) else s.walkLeaf b k absent dflt (count + 1) rule
        | 2 => (.action dflt none, s)
        | _ => (.fault node, s)

/-- What stage 6 gives: the action word (word 0 of R233), the rule, and whether the frame is denied without
an action. -/
structure TreeOut where
  action : Option Nat
  rule : Option Nat
  deriving DecidableEq, Repr

/-- R231: a walk fault denies the frame. -/
def State.walkFault (s : State) (word : Nat) (ecc : Bool) : State :=
  let s := s.cinc (Ctr.cls 3)
  let s := s.wf .CLS_INT_WALK_FAULT 1
  if ecc then s else s.report 0x111 0x08 word

/-- Stage 6 (R228 to R233): the walk of the zone pair in bank `b`, and the action it selects. -/
def State.treeWalk (s : State) (b zs zd : Nat) (k : List Byte) (absent : Bool) : TreeOut × State :=
  let pw := zs * 32 + zd
  match s.walkRead b pw with
  | (none, s) => (⟨none, none⟩, s.walkFault pw true)
  | (some p, s) =>
    if !bitAt p 63 then (⟨none, none⟩, s.cinc (Ctr.cls 2))
    else
      let r := if bitAt p 62 then s.walk b k absent (bitsAt p 32 12) 32 (bitsAt p 0 17)
               else (.action (bitsAt p 32 12) none, s)
      match r with
      | (.fault w, s) => (⟨none, none⟩, s.walkFault w false)
      | (.ecc w, s) => (⟨none, none⟩, s.walkFault w true)
      | (.action a rule, s) =>
        let aw := 33792 + 2 * a
        match s.walkRead b aw with
        | (none, s) => (⟨none, none⟩, s.walkFault aw true)
        | (some w, s) =>
          if bitsAt w 0 3 ≥ 6 then (⟨none, none⟩, s.walkFault aw false)
          else
            -- a pass decided by DEFAULT (R253), and HITS, word 1 of the action (R233)
            let s := if rule.isNone then s.cinc (Ctr.cls 1) else s
            let hw := bankBase b + aw + 1
            (⟨some w, rule⟩, s.treePut hw ((s.treeWord hw + 1) % 2 ^ 64))

/-- The bank that an epoch stamp selects (R239). -/
def State.bankOf (s : State) (stamp : Nat) : Nat :=
  let a := s.rf .CLS_EPOCH_STATUS_ACTIVE
  if stamp = s.rf .CLS_EPOCH_STATUS_EPOCH then a else 1 - a

/-- R240: when OLD_REFS is 0 and final, the old bank is free. -/
def State.checkOldFree (s : State) : State :=
  if s.rf .CLS_EPOCH_STATUS_OLD_REFS = 0 && !s.on .CLS_EPOCH_STATUS_SWAP_PENDING &&
      !s.on .CLS_EPOCH_STATUS_OLD_FREE then
    (s.wf .CLS_EPOCH_STATUS_OLD_FREE 1).wf .CLS_INT_OLD_FREE 1
  else s

/-- R240: a frame with stamp `e` lets go of its reference. -/
def State.releaseRef (s : State) (e : Nat) : State :=
  if e = (s.rf .CLS_EPOCH_STATUS_EPOCH + 255) % 256 then
    (s.wf .CLS_EPOCH_STATUS_OLD_REFS (s.rf .CLS_EPOCH_STATUS_OLD_REFS - 1)).checkOldFree
  else s

/-- R240: frame `fid` lets go of the reference it holds, if any. -/
def State.dropRef (s : State) (fid : Nat) : State :=
  match s.frame fid with
  | some f =>
    match f.ref, f.epoch with
    | true, some e => (s.setFrame fid (some { f with ref := false })).releaseRef e
    | _, _ => s
  | none => s

/-- R241: frames that hold a reference to stamp `e`. -/
def State.refsOf (s : State) (e : Nat) : Nat :=
  (s.frames.filter (fun x => match x.2 with | some f => f.ref && f.epoch == some e | none => false)).length

/-- R241: a swap is refused with a code. -/
def State.swapRefused (s : State) (code : Nat) : State :=
  ((s.wf .CLS_EPOCH_STATUS_REFUSED 1).wf .CLS_EPOCH_STATUS_REFUSE_CODE code).refuse 0x113 0x08

/-- R241: CLS_EPOCH_CMD SWAP. -/
def State.epochSwap (s : State) : State :=
  if !s.on .CLS_EPOCH_STATUS_OLD_FREE then s.swapRefused 1
  else if s.rf .BOOT_UPDATE_STATUS_STATE = 5 then s.swapRefused 2
  else if s.on .CLS_CFG_BYPASS then s.swapRefused 3
  else
    let e := s.rf .CLS_EPOCH_STATUS_EPOCH
    let s := s.wf .CLS_EPOCH_STATUS_ACTIVE (1 - s.rf .CLS_EPOCH_STATUS_ACTIVE)
    let s := s.wf .CLS_EPOCH_STATUS_EPOCH ((e + 1) % 256)
    let s := s.wf .CLS_EPOCH_STATUS_OLD_REFS (s.refsOf e)
    let s := s.wf .CLS_EPOCH_STATUS_OLD_FREE 0
    (s.wf .CLS_EPOCH_STATUS_SWAP_PENDING 1).cinc (Ctr.cls 10)

/-- R241: the count of references is settled. -/
def State.swapSettled (s : State) : State :=
  if s.on .CLS_EPOCH_STATUS_SWAP_PENDING then (s.wf .CLS_EPOCH_STATUS_SWAP_PENDING 0).checkOldFree else s

/-- R242: whether a write to tree word `w` is taken now. -/
def State.treeWritable (s : State) (w : Nat) : Bool :=
  let b := w / 131072
  !s.committed || (b ≠ s.rf .CLS_EPOCH_STATUS_ACTIVE && s.on .CLS_EPOCH_STATUS_OLD_FREE)

/-- R242: write a tree word, or ignore and report it. Answers whether the write took effect. -/
def State.treeWrite (s : State) (w v : Nat) : Bool × State :=
  if s.treeWritable w then (true, s.treePut w v) else (false, s.refuse 0x113 0x08)

/-- R231: a read of a tree word by a requester: the word as stored and whether it is uncorrectable. -/
def State.treeRead (s : State) (w : Nat) : Bool × Nat × State :=
  let r := s.eccRead .tree w 0x110 (some w)
  (r.1, s.treeWord w, r.2)

/-- R243: the index of CLS_TREE_ADDR advances with AUTO_INC. -/
def State.treeNext (s : State) : State :=
  if s.on .CLS_TREE_ADDR_AUTO_INC then s.wf .CLS_TREE_ADDR_WORD ((s.rf .CLS_TREE_ADDR_WORD + 1) % 262144) else s

/-- R243: a write of CLS_TREE_DATA_HI. Answers whether it took effect. -/
def State.treeDataHi (s : State) (v : Word) : Bool × State :=
  let r := s.treeWrite (s.rf .CLS_TREE_ADDR_WORD) (v.toNat * 2 ^ 32 + s.cls.dataLo.toNat)
  (r.1, r.2.treeNext)

/-- R243: a read of CLS_TREE_DATA_LO by `r` latches the high half. Answers whether the word is poisoned. -/
def State.treeDataLo (s : State) (r : Requester) : Bool × Word × State :=
  let x := s.treeRead (s.rf .CLS_TREE_ADDR_WORD)
  (x.1, BitVec.ofNat 32 x.2.1, x.2.2.setLatch r Reg.CLS_TREE_DATA_HI (BitVec.ofNat 32 (x.2.1 / 2 ^ 32)))

/-- R227: address of the low half of tree word `w`. -/
def treeAddr (w : Nat) : Nat := 0x0100000000 + 8 * w

/-- R227: a direct write of half `hi` of word `w` by requester `r`. Answers whether it took effect. -/
def State.treeDirectWrite (s : State) (r : Requester) (w : Nat) (hi : Bool) (v : Word) : Bool × State :=
  let k := latchKey r 0
  if hi then
    let lo := match spGet (fun _ => none) s.cls.heldLo k with
      | some l => l.toNat
      | none => s.treeWord w % 2 ^ 32
    let s := { s with cls := { s.cls with heldLo := spSet (fun _ => none) s.cls.heldLo k none } }
    s.treeWrite w (v.toNat * 2 ^ 32 + lo)
  else (true, { s with cls := { s.cls with heldLo := spSet (fun _ => none) s.cls.heldLo k (some v) } })

/-- R227: a direct read of the low half latches the high half; the latch is one for tree memory. -/
def State.treeDirectRead (s : State) (r : Requester) (w : Nat) (hi : Bool) : Bool × Word × State :=
  if hi then (false, s.latched r (treeAddr 0), s)
  else
    let x := s.treeRead w
    (x.1, BitVec.ofNat 32 x.2.1, x.2.2.setLatch r (treeAddr 0) (BitVec.ofNat 32 (x.2.1 / 2 ^ 32)))

/-! The firewall (R234, R235, R245 to R252). -/

/-- R234: whether a key record is session-capable. -/
def State.sessionCapable (s : State) (k : Key) : Bool :=
  s.on .FWL_CFG_EN && (k.l3 = 1 || k.l3 = 2) && !k.frag &&
  (((k.l4Proto = 6 || k.l4Proto = 17) && !k.l4Absent) ||
   (k.l4Proto = 1 && !k.l4Absent && (k.l4Src / 256 = 8 || k.l4Src / 256 = 0)) ||
   (k.l4Proto = 58 && !k.l4Absent && (k.l4Src / 256 = 128 || k.l4Src / 256 = 129)) ||
   (k.l4Proto ≠ 1 && k.l4Proto ≠ 2 && k.l4Proto ≠ 6 && k.l4Proto ≠ 17 && k.l4Proto ≠ 58))

/-- Source and destination address of a key record as 16 bytes each (R182, R246). -/
def Key.srcAddr (k : Key) : List Byte :=
  if k.l3 = 2 then k.addr.take 16 else (k.addr.drop 12).take 4 ++ List.replicate 12 0
def Key.dstAddr (k : Key) : List Byte :=
  if k.l3 = 2 then (k.addr.drop 16).take 16 else (k.addr.drop 16).take 4 ++ List.replicate 12 0

/-- An ICMP or ICMPv6 echo message. -/
def Key.isIcmp (k : Key) : Bool := k.l4Proto = 1 || k.l4Proto = 58
/-- Port of the source and destination side in a session key (R246). -/
def Key.srcPort (k : Key) : Nat :=
  if k.isIcmp then k.l4Dst else if k.l4Proto = 6 || k.l4Proto = 17 then k.l4Src else 0
def Key.dstPort (k : Key) : Nat :=
  if k.isIcmp then k.l4Dst else if k.l4Proto = 6 || k.l4Proto = 17 then k.l4Dst else 0

/-- R246: the frame's source side is the LO side. -/
def Key.srcIsLo (k : Key) : Bool :=
  let a := ofBytesBE k.srcAddr * 65536 + k.srcPort
  let b := ofBytesBE k.dstAddr * 65536 + k.dstPort
  a ≤ b

/-- R246: the canonical session key (bytes 0 to 39) of a frame with source zone `zs` and destination zone `zd`. -/
def Key.sessKey (k : Key) (zs zd : Nat) : List Byte :=
  let lo := k.srcIsLo
  (if lo then k.srcAddr ++ k.dstAddr else k.dstAddr ++ k.srcAddr) ++
  (if lo then bytesLE 2 k.srcPort ++ bytesLE 2 k.dstPort else bytesLE 2 k.dstPort ++ bytesLE 2 k.srcPort) ++
  bytesLE 1 k.l4Proto ++ (if lo then bytesLE 1 zs ++ bytesLE 1 zd else bytesLE 1 zd ++ bytesLE 1 zs) ++
  bytesLE 1 (if k.l3 = 2 then 1 else 0)

/-- R246: whether a 40-byte session key is canonical. -/
def sessCanon (key : List Byte) : Bool :=
  let a := ofBytesBE (key.take 16) * 65536 + ofBytesLE ((key.drop 32).take 2)
  let b := ofBytesBE ((key.drop 16).take 16) * 65536 + ofBytesLE ((key.drop 34).take 2)
  a ≤ b

/-- Session table entry at an index. -/
def State.sessAt (s : State) (i : Nat) : Option Sess := spGet (fun _ => none) s.cls.sess i

/-- First index of the stash (R245). -/
def stashBase : Nat := 65280

/-- Entries in use below (ways) and from (stash) `stashBase` (FWL_OCCUPANCY). -/
def State.sessWays (s : State) : Nat := (s.cls.sess.filter (fun e => e.1 < stashBase)).length
def State.sessStash (s : State) : Nat := (s.cls.sess.filter (fun e => stashBase ≤ e.1)).length

/-- R255: source 0x124 rises while the stash is above its threshold. It falls at the end of a window (R473). -/
def State.stashLevel (s : State) : State :=
  let thr := s.rf .FWL_RATE_CFG_STASH_THR
  if thr ≠ 0 && s.sessStash > thr then s.raise 0x124 0x11 else s

/-- Store or clear a session entry; a write clears the damage of its slot. -/
def State.sessPut (s : State) (i : Nat) (e : Option Sess) : State :=
  ({ s.eccClear .session i with cls := { s.cls with sess := spSet (fun _ => none) s.cls.sess i e } }).stashLevel

/-- The four candidate slots of a key (R245). -/
def State.sessCands (s : State) (key : List Byte) : List Nat :=
  (List.range 4).map (fun w => w * 16320 + s.hashSlice key w * 16320 / 65536)

/-- Index of the entry with a key: its candidates, then the stash (R245, R246). -/
def State.sessFind (s : State) (key : List Byte) : Option Nat :=
  let hit (i : Nat) : Bool := match s.sessAt i with | some e => e.key == key | none => false
  match (s.sessCands key).find? hit with
  | some i => some i
  | none => (s.cls.sess.find? (fun x => stashBase ≤ x.1 && (match x.2 with | some e => e.key == key | none => false))).map (fun x => x.1)

/-- R250: a read of an entry with an uncorrectable error invalidates it. -/
def State.sessCheck (s : State) (i : Nat) : Bool × State :=
  let r := s.eccRead .session i 0x120 none
  if r.1 then (false, (r.2.sessPut i none).cinc (Ctr.fwl 10)) else (true, r.2)

/-- What a lookup of a key reads (R245): its four candidates and the whole stash; and the damaged entries among them. -/
def State.sessReads (s : State) (key : List Byte) : List Nat := s.sessCands key ++ (List.range 256).map (fun j => stashBase + j)
def State.sessHurt (s : State) (key : List Byte) : List Nat := (s.sessReads key).filter fun i => s.eccAt .session i ≠ 0

/-- R250: a lookup of a key checks every entry that it reads. -/
def State.sessProbe (s : State) (key : List Byte) : State := s.each (s.sessHurt key) fun s i => (s.sessCheck i).2

/-- R248: the slot a creation takes, none of `taken`: the free slot of the lowest way, then of the stash. -/
def State.sessFreeBut (s : State) (taken : List Nat) (key : List Byte) : Option Nat :=
  let free (i : Nat) : Bool := (s.sessAt i).isNone && !taken.contains i
  match (s.sessCands key).find? free with
  | some i => some i
  | none => ((List.range 256).map (fun j => stashBase + j)).find? free

/-- R248: the slots that the held creations will take, each after those before it. -/
def State.sessHeldSlots (s : State) : List Nat :=
  s.cls.held.foldl (fun l h => l ++ [(s.sessFreeBut l h.key).getD 65536]) []

/-- The slot that the held creation of a key will take. -/
def State.sessHeldAt (s : State) (key : List Byte) : Option Nat :=
  ((s.cls.held.zip s.sessHeldSlots).find? (fun x => x.1.key == key)).map (fun x => x.2)

/-- R248: the slot that a further creation takes, given the slots that the held creations will take. -/
def State.sessFree (s : State) (key : List Byte) : Option Nat := s.sessFreeBut s.sessHeldSlots key

/-- TCP flag bits of TCP_FLAGS (CWR to FIN). -/
def Key.syn (k : Key) : Bool := bitAt k.tcpFlags 1
def Key.ack (k : Key) : Bool := bitAt k.tcpFlags 4
def Key.fin (k : Key) : Bool := bitAt k.tcpFlags 0
def Key.rst (k : Key) : Bool := bitAt k.tcpFlags 2
/-- An ICMP or ICMPv6 echo reply. -/
def Key.echoReply (k : Key) : Bool :=
  (k.l4Proto = 1 && k.l4Src / 256 = 0) || (k.l4Proto = 58 && k.l4Src / 256 = 129)

/-- R247: the state an entry moves to for a frame of the initiator (`i`) or responder, with its FLAGS. -/
def sessNext (x : Sess) (k : Key) (i : Bool) : Nat × Nat :=
  if k.l4Proto = 6 then
    let finBit := if i then 4 else 3
    let withFin := if k.fin && !bitAt x.flags finBit then x.flags + 2 ^ finBit else x.flags
    let otherFin := bitAt x.flags (if i then 3 else 4)
    if k.rst then (6, x.flags)
    else match x.state with
      | 1 => if !i && k.syn && k.ack then (2, x.flags) else (1, x.flags)
      | 2 => if i && k.ack && !k.syn then (3, x.flags) else (2, x.flags)
      | 3 => if k.fin then (4, withFin) else (3, x.flags)
      | 4 => if k.fin && otherFin then (5, withFin) else (4, x.flags)
      | 5 => if k.ack then (6, x.flags) else (5, x.flags)
      | 6 => if i && k.syn && !k.ack then (1, x.flags - b2n (bitAt x.flags 4) * 16 - b2n (bitAt x.flags 3) * 8) else (6, x.flags)
      | n => (n, x.flags)
  else if k.l4Proto = 17 then (if x.state = 8 && !i then 9 else x.state, x.flags)
  else if k.isIcmp then (if x.state = 10 && !i && k.echoReply then 11 else x.state, x.flags)
  else (if x.state = 12 && !i then 13 else x.state, x.flags)

/-- R246, R247: the frame comes from the initiator of an entry. -/
def Sess.fromInit (x : Sess) (k : Key) : Bool := bitAt x.flags 6 == k.srcIsLo

/-- R247: with TCP_STRICT, a responder's frame in SYN_SENT without SYN and ACK or RST is denied. -/
def State.tcpInvalid (s : State) (x : Sess) (k : Key) : Bool :=
  s.on .FWL_CFG_TCP_STRICT && k.l4Proto = 6 && x.state = 1 && !x.fromInit k && !(k.syn && k.ack) && !k.rst

/-- R247: an entry after a hit that updates it. -/
def State.sessHit (s : State) (x : Sess) (k : Key) : Sess :=
  let n := sessNext x k (x.fromInit k)
  { x with last := s.now, pkts := satInc 32 x.pkts, state := n.1, flags := n.2 }

/-- R247: the entry that a creation makes; `none` where the frame creates nothing. -/
def State.sessNew (s : State) (k : Key) (key : List Byte) (rule : Option (Nat × Nat)) (static : Bool) : Option Sess :=
  let st :=
    if k.l4Proto = 6 then if k.syn && !k.ack then some 1 else if s.on .FWL_CFG_TCP_STRICT then none else some 3
    else if k.l4Proto = 17 then some 8
    else if k.isIcmp then (if k.echoReply then none else some 10)
    else some 12
  let ruleWord := match rule with | some (b, r) => b * 0x8000 + 0x4000 + r | none => 0
  st.map (fun st => ⟨key, 0x80 + b2n k.srcIsLo * 0x40 + b2n static * 0x20, st, ruleWord, 1, s.now, s.now⟩)

/-- R248: write an entry to the free slot of the lowest way or the stash. Answers the index, if any. -/
def State.sessPlace (s : State) (e : Sess) : Option Nat × State :=
  match s.sessFree e.key with
  | some i => (some i, s.sessPut i (some e))
  | none => (none, s)

/-- Entry `i` is removed: whatever it is with `all`, else where it reads as not STATIC (R250). -/
def State.sessDrop (s : State) (all : Bool) (i : Nat) : State :=
  if all then s.sessPut i none
  else
    let r := s.sessCheck i
    match r.2.sessAt i with
    | some e => if bitAt e.flags 5 then r.2 else r.2.sessPut i none
    | none => r.2

/-- R522: the flush walk has visited the indices below `bound`. -/
def State.flushTo (s : State) (bound : Nat) : State :=
  match s.cls.flush with
  | none => s
  | some (all, start, pos) =>
    let s := s.each (s.cls.sess.filter (fun x => pos ≤ x.1 && x.1 < bound)) fun s x => s.sessDrop all x.1
    { s with cls := { s.cls with flush := some (all, start, max pos bound) } }

/-- R522: the walk visits one index per cycle. -/
def State.flushUp (s : State) : State :=
  match s.cls.flush with
  | some (_, start, _) => s.flushTo (min 65536 (s.cycles - start))
  | none => s

/-- R248: a creation that found the ways and the stash full. -/
def State.sessFull (s : State) : State :=
  (s.wf .FWL_INT_FULL 1).rateEvent 0x121 (s.rf .FWL_RATE_CFG_FULL_THR)

/-- The creation unit writes its oldest creation (R248, SESSION_CREATION_WRITE), which takes the first free slot whatever
the younger ones will take. -/
def State.sessWriteHeld (s : State) : State :=
  let s := s.flushUp
  match s.cls.held with
  | [] => s
  | e :: rest =>
    let s := { s with cls := { s.cls with held := rest } }.sessProbe e.key
    match s.sessFind e.key with
    | some _ => s
    | none =>
      match s.sessFreeBut [] e.key with
      | some i => (s.sessPut i (some e)).cinc (Ctr.fwl 2)
      | none => s.sessFull

/-- The timeout class of a session state (R251). -/
def ageClass (st : Nat) : Nat :=
  if st ≤ 2 then 0 else if st = 3 then 1 else if st ≤ 5 then 2 else if st = 6 then 3
  else if st = 8 then 4 else if st = 9 then 5 else if st ≤ 11 then 6 else 7

/-- R251: whether the firmware's scan removes an entry now. A negative difference counts as 0. -/
def State.sessAged (s : State) (e : Sess) : Bool :=
  let d := sextNat 64 (subW 64 s.now e.last)
  !bitAt e.flags 5 && (s.rf (.FWL_AGE_SECONDS (ageClass e.state)) * 1000000000 : Int) < d

/-- R251: one scan of the table: every entry that is not STATIC is read (R250), and the aged are removed (the firmware's
conditional DELETEs find the entries unchanged). -/
def State.sessScan (s : State) : State :=
  let s := s.flushUp
  let scan := s.cls.sess.filter (fun x => match x.2 with | some e => !bitAt e.flags 5 | none => false)
  s.each scan (fun s x =>
    let r := s.sessCheck x.1
    match r.2.sessAt x.1 with
    | some e => if r.2.sessAged e then (r.2.sessPut x.1 none).cinc (Ctr.fwl 7) else r.2
    | none => r.2)

/-- R249: free way slot `j` by moving its occupant to a slot of its own, displacing on as far as `fuel` allows.
Each move writes the new slot before it clears the old one. -/
def State.freeSlot (s : State) : Nat → Nat → List Nat → Option State
  | 0, _, _ => none
  | fuel + 1, j, seen =>
    let s := (s.sessCheck j).2
    match s.sessAt j with
    | none => some s
    | some o =>
      let cands := (s.sessCands o.key).filter (fun q => !(j :: seen ++ s.sessHeldSlots).contains q)
      let go (t : State) (q : Nat) : State := ((t.sessPut q (some o)).sessPut j none).cinc (Ctr.fwl 9)
      match cands.find? (fun q => (s.sessAt q).isNone) with
      | some q => some (go s q)
      | none =>
        match cands with
        | q :: _ => (s.freeSlot fuel q (j :: seen)).map (fun t => go t q)
        | [] => none

/-- R249: stash entry `i` moves into the ways, by at most 32 moves; held while a flush walks (R522). -/
def State.stashMove (s : State) (i : Nat) : State :=
  if s.cls.flush.isSome || i < stashBase then s
  else
  let s := (s.sessCheck i).2
  match s.sessAt i with
  | none => s
  | some e =>
    let cands := (s.sessCands e.key).filter (fun j => !s.sessHeldSlots.contains j)
    let move (t : State) (j : Nat) : State := ((t.sessPut j (some e)).sessPut i none).cinc (Ctr.fwl 9)
    match cands.find? (fun j => (s.sessAt j).isNone) with
    | some j => move s j
    | none =>
      match cands.findSome? (fun j => (s.freeSlot 31 j []).map (fun t => (t, j))) with
      | some (t, j) => move t j
      | none => s

/-- Bytes 0 to 63 of a session entry (R246). -/
def Sess.bytes (e : Sess) : List Byte :=
  e.key.take 40 ++ bytesLE 1 e.flags ++ bytesLE 1 e.state ++ bytesLE 2 e.rule ++ bytesLE 4 e.pkts ++
  bytesLE 8 e.last ++ bytesLE 8 e.created

/-- The entry that 64 bytes describe (R246). -/
def Sess.ofBytes (b : List Byte) : Sess :=
  ⟨b.take 40, ofBytesLE ((b.drop 40).take 1), ofBytesLE ((b.drop 41).take 1), ofBytesLE ((b.drop 42).take 2),
   ofBytesLE ((b.drop 44).take 4), ofBytesLE ((b.drop 48).take 8), ofBytesLE ((b.drop 56).take 8)⟩

/-- The bytes held by `n` consecutive registers from address `a`. -/
def State.regBytes (s : State) (a n : Nat) : List Byte :=
  (List.range n).flatMap (fun i => bytesLE 4 (s.rword (a + 4 * i)).toNat)

/-- Load bytes into consecutive registers from address `a`. -/
def State.setRegBytes (s : State) (a n : Nat) (b : List Byte) : State :=
  s.each (List.range n) (fun s i => s.wword (a + 4 * i) (BitVec.ofNat 32 (ofBytesLE ((b.drop (4 * i)).take 4))))

/-- The entry in FWL_CMD_DATA. -/
def State.fwlData (s : State) : Sess := Sess.ofBytes (s.regBytes (Reg.FWL_CMD_DATA 0) 16)

/-- A command of FWL_CMD ends with a result and an index (R522). -/
def State.fwlDone (s : State) (result index : Nat) : State :=
  (((s.wf .FWL_CMD_STATUS_BUSY 0).wf .FWL_CMD_STATUS_RESULT result).wf .FWL_CMD_STATUS_INDEX index).wf .FWL_INT_CMD_DONE 1

/-- A write of FWL_CMD while BUSY is ignored and reported; otherwise `g` runs. -/
def State.fwlCmd (s : State) (g : State → State) : State :=
  if s.on .FWL_CMD_STATUS_BUSY then s.refuse 0x123 0x08 else g s

/-- R522: LOOKUP finds the entry of FWL_CMD_DATA and loads it. -/
def State.fwlLookup (s : State) : State := s.fwlCmd fun s =>
  let s := s.sessProbe s.fwlData.key
  match s.sessFind s.fwlData.key with
  | none => s.fwlDone 1 (s.rf .FWL_CMD_STATUS_INDEX)
  | some i =>
    let r := s.sessCheck i
    match r.1, r.2.sessAt i with
    | true, some e => (r.2.setRegBytes (Reg.FWL_CMD_DATA 0) 16 e.bytes).fwlDone 0 i
    | _, _ => r.2.fwlDone 1 (s.rf .FWL_CMD_STATUS_INDEX)

/-- R522: READ returns the entry at INDEX. -/
def State.fwlRead (s : State) : State := s.fwlCmd fun s =>
  let i := s.rf .FWL_CMD_STATUS_INDEX
  let r := s.sessCheck i
  match r.1, r.2.sessAt i with
  | true, some e => (r.2.setRegBytes (Reg.FWL_CMD_DATA 0) 16 e.bytes).fwlDone 0 i
  | _, _ => r.2.fwlDone 1 i

/-- R522: INSERT places a canonical entry under R248 with VALID = 1. -/
def State.fwlInsert (s : State) : State := s.fwlCmd fun s =>
  let e := s.fwlData
  let i := s.rf .FWL_CMD_STATUS_INDEX
  if !sessCanon e.key then s.fwlDone 4 i
  else
  let s := s.sessProbe e.key
  let r := match s.sessFind e.key with | some j => ((s.sessCheck j).1, j, (s.sessCheck j).2) | none => (false, 0, s)
  let s := r.2.2
  if r.1 then s.fwlDone 5 r.2.1
  else
    if s.cls.held.any (fun h => h.key == e.key) then s.fwlDone 5 i
    else
      let e := { e with flags := if bitAt e.flags 7 then e.flags else e.flags + 128 }
      match s.sessPlace e with
      | (some j, s) => (s.cinc (Ctr.fwl 2)).fwlDone 0 j
      | (none, s) => s.sessFull.fwlDone 3 i

/-- R252: DELETE removes the entry only when its bytes 0 to 39 and its LAST are those of FWL_CMD_DATA. -/
def State.fwlDelete (s : State) : State := s.fwlCmd fun s =>
  let e := s.fwlData
  let s := s.sessProbe e.key
  match s.sessFind e.key with
  | none => s.fwlDone 1 (s.rf .FWL_CMD_STATUS_INDEX)
  | some i =>
    let s := (s.sessCheck i).2
    match s.sessAt i with
    | some x => if x.last = e.last then ((s.sessPut i none).cinc (Ctr.fwl 8)).fwlDone 0 i else s.fwlDone 2 i
    | none => s.fwlDone 1 i

/-- R522: FLUSH starts its walk; displacement is held meanwhile. -/
def State.fwlFlush (s : State) (all : Bool) : State := s.fwlCmd fun s =>
  { s.wf .FWL_CMD_STATUS_BUSY 1 with cls := { s.cls with flush := some (all, s.cycles, 0) } }

/-- R522: the flush walk ends. -/
def State.fwlFlushDone (s : State) : State :=
  match s.cls.flush with
  | none => s
  | some _ =>
    let s := s.flushTo 65536
    { s.fwlDone 0 (s.rf .FWL_CMD_STATUS_INDEX) with cls := { s.cls with flush := none } }

end Sys2Proof.Machine
end

