-- ==== Sys2Proof/Machine/Stm.lean ====
section
/-!
DEFINITION. Stream identification, the stream filter, meters, FRER and the STM tables (R287 to R302,
R313 to R316).
-/
namespace Sys2Proof.Machine

/-- STM counters (R316), stream counters and FRER counters (R315; numbered outside the address map). -/
def Ctr.stm (i : Nat) : Nat := 0x240400 + 8 * i
def Ctr.stream (h i : Nat) : Nat := 2 ^ 41 + h * 64 + 8 * i
def Ctr.frer (f i : Nat) : Nat := 2 ^ 42 + f * 128 + 8 * i

/-- Words of STM table `t` (R315). -/
def stmWords : Nat → Nat
  | 0 => 16
  | 1 => 4
  | 2 => 8
  | 3 => 4
  | 4 => 16
  | 5 => 18
  | _ => 0

/-- Indices of STM table `t` (R315). -/
def stmIndices : Nat → Nat
  | 3 => 1024
  | 5 => 1024
  | t => if t ≤ 5 then 4096 else 0

/-- An STM entry nothing has written: all bytes 0. -/
def stmZero (k : Nat) : List Byte := List.replicate (4 * stmWords (k / 4096)) 0

/-- Bytes of entry `i` of STM table `t`, 0 to 3. -/
def State.stmAt (s : State) (t i : Nat) : List Byte := spGet stmZero s.stm.tab (t * 4096 + i)

/-- Store an entry; the write clears its damage (R314). -/
def State.stmPut (s : State) (t i : Nat) (b : List Byte) : State :=
  { s.eccClear .stm (t * 4096 + i) with stm := { s.stm with tab := spSet stmZero s.stm.tab (t * 4096 + i) b } }

/-- `n` bytes at `off` of an entry, little-endian. -/
def le (b : List Byte) (off n : Nat) : Nat := ofBytesLE ((b.drop off).take n)

/-- Replace the bytes at `off`. -/
def putBytes (b : List Byte) (off : Nat) (x : List Byte) : List Byte := b.take off ++ x ++ b.drop (off + x.length)

/-- R314: read an entry for a frame; true where the word is uncorrectable. -/
def State.stmRead (s : State) (t i : Nat) : Bool × State := s.eccRead .stm (t * 4096 + i) 0x180 (some (t * 4096 + i))

/-- Tokens of a meter (R294). -/
def State.tokC (s : State) (m : Nat) : Nat := spGet (fun _ => 0) s.stm.tokC m
def State.tokE (s : State) (m : Nat) : Nat := spGet (fun _ => 0) s.stm.tokE m
def State.setTok (s : State) (m c e : Nat) : State :=
  { s with stm := { s.stm with tokC := spSet (fun _ => 0) s.stm.tokC m c, tokE := spSet (fun _ => 0) s.stm.tokE m e } }

/-- One byte of rate in token units (R294). -/
def tokUnit : Nat := 125000

/-- What stream identification compares (R288). -/
structure StreamIn where
  inPort : Nat
  dmac : Nat
  smac : Nat
  vid : Nat
  /-- An outer tag with a VID of 1 to 4094; no outer tag, or one with VID 0. -/
  tagged : Bool
  untagged : Bool
  key : Key

/-- R288, R289: whether identification entry `b` matches. -/
def streamMatch (b : List Byte) (x : StreamIn) : Bool :=
  let mode := le b 2 1
  let ipf := le b 3 1
  let method := mode % 4
  let tagSel := mode / 8 % 4
  let mac := ofBytesBE ((b.drop 8).take 6)
  let vidOk := bitAt mode 2 || x.vid = le b 14 2 % 4096
  let tagOk := if tagSel = 1 then x.tagged else if tagSel = 2 then x.untagged else true
  let k := x.key
  let l3 := if bitAt ipf 7 then 2 else 1
  let ip (off : Nat) : List Byte := (b.drop off).take 16
  bitAt mode 7 && bitAt (le b 4 4) x.inPort && tagOk && vidOk &&
  (if method = 1 then x.dmac = mac
   else if method = 2 then x.smac = mac
   else if method = 3 then
     (bitAt ipf 1 || x.dmac = mac) && k.l3 = l3 && k.dstAddr == ip 16 && (bitAt ipf 6 || k.srcAddr == ip 32) &&
     (bitAt ipf 5 || k.tos / 4 = le b 48 1 % 64) && (bitAt ipf 4 || k.l4Proto = le b 49 1) &&
     (bitAt ipf 3 || (!k.l4Absent && k.l4Src = le b 50 2)) && (bitAt ipf 2 || (!k.l4Absent && k.l4Dst = le b 52 2))
   else false)

/-- R287: index of the lowest matching identification entry. -/
def State.streamEntry (s : State) (x : StreamIn) : Option Nat :=
  (s.stm.tab.find? (fun e => e.1 < 4096 && streamMatch e.2 x)).map (fun e => e.1)

/-- Stage 5 (R287): the handle, and whether an uncorrectable entry drops the frame (R314). -/
def State.identify (s : State) (x : StreamIn) : Option Nat × Bool × State :=
  match s.streamEntry x with
  | none => (none, false, s.cinc (Ctr.stm 1))
  | some i =>
    let r := s.stmRead 0 i
    if r.1 then (none, true, r.2.cinc (Ctr.stm 2))
    else
      let h := le (s.stmAt 0 i) 0 2 % 4096
      if bitAt (le (s.stmAt 1 h) 7 1) 7 then (some h, false, r.2.cinc (Ctr.stm 0))
      else (none, false, r.2.cinc (Ctr.stm 1))

/-- R294: one tick of a meter's buckets. -/
def State.meterTick (s : State) (m : Nat) : State :=
  let b := s.stmAt 2 m
  let cmax := le b 4 4 * tokUnit
  let emax := le b 12 4 * tokUnit
  let c := s.tokC m + le b 0 4
  let spill := if bitAt (le b 16 1) 6 then c - cmax else 0
  s.setTok m (min c cmax) (min (s.tokE m + le b 8 4 + spill) emax)

/-- R294: METER_REFILL_TICK refills every meter. A meter nothing has written has no rate and no bucket. -/
def State.meterRefill (s : State) : State :=
  s.each ((s.stm.tab.filter (fun e => 2 * 4096 ≤ e.1 && e.1 < 3 * 4096)).map (fun e => e.1 - 2 * 4096)) State.meterTick

/-- R295: the colour of a frame of `len` bytes (0 green, 1 yellow, 2 red), with the tokens taken. -/
def State.meterColour (s : State) (m len : Nat) (dei : Bool) : Nat × State :=
  let b := s.stmAt 2 m
  let yellow := bitAt (le b 16 1) 7 && dei
  let need := len * tokUnit
  if !yellow && s.tokC m ≥ need then (0, s.setTok m (s.tokC m - need) (s.tokE m))
  else if s.tokE m ≥ need then (1, s.setTok m (s.tokC m) (s.tokE m - need))
  else (2, s)

/-- A FRER counter gains one (R298). -/
def State.frerInc (s : State) (f i : Nat) : State := s.cinc (Ctr.frer f i)

/-- R298: LOST counts each bit `i` in H − delta to H − 1 that is 0. -/
def lostBits (vec h delta : Nat) : Nat := ((List.range delta).filter (fun j => !bitAt vec (h - delta + j))).length

/-- R299: a passed frame starts the recovery timer. -/
def State.frerPass (s : State) (f : Nat) : State :=
  { s.frerInc f 0 with stm := { s.stm with frerTimer := spSet (fun _ => false) s.stm.frerTimer f true } }

/-- R298: the recovery function `f` passes (true) or discards a frame with R-TAG sequence `seq`. -/
def State.frerRecover (s : State) (f : Nat) (rtag : Bool) (seq : Nat) : Bool × State :=
  let b := s.stmAt 3 f
  let h := le b 1 1
  let rs := le b 6 2
  let vec := le b 8 4
  let keep (s : State) (rs vec : Nat) : State :=
    s.stmPut 3 f (putBytes b 6 (bytesLE 2 rs ++ bytesLE 4 vec ++ [0]))
  let rogue (s : State) (i : Nat) : State := (s.frerInc f i).rateEvent 0x183 (s.rf .STM_RATE_CFG_ROGUE_THR)
  let delta := sextNat 16 (subW 16 seq rs)
  if !rtag then (if bitAt (le b 0 1) 5 then (true, s.frerPass f) else (false, rogue s 5))
  else if le b 12 1 % 2 = 1 then (true, (keep s seq 1).frerPass f)
  else if delta ≥ h || delta ≤ -(h : Int) then (false, rogue s 3)
  else if delta ≤ 0 then
    let i := (-delta).toNat
    if bitAt vec i then (false, s.frerInc f 1)
    else (true, ((keep s rs (vec + 2 ^ i)).frerInc f 2).frerPass f)
  else
    let d := delta.toNat
    let s := s.cadd (Ctr.frer f 4) (lostBits vec h d)
    let s := if d ≠ 1 then s.frerInc f 2 else s
    (true, (keep s seq ((vec * 2 ^ d) % 2 ^ h + 1 - (vec * 2 ^ d) % 2)).frerPass f)

/-- R299: RESET_MS without a passed frame. -/
def State.frerReset (s : State) (f : Nat) : State :=
  if spGet (fun _ => false) s.stm.frerTimer f then
    let b := s.stmAt 3 f
    let s := s.stmPut 3 f (putBytes b 12 [1])
    let s := { s with stm := { s.stm with frerTimer := spSet (fun _ => false) s.stm.frerTimer f false } }
    (s.frerInc f 6).wf .STM_INT_FRER_RESET 1
  else s

/-- R292: a stream becomes blocked by flag bit `bit`. -/
def State.blockStream (s : State) (h bit : Nat) : State :=
  let b := s.stmAt 1 h
  let fl := le b 7 1
  if bitAt fl bit then s
  else ((s.stmPut 1 h (putBytes b 7 (bytesLE 1 (fl + 2 ^ bit)))).wf .STM_INT_BLOCKED 1).report 0x181 0x06 h

/-- What stage 8 leaves of a frame: passed or dropped, colour, DEI, IPV and the R-TAG number generated. -/
structure Stage8 where
  pass : Bool
  colour : Nat
  dei : Bool
  ipv : Option Nat
  rtag : Option Nat
  deriving DecidableEq, Repr

/-- R291 step 5: the FRER function of the context. -/
def State.stage8Frer (s : State) (h : Nat) (o : Stage8) (k : Key) : Stage8 × State :=
  let b := s.stmAt 1 h
  if !bitAt (le b 4 2) 15 then (o, s.cinc (Ctr.stream h 1))
  else
    let f := le b 4 2 % 1024
    let r := s.stmRead 3 f
    if r.1 then ({ o with pass := false }, r.2.cinc (Ctr.stm 2))
    else
      let fl := le (s.stmAt 3 f) 0 1
      let p := if bitAt fl 6 then r.2.frerRecover f k.rtag k.rtagSeq else (true, r.2)
      if !p.1 then ({ o with pass := false }, p.2)
      else if bitAt fl 7 then
        let s := p.2
        let c := s.stmAt 3 f
        let g := le c 4 2
        (({ o with rtag := some g }), ((s.stmPut 3 f (putBytes c 4 (bytesLE 2 (g + 1)))).frerInc f 7).cinc (Ctr.stream h 1))
      else (o, p.2.cinc (Ctr.stream h 1))

/-- R291 step 4: the meter of the context (R295, R296); `dei` is that of the frame's outer tag. -/
def State.stage8Meter (s : State) (h len : Nat) (o : Stage8) (k : Key) (dei : Bool) : Stage8 × State :=
  let b := s.stmAt 1 h
  if !bitAt (le b 2 2) 15 then s.stage8Frer h o k
  else
    let m := le b 2 2 % 4096
    let r := s.stmRead 2 m
    if r.1 then ({ o with pass := false }, r.2.cinc (Ctr.stm 2))
    else
      match r.2.meterColour m len dei with
      | (0, s) => s.stage8Frer h { o with colour := 0 } k
      | (1, s) =>
        if bitAt (le (s.stmAt 2 m) 16 1) 5 then ({ o with pass := false }, s.cinc (Ctr.stream h 7))
        else (s.cinc (Ctr.stream h 6)).stage8Frer h { o with colour := 1, dei := true } k
      | (_, s) =>
        ({ o with pass := false, colour := 2 },
         (s.cinc (Ctr.stream h 5)).rateEvent 0x182 (s.rf .STM_RATE_CFG_RED_THR))

/-- R291: stage 8 for a frame of stream `h`, `len` bytes long with its FCS; `gate` is the state of ingress list
GATE at the frame's stage 1 timestamp: open, and the IPV of its entry; `dei` the DEI of its outer tag. -/
def State.stage8 (s : State) (h len : Nat) (gate : Nat → Bool × Option Nat) (k : Key) (dei : Bool) : Stage8 × State :=
  let o : Stage8 := ⟨true, 0, false, none, none⟩
  let s := s.cinc (Ctr.stream h 0)
  let r := s.stmRead 1 h
  if r.1 then ({ o with pass := false }, r.2.cinc (Ctr.stm 2))
  else
    let s := r.2
    let b := s.stmAt 1 h
    let fl := le b 7 1
    if bitAt fl 5 || bitAt fl 3 then ({ o with pass := false }, s.cinc (Ctr.stream h 4))
    else if le b 0 2 ≠ 0 && len > le b 0 2 then
      let s := s.cinc (Ctr.stream h 2)
      ({ o with pass := false }, if bitAt fl 6 then s.blockStream h 5 else s)
    else if bitAt (le b 6 1) 7 then
      let g := gate (le b 6 1 % 64)
      if !g.1 then
        let s := s.cinc (Ctr.stream h 3)
        ({ o with pass := false }, if bitAt fl 4 then s.blockStream h 3 else s)
      else s.stage8Meter h len { o with ipv := g.2 } k dei
    else s.stage8Meter h len o k dei

/-! The tables of R315. -/

/-- A refused table write or command (R297, R315). -/
def State.stmRefused (s : State) : State := (s.wf .STM_IND_CMD_RESULT 1).refuse 0x184 0x08

/-- A table command completes. -/
def State.stmDone (s : State) : State := (s.wf .STM_IND_CMD_RESULT 0).wf .STM_INT_IND_DONE 1

/-- The bytes a read of entry `i` of table `t` copies (R294, R315). -/
def State.stmEntry (s : State) (t i : Nat) : List Byte :=
  match t with
  | 2 => (s.stmAt 2 i).take 24 ++ bytesLE 4 (s.tokC i / tokUnit) ++ bytesLE 4 (s.tokE i / tokUnit)
  | 4 => (List.range 8).flatMap (fun j => bytesLE 8 (s.cget (Ctr.stream i j)))
  | 5 => (List.range 9).flatMap (fun j => bytesLE 8 (s.cget (Ctr.frer i j)))
  | t => s.stmAt t i

/-- R297, R315: whether an entry's bytes may be written to table `t`. -/
def stmValid (t : Nat) (b : List Byte) : Bool :=
  match t with
  | 0 => le b 0 2 < 4096 && le b 2 1 / 32 % 4 = 0 && !(bitAt (le b 2 1) 7 && le b 2 1 % 4 = 0) &&
         le b 3 1 % 2 = 0 && le b 4 4 < 2 ^ 30 && le b 14 2 < 4096 && le b 48 1 < 64 && le b 54 10 = 0
  | 1 => le b 2 2 / 4096 % 8 = 0 && le b 4 2 / 1024 % 32 = 0 && le b 6 1 / 64 % 2 = 0 && le b 7 1 % 8 = 0 && le b 8 8 = 0
  | 2 => le b 0 4 ≤ 50000000 && le b 8 4 ≤ 50000000 && le b 4 4 ≤ 16777215 && le b 12 4 ≤ 16777215 &&
         le b 16 1 % 32 = 0 && le b 17 7 = 0
  | 3 => le b 0 1 % 16 = 0 && 1 ≤ le b 1 1 && le b 1 1 ≤ 32 && 1 ≤ le b 2 2 && le b 2 2 ≤ 4095 &&
         le b 12 1 / 2 = 0 && le b 13 3 = 0
  | _ => false

/-- Write an entry that is valid: a meter's buckets fill (R297), a FRER function's state starts anew (R302). -/
def State.stmStore (s : State) (t i : Nat) (b : List Byte) : State :=
  match t with
  | 2 => (s.stmPut 2 i (b.take 24 ++ List.replicate 8 0)).setTok i (le b 4 4 * tokUnit) (le b 12 4 * tokUnit)
  | 3 =>
    let s := s.stmPut 3 i (b.take 6 ++ List.replicate 6 0 ++ [1] ++ List.replicate 3 0)
    { s with stm := { s.stm with frerTimer := spSet (fun _ => false) s.stm.frerTimer i false } }
  | t => s.stmPut t i (b.take (4 * stmWords t))

/-- R315: the table and index of STM_IND_ADDR exist. -/
def State.stmNamed (s : State) : Bool := s.rf .STM_IND_ADDR_INDEX < stmIndices (s.rf .STM_IND_ADDR_TABLE)

/-- A write of STM_IND_CMD while BUSY is ignored and reported. -/
def State.stmCmd (s : State) (g : State → State) : State :=
  if s.on .STM_IND_CMD_BUSY then s.refuse 0x184 0x08 else g s

/-- Copy an entry to STM_IND_DATA; words beyond the table's count read 0. -/
def State.stmCopy (s : State) (t i : Nat) : State :=
  let b := s.stmEntry t i
  s.setRegBytes (Reg.STM_IND_DATA 0) 32 (b ++ List.replicate (128 - b.length) 0)

/-- STM_IND_CMD operation 1 (R315). -/
def State.stmRdCmd (s : State) : State := s.stmCmd fun s =>
  if s.stmNamed then
    let t := s.rf .STM_IND_ADDR_TABLE
    let i := s.rf .STM_IND_ADDR_INDEX
    let s := if t ≤ 3 then (s.stmRead t i).2 else s
    (s.stmCopy t i).stmDone
  else s.stmRefused

/-- STM_IND_CMD operation 2 (R297, R302, R315). -/
def State.stmWrCmd (s : State) : State := s.stmCmd fun s =>
  let t := s.rf .STM_IND_ADDR_TABLE
  let b := s.regBytes (Reg.STM_IND_DATA 0) 32
  if s.stmNamed && t ≤ 3 && stmValid t b then (s.stmStore t (s.rf .STM_IND_ADDR_INDEX) b).stmDone else s.stmRefused

/-- Clear the counters of an entry of table 4 or 5. -/
def State.stmClear (s : State) (t i : Nat) : State :=
  s.each (List.range 9) (fun s j =>
    if t = 4 then (if j < 8 then s.cadd (Ctr.stream i j) (2 ^ 64 - s.cget (Ctr.stream i j)) else s)
    else s.cadd (Ctr.frer i j) (2 ^ 64 - s.cget (Ctr.frer i j)))

/-- STM_IND_CMD operation 3 (R315). -/
def State.stmRcCmd (s : State) : State := s.stmCmd fun s =>
  let t := s.rf .STM_IND_ADDR_TABLE
  if s.stmNamed && 4 ≤ t then
    let i := s.rf .STM_IND_ADDR_INDEX
    (((s.stmCopy t i).stmClear t i)).stmDone
  else s.stmRefused

end Sys2Proof.Machine
end

