-- ==== Sys2Proof/Machine/Gates.lean ====
section
/-!
DEFINITION. Gate control lists (R330 to R339): configurations, change times, gate states at a time, and the
egress span check. List index i is the port for an egress list and 32 + g for ingress list g.
-/
namespace Sys2Proof.Machine

/-- GAT_GATES of a list whose gates are open (its reset value). -/
def gatesOpen : Nat := 0x1FF

/-- Word of GAT_GATES for the STATE byte of an entry of list `i` (R330). -/
def gateWord (i st : Nat) : Nat :=
  if i < 32 then 0x100 + st % 256
  else b2n (bitAt st 7) * 0x100 + b2n (bitAt st 6) * 0x8000 + st % 8 * 0x1000 + 0xFF

/-- Largest number of entries of list `i` (R330). -/
def gateMax (i : Nat) : Nat := if i < 32 then 1024 else 256

/-- Operational configuration of list `i`. -/
def State.gateOper (s : State) (i : Nat) : Option GateConf := spGet (fun _ => none) s.gat.oper i
def State.gatePend (s : State) (i : Nat) : Option GatePend := spGet (fun _ => none) s.gat.pend i
/-- Configurations that list `i` has left, newest first, each with the cycle of its end and whether a restart ended it. -/
def State.gatePrev (s : State) (i : Nat) : List (Option GateConf × Nat × Bool) := spGet (fun _ => []) s.gat.prev i

/-- The 16 ms for which a list keeps a configuration that it has left have not passed (R338). -/
def State.prevFresh (s : State) (at_ : Nat) : Bool := s.cycles - at_ ≤ 16000000


def State.setGateOper (s : State) (i : Nat) (c : Option GateConf) : State :=
  { s with gat := { s.gat with oper := spSet (fun _ => none) s.gat.oper i c } }
def State.setGatePend (s : State) (i : Nat) (c : Option GatePend) : State :=
  { s with gat := { s.gat with pend := spSet (fun _ => none) s.gat.pend i c } }

/-- The configuration that `i` leaves now becomes a previous one; those kept long enough go (R338). -/
def State.keepPrev (s : State) (i : Nat) (restart : Bool) : State :=
  let l := (s.gateOper i, s.cycles, restart) :: (s.gatePrev i).filter (fun x => s.prevFresh x.2.1)
  { s with gat := { s.gat with prev := spSet (fun _ => []) s.gat.prev i l } }

/-- Administrative entry `e` of list `i` (R330). -/
def State.gateAdmin (s : State) (i e : Nat) : Nat := (spGet (fun _ => 0) s.gat.admin (i * 1024 + e)).toNat

/-- R332: position of offset `pos` in a cycle: entry number, state word, and where the state ends in the cycle. -/
def entryAt (cycle pos : Nat) : List (Nat × Nat) → Nat → Nat → Nat × Nat × Nat
  | [], k, _ => (k, gatesOpen, cycle)
  | [(_, st)], k, _ => (k, st, cycle)
  | (iv, st) :: es, k, acc =>
    if pos < acc + iv then (k, st, min (acc + iv) cycle) else entryAt cycle pos es (k + 1) (acc + iv)

/-- R332: entry number, gate word and the time to which they hold, of a configuration at time `t` (R14). -/
def GateConf.at (c : GateConf) (t : Nat) : Nat × Nat × Nat :=
  if !atOrAfter 64 t c.base then (0, c.hold, t + subW 64 c.base t)
  else
    let cyc := max c.cycle 1
    let pos := subW 64 t c.base % cyc
    let r := entryAt cyc pos c.entries 0 0
    (r.1, r.2.1, t + (r.2.2 - pos))

/-- `a - b` of two T64 values as a signed number of nanoseconds (R14). -/
def t64Sub (a b : Nat) : Int := sextNat 64 (subW 64 a b)

/-- R333: change time, N and BASE_PAST for a base and cycle, at time `now`; the difference is that of R14. -/
def changeTime (base cycle now : Nat) : Nat × Nat × Bool :=
  let d := t64Sub base now
  if 4000 ≤ d then (base, 0, false)
  else
    let cyc := max cycle 1
    let n := max 1 (((4000 - d).toNat + cyc - 1) / cyc)
    ((base + n * cyc) % 2 ^ 64, n, true)

/-- Gate word and end of state of list `i` at time `t`, following a pending change (R331, R336). -/
def State.gateAt (s : State) (i t : Nat) : Nat × Option Nat :=
  if !s.on (.GAT_ADMIN_CFG_ENABLE i) then (gatesOpen, none)
  else
    let pendAt := match s.gatePend i with
      | some p => if p.copied then some p.conf.base else none
      | none => none
    let late := match pendAt with | some b => atOrAfter 64 t b | none => false
    let conf := if late then (s.gatePend i).map (fun p => p.conf) else s.gateOper i
    let lim := if late then none else pendAt.map (fun b => t + subW 64 b t)
    match conf with
    | none => (gatesOpen, lim)
    | some c =>
      let r := c.at t
      (r.2.1, some (match lim with | some b => min b r.2.2 | none => r.2.2))

/-- R336: gate `cls` of list `i` is open at every instant of [t, stop). The fuel bounds the states passed. -/
def State.gateOpenFor (s : State) (i cls : Nat) : Nat → Nat → Nat → Bool
  | 0, t, stop => decide (stop ≤ t)
  | fuel + 1, t, stop =>
    if stop ≤ t then true
    else
      let r := s.gateAt i t
      if !bitAt r.1 cls then false
      else match r.2 with
        | none => true
        | some e => s.gateOpenFor i cls fuel (max e (t + 1)) stop

/-- R336 for a span of `len` ns from now; a state lasts 20 ns or more, but for the cut at a cycle's end. -/
def State.gateSpan (s : State) (i cls len : Nat) : Bool :=
  s.gateOpenFor i cls (len / 10 + 4) s.now (s.now + len)

/-- The states of one cycle with their lengths (R332). -/
def GateConf.segs (c : GateConf) : List (Nat × Nat) :=
  let go : List (Nat × Nat) → Nat → List (Nat × Nat) := fun es => es.foldr
    (fun (e : Nat × Nat) (k : Nat → List (Nat × Nat)) (acc : Nat) =>
      if acc ≥ c.cycle then [] else (e.2, min e.1 (c.cycle - acc)) :: k (acc + e.1))
    (fun acc => if acc < c.cycle then [((c.entries.getLast?.getD (0, gatesOpen)).2, c.cycle - acc)] else [])
  go c.entries 0

/-- R337: the longest unbroken open time of class `cls` in a configuration; none when it never closes. -/
def GateConf.longest (c : GateConf) (cls : Nat) : Option Nat :=
  let segs := c.segs
  if segs.all (fun x => bitAt x.1 cls) then none
  else
    let r := (segs ++ segs).foldl (fun (a : Nat × Nat) x =>
      let run := if bitAt x.1 cls then a.1 + x.2 else 0
      (run, max a.2 run)) (0, 0)
    some r.2

/-- The configuration was in force at time `t` of its timescale (R333, R338). -/
def confAt (t : Nat) (c : Option GateConf) : Bool :=
  match c with
  | some c => atOrAfter 64 t c.base || c.restarted
  | none => true

/-- R338: of the configurations that a list has left, newest first, the one in force at `t`; none where it ended more than
16 ms ago. -/
def State.prevAt (s : State) (t : Nat) : List (Option GateConf × Nat × Bool) → Option (Option GateConf)
  | [] => none
  | (p, at_, _) :: l => if !s.prevFresh at_ then none else if confAt t p then some p else s.prevAt t l

/-- What a list had left when the latest step restarted it, or had no configuration to restart (R339). -/
def beforeStep : List (Option GateConf × Nat × Bool) → List (Option GateConf × Nat × Bool)
  | [] => []
  | x :: l => if x.2.2 || x.1.isNone then x :: l else beforeStep l

/-- R338: ingress list `g` for a frame stamped `t` after `stepNo` steps: open, and the IPV of its entry. -/
def State.ingressGate (s : State) (t stepNo g : Nat) : Bool × Option Nat :=
  let i := 32 + g
  let word (c : Option GateConf) : Nat := match c with | some c => (c.at t).2.1 | none => gatesOpen
  let out (w : Nat) : Bool × Option Nat := (bitAt w 8, if bitAt w 15 then some (bitsAt w 12 3) else none)
  let prev (l : List (Option GateConf × Nat × Bool)) : Bool × Option Nat :=
    match s.prevAt t l with
    | some p => out (word p)
    | none => (false, none)
  if !s.on (.GAT_ADMIN_CFG_ENABLE i) then (true, none)
  else
    let d := (s.tim.steps + 4 - stepNo % 4) % 4
    match d with
    | 0 => if confAt t (s.gateOper i) then out (word (s.gateOper i)) else prev (s.gatePrev i)
    | 1 => if (s.gateOper i).isNone then (true, none) else prev (beforeStep (s.gatePrev i))
    | _ => (false, none)

/-- GAT_STATUS.ENTRY and GAT_GATES show the entry in force now (R332). -/
def State.gateShow (s : State) (i : Nat) : State :=
  if !s.on (.GAT_ADMIN_CFG_ENABLE i) then (s.wword (Reg.GAT_GATES i) (BitVec.ofNat 32 gatesOpen)).wf (.GAT_STATUS_ENTRY i) 0
  else match s.gateOper i with
  | none => s.wword (Reg.GAT_GATES i) (BitVec.ofNat 32 gatesOpen)
  | some c =>
    let r := c.at s.now
    (s.wword (Reg.GAT_GATES i) (BitVec.ofNat 32 r.2.1)).wf (.GAT_STATUS_ENTRY i) r.1

/-- R331: a disabled list opens every gate and forgets its configurations. -/
def State.gateDisable (s : State) (i : Nat) : State :=
  let s := ((s.keepPrev i false).setGateOper i none).setGatePend i none
  let s := (s.wf (.GAT_ADMIN_CFG_ENABLE i) 0).wf (.GAT_STATUS_PENDING i) 0
  (s.wf (.GAT_STATUS_OPER_LEN i) 0).gateShow i

/-- R349: an uncorrectable entry of list `i` disables the list. -/
def State.gateEcc (s : State) (i e : Nat) : Bool × State :=
  let r := s.eccRead .gate (i * 1024 + e) 0x071 none
  if r.1 then (true, ((r.2.gateDisable i).wf (.GAT_STATUS_ECC i) 1).wf .GAT_INT_ECC 1) else r

/-- A refused GAT write or command (R334). -/
def State.gatRefused (s : State) : State := (s.wf .GAT_INT_REFUSED 1).refuse 0x070 0x08

/-- R334: a CONFIG_CHANGE is refused with a code. -/
def State.changeRefused (s : State) (i code : Nat) : State :=
  ((s.wf (.GAT_STATUS_REFUSED i) 1).wf (.GAT_STATUS_REFUSE_CODE i) code).gatRefused

/-- 64-bit value of two registers. -/
def State.pair64 (s : State) (lo hi : Nat) : Nat := (s.rword hi).toNat * 2 ^ 32 + (s.rword lo).toNat

/-- R334 code 2: an administrative entry is in range with reserved fields 0. -/
def gateEntryOk (i w : Nat) : Bool :=
  20 ≤ w % 2 ^ 32 && w % 2 ^ 32 ≤ 1000000000 && w / 2 ^ 40 = 0 && (i < 32 || bitsAt w 35 3 = 0)

/-- The administrative entries of list `i` in use, as 64-bit words. -/
def State.adminEntries (s : State) (i : Nat) : List Nat :=
  (List.range (s.rf (.GAT_ADMIN_CFG_ADMIN_LEN i))).map (s.gateAdmin i)

/-- GAT_CMD CONFIG_CHANGE (R333, R334). -/
def State.configChange (s : State) (i : Nat) : State :=
  let len := s.rf (.GAT_ADMIN_CFG_ADMIN_LEN i)
  let cyc := s.rf (.GAT_ADMIN_CYCLE_CYCLE i)
  if s.on (.GAT_STATUS_PENDING i) then s.changeRefused i 1
  else if len < 1 || gateMax i < len || (s.adminEntries i).any (fun w => !gateEntryOk i w) then s.changeRefused i 2
  else if cyc < 1000 || 1000000000 < cyc then s.changeRefused i 3
  else if !s.on (.GAT_ADMIN_CFG_ENABLE i) then s.changeRefused i 4
  else
    let es := (s.adminEntries i).map (fun w => (w % 2 ^ 32, gateWord i (bitsAt w 32 8)))
    let ab := s.pair64 (Reg.GAT_ADMIN_BASE_LO i) (Reg.GAT_ADMIN_BASE_HI i)
    (s.setGatePend i (some ⟨⟨0, cyc, es, 0, false⟩, ab, s.now, false⟩)).wf (.GAT_STATUS_PENDING i) 1

/-- Fix or recompute the change time of a pending configuration (R333, R339). -/
def State.fixChange (s : State) (i : Nat) (p : GatePend) (now : Nat) : State :=
  let r := changeTime p.adminBase p.conf.cycle now
  let s := s.setGatePend i (some { p with conf := { p.conf with base := r.1 }, copied := true })
  let s := (s.wf (.GAT_CHANGE_LO_CHANGE_LO i) (r.1 % 2 ^ 32)).wf (.GAT_CHANGE_HI_CHANGE_HI i) (r.1 / 2 ^ 32 % 2 ^ 32)
  (s.wf (.GAT_N_N i) (satTo 32 r.2.1)).wf (.GAT_STATUS_BASE_PAST i) (b2n r.2.2)

/-- R333: the copy to the pending configuration completes. -/
def State.configCopyDone (s : State) (i : Nat) : State :=
  match s.gatePend i with
  | some p => if p.copied then s else s.fixChange i p p.accepted
  | none => s

/-- Record OperBase and OperCycle of list `i`. -/
def State.showOper (s : State) (i : Nat) (c : GateConf) : State :=
  let s := (s.wf (.GAT_OPER_BASE_LO_BASE_LO i) (c.base % 2 ^ 32)).wf (.GAT_OPER_BASE_HI_BASE_HI i) (c.base / 2 ^ 32 % 2 ^ 32)
  (s.wf (.GAT_OPER_CYCLE_CYCLE i) c.cycle).wf (.GAT_STATUS_OPER_LEN i) c.entries.length

/-- R333: the change time has come. -/
def State.configChangeTime (s : State) (i : Nat) : State :=
  match s.gatePend i with
  | some p =>
    if p.copied && atOrAfter 64 s.now p.conf.base then
      let s := ((s.keepPrev i false).setGateOper i (some p.conf)).setGatePend i none
      ((s.wf (.GAT_STATUS_PENDING i) 0).wf .GAT_INT_CHANGE 1).showOper i p.conf |>.gateShow i
    else s
  | none => s

/-- R334: CANCEL discards a pending change. -/
def State.gateCancel (s : State) (i : Nat) : State :=
  (s.setGatePend i none).wf (.GAT_STATUS_PENDING i) 0

/-- R332: an entry's start time arrives. An uncorrectable entry disables the list (R349). -/
def State.gateEntryStart (s : State) (i : Nat) : State :=
  match s.gateOper i with
  | none => s
  | some c =>
    if !atOrAfter 64 s.now c.base then s
    else
      let r := s.gateEcc i (c.at s.now).1
      if r.1 then r.2 else r.2.gateShow i

/-- The lists of R330. -/
def gateLists : List Nat := List.range 24 ++ (List.range 64).map (fun g => 32 + g)

/-- R339: list `i` restarts against the new time; `old` is the working clock before the step. At a commanded step the
states held are those of entry 0. -/
def State.listRestart (s : State) (old : Nat) (cmd : Bool) (i : Nat) : State :=
  let s := match s.gateOper i with
    | none => s
    | some c =>
      let held := if cmd then (c.entries.headD (0, gatesOpen)).2 else (c.at old).2.1
      let r := changeTime c.base c.cycle s.now
      let c2 := { c with base := r.1, hold := held, restarted := true }
      let s := (s.keepPrev i true).setGateOper i (some c2)
      ((s.wf (.GAT_STATUS_RESTARTED i) 1).showOper i c2).gateShow i
  match s.gatePend i with
  | some p => if p.copied then s.fixChange i p s.now else s.setGatePend i (some { p with accepted := s.now })
  | none => s

/-- R339: every running list restarts at a step of the working clock. -/
def State.listsRestart (s : State) (old : Nat) (cmd : Bool) : State :=
  s.each (gateLists.filter (fun i => s.on (.GAT_ADMIN_CFG_ENABLE i))) (fun s i => s.listRestart old cmd i)

/-- R323: the running lists' configurations. -/
def State.runningConfs (s : State) : List GateConf :=
  (gateLists.filter (fun i => s.on (.GAT_ADMIN_CFG_ENABLE i))).filterMap s.gateOper

/-- First start of a cycle of `c` at or after `t`. -/
def GateConf.cycleFrom (c : GateConf) (t : Nat) : Nat :=
  if atOrAfter 64 c.base t then t + subW 64 c.base t
  else
    let pos := subW 64 t c.base
    t + ((pos + max c.cycle 1 - 1) / max c.cycle 1 * max c.cycle 1 - pos)

/-- R323: the earliest time from `t` to `lim` at which every configuration begins a cycle: the starts of the
list with the longest cycle are tried in turn. -/
def boundaryFrom (cs : List GateConf) (lead : GateConf) : Nat → Nat → Nat → Option Nat
  | 0, _, _ => none
  | fuel + 1, t, lim =>
    let b := lead.cycleFrom t
    if b > lim then none
    else if cs.all (fun c => c.cycleFrom b = b) then some b
    else boundaryFrom cs lead fuel (b + 1) lim

/-- R323: the step boundary Tb, or none within 1 s. -/
def State.stepBoundaryAt (s : State) : Option Nat :=
  let t := s.now + 4000
  match s.runningConfs with
  | [] => some t
  | c :: cs =>
    let lead := cs.foldl (fun a b => if b.cycle > a.cycle then b else a) c
    boundaryFrom (c :: cs) lead 1000001 t (s.now + 1000000000)

end Sys2Proof.Machine
end

