-- ==== Sys2Proof/Machine/Egress.lean ====
section
/-!
DEFINITION. What a copy looks like as it leaves (R181, R262, R278, R300, R301, R327, R360): the tag and R-TAG edits, and
the SecTAG and ICV of a secured port. The CPH tables as their readers see them (R373).
-/
namespace Sys2Proof.Machine

/-- Two bytes and one byte of a frame at offset `o`; beyond its end they read 0. -/
def be16 (b : List Byte) (o : Nat) : Nat := ofBytesBE ((b.drop o).take 2 ++ List.replicate (2 - ((b.drop o).take 2).length) 0)
def byteAt (b : List Byte) (o : Nat) : Nat := match b[o]? with | some x => x.toNat | none => 0

/-! The edits of a copy (R262, R300, R301). -/

/-- A VLAN TPID stands at offset `o`. -/
def vlanAt (b : List Byte) (o : Nat) : Bool := be16 b o = 0x8100 || be16 b o = 0x88A8

/-- Offset from `o` on of an R-TAG that follows VLAN tags only; the fuel bounds the tags passed. -/
def rtagFrom (b : List Byte) : Nat → Nat → Option Nat
  | 0, _ => none
  | fuel + 1, o => if be16 b o = 0xF1C1 then some o else if vlanAt b o then rtagFrom b fuel (o + 4) else none

/-- Offset of an R-TAG in what follows the addresses and the outer tag. -/
def rtagAt (b : List Byte) : Option Nat := rtagFrom b (b.length / 4 + 1) 0

/-- What follows the addresses and the outer tag of a frame. -/
def afterTag (b : List Byte) : List Byte := b.drop (if vlanAt b 12 then 16 else 12)

/-- The frame as its pass `n` left it (R23, R195). -/
def Frame.at (f : Frame) (n : Nat) : Frame :=
  match f.past[n]? with
  | some x => { f with bytes := x.bytes, passes := x.passes, key := x.key, verdict := x.verdict, epoch := x.epoch }
  | none => f

/-- The frame of a copy, as the copy's pass left it. -/
def State.copyFrame (s : State) (c : Copy) : Option Frame := (s.frame c.fid).map fun f => f.at c.pass

/-- The bytes of a copy as they leave, before encryption. Mirror copies and copies to ports 27 and 29 are not edited. -/
def Copy.bytesOf (c : Copy) (f : Frame) : List Byte :=
  let b := if c.trunc = 0 then f.bytes else f.bytes.take c.trunc
  if c.mirror || c.port = 27 || 29 ≤ c.port then b
  else
    let rest := afterTag b
    let tci := c.pcp * 8192 + b2n c.dei * 4096 + c.vid
    let tag := if c.untag then [] else [0x81, 0x00] ++ bytesBE 2 tci
    let rest := match c.rtag, rtagAt rest with
      | some q, some o => putBytes rest (o + 4) (bytesBE 2 q)
      | some q, none => [0xF1, 0xC1, 0, 0] ++ bytesBE 2 q ++ rest
      | none, some o => if c.rtagStrip then rest.take o ++ rest.drop (o + 6) else rest
      | none, none => rest
    b.take 12 ++ tag ++ rest

/-- R301: the copy gains an R-TAG as it leaves. -/
def Copy.inserts (c : Copy) (f : Frame) : Bool := c.rtag.isSome && (rtagAt (afterTag f.bytes)).isNone

/-- The bytes of a copy as it leaves, after a one-step edit if any. -/
def State.leaving (s : State) (c : Copy) : List Byte :=
  match c.edited, s.copyFrame c with
  | some b, _ => b
  | none, some f => c.bytesOf f
  | none, none => []

/-! CPH tables 0 to 3 (R373). -/

/-- Words and indices of CPH table `t`. -/
def cphWords : Nat → Nat
  | 0 => 4
  | 1 => 4
  | 2 => 8
  | 3 => 4
  | 4 => 12
  | 5 => 12
  | _ => 0
def cphIndices : Nat → Nat
  | 0 => 24
  | 1 => 256
  | 2 => 1024
  | 3 => 512
  | 4 => 1024
  | 5 => 24
  | _ => 0

/-- An entry nothing has written. -/
def cphZero (k : Nat) : List Byte := List.replicate (4 * cphWords (k / 1024)) 0

def State.cphAt (s : State) (t i : Nat) : List Byte := spGet cphZero s.cph.tab (t * 1024 + i)

/-- SecY flags of port `n` (R373 table 0) and its suite. -/
def State.secyFlag (s : State) (n bit : Nat) : Bool := n < 24 && bitAt (le (s.cphAt 0 n) 0 1) bit
def State.txSec (s : State) (n : Nat) : Bool := s.secyFlag n 7
def State.rxSec (s : State) (n : Nat) : Bool := s.secyFlag n 6

/-! Protection (R278, R360). -/

/-- Bytes that the SecY of port `e` adds to a protected copy. -/
def State.secOverhead (s : State) (e : Nat) : Nat := if s.secyFlag e 4 then 32 else 24

/-- R360: the copy is protected by the SecY of its port. -/
def State.protects (s : State) (c : Copy) : Bool :=
  c.port < 24 && s.txSec c.port &&
  (match s.frame c.fid with | some f => !(f.inPort = 24 && be16 f.bytes 12 = 0x888E) | none => true)

/-- AES-GCM (R357, R360, R371): bytes encrypted or decrypted under a key and an IV, and the 16-byte tag. -/
def gcmCrypt (key : Nat) (iv b : List Byte) : List Byte := b.zipIdx.map (fun x => x.1 ^^^ Config.gcmPad key iv x.2)
def gcmTag (key : Nat) (iv aad ct : List Byte) : List Byte := (List.range 16).map (Config.gcmTag key iv aad ct)

/-- R360: the frame that leaves for plaintext `b`: the SecTAG, the octets before the offset in the clear, the ciphertext and
the ICV over all that goes before it. -/
def SecJob.protect (j : SecJob) (b : List Byte) : List Byte :=
  let data := b.drop 12
  let head := b.take 12 ++ [0x88, 0xE5, BitVec.ofNat 8 j.tci, BitVec.ofNat 8 (if data.length < 48 then data.length else 0)] ++
    bytesBE 4 (j.pn % 2 ^ 32) ++ j.sci
  let clear := if bitAt j.tci 2 then j.off else data.length
  let ct := gcmCrypt j.key j.iv (data.drop clear)
  head ++ data.take clear ++ ct ++ gcmTag j.key j.iv (head ++ data.take clear) ct

/-- A protected frame whose ICV does not verify: each bit of the ICV is inverted (R278). -/
def failIcv (b : List Byte) : List Byte := b.take (b.length - 16) ++ (b.drop (b.length - 16)).map (fun x => ~~~x)

/-- R278: the bytes of a begun copy as they have left when it ends at once. -/
def State.stompBytes (s : State) (c : Copy) : List Byte :=
  match c.macsec with
  | some j => failIcv (j.protect (s.leaving c))
  | none => s.leaving c

end Sys2Proof.Machine
end

