-- ==== Sys2Proof/Machine/Cellar.lean ====
section
/-!
DEFINITION. The Cellar (R256 to R286): cells, accounts and descriptors, admission, back-pressure, queues,
release and flush, FDB learning, ageing, walks and commands, mirroring.
-/
namespace Sys2Proof.Machine

/-- Update the Cellar's own state. -/
def State.cellar (s : State) (g : Cel → Cel) : State := { s with cel := g s.cel }

/-- MAC counter `i` of port `n` (R175). -/
def Ctr.mac (n i : Nat) : Nat := Reg.MAC_PORT_CFG n + 0x800 + 8 * i

/-- Port `n` of 0-23 is in UP (R160). -/
def State.portUp (s : State) (n : Nat) : Bool := s.rf (.MAC_LINK_STATUS_STATE n) = 4

/-- Block `b` is in block reset (R30). -/
def State.blockOff (s : State) (b : Nat) : Bool := bitAt s.blockRst b

/-- The block to which a copy is addressed is in block reset: its boundary drops the copy (R30). Port 25 leads to the
receive rings of BRG, and with a Hatch named to HAT. -/
def State.copyDown (s : State) (c : Copy) : Bool :=
  match c.port with
  | 25 => if c.hatch.isSome then s.blockOff 19 else s.blockOff 20
  | 26 => s.blockOff 18
  | 27 => s.blockOff 21
  | 29 => s.blockOff 20
  | _ => false

/-- Every block behind internal port `e` is in block reset (R30). -/
def State.portDown (s : State) (e : Nat) : Bool :=
  match e with
  | 25 => s.blockOff 19 && s.blockOff 20
  | 26 => s.blockOff 18
  | 27 => s.blockOff 21
  | 29 => s.blockOff 20
  | _ => false

/-- R280: egress of port `e` is enabled. An internal port has no link and is enabled unless its block is in reset. -/
def State.egressOn (s : State) (e : Nat) : Bool :=
  if 24 ≤ e then !s.portDown e else (s.portUp e && spGet (fun _ => false) s.cel.holdDone e && !spGet (fun _ => false) s.cel.flushing e)

/-- EGRESS of SWC_PORT_STATUS: 0 enabled, 1 flushing, 2 hold-off, 3 link not up. -/
def State.egressCode (s : State) (e : Nat) : Nat :=
  if s.egressOn e then 0 else if spGet (fun _ => false) s.cel.flushing e then 1
  else if s.portUp e then 2 else 3

/-- Class `c` is protected on port `n` (PROT). -/
def State.isProt (s : State) (n c : Nat) : Bool := n < 29 && bitAt (s.rf (.SWC_PORT_ADM_PROT n)) c

/-- R261: the arrival class of PCP `p` on port `n`. -/
def State.pcpClass (s : State) (n p : Nat) : Nat := bitsAt (s.rf (.SWC_PCP_MAP_MAP n)) (3 * p) 3

/-- R260: VID and PCP that stage 9 gives a frame of port `n` from its head; VID 4095 stays. -/
def State.vlanOf (s : State) (n : Nat) (b : List Byte) : Nat × Nat :=
  if vlanAt b 12 then
    let t := be16 b 14
    if t % 4096 = 0 then (s.rf (.SWC_PORT_CFG_PVID n), t / 8192) else (t % 4096, t / 8192)
  else (s.rf (.SWC_PORT_CFG_PVID n), s.rf (.SWC_PORT_CFG_DEF_PCP n))

/-! Accounts (R269, R270). -/

/-- Cells in use of one account of port `n` and class `c`. -/
def State.acctUse (s : State) (a : Acct) (n c : Nat) : Nat :=
  match a with
  | .min => spGet (fun _ => 0) s.cel.useMin n
  | .prot => spGet (fun _ => 0) s.cel.useProt n
  | .shared => spGet (fun _ => 0) s.cel.useShared (n * 8 + c)
  | .headroom => spGet (fun _ => 0) s.cel.useHead (n * 8 + c)
  | .none => 0

/-- Set the use of one account. -/
def State.setAcct (s : State) (a : Acct) (n c v : Nat) : State :=
  s.cellar fun x => match a with
    | .min => { x with useMin := spSet (fun _ => 0) x.useMin n v }
    | .prot => { x with useProt := spSet (fun _ => 0) x.useProt n v }
    | .shared => { x with useShared := spSet (fun _ => 0) x.useShared (n * 8 + c) v }
    | .headroom => { x with useHead := spSet (fun _ => 0) x.useHead (n * 8 + c) v }
    | .none => x

/-- Shared and headroom cells of port `n` in all classes. -/
def State.portShared (s : State) (n : Nat) : Nat := ((List.range 8).map (s.acctUse .shared n)).sum
def State.portHead (s : State) (n : Nat) : Nat := ((List.range 8).map (s.acctUse .headroom n)).sum

/-- Cells reserved for port `n` (R269). -/
def State.portReserve (s : State) (n : Nat) : Nat :=
  s.rf (.SWC_PORT_ADM_MIN n) + s.rf (.SWC_PORT_ADM_HEADROOM n) + s.rf (.SWC_PORT_SHARE_PROT_RSV n)

/-- R269: SHARED_SIZE. -/
def State.sharedSize (s : State) : Nat := 49152 - ((List.range 29).map s.portReserve).sum

/-- Free shared cells. -/
def State.sharedFree (s : State) : Nat := s.sharedSize - (s.cel.useShared.map (fun e => e.2)).sum

/-- The shared pool is open to port `n` (R270). -/
def State.sharedOpen (s : State) (n : Nat) : Bool :=
  0 < s.sharedFree && s.portShared n < s.rf (.SWC_PORT_SHARE_SHARE_MAX n)

/-- R270: the account an arriving cell of port `n`, arrival class `c`, is charged to. -/
def State.chargeTo (s : State) (n c : Nat) : Option Acct :=
  if s.isProt n c then
    if s.acctUse .prot n c < s.rf (.SWC_PORT_SHARE_PROT_RSV n) then some .prot
    else if s.sharedOpen n then some .shared else none
  else if s.acctUse .min n c < s.rf (.SWC_PORT_ADM_MIN n) then some .min
  else if s.sharedOpen n then some .shared
  else if s.portHead n < s.rf (.SWC_PORT_ADM_HEADROOM n) then some .headroom else none

/-- R257: the bank of the next cell, in rotation from the bank after the last. -/
def State.nextBank (s : State) : Option Nat :=
  ((List.range 16).map (fun i => (s.cel.bankNext + i) % 16)).find? (fun b =>
    s.cel.bankOut ≠ some b && 0 < (s.cel.bankFree[b]?).getD 0)

/-- Take a cell of bank `b`. -/
def State.takeBank (s : State) (b : Nat) : State :=
  s.cellar fun x => { x with bankFree := updAt x.bankFree b (fun n => n - 1), bankNext := (b + 1) % 16 }

/-- Return a cell to its bank. -/
def State.giveBank (s : State) (b : Nat) : State :=
  s.cellar fun x => { x with bankFree := updAt x.bankFree b (fun n => n + 1) }

/-! Back-pressure (R274, R275). -/

/-- Descriptors that copies other than mirror copies leave free: a mirror copy never causes back-pressure (R283). -/
def State.descLeft (s : State) : Nat := s.cel.descFree + s.cel.mirrorHeld

/-- R274: the global causes hold. -/
def State.globalXoff (s : State) : Bool := s.sharedFree ≤ s.rf .SWC_POOL_GXOFF || s.descLeft ≤ 4096

/-- R274: a cause of XOFF holds for class `c` of port `n`. -/
def State.xoffCause (s : State) (n c : Nat) : Bool :=
  let use := if s.rf (.SWC_PORT_FC_MODE n) = 2 then s.acctUse .shared n c else s.portShared n
  use ≥ s.rf (.SWC_PORT_FC_XOFF n) || 0 < s.acctUse .headroom n c || s.globalXoff

/-- R274: class `c` of port `n` may leave XOFF. -/
def State.xonOk (s : State) (n c : Nat) : Bool :=
  let use := if s.rf (.SWC_PORT_FC_MODE n) = 2 then s.acctUse .shared n c else s.portShared n
  !s.xoffCause n c && use ≤ s.rf (.SWC_PORT_FC_XON n) &&
  s.sharedFree ≥ s.rf .SWC_POOL_GXOFF + 256 && 4096 < s.descLeft

/-- R274: whether class `c` of port `n` is in XOFF, given whether it was. -/
def State.xoffNext (s : State) (n c : Nat) (was : Bool) : Bool :=
  s.rf (.SWC_PORT_FC_MODE n) ≠ 0 && !s.isProt n c && (s.xoffCause n c || (was && !s.xonOk n c))

/-- R274, R275: bring the XOFF state of port `n` up to date; a change makes a PFC or PAUSE frame due. -/
def State.xoffPort (s : State) (n : Nat) : State :=
  let old := s.rf (.SWC_PORT_STATUS_XOFF_OUT n)
  let new := ((List.range 8).map (fun c => b2n (s.xoffNext n c (bitAt old c)) * 2 ^ c)).sum
  if new = old then s
  else
    let left := ((spGet (fun _ => 0) s.cel.xoffLeft n) ||| old) &&& (255 ^^^ new)
    (s.wf (.SWC_PORT_STATUS_XOFF_OUT n) new).cellar fun x =>
      { x with xoffLeft := spSet (fun _ => 0) x.xoffLeft n left, pfcDue := spSet (fun _ => false) x.pfcDue n true }

/-- Bring every port's XOFF state up to date. -/
def State.xoffAll (s : State) : State := s.each (List.range 24) State.xoffPort

/-- R274: the sender of port `n`, 24 to 28, is held. -/
def State.held (s : State) (n : Nat) : Bool :=
  24 ≤ n && n ≤ 28 && s.acctUse .min n 0 ≥ s.rf (.SWC_PORT_ADM_MIN n) &&
  (s.portShared n ≥ s.rf (.SWC_PORT_SHARE_SHARE_MAX n) || s.globalXoff)

/-- R270, R274: a frame of `k` cells in class `c` from port `n`, 24 to 28, finds a descriptor and all its cells. -/
def State.fits (s : State) (n c k : Nat) : Bool :=
  let shared := min s.sharedFree (s.rf (.SWC_PORT_SHARE_SHARE_MAX n) - s.portShared n)
  let own := if s.isProt n c then s.rf (.SWC_PORT_SHARE_PROT_RSV n) - s.acctUse .prot n c
    else (s.rf (.SWC_PORT_ADM_MIN n) - s.acctUse .min n c) + (s.rf (.SWC_PORT_ADM_HEADROOM n) - s.portHead n)
  let free := ((List.range 16).map (fun b => if s.cel.bankOut = some b then 0 else (s.cel.bankFree[b]?).getD 0)).sum
  0 < s.cel.descFree && (1024 < s.cel.descFree || s.isProt n c) && k ≤ own + shared && k ≤ free

/-! Descriptors and the life of a frame (R258). -/

/-- Take a descriptor; source 0x147 reports when 1,024 are left (R272). -/
def State.takeDesc (s : State) : State :=
  let s := s.cellar fun x => { x with descFree := x.descFree - 1 }
  if s.cel.descFree = 1024 then s.notify 0x147 0x07 else s

/-- A mirror copy takes its descriptor, which back-pressure does not see (R283). -/
def State.takeMirror (s : State) : State := (s.cellar fun x => { x with mirrorHeld := x.mirrorHeld + 1 }).takeDesc

/-- Release a descriptor; the global cause of XOFF may end (R274). -/
def State.giveDesc (s : State) : State :=
  let s := s.cellar fun x => { x with descFree := x.descFree + 1 }
  if s.descLeft = 4097 then s.xoffAll else s

/-- A mirror copy releases its descriptor (R283). -/
def State.giveMirror (s : State) : State := (s.cellar fun x => { x with mirrorHeld := x.mirrorHeld - 1 }).giveDesc

/-- R258: free a frame's cells and return each to its account. -/
def State.freeCells (s : State) (f : Frame) : State :=
  s.each f.cells (fun s r =>
    (s.giveBank r.bank).setAcct r.acct f.inPort r.cls (s.acctUse r.acct f.inPort r.cls - 1))

/-- A learning request of the frame may still send a copy of it. -/
def State.learnHolds (s : State) (fid : Nat) : Bool := s.cel.learn.any (fun r => r.fid = fid && r.copy)

/-- A Rake's packet window shows frame `fid` until its key record is written (R181, R191). -/
def State.rakeHolds (s : State) (fid : Nat) : Bool := s.rak.rakes.any fun x => x.2.any fun g => g.fid = fid

/-- A frame that no descriptor holds gives its cells back (R258) and lets go of its epoch (R240); it is
forgotten once it has ended. -/
def State.settle (s : State) (fid : Nat) : State :=
  match s.frame fid with
  | none => s
  | some f =>
    if 0 < f.refs || f.ownDesc || s.learnHolds fid then s
    else
      let s := (s.dropRef fid).freeCells f
      let s := if f.ended && !s.rakeHolds fid then s.setFrame fid none
               else s.modFrame fid (fun f => { f with cells := [], dropped := true, stage := .queued })
      s.xoffAll

/-- A copy releases its descriptor. One that was to re-enter from port 28 lets go of its frame's epoch (R240). -/
def State.releaseCopy (s : State) (c : Copy) : State :=
  let s := if c.port = 28 && !c.mirror then s.dropRef c.fid else s
  ((if c.mirror then s.giveMirror else s.giveDesc).modFrame c.fid (fun f => { f with refs := f.refs - 1 })).settle c.fid

/-- The frame releases the descriptor it has held since stage 1. -/
def State.releaseOwn (s : State) (fid : Nat) : State :=
  match s.frame fid with
  | some f => if f.ownDesc then ((s.giveDesc).setFrame fid (some { f with ownDesc := false })).settle fid else s
  | none => s

/-! Queues. -/

/-- Copies waiting in queue `q`, head first. -/
def State.queue (s : State) (q : Nat) : List Copy := spGet (fun _ => []) s.cel.queues q

/-- Replace a queue. -/
def State.setQueue (s : State) (q : Nat) (l : List Copy) : State :=
  s.cellar fun x => { x with queues := spSet (fun _ => []) x.queues q l }

/-- Bytes of a frame so far, without FCS. -/
def State.frameLen (s : State) (fid : Nat) : Nat := match s.frame fid with | some f => f.bytes.length | none => 0

/-- Bytes that a copy reads of its frame (R282: a mirror copy may be cut). -/
def State.copyLen (s : State) (c : Copy) : Nat :=
  if c.trunc = 0 then s.frameLen c.fid else min c.trunc (s.frameLen c.fid)

/-- Cells of a copy. -/
def State.copyCells (s : State) (c : Copy) : Nat := (s.copyLen c + 255) / 256

/-- CELLS of queue `q`. -/
def State.queueCells (s : State) (q : Nat) : Nat := ((s.queue q).map s.copyCells).sum

/-- Copy in transmission on port `e`, and the preempted one whose fragments wait. -/
def State.onWire (s : State) (e : Nat) : Option Copy := spGet (fun _ => none) s.cel.wire e
def State.preemptedOn (s : State) (e : Nat) : Option Copy := spGet (fun _ => none) s.cel.preempted e
def State.setWire (s : State) (e : Nat) (c : Option Copy) : State :=
  s.cellar fun x => { x with wire := spSet (fun _ => none) x.wire e c }
def State.setPreempted (s : State) (e : Nat) (c : Option Copy) : State :=
  s.cellar fun x => { x with preempted := spSet (fun _ => none) x.preempted e c }

/-- The copy of port `e` and preemption part `p` whose egress job has started, and whose transmission has not begun. -/
def State.stagedOn (s : State) (e p : Nat) : Option Copy := spGet (fun _ => none) s.cel.staged (e * 2 + p)
def State.setStaged (s : State) (e p : Nat) (c : Option Copy) : State :=
  s.cellar fun x => { x with staged := spSet (fun _ => none) x.staged (e * 2 + p) c }

/-- The staged copies of port `e` for which `p` holds go, each after `g`. -/
def State.unstage (s : State) (e : Nat) (p : Copy → Bool) (g : State → State) : State :=
  s.each [0, 1] (fun s k =>
    match s.stagedOn e k with
    | some c => if p c then (g (s.setStaged e k none)).releaseCopy c else s
    | none => s)

/-- R278: a begun copy ends at once with the stomp FCS; on a secured port its ICV does not verify. -/
def State.stomp (s : State) (c : Copy) : State :=
  let s := s.emit (.frame c.port (s.stompBytes c) true)
  let s := if c.port < 24 then s.cinc (Ctr.mac c.port 22) else s
  (s.cinc (Ctr.port c.port 5)).releaseCopy c

/-- R278: every copy of a frame that has turned bad is removed, or stomped where it has begun. -/
def State.removeCopies (s : State) (fid : Nat) : State :=
  let s := s.cellar fun x => { x with learn := x.learn.filter (fun r => r.fid ≠ fid) }
  let gone := s.cel.queues.flatMap (fun e => e.2.filter (fun c => c.fid = fid))
  let s := s.cellar fun x =>
    { x with queues := (x.queues.map (fun e => (e.1, e.2.filter (fun c => c.fid ≠ fid)))).filter (fun e => e.2 ≠ []) }
  let s := s.each gone State.releaseCopy
  s.each (List.range 30) (fun s e =>
    let s := s.unstage e (fun c => c.fid = fid) id
    let s := match s.onWire e with
      | some c => if c.fid = fid then (if e < 24 then (s.setWire e none).stomp c else (s.setWire e none).releaseCopy c) else s
      | none => s
    match s.preemptedOn e with
    | some c => if c.fid = fid then (s.setPreempted e none).stomp c else s
    | none => s)

/-- R270, R278: a frame is dropped: its copies go, its descriptor and its cells are released, it lets go of its epoch
(R240), and the rest of it is discarded as it arrives. -/
def State.killFrame (s : State) (fid : Nat) : State :=
  match s.frame fid with
  | none => s
  | some f =>
    let s := s.setFrame fid (some { f with dropped := true, stage := .queued })
    ((s.removeCopies fid).dropRef fid).releaseOwn fid |>.settle fid

/-- R270, R272: a drop at ingress for want of cells or descriptors. -/
def State.ingressDrop (s : State) (n c : Nat) : State :=
  if s.isProt n c then ((s.cinc (Ctr.port n 1)).wf .SWC_INT_RESERVE_DROP 1).notify 0x144 0x07
  else ((s.cinc (Ctr.port n 0)).wf .SWC_INT_HEADROOM_DROP 1).rateEvent 0x143 (s.rf .SWC_RATE_CFG_HDROP_THR)

/-- The first cell of bank `b`, from place `k` on, that is not in `used`; the fuel bounds the search. -/
def freeCell (used : List Nat) (b k : Nat) : Nat → Nat
  | 0 => b * 3072 + k % 3072
  | fuel + 1 => if used.contains (b * 3072 + k % 3072) then freeCell used b (k + 1) fuel else b * 3072 + k % 3072

/-- Indices of the cells that frames hold. -/
def State.usedCells (s : State) : List Nat :=
  s.frames.flatMap (fun e => match e.2 with | some f => f.cells.map (·.idx) | none => [])

/-- Charge one cell of frame `fid` (R257, R270); the frame is dropped when no source is open. No rule says which free cell
of the bank it takes. -/
def State.chargeCell (s : State) (fid : Nat) : State :=
  match s.frame fid with
  | none => s
  | some f =>
    match s.chargeTo f.inPort f.cls, s.nextBank with
    | some a, some b =>
      let s := (s.takeBank b).setAcct a f.inPort f.cls (s.acctUse a f.inPort f.cls + 1)
      let d := s.draw
      let i := freeCell s.usedCells b (Config.free d.1) s.usedCells.length
      (d.2.eccClear .cell i).setFrame fid (some { f with cells := f.cells ++ [⟨b, a, f.cls, i⟩] })
    | _, _ => (s.ingressDrop f.inPort f.cls).killFrame fid

/-- R259: a copy of frame `fid` is read whole. A correctable error is corrected and reported; an uncorrectable one is
reported with the cell index, and answers true. -/
def State.cellsRead (s : State) (l : List CellRef) : Bool × State :=
  match l with
  | [] => (false, s)
  | r :: l =>
    match s.eccAt .cell r.idx with
    | 0 => s.cellsRead l
    | 1 => ((s.eccClear .cell r.idx).notify 0x140 0x01).cellsRead l
    | _ => (true, s.report 0x140 0x02 r.idx)

/-- MAX_CELLS of SCH_QMAX takes a larger CELLS (R311). -/
def State.maxCells (s : State) (q : Nat) : State :=
  s.wf (.SCH_QMAX_MAX_CELLS q) (max (s.rf (.SCH_QMAX_MAX_CELLS q)) (satTo 16 (s.queueCells q)))

/-- Largest frame of an output port (R22, R158), with FCS. -/
def State.maxFrame (s : State) (e : Nat) : Nat := if e < 24 then s.rf (.MAC_PORT_CFG_MAX_FRAME e) else 10240

/-- The class in which a copy's ingress port and descriptor reserve are judged (R272). -/
def State.copyProt (s : State) (c : Copy) : Bool :=
  match s.frame c.fid with
  | some f => s.isProt f.inPort c.cls
  | none => false

/-- Why stage 10 drops a copy: the counter it is counted in. -/
def State.copyDrop (s : State) (c : Copy) (first : Bool) : Option Nat :=
  let q := c.port * 8 + c.cls
  let tooFull := s.on (.SWC_QUEUE_CFG_LOSSY q) && s.queueCells q + s.copyCells c > s.rf (.SWC_QUEUE_CFG_CAP q)
  let n := match s.frame c.fid with | some f => f.inPort | none => 0
  if c.mirror then
    if tooFull || s.cel.descFree ≤ 4096 || !s.egressOn c.port || s.copyDown c then some (Ctr.swc 6) else none
  else if !s.egressOn c.port || s.copyDown c then some (Ctr.port c.port 3)
  else if tooFull then some (Ctr.port c.port 2)
  else if !first && (s.cel.descFree = 0 || (s.cel.descFree ≤ 1024 && !s.copyProt c)) then
    some (Ctr.port n (if s.copyProt c then 1 else 0))
  else none

/-- The pass of its frame that a copy comes from: a learning copy is one of the first pass, whenever the learning unit takes
its request (R265). -/
def Copy.passOf (c : Copy) (f : Frame) : Nat := if c.reason = 4 then 0 else f.passes

/-- R271 to R283: stage 10 for one copy; the first copy takes over the frame's own descriptor, a mirror or learning copy
takes its own (R258). -/
def State.enqueueCopy (s : State) (c : Copy) : State :=
  match s.frame c.fid with
  | none => s
  | some f =>
    let first := f.ownDesc && !c.mirror && c.reason ≠ 4
    match s.copyDrop c first with
    | some k =>
      if k = Ctr.port f.inPort 0 || k = Ctr.port f.inPort 1 then s.ingressDrop f.inPort c.cls
      else s.cinc k
    | none =>
      let q := c.port * 8 + c.cls
      let s := s.setFrame c.fid (some { f with refs := f.refs + 1, ownDesc := f.ownDesc && !first })
      let s := if first then s else if c.mirror then s.takeMirror else s.takeDesc.xoffAll
      (s.setQueue q (s.queue q ++ [{ c with tEnq := s.cycles, pass := c.passOf f }])).maxCells q

/-- R271, R311: a frame that still arrives has gained cells. A waiting copy that no longer fits under CAP is dropped as at
stage 10, and MAX_CELLS takes the new CELLS. -/
def State.grown (s : State) (fid : Nat) : State :=
  s.each ((s.cel.queues.filter (fun e => e.2.any (fun c => c.fid = fid))).map (·.1)) (fun s q =>
    if s.on (.SWC_QUEUE_CFG_LOSSY q) && s.rf (.SWC_QUEUE_CFG_CAP q) < s.queueCells q then
      let l := s.queue q
      (s.setQueue q (l.filter (fun c => c.fid ≠ fid))).each (l.filter (fun c => c.fid = fid)) (fun s c =>
        (s.cinc (if c.mirror then Ctr.swc 6 else Ctr.port c.port 2)).releaseCopy c)
    else s.maxCells q)

/-- R279: flush the queues of port `e`, each copy counted in FLUSHED. -/
def State.flushQueues (s : State) (e : Nat) : State :=
  (s.unstage e (fun _ => true) (fun s => s.cinc (Ctr.port e 4))).each (List.range 8) (fun s c =>
    let l := s.queue (e * 8 + c)
    (s.setQueue (e * 8 + c) []).each l (fun s x => (s.cinc (Ctr.port e 4)).releaseCopy x))

/-! FDB walks, learning, ageing and commands (R263 to R268, R281). -/

/-- Whether a walk removes an entry it visits (R281). -/
def FdbWalk.takes (w : FdbWalk) (e : FdbEntry) : Bool :=
  w.all || (!e.static && !e.multi && e.dest % 32 = w.port)

/-- A walk visits the entries up to, not including, index `bound`; a damaged entry that it reads is invalid (R267). -/
def State.walkTo (s : State) (w : FdbWalk) (bound : Nat) : State :=
  let seen := s.cel.fdb.filter (fun x => w.pos ≤ x.1 && x.1 < bound)
  s.each seen (fun s x =>
    let r := s.fdbCheck x.1
    match r.2.fdbAt x.1 with
    | some e => if w.takes e then r.2.fdbPut x.1 none else r.2
    | none => r.2)

/-- R281: every walk has visited one entry per cycle from its beginning to core cycle `t`. -/
def State.walksTo (s : State) (t : Nat) : State :=
  let s := s.each s.cel.walks (fun s w => s.walkTo w (min 16384 (t - w.start)))
  s.cellar fun x => { x with walks := x.walks.map (fun w => { w with pos := max w.pos (min 16384 (t - w.start)) }) }

/-- R281: the walks have come to the present cycle. -/
def State.walksUp (s : State) : State := s.walksTo s.cycles

/-- R267: a walk visits the entry at index `i` in the present cycle. -/
def State.walksNow (s : State) (i : Nat) : Bool := s.cel.walks.any (fun w => w.start + i + 1 = s.cycles)

/-- A walk begins. -/
def State.walkStart (s : State) (port : Nat) (all cmd : Bool) : State :=
  s.cellar fun x => { x with walks := x.walks ++ [⟨port, all, cmd, s.cycles, 0⟩] }

/-- The lowest free way for an address and VID (R265). -/
def State.fdbFree (s : State) (mac vid : Nat) : Option Nat :=
  ((List.range 4).map (s.fdbIndex mac vid)).find? (fun i => (s.fdbAt i).isNone)

/-- R265: the learning unit applies a request to the FDB. A request for the entry that a walk visits in the same cycle is
discarded (R267). -/
def State.learnApply (s : State) (r : LearnReq) : State :=
  let before := s.walksTo (s.cycles - 1)
  let at_ := match before.fdbFind r.mac r.vid with | some i => some i | none => before.fdbFree r.mac r.vid
  let hit := at_.any s.walksNow
  let s := s.walksUp
  if hit then s
  else
  match s.fdbLookup r.mac r.vid with
  | (some e, s) =>
    if e.static || e.locked then s
    else
      let s := if e.dest = r.port then s else s.cinc (Ctr.swc 1)
      match s.fdbFind r.mac r.vid with
      | some i => s.fdbPut i (some { e with dest := r.port, age := 0 })
      | none => s
  | (none, s) =>
    match s.fdbFree r.mac r.vid with
    | some i => (s.fdbPut i (some ⟨r.mac, r.vid, r.port, 0x80, 0⟩)).cinc (Ctr.swc 0)
    | none => ((s.cinc (Ctr.swc 2)).wf .SWC_INT_LEARN_FULL 1).rateEvent 0x145 (s.rf .SWC_RATE_CFG_LEARN_THR)

/-- R265: at least 1 ms has passed since the last learning copy of an address and VID. -/
def State.learnCopyOk (s : State) (mac vid : Nat) : Bool :=
  s.cel.learnCopyAt.all (fun x => !(x.1 = mac && x.2.1 = vid && s.cycles < x.2.2 + 1000000))

/-- A copy of frame `fid` for port `e` in class `c` that no egress edit changes, with `vid` as stage 9 fixed it. -/
def Copy.plain (fid e c vid reason : Nat) : Copy :=
  ⟨fid, e, c, vid, 0, false, false, false, 0, reason, 0, none, false, false, false, none, none, 0, none, 0, false⟩

/-- The frame of a learning request has ended, so the learning unit may take it (R265). -/
def State.learnReady (s : State) (r : LearnReq) : Bool := match s.frame r.fid with | some f => f.ended | none => true

/-- R267: a learning request that would refresh the entry `e` is due. -/
def State.refreshDue (s : State) (e : FdbEntry) : Bool :=
  !e.locked && s.cel.learn.any (fun r => r.learn && r.mac = e.mac && r.vid = e.vid && s.learnReady r)

/-- R266: one ageing scan; a damaged entry that it reads is invalid, and a learning refresh goes before a removal
(R267). -/
def State.fdbScan (s : State) : State :=
  if !s.on .SWC_AGE_CFG_EN then s
  else
    let s := s.walksUp
    s.each s.cel.fdb (fun s x =>
      let r := s.fdbCheck x.1
      let s := r.2
      match s.fdbAt x.1 with
      | some e =>
        if e.static then s
        else if e.age + 1 > s.rf .SWC_AGE_CFG_LIMIT then
          (if s.refreshDue e then s else (s.fdbPut x.1 none).cinc (Ctr.swc 3))
        else s.fdbPut x.1 (some { e with age := e.age + 1 })
      | none => s)

/-- The 16 bytes of an entry (R263). -/
def FdbEntry.bytes (e : FdbEntry) : List Byte :=
  bytesBE 6 e.mac ++ bytesLE 2 e.vid ++ bytesLE 4 e.dest ++ bytesLE 1 e.flags ++ bytesLE 1 e.age ++ [0, 0]

/-- The entry that 16 bytes describe; reserved bits are 0. -/
def FdbEntry.ofBytes (b : List Byte) : FdbEntry :=
  let d := ofBytesLE ((b.drop 8).take 4)
  ⟨ofBytesBE (b.take 6), ofBytesLE ((b.drop 6).take 2) % 4096, if bitAt d 31 then 2 ^ 31 + d % 2 ^ 30 else d % 32,
   ofBytesLE ((b.drop 12).take 1) / 16 * 16, ofBytesLE ((b.drop 13).take 1)⟩

/-- R268: insert an entry with VALID = 1. Answers RESULT (0 done, 2 full, 3 updated) and the index. -/
def State.fdbInsertEntry (s : State) (e : FdbEntry) : Nat × Nat × State :=
  let e := { e with flags := 128 + e.flags % 128 }
  let r := match s.fdbFind e.mac e.vid with | some i => ((s.fdbCheck i).1, i, (s.fdbCheck i).2) | none => (false, 0, s)
  let s := r.2.2
  if r.1 then (3, r.2.1, s.fdbPut r.2.1 (some e))
  else
    match s.fdbFree e.mac e.vid with
    | some i => (0, i, s.fdbPut i (some e))
    | none => (2, s.rf .SWC_FDB_STATUS_INDEX, s.refuse 0x146 0x08)

/-- A command of SWC_FDB_CMD completes. -/
def State.fdbDone (s : State) (result index : Nat) : State :=
  (((s.wf .SWC_FDB_STATUS_BUSY 0).wf .SWC_FDB_STATUS_RESULT result).wf .SWC_FDB_STATUS_INDEX index).wf .SWC_INT_FDB_CMD_DONE 1

/-- The entry in SWC_FDB_DATA, and its loading. -/
def State.fdbData (s : State) : FdbEntry := FdbEntry.ofBytes (s.regBytes (Reg.SWC_FDB_DATA 0) 4)
def State.setFdbData (s : State) (e : FdbEntry) : State := s.setRegBytes (Reg.SWC_FDB_DATA 0) 4 e.bytes

/-- The entry at index `i` goes to SWC_FDB_DATA, or is not found. -/
def State.fdbShow (s : State) (i : Nat) : State :=
  let r := s.fdbCheck i
  match r.1, r.2.fdbAt i with
  | true, some e => (r.2.setFdbData e).fdbDone 0 i
  | _, _ => r.2.fdbDone 1 i

/-- R268: an operation of SWC_FDB_CMD, when no link-down walk delays it. -/
def State.fdbRun (s : State) (op port : Nat) (all : Bool) : State :=
  let s := s.walksUp
  let d := s.fdbData
  let i := s.rf .SWC_FDB_STATUS_INDEX
  match op with
  | 1 => match s.fdbFind d.mac d.vid with
    | some j => s.fdbShow j
    | none => s.fdbDone 1 i
  | 2 => s.fdbShow i
  | 3 => match s.fdbInsertEntry d with
    | (r, j, s) => s.fdbDone r j
  | 4 => match s.fdbFind d.mac d.vid with
    | some j =>
      let r := s.fdbCheck j
      if r.1 then (r.2.fdbPut j none).fdbDone 0 j else r.2.fdbDone 1 i
    | none => s.fdbDone 1 i
  | 5 => (s.wf .SWC_FDB_STATUS_BUSY 1).walkStart port all true
  | _ => s

/-- R268: a command written while BUSY is refused; one written while a link-down walk runs waits. -/
def State.fdbCmd (s : State) (op port : Nat) (all : Bool) : State :=
  if s.on .SWC_FDB_STATUS_BUSY then s.refuse 0x146 0x08
  else if s.cel.walks.any (fun w => !w.cmd) && 1 ≤ op && op ≤ 5 then
    (s.wf .SWC_FDB_STATUS_BUSY 1).cellar fun x =>
      { x with fdbWait := some (BitVec.ofNat 32 (op + b2n all * 8 + port % 32 * 16)) }
  else s.fdbRun op port all

/-- R281: the oldest walk ends; a command that waited for the last link-down walk runs. -/
def State.fdbWalkDone (s : State) : State :=
  match s.walksUp.cel.walks with
  | [] => s
  | w :: ws =>
    let s := s.walksUp.walkTo w 16384
    let s := s.cellar fun x => { x with walks := ws }
    if w.cmd then s.fdbDone 0 (s.rf .SWC_FDB_STATUS_INDEX)
    else if ws.any (fun w => !w.cmd) then s
    else match s.cel.fdbWait with
    | none => s
    | some c =>
      let s := (s.wf .SWC_FDB_STATUS_BUSY 0).cellar fun x => { x with fdbWait := none }
      s.fdbRun (c.toNat % 8) (bitsAt c.toNat 4 5) (bitAt c.toNat 3)

/-! Mirroring (R282, R283). -/

/-- Mirror session `m` takes this frame of `port`: every Nth with SAMPLE. -/
def State.mirrorTake (s : State) (m : Nat) : Bool × State :=
  let n := s.rf (.SWC_MIRROR_CFG_SAMPLE m)
  if n ≤ 1 then (true, s)
  else
    let k := spGet (fun _ => 0) s.cel.mirrorCount m + 1
    (decide (k ≥ n), s.cellar fun x => { x with mirrorCount := spSet (fun _ => 0) x.mirrorCount m (if k ≥ n then 0 else k) })

/-- Whether session `m` mirrors `port` in direction egress (`eg`) or ingress. -/
def State.mirrorOf (s : State) (m port : Nat) (eg : Bool) : Bool :=
  let d := s.rf (.SWC_MIRROR_CFG_DIR m)
  s.on (.SWC_MIRROR_CFG_EN m) && bitAt (s.rf (.SWC_MIRROR_SRC_PORTS m)) port && (d = 2 || (if eg then d = 1 else d ≠ 1))

/-- R282: the mirror copies of frame `fid` at `port` for one direction. -/
def State.mirror (s : State) (fid port vid : Nat) (eg : Bool) : State :=
  s.each (List.range 4) (fun s m =>
    if s.mirrorOf m port eg then
      let r := s.mirrorTake m
      if r.1 then
        let c := Copy.plain fid (s.rf (.SWC_MIRROR_CFG_DEST m)) (s.rf (.SWC_MIRROR_CFG_CLASS m)) vid 5
        r.2.enqueueCopy { c with mirror := true, trunc := s.rf (.SWC_MIRROR_CFG_TRUNC m) * 64 }
      else r.2
    else s)

end Sys2Proof.Machine
end

