-- ==== Sys2Proof/Machine/Ports.lean ====
section
/-!
DEFINITION. External ports: link states, flow control reception, preemption verification, PHYs and MDIO
(R156 to R175, R521).
-/
namespace Sys2Proof.Machine

/-- Update the ports' own state. -/
def State.ports (s : State) (g : Mac → Mac) : State := { s with mac := g s.mac }

/-- Bit `i` of a mask set to `b`. -/
def maskSet (m i : Nat) (b : Bool) : Nat := if bitAt m i == b then m else if b then m + 2 ^ i else m - 2 ^ i

/-- R156: the modes a port accepts. -/
def modeOk (n mode : Nat) : Bool :=
  mode = 0 || (n < 4 && 1 ≤ mode && mode ≤ 3) || (4 ≤ n && n < 12 && (mode = 4 || mode = 5)) ||
  (12 ≤ n && n < 20 && (mode = 6 || mode = 7)) || (20 ≤ n && n < 24 && mode = 8)

/-- R156: the speeds of a mode, highest first, in the encoding of MAC_LINK_STATUS.SPEED. -/
def modeSpeeds : Nat → List Nat
  | 1 => [7]
  | 2 => [6]
  | 3 => [6, 5, 4, 3, 2]
  | 4 => [3, 2, 1]
  | 5 => [4]
  | 6 => [2]
  | 7 => [3]
  | 8 => [1]
  | _ => []

/-- Mb/s of a SPEED code. -/
def speedMbps (c : Nat) : Nat := ([0, 10, 100, 1000, 2500, 5000, 10000, 25000][c]?).getD 0

/-- R21, R160: present rate of port `e` in Mb/s. -/
def State.portMbps (s : State) (e : Nat) : Nat :=
  if e < 24 then speedMbps (s.rf (.MAC_LINK_STATUS_SPEED e))
  else if e = 25 || e = 28 then 50000 else if e = 27 then 20000 else if e = 29 then 25000 else 10000

/-- Source 0x083 + 4n reports a refused configuration (R174). -/
def State.portRefused (s : State) (n : Nat) : State := s.refuse (0x083 + 4 * n) 0x08

/-- The reference that clocks port `n` (R157) is lost. -/
def State.refDown (s : State) (n : Nat) : Bool := bitAt s.mac.refLost (if n < 4 then 0 else 1)

/-- The link state of port `n` (R160). -/
def State.linkState (s : State) (n : Nat) : Nat := s.rf (.MAC_LINK_STATUS_STATE n)
def State.setLink (s : State) (n st : Nat) : State := s.wf (.MAC_LINK_STATUS_STATE n) st

/-- MODE, AN_EN and FORCE_SPEED that port `n` took at its last entry into DOWN (R521). -/
def State.taken (s : State) (n : Nat) : Nat × Bool × Nat := spGet (fun _ => (0, true, 0)) s.mac.taken n

/-- R521: the speed port `n` runs at. -/
def State.runSpeed (s : State) (n : Nat) : Nat :=
  let t := s.taken n
  let l := modeSpeeds t.1
  let top := l.headD 0
  if t.1 = 3 || t.1 = 4 then
    let want := if t.2.1 then (spGet (fun _ => (0, false)) s.mac.an n).1 else t.2.2
    if l.contains want then want else top
  else top

/-- Every condition of UP_PENDING holds (R160). -/
def State.linkOk (s : State) (n : Nat) : Bool :=
  bitAt s.mac.locked n && (4 ≤ n || !s.on (.MAC_MDIO_POLL_EN n) || bitAt s.mac.pollBit n)

/-- VERIFY_STATUS of port `n` as verification begins: failed where the 3 attempts of this entry into UP are spent (R168). -/
def State.preemptState (s : State) (n : Nat) : State :=
  s.wf (.MAC_PREEMPT_VERIFY_STATUS n)
    (if s.on (.MAC_PREEMPT_EN n) && !s.on (.MAC_PREEMPT_VERIFY_DIS n) then if spGet (fun _ => 0) s.mac.tries n < 3 then 1 else 4 else 0)

/-- Preemption verification of port `n` is in its initial state, with no attempt made (R162, R168). -/
def State.preemptInit (s : State) (n : Nat) : State :=
  (s.ports fun x => { x with tries := spSet (fun _ => 0) x.tries n 0 }).preemptState n

/-- R174: a receive error of port `n` counts towards ERR_THR. -/
def State.macError (s : State) (n : Nat) : State :=
  let up := s.level (0x081 + 4 * n)
  let s := s.rateEvent (0x081 + 4 * n) (s.rf (.MAC_LINK_CFG_ERR_THR n))
  if !up && s.level (0x081 + 4 * n) then s.wf (.MAC_INT_ERR_RATE n) 1 else s

/-- Buffer `i` of the MAC of port `n` gives the bytes `b` of a frame: `n` as it receives, 24 + `n` as it sends. Where its ECC
cannot correct them they are free values (R174). -/
def State.macRead (s : State) (n i : Nat) (b : List Byte) : List Byte × State :=
  let r := s.eccRead .mac i (0x082 + 4 * n) none
  if r.1 then
    let d := r.2.draw
    (bytesLE b.length (Config.free d.1), d.2)
  else (b, r.2)

/-- A frame partly received on port `n` is discarded (R162), a receive error like any other (R174). -/
def State.cutReceive (s : State) (n : Nat) : State :=
  let l := s.frames.filter (fun x => match x.2 with | some f => f.inPort = n && f.passes = 0 && !f.ended | none => false)
  s.each l (fun s x =>
    let s := s.modFrame x.1 (fun f => { f with ended := true, bad := true })
    ((s.cinc (Ctr.mac n 8)).macError n).killFrame x.1)

/-- The frame in transmission on port `n`, and a preempted one, is cut (R162). -/
def State.cutTransmit (s : State) (n : Nat) : State :=
  let cut (s : State) (c : Option Copy) : State :=
    match c with | some c => (s.cinc (Ctr.mac n 23)).releaseCopy c | none => s
  let w := s.onWire n
  let p := s.preemptedOn n
  cut (cut ((s.setWire n none).setPreempted n none) w) p

/-- Pause timers of port `n` are cleared. -/
def State.clearPause (s : State) (n : Nat) : State :=
  s.ports fun x => { x with pause := x.pause.filter (fun e => e.1 / 8 ≠ n), losing := maskSet x.losing n false }

/-- R162, R279, R281: port `n` leaves UP. -/
def State.exitUp (s : State) (n : Nat) : State :=
  let s := (s.cutTransmit n).cutReceive n |>.preemptInit n
  let s := ((s.wf (.MAC_LINK_STATUS_CHANGE n) 1).wf (.MAC_INT_LINK_DOWN n) 1).notify (0x080 + 4 * n) 0x10
  let s := (s.cinc (Ctr.mac n 27)).clearPause n
  let s := (s.wf (.SWC_PORT_STATUS_XOFF_OUT n) 0).cellar fun x =>
    { x with
        xoffLeft := spSet (fun _ => 0) x.xoffLeft n 0
        pfcDue := spSet (fun _ => false) x.pfcDue n false
        holdDone := spSet (fun _ => false) x.holdDone n false
        flushing := spSet (fun _ => false) x.flushing n true }
  let s := s.flushQueues n
  if s.on (.SWC_PORT_CFG_FDB_FLUSH n) then s.walksUp.walkStart n false false else s

/-- Port `n` goes to link state `st` (0 DISABLED, 1 DOWN, 5 SLEEP), leaving UP under R162 where it was up. -/
def State.linkTo (s : State) (n st : Nat) : State :=
  let s := if s.portUp n then s.setLink n st |>.exitUp n else s.setLink n st
  let s := (s.wf (.MAC_LINK_STATUS_SPEED n) 0).ports fun x => { x with locked := maskSet x.locked n false }
  let s := if 12 ≤ n then s.wf (.PHY_STATUS_TC10_STATE n) 0 else s
  if st = 1 then
    let t := (s.rf (.MAC_PORT_CFG_MODE n), s.on (.MAC_LINK_CFG_AN_EN n), s.rf (.MAC_LINK_CFG_FORCE_SPEED n))
    s.ports fun x => { x with taken := spSet (fun _ => (0, true, 0)) x.taken n t }
  else s

/-- R160, R161: the state of port `n` after a change of ENABLE or MODE: DISABLED, and DOWN where it is enabled. -/
def State.portApply (s : State) (n : Nat) : State :=
  if s.on (.MAC_PORT_CFG_ENABLE n) && s.rf (.MAC_PORT_CFG_MODE n) ≠ 0 then s.linkTo n 1 else s

/-- A write of MAC_PORT_CFG[n] that makes the register `w` (R156, R158, R161). -/
def State.portCfg (s : State) (n : Nat) (w : Word) : State :=
  let mode := fldGet w 0 4
  let mf := fldGet w 14 14
  if !modeOk n mode || mf < 64 || 10240 < mf then s.portRefused n
  else
    let old := s.rword (Reg.MAC_PORT_CFG n)
    let en := fldGet w 31 1 = 1
    let was := fldGet old 31 1 = 1
    let s := s.wword (Reg.MAC_PORT_CFG n) w
    if !en then (if s.linkState n = 0 then s else s.linkTo n 0)
    else if !was || fldGet old 0 4 ≠ mode then
      (if s.linkState n = 0 then s else s.linkTo n 0).portApply n
    else s

/-- A write of MAC_LINK_CFG[n] (R521). -/
def State.linkCfg (s : State) (n : Nat) (w : Word) : State :=
  let f := fldGet w 1 3
  if f = 0 || (f ≠ 7 && (modeSpeeds (s.rf (.MAC_PORT_CFG_MODE n))).contains f) then s.wword (Reg.MAC_LINK_CFG n) w
  else (s.wword (Reg.MAC_LINK_CFG n) (fldSet w 1 3 (s.rf (.MAC_LINK_CFG_FORCE_SPEED n)))).portRefused n

/-- A write of MAC_FC_CFG[n] (R166). -/
def State.fcCfg (s : State) (n : Nat) (w : Word) : State :=
  if 20 ≤ n && fldGet w 30 2 ≠ 0 then s.portRefused n else s.wword (Reg.MAC_FC_CFG n) w

/-- A write of MAC_PREEMPT[n] (R167, R168): a change of EN or VERIFY_DIS starts verification
afresh, with the attempts left. -/
def State.preemptCfg (s : State) (n : Nat) (w : Word) : State :=
  if 20 ≤ n && fldGet w 31 1 = 1 then s.portRefused n
  else
    let change := fldGet w 30 2 ≠ fldGet (s.rword (Reg.MAC_PREEMPT n)) 30 2
    let s := s.wword (Reg.MAC_PREEMPT n) w
    if change then s.preemptState n else s

/-- R310: preemption is active on port `n`. -/
def State.preempting (s : State) (n : Nat) : Bool :=
  n < 20 && s.portUp n && s.on (.MAC_PREEMPT_EN n) &&
  (s.on (.MAC_PREEMPT_VERIFY_DIS n) || s.rf (.MAC_PREEMPT_VERIFY_STATUS n) = 3)

/-- Class `k` of port `e` is preemptable now (R310). -/
def State.preemptable (s : State) (e k : Nat) : Bool := s.preempting e && !bitAt (s.rf (.SCH_PORT_CFG_EXPRESS e)) k

/-- Bytes of a frame that a non-final fragment of port `e` carries at least (R168). -/
def State.minFrag (s : State) (e : Nat) : Nat := 64 * (1 + s.rf (.MAC_PREEMPT_ADD_FRAG e)) - 4

/-- R168: the frame or fragment on the wire of port `e` may end here: behind its 8 bytes of preamble it has carried the
minimum. -/
def State.fragPoint (s : State) (e : Nat) : Bool :=
  (8 + s.minFrag e) * 8000 ≤ (s.cycles - spGet (fun _ => 0) s.cel.wireAt e) * s.portMbps e

/-- LINK_SIGNAL_DETECT: a DOWN port goes to TRAINING (R160). -/
def State.signalDetect (s : State) (n : Nat) : State :=
  if s.linkState n = 1 && !s.refDown n then s.setLink n 2 else s

/-- A training port whose conditions all hold goes to UP_PENDING (R160). -/
def State.tryPending (s : State) (n : Nat) : State :=
  if s.linkState n = 2 && s.linkOk n then
    ((s.setLink n 3).wf (.MAC_LINK_STATUS_SPEED n) (s.runSpeed n)).wf (.MAC_LINK_STATUS_LP_PAUSE n)
      (b2n (spGet (fun _ => (0, false)) s.mac.an n).2)
  else s

/-- LINK_TRAINING_DONE: lock, auto-negotiation and PHY training are done, giving `speed` and the partner's PAUSE. In UP the
conditions hold again within DN_FILTER (R161). -/
def State.trainingDone (s : State) (n speed : Nat) (lpPause : Bool) : State :=
  let st := s.linkState n
  if st = 2 || st = 4 then
    let s := (s.wf (.MAC_LINK_STATUS_LOCAL_FAULT n) 0).wf (.MAC_LINK_STATUS_REMOTE_FAULT n) 0
    let s := s.ports fun x => { x with locked := maskSet x.locked n true }
    if st = 4 then (if s.linkOk n then s.ports fun x => { x with losing := maskSet x.losing n false } else s)
    else
      let s := s.ports fun x => { x with an := spSet (fun _ => (0, false)) x.an n (speed, lpPause) }
      let s := if 12 ≤ n then s.wf (.PHY_STATUS_TC10_STATE n) 0 else s
      s.tryPending n
  else s

/-- UP_FILTER_EXPIRY: UP_PENDING held for UP_FILTER ms (R160). -/
def State.upFilter (s : State) (n : Nat) : State :=
  if s.linkState n = 3 && s.linkOk n then
    let s := ((s.setLink n 4).wf (.MAC_LINK_STATUS_CHANGE n) 1).wf (.MAC_INT_LINK_UP n) 1
    let s := s.cellar fun x => { x with holdDone := spSet (fun _ => false) x.holdDone n false }
    s.preemptInit n
  else s

/-- A condition of UP_PENDING is lost (R161). -/
def State.linkLost (s : State) (n : Nat) : State :=
  match s.linkState n with
  | 2 => s.linkTo n 1
  | 3 => s.linkTo n 1
  | 4 => s.ports fun x => { x with losing := maskSet x.losing n true }
  | _ => s

/-- The conditions of UP_PENDING of port `n` are looked at again: in UP a loss of them begins or ends, in UP_PENDING a
loss goes to DOWN, and in TRAINING the port goes on when all hold (R160, R161). -/
def State.linkCheck (s : State) (n : Nat) : State :=
  if s.linkOk n then
    if s.portUp n then s.ports fun x => { x with losing := maskSet x.losing n false } else s.tryPending n
  else if s.linkState n = 3 || s.linkState n = 4 then s.linkLost n
  else s

/-- A write of MAC_MDIO_POLL[n] that makes the register `w`: with EN the polled link bit is a condition of the link from
now on (R160, R173). -/
def State.pollCfg (s : State) (n : Nat) (w : Word) : State := (s.wword (Reg.MAC_MDIO_POLL n) w).linkCheck n

/-- LINK_LOSS, with the faults that are seen. -/
def State.linkLoss (s : State) (n : Nat) (localF remoteF : Bool) : State :=
  let s := (s.wf (.MAC_LINK_STATUS_LOCAL_FAULT n) (b2n localF)).wf (.MAC_LINK_STATUS_REMOTE_FAULT n) (b2n remoteF)
  (s.ports fun x => { x with locked := maskSet x.locked n false }).linkLost n

/-- LINK_LOSS_FILTER_EXPIRY: the loss lasted DN_FILTER × 10 µs (R161). -/
def State.lossFilter (s : State) (n : Nat) : State :=
  if s.portUp n && bitAt s.mac.losing n then s.linkTo n 1 else s

/-- LINK_DOWN_FLUSH_DONE (R279). -/
def State.flushDone (s : State) (n : Nat) : State :=
  if spGet (fun _ => false) s.cel.flushing n then
    (s.wf .SWC_INT_FLUSH_DONE 1).cellar fun x => { x with flushing := spSet (fun _ => false) x.flushing n false }
  else s

/-- HOLDOFF_EXPIRY (R280). -/
def State.holdoffDone (s : State) (n : Nat) : State :=
  if s.portUp n then s.cellar fun x => { x with holdDone := spSet (fun _ => false) x.holdDone n true } else s

/-! Flow control reception (R165, R166). -/

/-- Quanta left of the pause of class `c` of port `n`. -/
def State.paused (s : State) (n c : Nat) : Bool := spGet (fun _ => 0) s.mac.pause (n * 8 + c) ≠ 0
def State.setPause (s : State) (n c q : Nat) : State :=
  s.ports fun x => { x with pause := spSet (fun _ => 0) x.pause (n * 8 + c) q }

/-- PFC_FRAME_RECEIVED: class-enable vector and quanta by priority (R165). -/
def State.pfcReceived (s : State) (n vec : Nat) (quanta : List Nat) : State :=
  if !s.portUp n then s
  else
    let s := s.cinc (Ctr.mac n 10)
    if !s.on (.MAC_FC_CFG_PFC_RX_EN n) then s
    else s.each ((List.range 8).filter (bitAt vec)) (fun s p =>
      if bitAt (s.rf (.MAC_FC_CFG_PFC_RX_MASK n)) p && !s.isProt n p then s.setPause n p ((quanta[p]?).getD 0 % 65536)
      else s.cinc (Ctr.mac n 11))

/-- PAUSE_FRAME_RECEIVED (R166). -/
def State.pauseReceived (s : State) (n quanta : Nat) : State :=
  if !s.portUp n then s
  else
    let s := s.cinc (Ctr.mac n 9)
    if s.on (.MAC_FC_CFG_PAUSE_RX_EN n) && !s.on (.MAC_FC_CFG_PFC_RX_EN n) then
      s.each ((List.range 8).filter (fun c => !s.isProt n c)) (fun s c => s.setPause n c (quanta % 65536))
    else s

/-! Preemption verification (R168). -/

/-- PREEMPT_VERIFY_TIMER. -/
def State.verifyTimer (s : State) (n : Nat) : State :=
  let st := s.rf (.MAC_PREEMPT_VERIFY_STATUS n)
  if s.portUp n && s.fwdEn && s.on (.MAC_PREEMPT_EN n) && !s.on (.MAC_PREEMPT_VERIFY_DIS n) && (st = 1 || st = 2) then
    let k := spGet (fun _ => 0) s.mac.tries n
    if k < 3 then
      let s := (s.emit (.verify n false)).wf (.MAC_PREEMPT_VERIFY_STATUS n) 2
      s.ports fun x => { x with tries := spSet (fun _ => 0) x.tries n (k + 1) }
    else
      ((s.wf (.MAC_PREEMPT_VERIFY_STATUS n) 4).wf (.MAC_INT_PREEMPT_FAIL n) 1).notify (0x083 + 4 * n) 0x06
  else s

/-- PREEMPT_VERIFY_RESPONSE. -/
def State.verifyResponse (s : State) (n : Nat) : State :=
  if s.portUp n && s.rf (.MAC_PREEMPT_VERIFY_STATUS n) = 2 then s.wf (.MAC_PREEMPT_VERIFY_STATUS n) 3 else s

/-! Integrated PHYs (R169 to R171). -/

/-- SQI_UPDATE. -/
def State.sqiUpdate (s : State) (p sqi : Nat) : State := if s.portUp p then s.wf (.PHY_STATUS_SQI p) sqi else s

/-- PHY_PLCA_STATUS.ACTIVE of port `p`: a coordinator sends beacons from DOWN's end on; whether another node hears them
is the segment's (R170). -/
def State.plcaActive (s : State) (p : Nat) : Bool :=
  s.on (.PHY_PLCA_EN p) && 2 ≤ s.linkState p && s.linkState p ≤ 4 &&
  (s.rf (.PHY_PLCA_NODE_ID p) = 0 || Config.beaconHeard p s.cycles)

/-- PLCA_BEACON_CONFLICT (R170). -/
def State.plcaConflict (s : State) (p : Nat) : State :=
  if s.on (.PHY_PLCA_EN p) && s.rf (.PHY_PLCA_NODE_ID p) = 0 then
    (s.wf (.PHY_PLCA_STATUS_CONFLICT p) 1).notify (0x083 + 4 * p) 0x06
  else s

/-- A sleep request is sent on a port in UP (R171). -/
def State.tc10Request (s : State) (p : Nat) : State :=
  if s.portUp p then (s.emit (.tc10Sleep p)).wf (.PHY_STATUS_TC10_STATE p) 1 else s

/-- The port goes from UP to SLEEP, with or without the partner's acknowledgement. -/
def State.tc10Asleep (s : State) (p : Nat) (ack : Bool) : State :=
  if s.portUp p && s.rf (.PHY_STATUS_TC10_STATE p) = 1 then
    let s := (s.linkTo p 5).wf (.PHY_STATUS_TC10_STATE p) 2
    if ack then s else s.wf (.PHY_STATUS_TC10_NOACK p) 1
  else s

/-- The port leaves SLEEP for TRAINING, or for DOWN while its reference is lost (R157). -/
def State.tc10Training (s : State) (p : Nat) : State :=
  let s := s.linkTo p 1
  if s.refDown p then s else (s.setLink p 2).wf (.PHY_STATUS_TC10_STATE p) 3

/-- PHY_TC10_CMD action 2. -/
def State.tc10Wake (s : State) (p : Nat) : State :=
  if s.linkState p = 5 then (s.emit (.tc10Wake p)).tc10Training p else s

/-- Port `p` of 12 to 23 waits in SLEEP for a wake-up: the sleep states keep which ports do. -/
def State.tc10Waits (s : State) (p : Nat) : Bool :=
  if s.pwr.asleep = 0 then s.linkState p = 5 else bitAt s.mac.dozing p

/-- TC10_WAKE_FWD of port `p`, which the sleep states keep for the ports in SLEEP. -/
def State.tc10Forwards (s : State) (p : Nat) : Bool :=
  if s.pwr.asleep = 0 then s.on (.PHY_CFG_TC10_WAKE_FWD p) else bitAt s.mac.dozeFwd p

/-- TC10_WAKE_DETECT (R171). -/
def State.tc10Detect (s : State) (p : Nat) : State :=
  if !s.tc10Waits p then s
  else
    let others := ((List.range 12).map (fun i => 12 + i)).filter (fun q => q ≠ p && s.tc10Waits q)
    let s := if s.tc10Forwards p then s.each others (fun s q => s.emit (.tc10Wake q)) else s
    if s.pwr.asleep = 0 then s.tc10Training p else s

/-- A write of PHY_TC10_CMD[p] (R171). -/
def State.tc10Cmd (s : State) (p action : Nat) : State :=
  match action with
  | 1 => s.tc10Request p
  | 2 => s.tc10Wake p
  | _ => s

/-! MDIO master (R172, R173). -/

/-- Put an MDIO frame on the wire. -/
def State.mdioSend (s : State) (j : MdioJob) : State :=
  let s := s.ports fun x => { x with mdio := some j }
  match j with
  | .cmd w => s.emit (.mdio (fldGet w 28 2) (fldGet w 27 1 = 1) (fldGet w 22 5) (fldGet w 17 5) (fldGet w 0 16))
  | .pollAddr p => s.emit (.mdio 0 true (s.rf (.MAC_MDIO_POLL_PRTAD p)) (s.rf (.MAC_MDIO_POLL_DEVAD p)) (s.rf (.MAC_MDIO_POLL_REG p)))
  | .pollRead p => s.emit (.mdio 3 (s.on (.MAC_MDIO_POLL_C45 p)) (s.rf (.MAC_MDIO_POLL_PRTAD p)) (s.rf (.MAC_MDIO_POLL_DEVAD p)) 0)

/-- Start the next waiting frame when none runs: a software command before a poll. -/
def State.mdioNext (s : State) : State :=
  match s.mac.mdio with
  | some _ => s
  | none =>
    let isCmd (j : MdioJob) : Bool := match j with | .cmd _ => true | _ => false
    match s.mac.mdioWait.find? isCmd, s.mac.mdioWait with
    | some j, l => (s.ports fun x => { x with mdioWait := l.erase j }).mdioSend j
    | none, j :: l => (s.ports fun x => { x with mdioWait := l }).mdioSend j
    | none, [] => s

/-- Queue a frame. -/
def State.mdioQueue (s : State) (j : MdioJob) : State :=
  (s.ports fun x => { x with mdioWait := x.mdioWait ++ [j] }).mdioNext

/-- A write of MAC_MDIO_CMD that makes the register `w`, with GO as written (R172). -/
def State.mdioCmd (s : State) (w : Word) (go : Bool) : State :=
  if s.on .MAC_MDIO_CMD_BUSY then s.wf .MAC_MDIO_DATA_LOST 1
  else
    let s := s.wword Reg.MAC_MDIO_CMD w
    if go then (s.wf .MAC_MDIO_CMD_BUSY 1).mdioQueue (.cmd w) else s

/-- MDIO command word of OP, C45, PRTAD, DEVAD and DATA. -/
def mdioWord (op : Nat) (c45 : Bool) (prtad devad data : Nat) : Word :=
  fldSet (fldSet (fldSet (fldSet (fldSet 0 28 2 op) 27 1 (b2n c45)) 22 5 prtad) 17 5 devad) 0 16 data

/-- The poll of port `p`'s external PHY is due (R173). -/
def State.mdioPollPort (s : State) (p : Nat) : State :=
  if s.on (.MAC_MDIO_POLL_EN p) then s.mdioQueue (if s.on (.MAC_MDIO_POLL_C45 p) then .pollAddr p else .pollRead p) else s

/-- MDIO_POLL: every enabled port. -/
def State.mdioPoll (s : State) : State := s.each (List.range 4) State.mdioPollPort

/-- EXT_PHY_INTERRUPT (R173). -/
def State.extPhyInt (s : State) (p : Nat) : State := (s.wf (.MAC_INT_EXT_PHY p) 1).mdioPollPort p

/-- A poll read the link bit of port `p`. -/
def State.pollResult (s : State) (p data : Nat) : State :=
  let b := bitAt data (s.rf (.MAC_MDIO_POLL_BIT p))
  let fell := bitAt s.mac.pollBit p && !b
  let s := s.ports fun x => { x with pollBit := maskSet x.pollBit p b }
  if !s.on (.MAC_MDIO_POLL_EN p) then s
  else if fell && s.linkState p = 2 then s.linkLost p
  else s.linkCheck p

/-- MDIO_FRAME_DONE: the frame ends with `data` on a read. -/
def State.mdioDone (s : State) (data : Nat) : State :=
  match s.mac.mdio with
  | none => s
  | some j =>
    let s := s.ports fun x => { x with mdio := none }
    match j with
    | .cmd w =>
      let s := s.wf .MAC_MDIO_CMD_BUSY 0
      let s := if 2 ≤ fldGet w 28 2 then (s.wf .MAC_MDIO_DATA_DATA data).wf .MAC_MDIO_DATA_VALID 1 else s
      s.mdioNext
    | .pollAddr p => s.mdioSend (.pollRead p)
    | .pollRead p => (s.pollResult p data).mdioNext

/-- R157: reference `r` is lost (true) or back: every port it clocks goes to DOWN and stays there. -/
def State.refLoss (s : State) (r : Nat) (lost : Bool) : State :=
  let s := s.ports fun x => { x with refLost := maskSet x.refLost r lost }
  if lost then s.each (List.range 24) (fun s n =>
    if (if n < 4 then 0 else 1) = r && s.linkState n ≠ 0 && s.linkState n ≠ 1 then s.linkTo n 1 else s)
  else s

end Sys2Proof.Machine
end

