-- ==== Sys2Proof/Machine/Tim.lean ====
section
/-!
DEFINITION. The time unit (R11, R12, R317 to R348): trackers, the working clock, steps, the travel counter,
triggers, captures, and the time stamps of PTP messages. Clocks count 2^-40 ns.
-/
namespace Sys2Proof.Machine

/-- Update the time unit's own state. -/
def State.timeUnit (s : State) (g : Tim → Tim) : State := { s with tim := g s.tim }

/-- One nanosecond in the unit of the clocks, and the modulus of a full time value (R11). -/
def nsUnit : Nat := 2 ^ 40
def clkMod : Nat := 2 ^ 48 * 1000000000 * nsUnit

/-- The clock numbered 0 working clock, 1 tracker 0, 2 tracker 1. -/
def State.clock (s : State) (b : Nat) : Nat := if b = 0 then s.tim.wc else if b = 1 then s.tim.trk0 else s.tim.trk1
/-- A clock in T64. -/
def t64Of (c : Nat) : Nat := c / nsUnit % 2 ^ 64
/-- The travel count D48. -/
def State.d48 (s : State) : Nat := s.tim.odo / 2 ^ 16 % 2 ^ 48

/-- Full time words of a clock value (R12): nanoseconds, seconds [31:0], and [47:32] with the fraction. -/
def fullTime (c : Nat) : Word × Word × Word :=
  let ns := c / nsUnit
  let sec := ns / 1000000000 % 2 ^ 48
  (BitVec.ofNat 32 (ns % 1000000000), BitVec.ofNat 32 (sec % 2 ^ 32),
   BitVec.ofNat 32 (c % nsUnit / 2 ^ 24 * 65536 + sec / 2 ^ 32))

/-- A clock after an addition of `d`. -/
def clockAdd (c : Nat) (d : Int) : Nat := (((c : Int) + d) % (clkMod : Int)).toNat

/-- `a − b` of two clocks as a signed T64 difference in ns (R14, R320). -/
def t64Diff (a b : Nat) : Int := t64Sub (t64Of a) (t64Of b)

/-- The chip is held in reset by the temperature sensor or by the crystal (R74, R93). -/
def State.resetHeld (s : State) : Bool := s.pwr.tempHold || s.pwr.clockHold

/-- The columns of R51, and ACTIVE, in which every ball follows its configuration. -/
inductive PinColumn where
  | off | sleepD | sleepR | coldReset | chipReset | standby | gap | active
  deriving DecidableEq, Repr

/-- Every rail of a wake is up, and the banks with them: what remains of the wake is the internal cold reset after SLEEP-D
and the start of the units after SLEEP-R (R50, R95 step 4). -/
def State.banksBack (s : State) : Bool :=
  match s.pwr.wake with
  | .coldReset | .start _ | .restore => true
  | _ => false

/-- The column in force (R53, R54): OFF, then reset, the sleep states, the pair gap, STANDBY. With every rail of a wake up
the SLEEP-R column gives way to STANDBY (R95 step 4), and the SLEEP-D column to the reset that then follows (DEDUCED, log
entry 130). -/
def State.pinColumn (s : State) : PinColumn :=
  let st := s.rf .TOP_STATE_PWR_STATE
  let role := s.rf .TOP_STATE_PAIR_ROLE
  if s.pwr.off then .off
  else if s.pwr.porst then .coldReset
  else if s.resetHeld then .chipReset
  else if st = 1 then if s.banksBack then .coldReset else .sleepD
  else if st = 2 && !s.banksBack then .sleepR
  else if role = 3 then .gap
  else if st = 4 && !(s.on .TOP_STRAP_PAIR_EN && (role = 0 || role = 2)) then .active
  else .standby

/-- TRIG is driven by the triggers (R51, R53, R56): every other column gives it a state of its own. -/
def State.trigDriven (s : State) : Bool := s.pinColumn = .active

/-! Triggers (R345 to R347). -/

/-- TARGET of trigger `k`. -/
def State.trigTarget (s : State) (k : Nat) : Nat := s.pair64 (Reg.TIM_TRIG_TARGET_LO k) (Reg.TIM_TRIG_TARGET_HI k)
def State.trigDue (s : State) (k : Nat) : Option Nat := spGet (fun _ => none) s.tim.due k
def State.setDue (s : State) (k : Nat) (d : Option Nat) : State :=
  s.timeUnit fun x => { x with due := spSet (fun _ => none) x.due k d }

/-- The base of trigger `k` is at or after `t` (R14, R344). -/
def State.trigReached (s : State) (k t : Nat) : Bool :=
  let b := s.rf (.TIM_TRIG_CFG_BASE k)
  if b = 3 then atOrAfter 48 s.d48 t else atOrAfter 64 (t64Of (s.clock b)) t

/-- A due moment of trigger `k`. -/
def State.trigFire (s : State) (k : Nat) (late : Bool) : State :=
  let s := s.wf (.TIM_TRIG_STATUS_FIRED k) 1
  let s := if late then (s.wf (.TIM_TRIG_STATUS_LATE k) 1).wf .TIM_INT_TRIG 1 else s
  let s := s.timeUnit fun x => { x with fresh := x.fresh ++ [k] }
  if !s.on (.TIM_TRIG_CFG_OUT_EN k) then s
  else if s.trigDriven then
    let s := if spGet (fun _ => false) s.tim.pulse k then s else s.emit (.triggerEdge k (!s.on (.TIM_TRIG_CFG_POL k)))
    s.timeUnit fun x => { x with pulse := spSet (fun _ => false) x.pulse k true }
  else
    ((s.wf (.TIM_TRIG_STATUS_MISSED k) (satInc 16 (s.rf (.TIM_TRIG_STATUS_MISSED k)))).wf .TIM_INT_TRIG 1).notify 0x066 0x05

/-- First due moment of a periodic time trigger at or after `now + 4 µs` (R14, R346). -/
def rephase (target period now : Nat) : Nat :=
  let d := t64Sub target now
  if 4000 ≤ d then target else (target + ((4000 - d).toNat + period - 1) / max period 1 * period) % 2 ^ 64

/-- Next due moment after `t` of a periodic trigger, or none. -/
def State.trigNext (s : State) (k t : Nat) : Option Nat :=
  let p := s.rf (.TIM_TRIG_PERIOD_PERIOD k)
  if s.on (.TIM_TRIG_CFG_PERIODIC k) && p ≠ 0 then some ((t + p) % 2 ^ 64) else none

/-- R346: trigger `k` is armed, or its base has stepped. -/
def State.trigArm (s : State) (k : Nat) : State :=
  let b := s.rf (.TIM_TRIG_CFG_BASE k)
  let t := s.trigTarget k
  if b = 3 then s.setDue k (some t)
  else if s.on (.TIM_TRIG_CFG_PERIODIC k) then
    s.setDue k (some (rephase t (s.rf (.TIM_TRIG_PERIOD_PERIOD k)) (t64Of (s.clock b))))
  else if s.trigReached k t then (s.setDue k none).trigFire k true
  else s.setDue k (some t)

/-- R346: the time base `b` has stepped: its enabled triggers that are not finished act on the new time. -/
def State.baseStepped (s : State) (b : Nat) : State :=
  s.each ((List.range 8).filter (fun k => s.on (.TIM_TRIG_CFG_EN k) && s.rf (.TIM_TRIG_CFG_BASE k) = b &&
    (s.trigDue k).isSome)) State.trigArm

/-- Source 0x067 reports a refused TIM write or command. -/
def State.timRefused (s : State) : State := s.refuse 0x067 0x08

/-- R13: a write of `w` to the nanoseconds word at `a` of a full time, which its access types make `n`: a value of
1,000,000,000 or more is ignored and reported as kind 0x08. -/
def State.nsWrite (s : State) (a : Nat) (w n : Word) : State :=
  if 1000000000 ≤ w.toNat then s.timRefused else s.wword a n

/-- A write of TIM_TRIG_CFG[k] that makes the register `w` (R345, R346). -/
def State.trigCfg (s : State) (k : Nat) (w : Word) : State :=
  let was := s.on (.TIM_TRIG_CFG_EN k)
  let en := fldGet w 31 1 = 1
  let p := s.rf (.TIM_TRIG_PERIOD_PERIOD k)
  if en && !was && fldGet w 28 1 = 1 && fldGet w 26 2 ≠ 3 && (p < 40 || p ≤ s.rf (.TIM_TRIG_WIDTH_WIDTH k)) then s.timRefused
  else
    let s := s.wword (Reg.TIM_TRIG_CFG k) w
    if !en then s.setDue k none else if was then s else s.trigArm k

/-- A write of TARGET, PERIOD or WIDTH of trigger `k` at address `a` (R346). -/
def State.trigParam (s : State) (k a : Nat) (w : Word) : State :=
  if s.on (.TIM_TRIG_CFG_EN k) then s.timRefused else s.wword a w

/-- TRIGGER_DUE: a time trigger whose due moment has come (R345). -/
def State.trigDueNow (s : State) (k : Nat) : State :=
  match s.trigDue k with
  | none => s
  | some t =>
    if s.rf (.TIM_TRIG_CFG_BASE k) ≠ 3 && s.trigReached k t then (s.setDue k (s.trigNext k t)).trigFire k false else s

/-- R51, R56: TRIG is no longer driven by the triggers: every pulse ends, and the next edge is that of the first due
moment after. -/
def State.trigRelease (s : State) : State :=
  let on := (List.range 8).filter (fun k => spGet (fun _ => false) s.tim.pulse k)
  (s.each on fun s k => s.emit (.triggerEdge k (s.on (.TIM_TRIG_CFG_POL k)))).timeUnit fun x => { x with pulse := [] }

/-- TRIGGER_PULSE_END: WIDTH after the last due moment. -/
def State.trigPulseEnd (s : State) (k : Nat) : State :=
  if spGet (fun _ => false) s.tim.pulse k then
    (s.emit (.triggerEdge k (s.on (.TIM_TRIG_CFG_POL k)))).timeUnit fun x =>
      { x with pulse := spSet (fun _ => false) x.pulse k false }
  else s

/-- The due moments of travel trigger `k` that a counter update has passed (R344): each is due at that update. -/
def State.travelTrig (s : State) (k : Nat) : State :=
  match s.trigDue k with
  | none => s
  | some t =>
    if s.rf (.TIM_TRIG_CFG_BASE k) = 3 && s.trigReached k t then
      let p := s.rf (.TIM_TRIG_PERIOD_PERIOD k)
      let n := if s.on (.TIM_TRIG_CFG_PERIODIC k) && p ≠ 0 then subW 48 s.d48 t / p + 1 else 0
      (s.setDue k (if n = 0 then none else some ((t + n * p) % 2 ^ 48))).each (List.range (max n 1))
        (fun s _ => s.trigFire k false)
    else s

/-! The trackers (R317, R318). -/

/-- TIM_STATUS.HEALTHY and TIM_DOM_CFG.HEALTHY of tracker `d`. -/
def State.healthy (s : State) (d : Nat) : Bool := s.on (.TIM_DOM_CFG_HEALTHY d)
def State.setHealthy (s : State) (d : Nat) (b : Bool) : State :=
  let s := s.wf (.TIM_DOM_CFG_HEALTHY d) (b2n b)
  s.wf .TIM_STATUS_HEALTHY (maskSet (s.rf .TIM_STATUS_HEALTHY) d b)

/-- R318: a renewal while EN = 1. -/
def State.renew (s : State) (d : Nat) : State :=
  if s.on (.TIM_DOM_CFG_EN d) then (s.setHealthy d true).lower (0x062 + d) else s

/-- A write of TIM_DOM_RATE[d]. -/
def State.domRate (s : State) (d : Nat) (w : Word) : State :=
  if w.toInt.natAbs > 2048000000 then s.timRefused else (s.wword (Reg.TIM_DOM_RATE d) w).renew d

/-- A write of TIM_DOM_ADJ_HI[d]: the step applies at the next tick. -/
def State.domAdjust (s : State) (d : Nat) (w : Word) : State :=
  let s := s.wword (Reg.TIM_DOM_ADJ_HI d) w
  let v := sextNat 64 (s.pair64 (Reg.TIM_DOM_ADJ_LO d) (Reg.TIM_DOM_ADJ_HI d))
  (s.timeUnit fun x => if d = 0 then { x with adj0 := x.adj0 + v } else { x with adj1 := x.adj1 + v }).renew d

/-- A write of TIM_DOM_CFG[d] that makes the register `w`, with REFRESH as written (R318). -/
def State.domCfg (s : State) (d : Nat) (w : Word) (refresh : Bool) : State :=
  let was := s.on (.TIM_DOM_CFG_EN d)
  let s := s.wword (Reg.TIM_DOM_CFG d) w
  if !s.on (.TIM_DOM_CFG_EN d) then (s.setHealthy d false).lower (0x062 + d)
  else if !was then s.setHealthy d false
  else if refresh then s.renew d else s

/-- TRACKER_HEALTH_TIMEOUT. -/
def State.healthTimeout (s : State) (d : Nat) : State :=
  if s.on (.TIM_DOM_CFG_EN d) && s.healthy d then (s.setHealthy d false).raise (0x062 + d) 0x05 else s

/-- Signed rate of tracker `d`, in 2^-12 ppb. -/
def State.trkRate (s : State) (d : Nat) : Int := (s.rword (Reg.TIM_DOM_RATE d)).toInt

/-! The working clock (R319 to R323). -/

/-- TOP_STATE.HOLDOVER under R319. -/
def State.showHoldover (s : State) : State :=
  let st := s.rf .TIM_STATUS_STATE
  s.wf .TOP_STATE_HOLDOVER (b2n (st = 2 || st = 3 || s.on .TOP_STATE_CCX_RESTART))

/-- Rate of the working clock in 2^-12 ppb (R319, R321): in LOCKED the tracker's rate with the clamped correction. While
the control complex restarts it keeps its rate. -/
def State.wcRateNow (s : State) : Int :=
  match s.rf .TIM_STATUS_STATE with
  | 0 => 0
  | 1 =>
    if s.on .TOP_STATE_CCX_RESTART then s.tim.wcRate
    else
      let src := s.rf .TIM_WC_CFG_SOURCE
      let off : Int := sextNat 104 (subW 104 (s.clock (1 + src)) s.tim.wc)
      let lim : Int := s.rf .TIM_WC_CFG_SLEW_LIMIT * 4096000
      s.trkRate src + max (-lim) (min lim (off * 4096000 / nsUnit))
  | _ => s.tim.wcRate

/-- Set the state of the working clock, holding its present rate (R319). -/
def State.setWcState (s : State) (st : Nat) : State :=
  let r := s.wcRateNow
  ((s.timeUnit fun x => { x with wcRate := r }).wf .TIM_STATUS_STATE st).showHoldover

/-- SOURCE, also shown in TIM_STATUS. -/
def State.setSource (s : State) (d : Nat) : State := (s.wf .TIM_WC_CFG_SOURCE d).wf .TIM_STATUS_SOURCE d

/-- A step of the working clock to tracker `d`'s time, `cmd` for a commanded one: lists and triggers restart (R339,
R346). -/
def State.wcStep (s : State) (d : Nat) (cmd : Bool) : State :=
  let old := s.now
  let t := s.clock (1 + d)
  let s := s.timeUnit fun x => { x with wc := t, steps := x.steps + 1 }
  (s.listsRestart old cmd).baseStepped 0

/-- R320: the working clock enters DISCONT. -/
def State.toDiscont (s : State) : State :=
  ((s.setWcState 3).wf .TIM_INT_DISCONT 1).cinc 0x70F38 |>.notify 0x060 0x12

/-- R320: the working clock changes to tracker `o`. -/
def State.toOther (s : State) (o : Nat) : State :=
  (((s.setSource o).setWcState 1).wf .TIM_INT_DOMAIN_CHANGED 1).cinc 0x70F30 |>.notify 0x061 0x12

/-- Offset of tracker `d` from the working clock in ns. -/
def State.wcOffset (s : State) (d : Nat) : Int := t64Diff (s.clock (1 + d)) s.tim.wc

/-- R320: the procedure that follows the trackers. -/
def State.wcFollow (s : State) : State :=
  let src := s.rf .TIM_WC_CFG_SOURCE
  let o := 1 - src
  let win : Int := s.rf .TIM_WC_CFG_SLEW_WIN * 1000
  let st := s.rf .TIM_STATUS_STATE
  let ds := s.wcOffset src
  let other := s.wcOffset o
  if st = 0 then
    if s.healthy src then
      let s := if ds > win then s.wcStep src false else s
      if ds < -win then s.toDiscont else s.setWcState 1
    else s
  else if s.healthy src && ds.natAbs ≤ win.natAbs then (if st = 1 then s else s.setWcState 1)
  else if s.healthy o && other.natAbs ≤ win.natAbs then s.toOther o
  else if st ≠ 3 then
    if s.healthy src then s.toDiscont
    else if st = 2 then s else (s.setWcState 2).wf .TIM_INT_HOLDOVER 1
  else s

/-- R349: the time unit's counters are read, the working clock's and the trackers'. A parity error is reported, and the
working clock enters DISCONT where it is its own. Answers whether it is. -/
def State.clockParity (s : State) : Bool × State :=
  let r := s.parityRead .tim 0 0x068
  let s := ((r.2.parityRead .tim 1 0x068).2.parityRead .tim 2 0x068).2
  (r.1, if r.1 && s.rf .TIM_STATUS_STATE ≠ 3 then s.toDiscont else s)

/-- WORKING_CLOCK_UPDATE (R320). -/
def State.wcUpdate (s : State) : State :=
  if s.on .TOP_STATE_CCX_RESTART then s
  else
    let r := s.clockParity
    if r.1 then r.2 else r.2.wcFollow

/-- A write of TIM_WC_CFG that makes the register `w` (R322). -/
def State.wcCfg (s : State) (w : Word) : State :=
  let lim := fldGet w 12 10
  let win := fldGet w 0 12
  let src := fldGet w 31 1
  if lim < 1 || 500 < lim || win < 1 || 4000 < win then s.timRefused
  else
    let cur := s.rf .TIM_WC_CFG_SOURCE
    let s := s.wword Reg.TIM_WC_CFG (fldSet w 31 1 cur)
    if src = cur then s
    else if s.healthy src && (s.wcOffset src).natAbs ≤ win * 1000 then s.setSource src
    else s.timRefused

/-- A step is refused with a code (R323). -/
def State.stepRefused (s : State) (code : Nat) : State := (s.wf .TIM_STATUS_STEP_CODE code).timRefused

/-- TIM_WC_CMD STEP (R323). -/
def State.stepCmd (s : State) (src : Nat) : State :=
  if !s.healthy src then s.stepRefused 1
  else if s.tim.stepReq.isSome then s.stepRefused 3
  else match s.stepBoundaryAt with
  | none => s.stepRefused 2
  | some tb => (s.timeUnit fun x => { x with stepReq := some (src, tb) }).wf .TIM_STATUS_STEP_PENDING 1

/-- A pending step ends. -/
def State.stepOver (s : State) : State := (s.timeUnit fun x => { x with stepReq := none }).wf .TIM_STATUS_STEP_PENDING 0

/-- TIM_WC_CMD CANCEL_STEP. -/
def State.stepCancel (s : State) : State := s.stepOver

/-- STEP_BOUNDARY (R323). -/
def State.stepBoundary (s : State) : State :=
  match s.tim.stepReq with
  | none => s
  | some (src, tb) =>
    if !atOrAfter 64 s.now tb then s
    else if !s.healthy src then s.stepOver.wf .TIM_STATUS_STEP_CODE 1
    else
      let s := (s.stepOver.wcStep src true).setSource src |>.setWcState 1
      (s.wf .TIM_INT_STEP_DONE 1).cinc 0x70F28

/-- One tick of 2 ns (R26, R317): the clocks advance at their rates, and steps of the trackers apply. -/
def State.tick (s : State) : State :=
  let adv (r : Int) : Int := 2 * nsUnit + r * 2 ^ 29 / 1000000000
  let r := s.wcRateNow
  let a0 := s.tim.adj0
  let a1 := s.tim.adj1
  let r0 := s.trkRate 0
  let r1 := s.trkRate 1
  let s := { s with cycles := s.cycles + 2 }
  let s := s.timeUnit fun x =>
    { x with
        wc := clockAdd x.wc (adv r), wcRate := r
        trk0 := clockAdd x.trk0 (adv r0 + a0 * nsUnit), trk1 := clockAdd x.trk1 (adv r1 + a1 * nsUnit)
        adj0 := 0, adj1 := 0 }
  let s := if a0 = 0 then s else s.baseStepped 1
  if a1 = 0 then s else s.baseStepped 2

/-! The travel counter (R340 to R344). -/

/-- One count: forward or reverse (R340, R341). -/
def State.travelAdd (s : State) (fwd : Bool) : State :=
  let sc := s.rf .TIM_ODO_SCALE_SCALE
  let old := s.d48
  let s :=
    if fwd || s.on .TIM_ODO_CFG_REVERSE_MODE then
      let pay := if s.on .TIM_ODO_CFG_REVERSE_MODE then 0 else min sc s.tim.debt
      s.timeUnit fun x => { x with debt := x.debt - pay, odo := (x.odo + (sc - pay)) % 2 ^ 64 }
    else s.timeUnit fun x => { x with debt := min (x.debt + sc) (0xFFFFFFFF * 65536 + 65535) }
  let s := s.wf .TIM_ODO_REVERSE_MM (s.tim.debt / 65536)
  if s.d48 = old then s else s.each (List.range 8) State.travelTrig

/-- TRAVEL_COUNT: a new sample of ODO_A and ODO_B. -/
def State.travelSample (s : State) (a b : Bool) : State :=
  let a0 := s.tim.odoA
  let b0 := s.tim.odoB
  let s := s.timeUnit fun x => { x with odoA := a, odoB := b }
  let inv := s.on .TIM_ODO_CFG_INVERT
  if s.rf .TIM_ODO_SCALE_SCALE = 0 then s
  else match s.rf .TIM_ODO_CFG_MODE with
  | 1 =>
    if a ≠ a0 && b ≠ b0 then ((s.cinc 0x70F00).wf .TIM_INT_QERR 1).notify 0x064 0x06
    else if a ≠ a0 then s.travelAdd (((a != b) == Config.quadForward) != inv)
    else if b ≠ b0 then s.travelAdd (((a == b) == Config.quadForward) != inv)
    else s
  | 2 => if a && !a0 then s.travelAdd (b != inv) else s
  | _ => s

/-! Captures (R348). -/

/-- CAPTURE_EDGE on CAPT[k]. -/
def State.captureEdge (s : State) (k : Nat) (rise : Bool) : State :=
  let e := s.rf (.TIM_CAPT_CFG_EDGE k)
  if s.on (.TIM_CAPT_CFG_EN k) && (e = 3 || (if rise then e = 1 else e = 2)) && !s.pwr.porst && 3 ≤ s.rf .TOP_STATE_PWR_STATE then
    let l := spGet (fun _ => []) s.tim.capt k
    if 8 ≤ l.length then
      ((s.cinc 0x70F10).timeUnit fun x => { x with captLost := spSet (fun _ => false) x.captLost k true }).notify 0x065 0x07
    else
      let b := s.rf (.TIM_CAPT_CFG_BASE k)
      (s.wf .TIM_INT_CAPT 1).timeUnit fun x =>
        { x with capt := spSet (fun _ => []) x.capt k (l ++ [⟨t64Of (s.clock b), s.d48, rise⟩]) }
  else s

/-- CAPTURE_READ: a read of TIM_CAPT_TIME_LO[k] latches the head entry and removes it. The first entry
read after a loss shows LOST. -/
def State.captureRead (s : State) (k : Nat) : State :=
  match spGet (fun _ => []) s.tim.capt k with
  | [] => s.wf (.TIM_CAPT_DIST_HI_VALID k) 0
  | r :: l =>
    let lost := spGet (fun _ => false) s.tim.captLost k
    let s := s.timeUnit fun x =>
      { x with capt := spSet (fun _ => []) x.capt k l, captLost := spSet (fun _ => false) x.captLost k false }
    let s := (s.wf (.TIM_CAPT_TIME_LO_T64_LO k) (r.time % 2 ^ 32)).wf (.TIM_CAPT_TIME_HI_T64_HI k) (r.time / 2 ^ 32)
    let s := (s.wf (.TIM_CAPT_DIST_LO_D48_LO k) (r.dist % 2 ^ 32)).wf (.TIM_CAPT_DIST_HI_D48_HI k) (r.dist / 2 ^ 32)
    ((s.wf (.TIM_CAPT_DIST_HI_VALID k) 1).wf (.TIM_CAPT_DIST_HI_RISE k) (b2n r.rise)).wf (.TIM_CAPT_DIST_HI_LOST k) (b2n lost)

/-! PTP messages (R325 to R329). -/

/-- Where a PTP header lies in a frame: its offset, and the UDP header's offset with IPv6 where it is in UDP. -/
structure PtpAt where
  hdr : Nat
  udp : Option (Nat × Bool)
  deriving DecidableEq, Repr

/-- R325: the PTP event message header of a frame, with at least 34 bytes present. -/
def ptpEvent (b : List Byte) : Option PtpAt :=
  let vlan (o : Nat) : Bool := be16 b o = 0x8100 || be16 b o = 0x88A8
  let o := if vlan 12 then (if vlan 16 then 20 else 16) else 12
  let et := be16 b o
  let l3 := o + 2
  let ok (p : PtpAt) : Option PtpAt := if p.hdr + 34 ≤ b.length && byteAt b p.hdr % 16 ≤ 3 then some p else none
  if et = 0x88F7 then ok ⟨l3, none⟩
  else if et = 0x0800 && byteAt b l3 = 0x45 && byteAt b (l3 + 9) = 17 && be16 b (l3 + 22) = 319 then
    ok ⟨l3 + 28, some (l3 + 20, false)⟩
  else if et = 0x86DD && byteAt b l3 / 16 = 6 && byteAt b (l3 + 6) = 17 && be16 b (l3 + 42) = 319 then
    ok ⟨l3 + 48, some (l3 + 40, true)⟩
  else none

/-- messageType, domainNumber and sequenceId of the header at `p`. -/
def ptpType (b : List Byte) (p : PtpAt) : Nat := byteAt b p.hdr % 16
def ptpDomain (b : List Byte) (p : PtpAt) : Nat := byteAt b (p.hdr + 4)
def ptpSeq (b : List Byte) (p : PtpAt) : Nat := be16 b (p.hdr + 30)

/-- One's-complement sum of the 16-bit words of bytes that start at an even offset. -/
def onesSum (b : List Byte) : Nat → Nat → Nat
  | 0, acc => acc
  | n + 1, acc =>
    let t := acc + be16 b 0
    onesSum (b.drop 2) n (t % 65536 + t / 65536)

/-- R328: replace bytes at even offsets and update the UDP checksum once, incrementally (RFC 1624). -/
def ptpEdits (b : List Byte) (p : PtpAt) (l : List (Nat × List Byte)) : List Byte :=
  let old := l.flatMap (fun e => (b.drop e.1).take e.2.length)
  let x := l.flatMap (fun e => e.2)
  let b2 := l.foldl (fun b e => putBytes b e.1 e.2) b
  match p.udp with
  | none => b2
  | some (u, v6) =>
    let c := be16 b (u + 6)
    if c = 0 && !v6 then b2
    else
      let inv (l : List Byte) : List Byte := l.map (fun y => ~~~y)
      let n := x.length / 2
      let c2 := 65535 - onesSum x n (onesSum (inv old) n (65535 - c))
      putBytes b2 (u + 6) (bytesBE 2 (if c2 = 0 && v6 then 65535 else c2))

/-- R328: replace the bytes at one even offset. -/
def ptpEdit (b : List Byte) (p : PtpAt) (o : Nat) (x : List Byte) : List Byte := ptpEdits b p [(o, x)]

/-- R325: the clock a message of domain `dom` is stamped against: 1 tracker 0, 2 tracker 1, 0 working clock. -/
def State.ptpClock (s : State) (dom : Nat) : Nat :=
  if s.on (.TIM_DOM_CFG_EN 0) && s.rf (.TIM_DOM_CFG_NUMBER 0) = dom then 1
  else if s.on (.TIM_DOM_CFG_EN 1) && s.rf (.TIM_DOM_CFG_NUMBER 1) = dom then 2 else 0

/-- R325, R327: the receive work for frame `fid` once its PTP header is whole. -/
def State.ptpReceive (s : State) (fid : Nat) : State :=
  match s.frame fid with
  | none => s
  | some f =>
    match ptpEvent f.bytes with
    | none => s
    | some p =>
      if f.ptpDone || 24 ≤ f.inPort then s
      else
        let k := s.ptpClock (ptpDomain f.bytes p)
        let stamp := if k = 0 then f.rxWc else if k = 1 then f.rxTrk0 else f.rxTrk1
        let ns := bytesBE 4 (stamp / nsUnit % 1000000000)
        let b := if s.on (.TIM_PORT_CFG_RX_INSERT f.inPort) then ptpEdit f.bytes p (p.hdr + 16) ns else f.bytes
        let s := s.setFrame fid (some { f with bytes := b, ptpDone := true })
        if ptpType f.bytes p = 2 then
          let l := ((ptpSeq f.bytes p, k, stamp) :: spGet (fun _ => []) s.tim.pdelay f.inPort).take 4
          s.timeUnit fun x => { x with pdelay := spSet (fun _ => []) x.pdelay f.inPort l }
        else s

/-- R326: push a transmit timestamp record. -/
def State.txtsPush (s : State) (r : TxRec) : State :=
  if 64 ≤ s.tim.txts.length then (s.cinc 0x70F08).notify 0x065 0x07
  else (s.wf .TIM_INT_TXTS 1).timeUnit fun x => { x with txts := x.txts ++ [r] }

/-- TXTS_READ: a read of TIM_TXTS[0] by `q` latches the head record and removes it. Words 1 to 4 are held for the
reading requester, as R12 has it for a full time (DEDUCED, log entry 88). -/
def State.txtsRead (s : State) (q : Requester) : State :=
  match s.tim.txts with
  | [] => s.wf .TIM_TXTS0_VALID 0
  | r :: l =>
    let s := s.timeUnit fun x => { x with txts := l }
    let s := ((s.wf .TIM_TXTS0_VALID 1).wf .TIM_TXTS0_CLOCK r.clock).wf .TIM_TXTS0_PORT r.port
    let s := (s.wf .TIM_TXTS0_MSGTYPE r.msgType).wf .TIM_TXTS0_SEQ_ID r.seqId
    let t := fullTime r.stamp
    (((s.setLatch q Reg.TIM_TXTS1 t.1).setLatch q Reg.TIM_TXTS2 t.2.1).setLatch q Reg.TIM_TXTS3 t.2.2).setLatch q Reg.TIM_TXTS4
      (BitVec.ofNat 32 r.domain)

/-- R327: the one-step edit of a firmware message at egress time `stamp`; none where a
Pdelay_Resp has no matching stamp. -/
def State.oneStepEdit (s : State) (e : Nat) (b : List Byte) (p : PtpAt) (stamp : Nat) : Option (List Byte) :=
  let corr := sextNat 64 (ofBytesBE ((b.drop (p.hdr + 8)).take 8))
  let num (v : Int) : Nat × List Byte := (p.hdr + 8, bytesBE 8 ((v % 2 ^ 64).toNat))
  match ptpType b p with
  | 0 =>
    let ns := stamp / nsUnit
    some (ptpEdits b p [(p.hdr + 34, bytesBE 6 (ns / 1000000000) ++ bytesBE 4 (ns % 1000000000)),
      num (corr + (stamp % nsUnit / 2 ^ 24 : Nat))])
  | 3 =>
    match (spGet (fun _ => []) s.tim.pdelay e).find? (fun x => x.1 = ptpSeq b p) with
    | some (_, _, t2) => some (ptpEdits b p [num (corr + ((stamp / 2 ^ 24 : Nat) : Int) - ((t2 / 2 ^ 24 : Nat) : Int))])
    | none => none
  | _ => some b

end Sys2Proof.Machine
end

