-- ==== Sys2Proof/Machine/Cipher.lean ====
section
/-!
DEFINITION. The cipher engine (R145, R352 to R374): key slots as blocks see them, CPH tables, MACsec on
receive and transmit, the Sluice and the Pans, and CAN authentication.
-/
namespace Sys2Proof.Machine

/-- Update the cipher engine's own state. -/
def State.cipher (s : State) (g : Cph → Cph) : State := { s with cph := g s.cph }

/-- R145: whether a block may use slot `k` for USAGE bit `u`; a failed check is reported. -/
def State.keyUse (s : State) (k u : Nat) : Bool × State :=
  if s.on (.SEC_KEY_ATTR_VALID k) && bitAt (s.rf (.SEC_KEY_ATTR_USAGE k)) u then (true, s) else (false, s.notify 0x02B 0x0D)

/-! Tables (R373). -/

/-- CPH counters (R374), SA counters and SecY counters (R373; numbered outside the address map). -/
def Ctr.cph (i : Nat) : Nat := Reg.CPH_CFG + 0x400 + 8 * i
def Ctr.sa (a i : Nat) : Nat := 2 ^ 43 + a * 64 + 8 * i
def Ctr.secy (n i : Nat) : Nat := 2 ^ 44 + n * 64 + 8 * i

/-- Store an entry; the write clears its damage (R372). -/
def State.cphPut (s : State) (t i : Nat) (b : List Byte) : State :=
  (s.eccClear .cph (t * 1024 + i)).cipher fun x => { x with tab := spSet cphZero x.tab (t * 1024 + i) b }

/-- SA fields: FLAGS, KEY_SLOT and NEXT_PN. -/
def State.saFlag (s : State) (a bit : Nat) : Bool := bitAt (le (s.cphAt 2 a) 0 1) bit
def State.saSlot (s : State) (a : Nat) : Nat := le (s.cphAt 2 a) 1 1
def State.saNext (s : State) (a : Nat) : Nat := le (s.cphAt 2 a) 8 8
def State.setSaFlag (s : State) (a bit : Nat) (b : Bool) : State :=
  s.cphPut 2 a (putBytes (s.cphAt 2 a) 0 (bytesLE 1 (maskSet (le (s.cphAt 2 a) 0 1) bit b)))
def State.setSaNext (s : State) (a pn : Nat) : State := s.cphPut 2 a (putBytes (s.cphAt 2 a) 8 (bytesLE 8 (min pn (2 ^ 64 - 1))))

/-- Cipher suite of the SecY of port `n` (R373 table 0). -/
def State.suite (s : State) (n : Nat) : Nat := le (s.cphAt 0 n) 1 1
/-- The suite is an XPN suite. -/
def State.xpn (s : State) (n : Nat) : Bool := 3 ≤ s.suite n
/-- Largest PN of a port's suite (R362). -/
def State.maxPn (s : State) (n : Nat) : Nat := if s.xpn n then 2 ^ 64 - 1 else 2 ^ 32 - 1
/-- Port of an SA: that of its SC. -/
def State.saPort (s : State) (a : Nat) : Nat := le (s.cphAt 1 (a / 4)) 9 1

/-- R372: an uncorrectable entry is invalidated and its slot reference released. -/
def State.cphRead (s : State) (t i : Nat) : Bool × State :=
  let k := t * 1024 + i
  let r := s.eccRead .cph k 0x1C0 (some k)
  if r.1 then
    (true, r.2.cphPut t i (cphZero k))
  else r

/-- A refused CPH write or command (R372). -/
def State.cphRefused (s : State) : State := (s.wf .CPH_IND_CMD_RESULT 1).refuse 0x1CC 0x08
def State.cphDone (s : State) : State := s.wf .CPH_IND_CMD_RESULT 0

/-- R373: whether the bytes may be written to entry `i` of table `t`, but for R361 and R370. NEXT_PN of a transmit SA is a PN
of its suite, and that of a receive SA at most one more (log entry 142). -/
def State.cphValid (s : State) (t i : Nat) (b : List Byte) : Bool :=
  match t with
  | 0 => le b 0 1 % 2 = 0 && 1 ≤ le b 1 1 && le b 1 1 ≤ 4 && (le b 2 1 = 0 || le b 2 1 = 30 || le b 2 1 = 50) &&
         le b 4 4 ≤ 2 ^ 30 && le b 8 8 = 0
  | 1 => le b 8 1 % 64 = 0 && le b 9 1 < 24 && le b 10 1 < 4 && le b 11 5 = 0
  | 2 =>
    let k := le b 1 1
    let alg := if le (s.cphAt 0 (s.saPort i)) 1 1 % 2 = 1 then 1 else 2
    let top := s.maxPn (s.saPort i) + (if bitAt (le b 0 1) 6 then 0 else 1)
    le b 0 1 % 8 = 0 && k < 255 && le b 2 2 = 0 && le b 28 4 = 0 && le b 8 8 ≤ top &&
    s.on (.SEC_KEY_ATTR_VALID k) && bitAt (s.rf (.SEC_KEY_ATTR_USAGE k)) 0 && s.rf (.SEC_KEY_ATTR_ALG k) = alg
  | 3 => le b 8 1 % 32 = 0 && le b 9 1 ≤ 64 && 4 ≤ le b 10 1 && le b 10 1 ≤ 16 && le b 11 1 = 0
  | _ => false

/-- R361, R370: a write that would break the order of PNs or freshness values. -/
def State.cphBreaks (s : State) (t i : Nat) (b : List Byte) : Bool :=
  let old := s.cphAt t i
  match t with
  | 2 =>
    le b 8 8 = 0 ||
    (bitAt (le old 0 1) 7 && bitAt (le old 0 1) 6 && le b 1 1 = le old 1 1 && le b 8 8 < le old 8 8)
  | 3 => bitAt (le old 8 1) 7 && le b 0 8 < le old 0 8
  | _ => false

/-- R372: the entries that a write of entry `i` of table `t` is judged by are read: the entry itself and, of an SA, its SC and
SecY. -/
def State.cphTouch (s : State) (t i : Nat) : State :=
  let s := if t = 2 || t = 3 then (s.cphRead t i).2 else s
  if t = 2 then
    let s := (s.cphRead 1 (i / 4)).2
    (s.cphRead 0 (s.saPort i)).2
  else s

/-- Store a valid SA entry: PN_DISABLED and REKEY_REQ are read only and are kept unless the SA is a new one. -/
def State.saStore (s : State) (a : Nat) (b : List Byte) (disable : Bool) : State :=
  let old := s.cphAt 2 a
  let fresh := !bitAt (le old 0 1) 7 || le old 1 1 ≠ le b 1 1
  let keep := if fresh then 0 else le old 0 1 / 8 % 4 * 8
  let keep := if disable then maskSet keep 4 true else keep
  let fl := le b 0 1 / 32 * 32 + keep
  s.cphPut 2 a (putBytes b 0 (bytesLE 1 fl))

/-- The NEXT_PN that a restore gives a transmit SA (R364). -/
def State.restorePn (s : State) (b : List Byte) : Nat := le b 8 8 + s.pair64 Reg.CPH_PN_MARGIN_LO Reg.CPH_PN_MARGIN_HI

/-- R364: what a restore makes of the bytes of entry `i` of table `t`: the margins of transmit entries. -/
def State.cphMargin (s : State) (t i : Nat) (b : List Byte) : List Byte :=
  match t with
  | 2 => if bitAt (le b 0 1) 6 then putBytes b 8 (bytesLE 8 (min (s.restorePn b) (2 ^ 64 - 1))) else b
  | 3 =>
    if bitAt (le b 8 1) 6 then
      putBytes b 0 (bytesLE 8 (max (le (s.cphAt 3 i) 0 8) (min (le b 0 8 + s.rf .CPH_FRESH_MARGIN_MARGIN) (2 ^ 64 - 1))))
    else b
  | _ => b

/-- Write entry `i` of table `t`. The read-only bit FRESH_LIMIT is kept; `disable` sets PN_DISABLED of an SA. -/
def State.cphWrite (s : State) (t i : Nat) (b : List Byte) (disable : Bool) : State :=
  match t with
  | 2 => s.saStore i b disable
  | 3 => s.cphPut 3 i (putBytes b 8 (bytesLE 1 (le b 8 1 / 64 * 64 + le (s.cphAt 3 i) 8 1 / 32 % 2 * 32)))
  | t => s.cphPut t i b

/-- Write or restore (R364) entry `i` of table `t`. -/
def State.cphStore (s : State) (t i : Nat) (b : List Byte) (restore : Bool) : State :=
  if restore then
    s.cphWrite t i (s.cphMargin t i b) (t = 2 && bitAt (le b 0 1) 6 && s.maxPn (s.saPort i) < s.restorePn b)
  else s.cphWrite t i b false

/-- Bytes of an entry as a read returns them. -/
def State.cphEntry (s : State) (t i : Nat) : List Byte :=
  match t with
  | 4 => (List.range 6).flatMap (fun j => bytesLE 8 (s.cget (Ctr.sa i j)))
  | 5 => (List.range 6).flatMap (fun j => bytesLE 8 (s.cget (Ctr.secy i j)))
  | t => s.cphAt t i

/-- The entry that CPH_IND_ADDR names exists. -/
def State.cphNamed (s : State) : Bool := s.rf .CPH_IND_ADDR_INDEX < cphIndices (s.rf .CPH_IND_ADDR_TABLE)

/-- Copy an entry to CPH_IND_DATA; words beyond the table's count read 0. -/
def State.cphCopy (s : State) (t i : Nat) : State :=
  let b := s.cphEntry t i
  s.setRegBytes (Reg.CPH_IND_DATA 0) 12 (b ++ List.replicate (48 - b.length) 0)

/-- A write of CPH_IND_CMD while BUSY = 1 is ignored and reported. -/
def State.cphCmd (s : State) (g : State → State) : State := if s.on .CPH_IND_CMD_BUSY then s.refuse 0x1CC 0x08 else g s

/-- CPH_IND_CMD operation 1. -/
def State.cphRdCmd (s : State) : State := s.cphCmd fun s =>
  if s.cphNamed then
    let t := s.rf .CPH_IND_ADDR_TABLE
    let i := s.rf .CPH_IND_ADDR_INDEX
    let s := if t ≤ 3 then (s.cphRead t i).2 else s
    (s.cphCopy t i).cphDone
  else s.cphRefused

/-- Operations 2 (write) and 4 (restore). -/
def State.cphWrCmd (s : State) (restore : Bool) : State := s.cphCmd fun s =>
  let t := s.rf .CPH_IND_ADDR_TABLE
  let i := s.rf .CPH_IND_ADDR_INDEX
  let b := (s.regBytes (Reg.CPH_IND_DATA 0) 12).take (4 * cphWords t)
  let s := if s.cphNamed then s.cphTouch t i else s
  if s.cphNamed && t ≤ 3 && (!restore || 1 ≤ t) && s.cphValid t i b && !s.cphBreaks t i (if restore then s.cphMargin t i b else b) then
    (s.cphStore t i b restore).cphDone
  else s.cphRefused

/-- Operation 3, read and clear. -/
def State.cphRcCmd (s : State) : State := s.cphCmd fun s =>
  let t := s.rf .CPH_IND_ADDR_TABLE
  if s.cphNamed && 4 ≤ t then
    let i := s.rf .CPH_IND_ADDR_INDEX
    let s := s.cphCopy t i
    (s.each (List.range 6) (fun s j =>
      let a := if t = 4 then Ctr.sa i j else Ctr.secy i j
      s.cadd a (2 ^ 64 - s.cget a))).cphDone
  else s.cphRefused

/-- REKEY_REQ_CLEAR: bits `m` of CPH_REKEY_REQ[w] written 1 are cleared, with REKEY_REQ of their SAs. -/
def State.rekeyClear (s : State) (w : Nat) (m : Word) : State :=
  let old := s.rword (Reg.CPH_REKEY_REQ w)
  let s := s.wword (Reg.CPH_REKEY_REQ w) (old &&& ~~~m)
  s.each ((List.range 32).filter (fun b => bitAt (old &&& m).toNat b)) (fun s b =>
    let r := s.cphRead 2 (w * 32 + b)
    if r.1 then r.2 else r.2.setSaFlag (w * 32 + b) 3 false)

/-! The Sluice and the Pans (R353 to R355, R365 to R368). -/

/-- Class of a job (R352). -/
def JobOf.cls : JobOf → Nat
  | .egress _ _ _ => 0
  | .ingress _ => 1
  | .other c _ => c
  | .kat _ _ _ => 3

/-- Pan `p` is in service. -/
def State.panIn (s : State) (p : Nat) : Bool := !bitAt (s.rf .CPH_STATUS_PAN_OUT) p
/-- Job running on Pan `p`. -/
def State.panJob (s : State) (p : Nat) : Option Job := spGet (fun _ => none) s.cph.pans p
/-- Some Pan is in service (R368). -/
def State.anyPan (s : State) : Bool := (List.range 4).any s.panIn

/-- Request a job. -/
def State.jobRequest (s : State) (j : JobOf) : State := s.cipher fun x => { x with waiting := x.waiting ++ [j] }

/-- A block requests a job of class `c`, 2 or 3, under the key of `slot`, whose result it takes at once (R352): what the Pans compute does not depend
on when they do. -/
def State.service (s : State) (c : Nat) (slot : Option Nat) : State := s.jobRequest (.other c slot)

/-- Outstanding verification jobs of port `n` (R355). -/
def State.ingressJobs (s : State) (n : Nat) : Nat :=
  let mine (j : JobOf) : Bool := match j with
    | .ingress fid => (s.frame fid).any (fun f => f.inPort = n)
    | _ => false
  (s.cph.waiting.filter mine).length + (s.cph.suspended.filter (fun j => mine j.work)).length +
    (s.cph.pans.filter (fun e => e.2.any (fun j => mine j.work))).length

/-- R355: a port has at most two verification jobs outstanding; a later frame waits to request its own. -/
def State.ingressAsk (s : State) (n fid : Nat) : State :=
  if s.ingressJobs n < 2 && !s.cph.backlog.any (fun g => (s.frame g).any (fun f => f.inPort = n)) then s.jobRequest (.ingress fid)
  else s.cipher fun x => { x with backlog := x.backlog ++ [fid] }

/-- R355: frames whose port has a job less than two outstanding request theirs, oldest first. -/
def State.backlogRun (s : State) : State :=
  s.each s.cph.backlog (fun s fid =>
    let take (s : State) : State := s.cipher fun x => { x with backlog := x.backlog.erase fid }
    match s.frame fid with
    | none => take s
    | some f =>
      if f.stage ≠ .verify then take s
      else if s.ingressJobs f.inPort < 2 then (take s).jobRequest (.ingress fid) else s)

/-- The wire of port `e` is free for a copy of class `k`: nothing is on it and, for a preemptable copy, no other is
preempted, or a preemptable frame is on it that an express copy may preempt here (R168, R310). -/
def State.wireFor (s : State) (e k : Nat) : Bool :=
  match s.onWire e with
  | none => !s.preemptable e k || (s.preemptedOn e).isNone
  | some c => s.preemptable e c.cls && !s.preemptable e k && (s.preemptedOn e).isNone && s.fragPoint e

/-- A known-answer test runs on the Pan that it tests (R367), and waits for it. -/
def State.jobReady (s : State) (j : JobOf) : Bool :=
  match j with
  | .kat p _ _ => (s.panJob p).isNone
  | _ => true

/-- The next job to start: the lowest class, in the order of requests; a suspended job when no job of a lower class
number waits. -/
def State.jobNext (s : State) : Option (JobOf × Bool) :=
  let best := (List.range 4).findSome? (fun c => s.cph.waiting.find? (fun j => j.cls = c && s.jobReady j))
  let susp := (List.range 4).findSome? (fun c => s.cph.suspended.find? (fun j => j.work.cls = c && s.jobReady j.work))
  match best, susp with
  | some j, some k => if k.work.cls < j.cls || k.work.cls = j.cls then some (k.work, true) else some (j, false)
  | some j, none => some (j, false)
  | none, some k => some (k.work, true)
  | none, none => none

/-- R353: the free Pan in service after the one assigned last. -/
def State.panFree (s : State) : Option Nat :=
  ((List.range 4).map (fun i => (s.cph.last + 1 + i) % 4)).find? (fun p => s.panIn p && (s.panJob p).isNone)

/-- SUSPENDED shows the contexts in use. -/
def State.showSusp (s : State) : State := s.wf .CPH_STATUS_SUSPENDED s.cph.suspended.length

/-- R354: the Pan whose job a job of class `c` suspends: the highest class above `c`, started most recently. -/
def State.panVictim (s : State) (c : Nat) : Option Nat :=
  let l := (List.range 4).filterMap (fun p => match s.panJob p with
    | some j => if s.panIn p && c < j.work.cls then some (p, j) else none
    | none => none)
  let better (a b : Nat × Job) : Bool := b.2.work.cls < a.2.work.cls || (b.2.work.cls = a.2.work.cls && b.2.start < a.2.start)
  (l.foldl (fun (m : Option (Nat × Job)) x => match m with | none => some x | some y => if better x y then some x else some y) none).map
    (fun x => x.1)

/-- Start a waiting job on Pan `p`, under the key of `slot` and with the IV that heads its counter block (R353). -/
def State.panStart (s : State) (p : Nat) (j : JobOf) (slot : Option Nat) (iv : List Byte) : State :=
  s.cipher fun x =>
    { x with
        waiting := x.waiting.erase j, counted := x.counted.erase j
        pans := spSet (fun _ => none) x.pans p (some ⟨j, x.started, slot, iv, 0, 0⟩)
        last := p, started := x.started + 1 }

/-- The suspended job `j` resumes on Pan `p` with its context; it keeps its place in the order of starts (R353, R354). -/
def State.panResume (s : State) (p : Nat) (j : JobOf) : State :=
  match s.cph.suspended.find? (fun k => k.work = j) with
  | none => s
  | some k =>
    (s.cipher fun x =>
      { x with suspended := x.suspended.erase k, pans := spSet (fun _ => none) x.pans p (some k), last := p }).showSusp

/-- R354: all 64 contexts are in use; the wait of job `w` is counted once. -/
def State.suspFull (s : State) (w : JobOf) : State :=
  if s.cph.counted.contains w then s else (s.cinc (Ctr.cph 1)).cipher fun x => { x with counted := w :: x.counted }

/-- R354: the job on Pan `p` is suspended at its next 16-byte block boundary. Which block that is, and the GHASH accumulator
there, are free values (log entry 143). -/
def State.panSuspend (s : State) (p : Nat) (k : Job) : State :=
  let d := s.draw
  let g := d.2.draw
  let k := { k with pos := k.pos + 16 * Config.free d.1, ghash := Config.free g.1 }
  let s := g.2.cipher fun x => { x with suspended := x.suspended ++ [k], pans := spSet (fun _ => none) x.pans p none }
  (s.cinc (Ctr.cph 0)).showSusp

/-- A Pan for the waiting job `w`: a free one, or one whose job is suspended (R354). -/
def State.panFor (s : State) (w : JobOf) : Option Nat × State :=
  match s.panFree with
  | some p => (some p, s)
  | none =>
    match s.panVictim w.cls with
    | none => (none, s)
    | some p =>
      if 64 ≤ s.cph.suspended.length then (none, s.suspFull w)
      else match s.panJob p with
      | none => (none, s)
      | some k => (some p, s.panSuspend p k)

/-- KNOWN_ANSWER_TEST: a test of each Pan in service is requested; those of `bad` answer wrongly (R367). -/
def State.knownAnswer (s : State) (bad : Nat) : State :=
  s.each ((List.range 4).filter s.panIn) (fun s p => s.jobRequest (.kat p (bitAt bad p) false))

/-- PAN_RETURN: a test of each Pan of `m` is requested; those of `bad` answer wrongly (R367). -/
def State.panReturn (s : State) (m bad : Nat) : State :=
  s.each ((List.range 4).filter (bitAt m)) (fun s p => s.jobRequest (.kat p (bitAt bad p) true))

/-- R366: ICV failures of the present window attributed to Pan `p`. -/
def State.panFails (s : State) (p : Nat) : Nat := spGet (fun _ => 0) s.flt.rate (0x1C2 + p)

/-- R366: an ICV failure on Pan `p`. -/
def State.icvFail (s : State) (p : Nat) : State :=
  let thr := s.rf .CPH_RATE_CFG_ICV_THR
  let up := s.level 0x1C1
  let s := (s.cinc (Ctr.cph (8 + p))).rateEvent 0x1C1 thr
  let s := if !up && s.level 0x1C1 then s.wf .CPH_INT_ICV_RATE 1 else s
  s.rateEvent (0x1C2 + p) (s.rf .CPH_RATE_CFG_PAN_THR)

/-! MACsec reception (R357 to R359). -/

/-- A SecTAG: TCI and AN, SL, PN and explicit SCI. -/
structure SecTag where
  tci : Nat
  sl : Nat
  pn : Nat
  sci : Option (List Byte)
  deriving DecidableEq, Repr

/-- Length of a SecTAG with its EtherType. -/
def SecTag.len (t : SecTag) : Nat := if t.sci.isSome then 16 else 8

/-- The SecTAG of a frame, if it has one. -/
def secTag (b : List Byte) : Option SecTag :=
  if be16 b 12 = 0x88E5 then
    let tci := byteAt b 14
    some ⟨tci, byteAt b 15, ofBytesBE ((b.drop 16).take 4), if bitAt tci 5 then some ((b.drop 20).take 8) else none⟩
  else none

/-- The SCI that a SecTAG of frame `b` names (R357). -/
def SecTag.sciOf (t : SecTag) (b : List Byte) : List Byte := match t.sci with | some x => x | none => (b.drop 6).take 6 ++ [0, 1]

/-- R357 step 2. -/
def SecTag.bad (t : SecTag) (len : Nat) : Bool :=
  let l := len - 12 - t.len - 16
  bitAt t.tci 7 || (bitAt t.tci 5 && bitAt t.tci 6) || (bitAt t.tci 2 && !bitAt t.tci 3) || len < 28 + t.len ||
  (if t.sl = 0 then l < 48 else 48 ≤ t.sl || !(l = t.sl || (len = 60 && t.sl < l)))

/-- The receive SC of port `n` with an SCI. -/
def State.scFind (s : State) (n : Nat) (sci : List Byte) : Option Nat :=
  (s.cph.tab.find? (fun e => 1024 ≤ e.1 && e.1 < 2048 && bitAt (le e.2 8 1) 7 && !bitAt (le e.2 8 1) 6 &&
    le e.2 9 1 = n && e.2.take 8 == sci)).map (fun e => e.1 - 1024)

/-- Lowest acceptable PN of SA `a` of port `n` (R357). -/
def State.lowPn (s : State) (n a : Nat) : Nat := s.saNext a - le (s.cphAt 0 n) 4 4

/-- The PN of a frame: for the XPN suites recovered from 32 bits by the rule of IEEE 802.1AE-2018. -/
def State.fullPn (s : State) (n a pn : Nat) : Nat :=
  if s.xpn n then
    let low := s.lowPn n a
    let hi := low / 2 ^ 32 + (if bitAt low 31 && !bitAt pn 31 then 1 else 0)
    hi * 2 ^ 32 + pn
  else pn

/-- A frame whose PN is too late under REPLAY_PROTECT. -/
def State.replayLate (s : State) (n a pn : Nat) : Bool := s.secyFlag n 1 && pn < s.lowPn n a

/-- R357: a frame that has ended good on port `n` with RX_EN = 1. It is dropped, passes to stage 3 as uncontrolled,
or waits for its verification job. -/
def State.macsecReceive (s : State) (fid : Nat) : State :=
  match s.frame fid with
  | none => s
  | some f =>
    let n := f.inPort
    let b := f.bytes
    let drop (s : State) (i : Nat) : State := (s.cinc i).killFrame fid
    let r := s.cphRead 0 n
    let s := r.2
    if r.1 then s.setFrame fid (some { f with stage := .ready })
    else match secTag b with
    | none => if be16 b 12 = 0x888E then s.setFrame fid (some { f with stage := .ready }) else drop s (Ctr.secy n 0)
    | some t =>
      if t.bad b.length then drop s (Ctr.secy n 1)
      else
        let sci := t.sciOf b
        let s := match s.scFind n sci with | some sc => (s.cphRead 1 sc).2 | none => s
        match s.scFind n sci with
        | none => drop s (Ctr.secy n 2)
        | some sc =>
          let a := sc * 4 + t.tci % 4
          let r := s.cphRead 2 a
          let s := r.2
          if !s.saFlag a 7 || !s.saFlag a 5 then drop s (Ctr.sa a 5)
          else
            let k := s.keyUse (s.saSlot a) 0
            if !k.1 then drop k.2 (Ctr.sa a 4)
            else
              let s := k.2
              let pn := s.fullPn n a t.pn
              if s.replayLate n a pn then drop s (Ctr.sa a 3)
              else if !s.anyPan then drop s (Ctr.secy n 5)
              else
                (s.setFrame fid (some { f with stage := .verify, sc := some sc, secPn := pn, secAn := t.tci % 4 })).ingressAsk n fid

/-- Frame `g` may be of the SA that SecTAG `t` of frame `f` names: its own names it, or has not arrived whole. -/
def sameSa (t : SecTag) (f g : Frame) : Bool :=
  g.bytes.length < 28 ||
  match secTag g.bytes with
  | some x => x.tci % 4 = t.tci % 4 && x.sciOf g.bytes == t.sciOf f.bytes
  | none => false

/-- R359: a frame that may be of the same SA, with an earlier stage 1 timestamp, has yet to reach this step. -/
def State.verifyOlder (s : State) (f : Frame) : Bool :=
  match secTag f.bytes with
  | none => false
  | some t => s.frames.any (fun x => match x.2 with
    | some g => decide (g.stage = .verify) && g.inPort = f.inPort && g.order < f.order && sameSa t f g
    | none => false)

/-- The IV of a MACsec job of port `n` under SA `a` with PN `pn`: SCI and PN, or for the XPN suites SALT with SSCI and PN
added modulo 2 (IEEE 802.1AE-2018). SALT and SSCI are numbers as R6 has them (log entry 144). -/
def State.macIv (s : State) (n a pn : Nat) : List Byte :=
  let b := s.cphAt 2 a
  if s.xpn n then bytesBE 12 (le b 16 12 ^^^ (le b 4 4 * 2 ^ 64 + pn)) else (s.cphAt 1 (a / 4)).take 8 ++ bytesBE 4 pn

/-- The key material of slot `k`. -/
def State.keyMat (s : State) (k : Nat) : Nat := spGet (fun _ => 0) s.sec.mat k

/-- The verification job of frame `f` as it would start now (R357 step 6). -/
def State.rxJob (s : State) (f : Frame) : SecJob :=
  let a := f.sc.getD 0 * 4 + f.secAn
  ⟨a, f.secPn, s.keyMat (s.saSlot a), s.macIv f.inPort a f.secPn, 0, [], le (s.cphAt 0 f.inPort) 2 1⟩

/-- What a Pan makes of the protected frame `b` with SecTAG `t` in job `j` (R357 step 6): whether the ICV is right, the
plaintext, and the data's length. -/
def SecJob.open (j : SecJob) (t : SecTag) (b : List Byte) : Bool × List Byte × Nat :=
  let h := 12 + t.len
  let len := if t.sl = 0 then b.length - h - 16 else t.sl
  let data := (b.drop h).take len
  let clear := if bitAt t.tci 3 then min j.off len else len
  let ct := data.drop clear
  (gcmTag j.key j.iv (b.take h ++ data.take clear) ct == (b.drop (h + len)).take 16,
   data.take clear ++ gcmCrypt j.key j.iv ct, len)

/-- Bytes that a faulty Pan has changed by `err` (R365). -/
def faulty (b err : List Byte) : List Byte := b.zipIdx.map (fun x => x.1 ^^^ (err[x.2]?).getD 0)

/-- R358, R359: the verdict of frame `fid`'s job, run by Pan `p`; `ok` where the Pan computes the ICV rightly, `err` what it
changes in the data. The plaintext shows the tag that R261 classes the frame by. -/
def State.icvVerdict (s : State) (fid p : Nat) (ok : Bool) (err : List Byte) : State :=
  match s.frame fid with
  | none => s
  | some f =>
    match f.secJob, secTag f.bytes with
    | some j, some t =>
      let n := f.inPort
      let a := j.sa
      let o := j.open t f.bytes
      let r := s.cphRead 2 a
      let s := r.2
      if !(ok && o.1) then ((s.cinc (Ctr.sa a 2)).icvFail p).killFrame fid
      else if !r.1 && s.replayLate n a f.secPn then (s.cinc (Ctr.sa a 3)).killFrame fid
      else
        let s := if r.1 then s else s.setSaNext a (max (s.saNext a) (f.secPn + 1))
        let s := (s.cinc (Ctr.sa a 0)).cadd (Ctr.sa a 1) o.2.2
        let b := f.bytes.take 12 ++ faulty o.2.1 err
        (s.setFrame fid (some { f with bytes := b, cls := s.pcpClass n (s.vlanOf n b).2, stage := .ready })).ptpReceive fid
    | _, _ => s

/-- ICV_VERIFIED: the verification job of frame `fid` ends. -/
def State.icvVerified (s : State) (fid : Nat) (ok : Bool) (err : List Byte) : State :=
  match s.frame fid with
  | none => s
  | some f =>
    if decide (f.stage ≠ .verify) || s.verifyOlder f then s
    else
      let onPan := (List.range 4).find? (fun p => match s.panJob p with | some j => j.work = .ingress fid | none => false)
      match onPan, s.cph.verdicts.find? (fun v => v.1 = fid) with
      | some p, _ => (s.cipher fun x => { x with pans := spSet (fun _ => none) x.pans p none }).icvVerdict fid p ok err
      | none, some v => (s.cipher fun x => { x with verdicts := x.verdicts.erase v }).icvVerdict fid v.2 ok err
      | none, none => s

/-! MACsec transmission (R356, R360 to R363). -/

/-- R372: the SecY and the transmit SC of port `e` are read for an egress job. -/
def State.txRead (s : State) (e : Nat) : State :=
  let s := (s.cphRead 0 e).2
  (s.cphRead 1 (le (s.cphAt 0 e) 3 1)).2

/-- The SA that a protected copy of port `e` uses now (R360). -/
def State.txSa (s : State) (e : Nat) : Nat :=
  let sc := le (s.cphAt 0 e) 3 1
  sc * 4 + le (s.cphAt 1 sc) 10 1

/-- R360: whether a copy may be protected with SA `a`; a missing key is reported. -/
def State.txSaOk (s : State) (a : Nat) : Bool × State :=
  let s := (s.cphRead 2 a).2
  if !s.saFlag a 7 || !s.saFlag a 5 || s.saFlag a 4 then (false, s) else s.keyUse (s.saSlot a) 0

/-- R361, R362: take the next PN of SA `a` of port `e`. -/
def State.takePn (s : State) (e a : Nat) : Nat × State :=
  let pn := s.saNext a
  let thr := if s.xpn e then s.pair64 Reg.CPH_PN_REKEY_XPN_LO Reg.CPH_PN_REKEY_XPN_HI else s.rf .CPH_PN_REKEY_PN
  let s := s.setSaNext a (pn + 1)
  let s := if pn = thr then
      let w := s.rword (Reg.CPH_REKEY_REQ (a / 32))
      ((s.setSaFlag a 3 true).wword (Reg.CPH_REKEY_REQ (a / 32)) (w ||| BitVec.ofNat 32 (2 ^ (a % 32)))).wf .CPH_INT_REKEY 1
    else s
  let s := if pn = s.maxPn e then ((s.setSaFlag a 4 true).wf .CPH_INT_PN_EXHAUSTED 1).report 0x1CA 0x07 a else s
  (pn, s)

/-- The egress job of port `e` under SA `a` with PN `pn` as it starts (R360). -/
def State.txJob (s : State) (e a pn : Nat) : SecJob :=
  let sci := s.secyFlag e 4
  ⟨a, pn, s.keyMat (s.saSlot a), s.macIv e a pn,
   b2n (s.secyFlag e 3) * 64 + b2n sci * 32 + b2n (s.secyFlag e 2) * 16 + b2n (s.secyFlag e 5) * 12 + a % 4,
   if sci then (s.cphAt 1 (a / 4)).take 8 else [], le (s.cphAt 0 e) 2 1⟩

/-! CAN authentication (R369, R370). -/

/-- Fields of freshness entry `i`: FLAGS bit, COUNTER, FV_BITS and MAC_BYTES. -/
def State.freshFlag (s : State) (i bit : Nat) : Bool := bitAt (le (s.cphAt 3 i) 8 1) bit
def State.freshCount (s : State) (i : Nat) : Nat := le (s.cphAt 3 i) 0 8
def State.setFresh (s : State) (i c : Nat) : State := s.cphPut 3 i (putBytes (s.cphAt 3 i) 0 (bytesLE 8 c))
/-- Size of the FV field in bytes. -/
def State.fvSize (s : State) (i : Nat) : Nat := (le (s.cphAt 3 i) 9 1 + 7) / 8
def State.macSize (s : State) (i : Nat) : Nat := le (s.cphAt 3 i) 10 1

/-- R369: the CMAC under the key of slot `k` with freshness value `c` over the data identifier of entry `i` and `data`, in
MAC_BYTES bytes. -/
def State.authMac (s : State) (k i : Nat) (data : List Byte) (c : Nat) : List Byte :=
  let m := ((s.cphAt 3 i).drop 12).take 4
  let msg := m.reverse ++ data ++ bytesBE 8 c
  (List.range (s.macSize i)).map (fun j => Config.cmac (s.keyMat k) msg j)

/-- R369: generate for entry `i` with the key of slot `k` over `data`: the result and, when it is 0, the FV and MAC bytes. -/
def State.authGenerate (s : State) (k i : Nat) (data : List Byte) : Nat × List Byte × State :=
  let r := s.cphRead 3 i
  let s := r.2
  if !s.freshFlag i 7 then (3, [], s)
  else if s.freshCount i ≥ 2 ^ 64 - 2 ^ 16 then
    let s := s.cphPut 3 i (putBytes (s.cphAt 3 i) 8 (bytesLE 1 (maskSet (le (s.cphAt 3 i) 8 1) 5 true)))
    (2, [], (s.wf .CPH_INT_FRESH_LIMIT 1).cinc (Ctr.cph 6))
  else
    let c := s.freshCount i + 1
    let f := le (s.cphAt 3 i) 9 1
    (0, bytesBE (s.fvSize i) (c % 2 ^ f) ++ s.authMac k i data c, ((s.setFresh i c).cinc (Ctr.cph 3)).service 2 (some k))

/-- R369: the freshness value that a received FV of entry `i` stands for. -/
def State.authCand (s : State) (i fv : Nat) : Nat :=
  let f := le (s.cphAt 3 i) 9 1
  let c := s.freshCount i
  if f = 0 then c + 1
  else
    let cand := c / 2 ^ f * 2 ^ f + fv % 2 ^ f
    if cand ≤ c then cand + 2 ^ f else cand

/-- R369: verify for entry `i` with the key of slot `k` a message `msg` that ends with the FV field and the MAC. -/
def State.authVerify (s : State) (k i : Nat) (msg : List Byte) : Nat × State :=
  let r := s.cphRead 3 i
  let s := r.2
  if !s.freshFlag i 7 then (3, s)
  else
    let tail := s.fvSize i + s.macSize i
    let data := msg.take (msg.length - tail)
    let rest := msg.drop (msg.length - tail)
    let cand := s.authCand i (ofBytesBE (rest.take (s.fvSize i)))
    let s := if msg.length < tail || cand > 2 ^ 64 - 1 then s else s.service 2 (some k)
    if msg.length < tail || cand > 2 ^ 64 - 1 || s.authMac k i data cand ≠ rest.drop (s.fvSize i) then
      (1, (s.cinc (Ctr.cph 5)).rateEvent 0x1CB (s.rf .CPH_RATE_CFG_AUTH_THR))
    else (0, (s.setFresh i cand).cinc (Ctr.cph 4))

end Sys2Proof.Machine
end

