-- ==== Sys2Proof/Machine/Sched.lean ====
section
/-!
DEFINITION. Egress (R23, R262, R278, R300 to R312, R326, R336, R337, R356, R360): what a copy looks like as it leaves,
shapers, transmission selection, preemption, the end of a transmission, and the SCH registers.
-/
namespace Sys2Proof.Machine

/-- R303 without LEN_OVH: bytes from destination address to FCS as the copy leaves, with SecTAG and ICV. An internal
port adds no FCS. -/
def State.wireLen (s : State) (c : Copy) : Nat :=
  let n := (s.leaving c).length
  if c.port < 24 then max (n + (if s.protects c then s.secOverhead c.port else 0)) 60 + 4 else n

/-- R303, R307: the charge of a copy. -/
def State.charge (s : State) (c : Copy) : Nat :=
  ((s.wireLen c : Int) + sextNat 8 (s.rf (.SCH_PORT_CFG_LEN_OVH c.port))).toNat

/-- Time in ns of `n` bytes at port `e`'s present speed. -/
def State.byteTime (s : State) (e n : Nat) : Nat :=
  let m := max (s.portMbps e) 1
  (n * 8000 + m - 1) / m

/-- R336: time in ns of `len` bytes with preamble at port `e`'s present speed. -/
def State.wireTime (s : State) (e len : Nat) : Nat := s.byteTime e (len + 8)

/-! Metadata (R23). -/

/-- The 32-byte metadata record of a delivered copy (R23, R24). -/
def metaRecord (c : Copy) (f : Frame) (len : Nat) : List Byte :=
  let v := f.verdict
  let k := f.key
  let flags := b2n c.mirror * 128 + f.passes % 4 * 32 + b2n v.sessionNew * 16 + b2n v.session.isSome * 8 +
    b2n (f.sc.isSome) * 4 + b2n k.malformed * 2 + b2n k.depthExceeded
  bytesLE 8 f.rxTime ++ bytesLE 2 len ++ bytesLE 1 f.inPort ++
  bytesLE 1 (v.colour % 4 * 16 + b2n v.dei * 8 + c.cls) ++
  bytesLE 2 (match v.stream with | some h => 0x8000 + h | none => 0) ++
  bytesLE 2 (match v.rule with | some (b, r) => 0x8000 + b * 0x4000 + r | none => 0) ++
  bytesLE 1 (f.epoch.getD 0) ++ bytesLE 1 flags ++ bytesLE 1 k.malf ++
  bytesLE 1 v.zoneSrc ++ bytesLE 1 v.zoneDst ++ bytesLE 1 (f.sc.getD 0) ++
  bytesLE 2 v.vid ++ bytesLE 4 (v.session.getD 0) ++ bytesLE 4 c.reason

/-! Shapers (R304 to R306). -/

/-- Credit of queue `q`, in 1/125,000 byte. -/
def State.credit (s : State) (q : Nat) : Int := spGet (fun _ => 0) s.stm.credit q
def State.setCredit (s : State) (q : Nat) (v : Int) : State :=
  { s with stm := { s.stm with credit := spSet (fun _ => 0) s.stm.credit q v } }

/-- Gate of class `c` of port `e` is open now. -/
def State.gateOpen (s : State) (e c : Nat) : Bool := 24 ≤ e || bitAt (s.gateAt e s.now).1 c

/-- SHAPER_CREDIT_TICK for queue `q`. A parity error sets the credit to 0 (R313). -/
def State.creditTick (s : State) (q : Nat) : State :=
  let r := s.parityRead .sch q 0x190
  let s := if r.1 then r.2.setCredit q 0 else s
  let rate : Int := s.rf (.SCH_SHAPER_RATE_RATE q)
  let c := s.credit q
  match s.rf (.SCH_SHAPER_CFG_MODE q) with
  | 1 =>
    let burst : Int := s.rf (.SCH_SHAPER_CFG_BURST q) * tokUnit
    if c < burst then s.setCredit q (min (c + rate) burst) else s.setCredit q burst
  | 2 =>
    if !s.gateOpen (q / 8) (q % 8) then s
    else if s.queue q ≠ [] || c < 0 then s.setCredit q (c + min rate (s.portMbps (q / 8) * 1000))
    else if 0 < c then s.setCredit q 0 else s
  | _ => s

/-- SHAPER_CREDIT_TICK: every shaper. -/
def State.creditTicks (s : State) : State := s.each (List.range 240) State.creditTick

/-- The shaper of queue `q` allows its head copy (R304, R305). -/
def State.shaperOk (s : State) (q : Nat) : Bool :=
  match s.rf (.SCH_SHAPER_CFG_MODE q) with
  | 1 => 0 ≤ s.credit q && s.rf (.SCH_SHAPER_RATE_RATE q) ≠ 0
  | 2 => 0 ≤ s.credit q
  | _ => true

/-- A refused SCH write. -/
def State.schRefused (s : State) : State := s.refuse 0x191 0x08

/-- A write of SCH_SHAPER_CFG[q] that makes the register `w` (R305, R306). -/
def State.shaperCfg (s : State) (q : Nat) (w : Word) : State :=
  let m := fldGet w 30 2
  if m = 3 || (m = 2 && 192 ≤ q) then s.schRefused
  else
    let old := s.rf (.SCH_SHAPER_CFG_MODE q)
    let burst : Int := fldGet w 0 24 * tokUnit
    let s := s.wword (Reg.SCH_SHAPER_CFG q) w
    if m ≠ old then s.setCredit q 0
    else if m = 1 && 0 < s.credit q && burst < s.credit q then s.setCredit q burst else s

/-- A write of another SCH register at `a` that makes it `w`, checked as R307 and the register tables say. -/
def State.schWrite (s : State) (a : Nat) (ok : Bool) (w : Word) : State := if ok then s.wword a w else s.schRefused

/-! Eligibility (R278, R308, R336). -/

/-- R278, R336: the time of MAX_FRAME of port `e` at its present speed, with SecTAG and ICV where it has egress MACsec. -/
def State.cutTime (s : State) (e : Nat) : Nat := s.wireTime e (s.maxFrame e + (if s.txSec e then s.secOverhead e else 0))

/-- R356: what the check at stage 11 of a secured port adds. -/
def State.egressGuard (s : State) (e : Nat) : Nat := if s.txSec e then s.rf .CPH_CFG_EGRESS_GUARD else 0

/-- R310, R336: T of a copy. That of a frame that still arrives is the time of MAX_FRAME. -/
def State.copyTime (s : State) (c : Copy) : Nat :=
  if s.preemptable c.port c.cls then s.byteTime c.port (64 * (1 + s.rf (.MAC_PREEMPT_ADD_FRAG c.port)) + 20)
  else if (s.frame c.fid).any (fun f => !f.ended) then s.cutTime c.port
  else s.wireTime c.port (s.wireLen c)

/-- R278: the copy may begin before its frame has ended. -/
def State.cutOk (s : State) (c : Copy) (f : Frame) : Bool :=
  let e := c.port
  let others := ((List.range 8).map (fun k => (s.queue (e * 8 + k)).length)).sum
  e < 24 && s.on (.SWC_PORT_CFG_CT_EN e) && f.inPort < 24 && f.passes = 0 && !s.rxSec f.inPort && !c.mirror &&
  s.portMbps e ≤ s.portMbps f.inPort && s.maxFrame f.inPort ≤ s.maxFrame e &&
  s.egressOn e && (s.onWire e).isNone && (s.preemptedOn e).isNone && (s.stagedOn e 0).isNone && (s.stagedOn e 1).isNone && others ≤ 1 && !s.paused e c.cls &&
  s.gateSpan e c.cls (s.cutTime e + s.egressGuard e)

/-- R310, R336, R356: the time the gate has to stay open for a copy. -/
def State.gateNeed (s : State) (c : Copy) : Nat := s.copyTime c + s.egressGuard c.port

/-- R308: class `k` of port `e` is eligible. Frames to port 24 stay queued while the control complex restarts (R25). -/
def State.eligible (s : State) (e k : Nat) : Bool :=
  match s.queue (e * 8 + k) with
  | [] => false
  | c :: _ =>
    match s.frame c.fid with
    | none => false
    | some f =>
      s.egressOn e && (24 ≤ e || s.fwdEn) && !(e = 24 && s.on .TOP_STATE_CCX_RESTART) && !(e < 24 && s.paused e k) && s.shaperOk (e * 8 + k) &&
      (24 ≤ e || s.gateSpan e k (s.gateNeed c)) && (f.ended || s.cutOk c f)

/-! Transmission selection (R309, R310). -/

/-- Deficit of queue `q`. -/
def State.deficit (s : State) (q : Nat) : Nat := spGet (fun _ => 0) s.stm.deficit q
def State.setDeficit (s : State) (q v : Nat) : State :=
  { s with stm := { s.stm with deficit := spSet (fun _ => 0) s.stm.deficit q v } }

/-- The DWRR turn of port `e`, part `p` (0 express or all, 1 preemptable): class, and whether its quantum was added. -/
def State.turn (s : State) (e p : Nat) : Nat × Bool := spGet (fun _ => (7, false)) s.stm.turn (e * 2 + p)
def State.setTurn (s : State) (e p : Nat) (t : Nat × Bool) : State :=
  { s with stm := { s.stm with turn := spSet (fun _ => (7, false)) s.stm.turn (e * 2 + p) t } }

/-- The next lower class of `l` below `k`, wrapping to the highest; `l` is in descending order. -/
def nextTurn (l : List Nat) (k : Nat) : Nat :=
  match l.find? (fun c => c < k) with
  | some c => c
  | none => l.headD k

/-- The deficit of queue `q` is read: a parity error sets it to 0 (R313). -/
def State.deficitRead (s : State) (q : Nat) : State :=
  let r := s.parityRead .sch (240 + q) 0x190
  if r.1 then r.2.setDeficit q 0 else s

/-- R309: the DWRR group `grp` of port `e` gives a class; the fuel bounds the turns taken. -/
def State.dwrr (s : State) (e p : Nat) (grp : List Nat) : Nat → Option Nat × State
  | 0 => (none, s)
  | fuel + 1 =>
    let t := s.turn e p
    let k := if grp.contains t.1 then t.1 else nextTurn grp t.1
    let added := t.2 && k = t.1
    let q := e * 8 + k
    let s := s.deficitRead q
    if !added && !s.eligible e k then
      let s := if s.queue q = [] then s.setDeficit q 0 else s
      (s.setTurn e p (nextTurn grp k, false)).dwrr e p grp fuel
    else
      let s := if added then s else (s.setDeficit q (s.deficit q + s.rf (.SCH_DWRR_QUANTUM q))).setTurn e p (k, true)
      let cost := match s.queue q with | c :: _ => s.charge c | [] => 0
      if s.eligible e k && cost ≤ s.deficit q then (some k, s)
      else
        let s := if s.queue q = [] then s.setDeficit q 0 else s
        (s.setTurn e p (nextTurn grp k, false)).dwrr e p grp fuel

/-- R309: the class that the classes `cs` of port `e` give, in part `p`. -/
def State.choose (s : State) (e p : Nat) (cs : List Nat) : Option Nat × State :=
  let sp := s.rf (.SCH_PORT_CFG_SP e)
  let desc := cs.reverse
  match desc.find? (fun k => bitAt sp k && s.eligible e k) with
  | some k => (some k, s)
  | none =>
    let grp := desc.filter (fun k => !bitAt sp k)
    if grp.any (s.eligible e) then s.dwrr e p grp 4000 else (none, s)

/-- R337: head copies that never fit the open time of their class are dropped. -/
def State.dropLong (s : State) (e k : Nat) : Nat → State
  | 0 => s
  | fuel + 1 =>
    match s.queue (e * 8 + k), s.gateOper e with
    | c :: rest, some g =>
      if !s.on (.GAT_ADMIN_CFG_ENABLE e) then s
      else match g.longest k with
      | none => s
      | some len =>
        if (s.frame c.fid).any (fun f => f.ended) && s.copyTime c > len then
          (((s.setQueue (e * 8 + k) rest).cinc (Reg.GAT_SEL + 0x1C00 + 8 * e)).releaseCopy c).dropLong e k fuel
        else s
    | _, _ => s

/-- R311: a latency sample of `ns` in queue `q`. -/
def State.sample (s : State) (q ns : Nat) : State :=
  let bin := if ns < 256 then 0 else min 15 (Nat.log2 ns - 7)
  let k := q * 16 + bin
  let n := spGet (fun _ => 0) s.stm.hist k
  let s := { s with stm := { s.stm with hist := spSet (fun _ => 0) s.stm.hist k (satInc 32 n) } }
  s.wf (.SCH_QMAX_MAX_SOJ q) (max (s.rf (.SCH_QMAX_MAX_SOJ q)) (satTo 16 (ns / 256)))

/-- Take the charge of a copy that starts: shaper credit (R304, R305) and, in the DWRR group, the deficit (R309). -/
def State.takeCharge (s : State) (c : Copy) (n : Nat) : State :=
  let q := c.port * 8 + c.cls
  let s := if s.rf (.SCH_SHAPER_CFG_MODE q) = 0 then s else s.setCredit q (s.credit q - n * tokUnit)
  if bitAt (s.rf (.SCH_PORT_CFG_SP c.port)) c.cls then s
  else
    let s := s.setDeficit q (s.deficit q - n)
    if s.queue q = [] then
      let p := if s.preemptable c.port c.cls then 1 else 0
      let grp := ((List.range 8).reverse).filter (fun k => !bitAt (s.rf (.SCH_PORT_CFG_SP c.port)) k)
      (s.setDeficit q 0).setTurn c.port p (nextTurn grp c.cls, false)
    else s

/-- R325 to R329: an event message that the firmware sends to an external port. Answers the copy, or none when it is
discarded. -/
def State.ptpSend (s : State) (c : Copy) (f : Frame) : Option Copy × State :=
  if f.inPort ≠ 24 || 24 ≤ c.port || c.mirror then (some c, s)
  else
    let b := c.bytesOf f
    match ptpEvent b with
    | none => (some c, s)
    | some p =>
      let e := c.port
      let k := s.ptpClock (ptpDomain b p)
      let stamp := (s.clock k + s.rf (.TIM_PORT_CFG_TX_LAT e) * 2 ^ 38) % clkMod
      if f.oneStep then
        if s.protects c || !s.on (.TIM_PORT_CFG_ONE_STEP_EN e) then (none, s.cinc 0x70F18)
        else match s.oneStepEdit e b p stamp with
        | some b => (some { c with edited := some b }, s)
        | none => (none, s.cinc 0x70F20)
      else (some c, s.txtsPush ⟨k, e, ptpType b p, ptpSeq b p, ptpDomain b p, stamp⟩)

/-- A frame or fragment of copy `c` begins on the wire of port `e` (R168). -/
def State.wireBegin (s : State) (e : Nat) (c : Copy) : State :=
  (s.setWire e (some c)).cellar fun x => { x with wireAt := spSet (fun _ => 0) x.wireAt e s.cycles }

/-- Copy `c`, out of its queue, begins its transmission or delivery on its port. -/
def State.launch (s : State) (c : Copy) (f : Frame) : State :=
  let q := c.port * 8 + c.cls
  let n := s.charge c
  match s.ptpSend c f with
  | (none, s) => s.releaseCopy c
  | (some c, s) =>
    let s := (s.sample q (s.cycles - c.tEnq)).takeCharge c n
    let s := if f.ended then s else s.cinc (Ctr.port c.port 6)
    s.wireBegin c.port { c with begun := true, cut := !f.ended, charged := n }

/-- The head copy leaves its queue. A parity error of the link, descriptor or queue memory is reported (R284). -/
def State.takeHead (s : State) (c : Copy) : State :=
  let q := c.port * 8 + c.cls
  let s := (s.parityRead .link q 0x141).2
  s.setQueue q ((s.queue q).drop 1)

/-- The head copy of its queue begins its transmission or delivery on its port. -/
def State.beginCopy (s : State) (c : Copy) (f : Frame) : State := (s.takeHead c).launch c f

/-- The preemption part of class `k` of port `e`: 1 preemptable, 0 express or all (R168). -/
def State.part (s : State) (e k : Nat) : Nat := if s.preemptable e k then 1 else 0

/-- An egress job of port `e` in preemption part `p` is outstanding: it waits, runs, or its copy has not begun (R355). -/
def State.egressJob (s : State) (e p : Nat) : Bool :=
  let mine (j : JobOf) : Bool := match j with
    | .egress n _ k => n = e && s.part e k = p
    | _ => false
  s.cph.waiting.any mine || s.cph.pans.any (fun x => x.2.any (fun j => mine j.work)) ||
    s.cph.suspended.any (fun j => mine j.work) || (s.stagedOn e p).isSome

/-- Class `k` of port `e` has been selected: its head copy begins, or requests its egress job (R355, R356). -/
def State.selected (s : State) (e k : Nat) : State :=
  let s := if s.txSec e then s.txRead e else s
  match s.queue (e * 8 + k) with
  | [] => s
  | c :: _ =>
    match s.frame c.fid with
    | none => s
    | some f =>
      if s.protects c then
        if s.anyPan then s.jobRequest (.egress e c.fid k)
        else ((s.setQueue (e * 8 + k) ((s.queue (e * 8 + k)).drop 1)).cinc (Ctr.secy e 5)).releaseCopy c
      else s.beginCopy c f

/-- The preempted copy of port `e` goes on with its next fragment (R168, R310). -/
def State.resumeFragment (s : State) (e : Nat) (c : Copy) : State :=
  if s.gateOpen e c.cls then ((s.setPreempted e none).wireBegin e c).cinc (Ctr.mac e 25) else s

/-- The copy in transmission on port `e` ends its fragment at an allowed point (R168). Its first one counts it in
TX_PREEMPTED (R175). -/
def State.preempt (s : State) (e : Nat) (c : Copy) : State :=
  let s := if c.fragged then s else s.cinc (Ctr.mac e 24)
  (s.setWire e none).setPreempted e (some { c with fragged := true })

/-! Sending PFC and PAUSE (R275). -/

/-- R275: send a PFC or PAUSE frame for the classes in XOFF and, in a PFC frame, those that have left. -/
def State.sendXoff (s : State) (n left : Nat) : State :=
  let x := s.rf (.SWC_PORT_STATUS_XOFF_OUT n)
  let q := s.rf .SWC_CFG_QUANTA
  let s := s.cinc (Ctr.port n 7)
  if s.rf (.SWC_PORT_FC_MODE n) = 2 then
    let s := s.emit (.macControl n true (x ||| left) ((List.range 8).map (fun c => if bitAt x c then q else 0)))
    s.cinc (Ctr.mac n 21)
  else (s.emit (.macControl n false 0 [if x = 0 then 0 else q])).cinc (Ctr.mac n 20)

/-- R275: a control frame may leave port `n` now: no frame is on the wire, or, as an express frame, one that it may
preempt here. -/
def State.ctlFree (s : State) (n : Nat) : Bool :=
  match s.onWire n with
  | none => true
  | some c => s.preemptable n c.cls && (s.preemptedOn n).isNone && s.fragPoint n

/-- The preemptable frame that a control frame displaces from the wire of port `n` ends its fragment. -/
def State.ctlClear (s : State) (n : Nat) : State :=
  match s.onWire n with
  | none => s
  | some c => s.preempt n c

/-- PFC_FRAME_SEND (R275). -/
def State.pfcSend (s : State) (n : Nat) : State :=
  if spGet (fun _ => false) s.cel.pfcDue n && s.portUp n && s.fwdEn && s.ctlFree n then
    let s := (s.ctlClear n).sendXoff n (spGet (fun _ => 0) s.cel.xoffLeft n)
    s.cellar fun x =>
      { x with pfcDue := spSet (fun _ => false) x.pfcDue n false, xoffLeft := spSet (fun _ => 0) x.xoffLeft n 0 }
  else s

/-- PAUSE_REPEAT_TIMER (R275). -/
def State.pauseRepeat (s : State) (n : Nat) : State :=
  if s.rf .SWC_CFG_QUANTA ≠ 0 && s.rf (.SWC_PORT_STATUS_XOFF_OUT n) ≠ 0 && s.portUp n && s.fwdEn && s.ctlFree n then
    (s.ctlClear n).sendXoff n 0
  else s

/-- R310: a preemptable copy whose gate has closed ends its fragment at an allowed point. -/
def State.gateCut (s : State) (e : Nat) : State :=
  match s.onWire e with
  | some c =>
    if e < 24 && s.preemptable e c.cls && !s.gateOpen e c.cls && (s.preemptedOn e).isNone && s.fragPoint e then s.preempt e c else s
  | none => s

/-- The head copy of class `k` of port `e` is protected by the port's SecY. -/
def State.headProtects (s : State) (e k : Nat) : Bool :=
  match s.queue (e * 8 + k) with
  | c :: _ => s.protects c
  | [] => false

/-- The staged copy of port `e` whose transmission can begin: its wire is free for it, its class is not paused and its gate
stays open (R165, R310, R336). An express copy goes first. -/
def State.stagedReady (s : State) (e : Nat) : Option (Nat × Copy × Frame) :=
  [0, 1].findSome? (fun p =>
    match s.stagedOn e p with
    | none => none
    | some c =>
      match s.frame c.fid with
      | none => none
      | some f =>
        if s.egressOn e && s.fwdEn && s.wireFor e c.cls && !s.paused e c.cls && s.gateSpan e c.cls (s.copyTime c) then some (p, c, f)
        else none)

/-- TRANSMISSION_SELECTION on port `e` where no staged copy can begin (R308 to R310). On ports 20 to 23 it stands for a moment at which the access method
of the segment lets the port send (R170). -/
def State.selectNext (s : State) (e : Nat) : State :=
  let s := if e < 24 then s.each (List.range 8) (fun s k => s.dropLong e k ((s.queue (e * 8 + k)).length)) else s
  let s := s.gateCut e
  let all := List.range 8
  if s.preempting e then
    let ex := all.filter (fun k => !s.preemptable e k)
    let pr := all.filter (fun k => s.preemptable e k)
    match s.onWire e with
    | some c =>
      if s.preemptable e c.cls && (s.preemptedOn e).isNone && !s.egressJob e 0 then
        match s.choose e 0 ex with
        | (some k, t) =>
          if t.headProtects e k then t.selected e k
          else if s.fragPoint e then (t.preempt e c).selected e k
          else s
        | (none, _) => s
      else s
    | none =>
      let r := if s.egressJob e 0 then (none, s) else s.choose e 0 ex
      match r with
      | (some k, t) => t.selected e k
      | (none, t) =>
        match t.preemptedOn e with
        | some c => t.resumeFragment e c
        | none =>
          if t.egressJob e 1 then t
          else match t.choose e 1 pr with
          | (some k, t) => t.selected e k
          | (none, t) => t
  else if (s.onWire e).isSome then s
  else match s.preemptedOn e with
  | some c => s.resumeFragment e c
  | none =>
    if s.egressJob e 0 then s
    else match s.choose e 0 all with
    | (some k, t) => t.selected e k
    | (none, t) => t

/-- TRANSMISSION_SELECTION on port `e`. -/
def State.selection (s : State) (e : Nat) : State :=
  match s.stagedReady e with
  | some (p, c, f) => ((s.setStaged e p none).ctlClear e).launch c f
  | none => s.selectNext e

/-! The Sluice's dispatch (R353, R356, R360). -/

/-- Withdraw a waiting job. -/
def State.jobDrop (s : State) (j : JobOf) : State :=
  s.cipher fun x => { x with waiting := x.waiting.erase j, counted := x.counted.erase j }

/-- R353, R356, R360: the egress job of port `e` for frame `fid` in class `k` is dispatched. A class that has been paused
since starts no frame (R165): the job is withdrawn. While the wire is busy the copy of the started job is staged. -/
def State.dispatchEgress (s : State) (e fid k : Nat) : State :=
  let j := JobOf.egress e fid k
  match s.queue (e * 8 + k), s.frame fid with
  | c :: rest, some f =>
    if c.fid ≠ fid || s.paused e k then s.jobDrop j
    else if !s.egressOn e || !s.fwdEn then s.jobDrop j
    else if !s.gateSpan e k (s.copyTime c) then (s.jobDrop j).cinc (Ctr.secy e 4)
    else if !(s.txRead e).protects c then (s.txRead e).jobDrop j
    else
      let a := (s.txRead e).txSa e
      let r := (s.txRead e).txSaOk a
      let s := r.2
      if !r.1 then (((s.jobDrop j).setQueue (e * 8 + k) rest).cinc (Ctr.sa a 4)).releaseCopy c
      else
        match s.panFor j with
        | (none, s) => s
        | (some p, s) =>
          let pn := s.takePn e a
          let x := s.txJob e a pn.1
          let s := pn.2.panStart p j (some (s.saSlot a)) x.iv
          let c := { c with macsec := some x }
          if s.wireFor e k then (s.ctlClear e).beginCopy c f else (s.takeHead c).setStaged e (s.part e k) (some c)
  | _, _ => s.jobDrop j

/-- R368: with no Pan in service, every job is refused at once. -/
def State.jobRefuse (s : State) (j : JobOf) : State :=
  let s := s.jobDrop j
  match j with
  | .egress e fid k =>
    match s.queue (e * 8 + k) with
    | c :: rest =>
      if c.fid = fid then ((s.setQueue (e * 8 + k) rest).cinc (Ctr.secy e 5)).releaseCopy c else s
    | [] => s
  | .ingress fid =>
    match s.frame fid with
    | some f => (s.cinc (Ctr.secy f.inPort 5)).killFrame fid
    | none => s
  | _ => s

/-- R368: when the last Pan has left service, every job that waits or is suspended is refused, and every frame that has yet
to request its own. A test that CPH_PAN_CMD asked for is no such job. -/
def State.panGone (s : State) : State :=
  if s.anyPan then s
  else
    let keep (j : JobOf) : Bool := match j with | .kat _ _ back => back | _ => false
    let l := s.cph.waiting.filter (fun j => !keep j) ++ (s.cph.suspended.map (·.work)).filter (fun j => !keep j) ++
      s.cph.backlog.map JobOf.ingress
    let s := s.cipher fun x => { x with suspended := x.suspended.filter (fun j => keep j.work), backlog := [] }
    (s.each l State.jobRefuse).showSusp

/-- Pan `p` leaves service (R366, R367). -/
def State.panOut (s : State) (p : Nat) : State :=
  ((s.wf .CPH_STATUS_PAN_OUT (maskSet (s.rf .CPH_STATUS_PAN_OUT) p true)).wf .CPH_INT_PAN_OUT 1).panGone

/-- A known-answer test of Pan `p` ends (R367). -/
def State.katEnd (s : State) (p : Nat) (bad back : Bool) : State :=
  let s := s.cinc (Ctr.cph 2)
  if bad then (if s.panIn p then s.panOut p else s).notify (0x1C6 + p) 0x0E
  else if back then s.wf .CPH_STATUS_PAN_OUT (maskSet (s.rf .CPH_STATUS_PAN_OUT) p false) else s

/-- R357: the verification job of frame `fid` starts, and keeps what it starts with. -/
def State.rxStart (s : State) (fid : Nat) : State :=
  s.modFrame fid fun f => { f with secJob := some (s.rxJob f) }

/-- The key slot and the IV of a job other than an egress job as it starts. -/
def State.jobKey (s : State) (j : JobOf) : Option Nat × List Byte :=
  match j with
  | .ingress fid =>
    match s.frame fid with
    | some f => (some (s.saSlot (s.rxJob f).sa), (s.rxJob f).iv)
    | none => (none, [])
  | .other _ k => (k, [])
  | _ => (none, [])

/-- A job other than an egress job starts on Pan `p`. -/
def State.jobStart (s : State) (p : Nat) (j : JobOf) : State :=
  let k := s.jobKey j
  let s := s.panStart p j k.1 k.2
  match j with
  | .ingress fid => s.rxStart fid
  | _ => s

/-- SLUICE_DISPATCH: the next job starts (R353, R354, R356). A known-answer test runs on its own Pan. -/
def State.sluice (s : State) : State :=
  match s.jobNext with
  | none => s
  | some (.kat p b r, resumed) => if resumed then s.panResume p (.kat p b r) else s.jobStart p (.kat p b r)
  | some (j, true) => match s.panFree with
    | some p => s.panResume p j
    | none => s
  | some (j, false) =>
    if !s.anyPan then s.jobRefuse j
    else match j with
    | .egress e fid k => s.dispatchEgress e fid k
    | j => match s.panFor j with
      | (some p, s) => s.jobStart p j
      | (none, s) => s

/-- MACSEC_EGRESS_DISPATCH: the oldest egress job of port `e`, when it is the next job of its class. -/
def State.egressDispatch (s : State) (e : Nat) : State :=
  match s.cph.waiting.find? (fun j => j.cls = 0) with
  | some (.egress n fid k) =>
    if n ≠ e then s else if s.anyPan then s.dispatchEgress n fid k else s.jobRefuse (.egress n fid k)
  | _ => s

/-- PAN_JOB_COMPLETE on Pan `p`; a verification job leaves its verdict to ICV_VERIFIED, and the job of a copy that cuts
through holds its Pan until the frame has arrived (R355). -/
def State.panComplete (s : State) (p : Nat) : State :=
  match s.panJob p with
  | none => s
  | some j =>
    let t := s.cipher fun x => { x with pans := spSet (fun _ => none) x.pans p none }
    match j.work with
    | .ingress fid => t.cipher fun x => { x with verdicts := x.verdicts ++ [(fid, p)] }
    | .egress _ fid _ => if (s.frame fid).any (fun f => !f.ended) then s else t
    | .kat p b r => t.katEnd p b r
    | .other _ _ => t

/-! The end of a transmission (R158, R175, R258). -/

/-- Counters of a frame of `b` with its FCS, transmitted whole on port `e`. -/
def State.txCount (s : State) (e : Nat) (b : List Byte) : State :=
  let s := (s.cinc (Ctr.mac e 16)).cadd (Ctr.mac e 15) (b.length + 4)
  let bcast := b.take 6 == List.replicate 6 0xFF
  s.cinc (Ctr.mac e (if bcast then 19 else if bitAt (byteAt b 0) 0 then 18 else 17))

/-- TRANSMIT_END on an external port `e`: the copy leaves, padded to 60 bytes, and releases its descriptor. -/
def State.txEnd (s : State) (e : Nat) : State :=
  match s.onWire e with
  | none => s
  | some c =>
    match s.frame c.fid with
    | none => s.setWire e none
    | some f =>
      if !f.ended then s
      else
        let n := s.charge c
        let s := if c.cut then s.takeCharge c (n - c.charged) else s
        let b := s.leaving c
        let (b, s) := match c.macsec with
          | some j => (j.protect b, (s.cinc (Ctr.sa j.sa 0)).cadd (Ctr.sa j.sa 1) (b.length - 12))
          | none => (b, s)
        let b := b ++ List.replicate (60 - b.length) 0
        let (b, s) := s.macRead e (24 + e) b
        (((s.setWire e none).emit (.frame e b false)).txCount e b).releaseCopy c

/-- TRANSMIT_END on port 24: the copy is delivered to the firmware with its metadata, and buffered in scratch (R458). -/
def State.ccxEnd (s : State) : State :=
  match s.onWire 24 with
  | none => s
  | some c =>
    match s.copyFrame c with
    | none => s.setWire 24 none
    | some f =>
      let b := s.leaving c
      let s := { s with ccx := { s.ccx with scratch := (b ++ s.ccx.scratch).take 180224 } }
      ((s.setWire 24 none).emit (.toFirmware (metaRecord c f b.length) b)).releaseCopy c

end Sys2Proof.Machine
end

