-- ==== Sys2Proof/Machine/Pipeline.lean ====
section
/-!
DEFINITION. The Ethernet frame path of R16 outside the Rakes' programs: arrival, cells, the end of a frame, stages
5 to 8 on a key record, stages 9 and 10, and recirculation (R190 to R196, R224 to R240, R256 to R283, R287 to R301).
-/
namespace Sys2Proof.Machine

/-- RAK counters (R201). -/
def Ctr.rak (i : Nat) : Nat := Reg.RAK_PORT_CFG 0 + 0x400 + 8 * i

/-! Arrival (R256 to R261, R270 to R273). -/

/-- A verdict before any stage has run. -/
def Verdict.empty : Verdict :=
  ⟨none, 0, 0, false, none, false, false, none, none, 0, none, false, 0, false, none, none, none, 0, none, none, none, 0, 0, false,
    none, false⟩

/-- A new frame enters at port `n` in class `c` (R16, R22, R258, R324): it is stamped, and takes its number. -/
def State.newFrame (s : State) (n c : Nat) (oneStep : Bool) : Nat × State :=
  let fid := s.nextFid
  let lat := if n < 24 then s.rf (.TIM_PORT_CFG_RX_LAT n) * 2 ^ 38 else 0
  let sub (x : Nat) : Nat := (x + clkMod - lat % clkMod) % clkMod
  let f : Frame :=
    ⟨n, [], false, false, t64Of (sub s.tim.wc), sub s.tim.trk0, sub s.tim.trk1, sub s.tim.wc, s.d48, false, oneStep, s.tim.steps,
     fid, c, [], !s.fwdEn, 0, false, if n < 24 && s.rxSec n then .verify else .ready, 0, 0, none, false, none, none, 0, 0,
     Key.empty, [], Verdict.empty, 4, [], none⟩
  let s := { s with nextFid := fid + 1 }
  let s := if s.fwdEn then s else s.cinc (Ctr.port n 8)
  (fid, s.setFrame fid (some f))

/-- R258, R272: the frame takes its descriptor, or is dropped at ingress. -/
def State.frameDesc (s : State) (fid : Nat) : State :=
  match s.frame fid with
  | none => s
  | some f =>
    if f.dropped || f.ownDesc || 0 < f.refs then s
    else if s.cel.descFree = 0 || (s.cel.descFree ≤ 1024 && !s.isProt f.inPort f.cls) then
      (s.ingressDrop f.inPort f.cls).killFrame fid
    else (s.setFrame fid (some { f with ownDesc := true })).takeDesc

/-- The FRER function of a frame's stream removes the R-TAG at egress (R301), and its number. -/
def State.frerOf (s : State) (f : Frame) : Option Nat :=
  match f.verdict.stream with
  | some h => let x := le (s.stmAt 1 h) 4 2; if bitAt x 15 then some (x % 1024) else none
  | none => none
def State.frerPop (s : State) (f : Frame) : Bool :=
  match s.frerOf f with
  | some i => bitAt (le (s.stmAt 3 i) 0 1) 4 && !bitAt (le (s.stmAt 3 i) 0 1) 7
  | none => false

/-- R301, R360: why a copy is too long for its port: the counter. -/
def State.copyLong (s : State) (c : Copy) (f : Frame) : Option Nat :=
  let n := (c.bytesOf f).length + 4
  let lim := s.maxFrame c.port
  if c.inserts f && n > lim then f.verdict.frer.map (fun x => Ctr.frer x.1 8)
  else if s.protects c && n + s.secOverhead c.port > lim then some (Ctr.secy c.port 3)
  else none

/-- R301, R360: a waiting copy of frame `fid` that is too long for its port is dropped and counted as at stage 10. -/
def State.dropTooLong (s : State) (fid : Nat) : State :=
  match s.frame fid with
  | none => s
  | some f =>
    s.each ((s.cel.queues.filter (fun e => e.2.any (fun c => c.fid = fid && (s.copyLong c f).isSome))).map (·.1)) (fun s q =>
      let l := s.queue q
      let long (c : Copy) : Bool := c.fid = fid && (s.copyLong c f).isSome
      (s.setQueue q (l.filter (fun c => !long c))).each (l.filter long) (fun s c =>
        match s.copyLong c f with
        | some k => (s.cinc k).releaseCopy c
        | none => s))

/-- The head of a frame of port `n` with `len` bytes is known: its type and outer tag have arrived (R159, R261). A frame of
an internal port enters whole. -/
def headKnown (n len : Nat) : Bool := 24 ≤ n || 16 ≤ len

/-- Bytes of a frame are written to its cells (R256, R270). Its head fixes the arrival class (R261), and whether the MAC
consumes it (R159); until then the frame holds no cell. -/
def State.writeBytes (s : State) (fid : Nat) (b : List Byte) : State :=
  match s.frame fid with
  | none => s
  | some f =>
    let r := if f.inPort < 24 then s.macRead f.inPort f.inPort b else (b, s)
    let b := r.1
    let s := r.2
    let was := f.bytes ≠ [] && headKnown f.inPort f.bytes.length
    let bytes := f.bytes ++ b
    let first := !was && headKnown f.inPort bytes.length
    let ctl := first && f.inPort < 24 && be16 bytes 12 = 0x8808
    let c := if first && f.inPort < 24 then s.pcpClass f.inPort (s.vlanOf f.inPort bytes).2 else f.cls
    let s := s.setFrame fid (some { f with bytes := bytes, cls := c, dropped := f.dropped || ctl })
    let s := if first then s.frameDesc fid else s
    let cells (known : Bool) (n : Nat) : Nat := if known then (n + 255) / 256 else 0
    let need := cells (was || first) bytes.length
    let s := s.each (List.range (need - cells was f.bytes.length)) (fun s _ =>
      match s.frame fid with
      | some g => if g.dropped then s else s.chargeCell fid
      | none => s)
    let s := s.xoffAll
    let s := if f.refs = 0 then s else (s.grown fid).dropTooLong fid
    match s.frame fid with
    | some g => if g.stage = .verify then s else s.ptpReceive fid
    | none => s

/-- FRAME_ARRIVAL on external port `n`: a port receives frames in UP (R160). -/
def State.frameArrival (s : State) (n : Nat) : State :=
  if s.portUp n then (s.newFrame n (s.pcpClass n (s.rf (.SWC_PORT_CFG_DEF_PCP n))) false).2 else s

/-- CELL_ARRIVAL of at most 256 bytes. -/
def State.cellArrival (s : State) (fid : Nat) (b : List Byte) : State :=
  match s.frame fid with
  | some f => if f.ended || f.inPort ≥ 24 then s else s.writeBytes fid (b.take 256)
  | none => s

/-- Frames that the held sender of port `n` waits to send (R274). -/
def State.heldFrames (s : State) (n : Nat) : List (Nat × List Byte × Bool) := spGet (fun _ => []) s.cel.hold n

/-- R274: the sender of port `n` may send a frame of class `c` and `len` bytes. With FWD_EN = 0 admission takes it and
discards it (R273). -/
def State.mayEnter (s : State) (n c len : Nat) : Bool :=
  !s.fwdEn || (!s.held n && s.fits n c ((len + 255) / 256))

/-- A frame enters whole at internal port `n` in class `c` (R22, R261). -/
def State.enter (s : State) (n c : Nat) (b : List Byte) (oneStep : Bool) : State :=
  let r := s.newFrame n c oneStep
  let s := r.2.writeBytes r.1 b
  (s.modFrame r.1 (fun f => { f with ended := true })).settle r.1

/-- The sender of internal port `n` sends a frame. A held sender keeps it, and what it sends later, until it is released:
nothing is dropped (R274). -/
def State.inject (s : State) (n c : Nat) (b : List Byte) (oneStep : Bool) : State :=
  if s.heldFrames n = [] && s.mayEnter n c b.length then s.enter n c b oneStep
  else s.cellar fun x => { x with hold := spSet (fun _ => []) x.hold n (s.heldFrames n ++ [(c, b, oneStep)]) }

/-- R274: the sender of port `n` is released for the frames that now find room; the fuel bounds them. A sender in block
reset has lost its frames (R30). -/
def State.release1 (s : State) (n : Nat) : Nat → State
  | 0 => s
  | fuel + 1 =>
    match s.heldFrames n with
    | [] => s
    | (c, b, one) :: l =>
      let t := s.cellar fun x => { x with hold := spSet (fun _ => []) x.hold n l }
      if s.portDown n then t.release1 n fuel
      else if s.mayEnter n c b.length then (t.enter n c b one).release1 n fuel
      else s

/-- R274: the held senders of ports 24 to 28 send what now finds room. -/
def State.holdRelease (s : State) : State :=
  if s.cel.hold = [] then s else s.each [24, 25, 26, 27, 28] (fun s n => s.release1 n (s.heldFrames n).length)

/-- A frame of `len` bytes without FCS that fails a frame-end check with code `c` (R192). -/
def State.lateFail (s : State) (fid c : Nat) : State :=
  let s := ((s.cinc (Ctr.rak 7)).cinc (Ctr.rak (8 + c))).wf .RAK_INT_LATE 1
  (s.rateEvent 0x103 (s.rf .RAK_RATE_CFG_MALF_THR)).killFrame fid

/-- The MAC consumes a control frame (R159). -/
def State.macControl (s : State) (n : Nat) (b : List Byte) : State :=
  match be16 b 14 with
  | 1 => s.pauseReceived n (be16 b 16)
  | 0x101 => s.pfcReceived n (be16 b 16 % 256) ((List.range 8).map (fun i => be16 b (18 + 2 * i)))
  | _ => s.cinc (Ctr.mac n 14)

/-- R175: the receive error counter of a frame of `len` bytes without FCS, if it is bad. -/
def State.rxError (s : State) (n len : Nat) (fcsOk phyErr : Bool) : Option Nat :=
  if phyErr then some 8 else if !fcsOk then some 5 else if len + 4 < 64 then some 6
  else if s.rf (.MAC_PORT_CFG_MAX_FRAME n) < len + 4 then some 7 else none

/-- FIRMWARE_FRAME_SEND (R21): the firmware writes a frame into port 24. -/
def State.firmwareSend (s : State) (c : Nat) (b : List Byte) (oneStep : Bool) : State :=
  let mka := (b.drop 12).take 2 == [0x88, 0x8E]
  { s with ccx := { s.ccx with mkaSent := s.ccx.mkaSent + b2n mka } }.inject 24 c b oneStep

/-! Stage 7 (R234, R235, R245 to R248). -/

/-- What stage 7 decides. -/
structure Sess7 where
  forward : Bool
  session : Option Nat
  fresh : Bool
  deriving DecidableEq, Repr

/-- Where stage 7 finds an entry of a key: in the table or held by the creation unit. -/
inductive SessHitAt where
  | table (i : Nat)
  | held
  deriving DecidableEq, Repr

/-- Look a key up (R245, R248, R250). -/
def State.sessLookup (s : State) (key : List Byte) : Option (SessHitAt × Sess) × State :=
  let s := (s.cinc (Ctr.fwl 0)).sessProbe key
  let inHeld (s : State) : Option (SessHitAt × Sess) := (s.cls.held.find? (fun h => h.key == key)).map (fun h => (.held, h))
  match s.sessFind key with
  | none => (inHeld s, s)
  | some i =>
    let r := s.sessCheck i
    match r.1, r.2.sessAt i with
    | true, some e => (some (.table i, e), r.2)
    | _, _ => (inHeld r.2, r.2)

/-- Store an updated entry where it was found. -/
def State.sessUpdate (s : State) (w : SessHitAt) (e : Sess) : State :=
  match w with
  | .table i => s.sessPut i (some e)
  | .held => { s with cls := { s.cls with held := s.cls.held.map (fun h => if h.key == e.key then e else h) } }

/-- R248: a creation is held by the creation unit, which writes its oldest when it already holds 16. -/
def State.sessHold (s : State) (e : Sess) : State :=
  let s := if 16 ≤ s.cls.held.length then s.sessWriteHeld else s
  { s with cls := { s.cls with held := s.cls.held ++ [e] } }

/-- R235: stage 7 under verdict `v`; `update` is false for a frame that takes a parse action 2 or 3 (R236). -/
def State.stage7 (s : State) (k : Key) (zs zd v : Nat) (rule : Option (Nat × Nat)) (static update : Bool) : Sess7 × State :=
  let pass := v = 1 || v = 2
  if !s.sessionCapable k then
    (⟨pass, none, false⟩, if v = 3 then (s.cinc (Ctr.cls 5)).rateEvent 0x122 (s.rf .FWL_RATE_CFG_NOSESS_THR) else s)
  else
    let s := s.flushUp
    let key := k.sessKey zs zd
    match s.sessLookup key with
    | (some (w, e), s) =>
      let s := s.cinc (Ctr.fwl 1)
      let idx := match w with | .table i => some i | .held => s.sessHeldAt key
      if v = 0 || 4 ≤ v || !update then (⟨pass || v = 3, idx, false⟩, s)
      else if s.tcpInvalid e k then (⟨false, none, false⟩, s.cinc (Ctr.fwl 6))
      else (⟨true, idx, false⟩, s.sessUpdate w (s.sessHit e k))
    | (none, s) =>
      if v = 3 then (⟨false, none, false⟩, (s.cinc (Ctr.cls 5)).rateEvent 0x122 (s.rf .FWL_RATE_CFG_NOSESS_THR))
      else if v ≠ 2 || !update then (⟨pass, none, false⟩, s)
      else match s.sessNew k key rule static with
      | none =>
        if k.l4Proto = 6 then (⟨false, none, false⟩, s.cinc (Ctr.fwl 5)) else (⟨true, none, false⟩, s)
      | some e =>
        match s.sessFree e.key with
        | some i => (⟨true, some i, true⟩, s.sessHold e)
        | none =>
          let s := s.sessFull
          if s.on .FWL_CFG_FULL_POLICY then (⟨true, none, false⟩, s.cinc (Ctr.fwl 4)) else (⟨false, none, false⟩, s.cinc (Ctr.fwl 3))

/-! A key record runs stages 5 to 8 (R193 to R196, R224 to R238, R287 to R301). -/

/-- R193: the action of a parse outcome for port `n`: the action, its Hatch and its REASON. -/
def State.parseAction (s : State) (n : Nat) (o : ParseEnd) : Nat × Nat × Nat :=
  match o with
  | .normal => (1, 0, 0)
  | .depth => (s.rf (.RAK_PORT_CFG_DEPTH_ACT n), s.rf (.RAK_PORT_CFG_DEPTH_HATCH n), 2)
  | .malf c => (s.rf (.RAK_MALF_ACT_ACT c), s.rf (.RAK_MALF_ACT_HATCH c), 3)

/-- R201, R199: the counters and thresholds of a parse outcome of Rake `r`. -/
def State.parseCount (s : State) (r : Nat) (o : ParseEnd) (k : Key) : State :=
  let s := if k.frag then s.cinc (Ctr.rak 8) else s
  match o with
  | .normal => s
  | .depth => (s.cinc (Ctr.rak 3)).rateEvent 0x104 (s.rf .RAK_RATE_CFG_DEPTH_THR)
  | .malf c =>
    let s := s.cinc (Ctr.rak (8 + c))
    if c = 15 then (s.wf .RAK_INT_EXEC 1).rateEventAt 0x105 (s.rf .RAK_RATE_CFG_EXEC_THR) (some r)
    else if c = 14 then s.wf .RAK_INT_EXEC 1
    else s.rateEvent 0x103 (s.rf .RAK_RATE_CFG_MALF_THR)

/-- The key record with its outcome (R182, R189). -/
def Key.withEnd (k : Key) (o : ParseEnd) : Key :=
  match o with
  | .normal => k
  | .depth => { k with depthExceeded := true }
  | .malf c => { k with malformed := true, malf := c }

/-- R193 action 0: the frame is freed before stage 9. -/
def State.parseDrop (s : State) (fid : Nat) (o : ParseEnd) : State :=
  (s.cinc (Ctr.rak (match o with | .depth => 5 | _ => 6))).killFrame fid

/-- R235: the verdict of stage 6 as a number, with its rule and action word. A denial without an action is DENY. -/
def TreeOut.verdict (t : TreeOut) : Nat := match t.action with | some a => a % 8 | none => 0

/-- R239, R240: at its first stage 6 a frame takes the present EPOCH and a reference. -/
def State.stamp (s : State) (fid : Nat) : State :=
  s.modFrame fid (fun f => match f.epoch with
    | some _ => f
    | none => { f with epoch := some (s.rf .CLS_EPOCH_STATUS_EPOCH), ref := true })

/-- R196: a frame marked for a fourth pass: PASS_LIMIT, and the DEPTH action of its port. -/
def State.passLimit (s : State) (fid : Nat) (f : Frame) (v : Verdict) : State :=
  let k := { f.key with passLimit := true, depthExceeded := true, malformed := false, malf := 0 }
  let s := ((s.cinc (Ctr.rak 4)).cinc (Ctr.rak 3)).wf .RAK_INT_PASS_LIMIT 1
  let s := s.rateEvent 0x104 (s.rf .RAK_RATE_CFG_DEPTH_THR)
  let act := s.parseAction f.inPort .depth
  let v := { v with recirc := none }
  match act.1 with
  | 0 => s.parseDrop fid .depth
  | 1 => s.setFrame fid (some { f with key := k, verdict := v, stage := .decide })
  | 2 =>
    let v := { v with toCcx := some (s.rf .RAK_EXC_CFG_CCX_CLASS), forward := false, reason := 2, noLearn := true }
    s.setFrame fid (some { f with key := k, verdict := v, stage := .decide })
  | _ =>
    let v := { v with toHatch := some act.2.1, forward := false, reason := 2, clsOverride := none, ipv := none, noLearn := true }
    s.setFrame fid (some { f with key := k, verdict := v, stage := .decide })

/-- The DEI of a frame's outer tag (R295). -/
def headDei (b : List Byte) : Bool := vlanAt b 12 && bitAt (be16 b 14) 12

/-- Stage 8 on the first pass of a forwarded frame of a stream (R290, R291), with the FRER outcome that every later pass
keeps; false where it drops the frame. -/
def State.runStage8 (s : State) (f : Frame) (v : Verdict) : Bool × Verdict × State :=
  match v.stream with
  | none => (true, v, s)
  | some h =>
    if f.passes ≠ 0 || !v.forward then (true, v, s)
    else
      let r := s.stage8 h (f.bytes.length + 4) (s.ingressGate f.rxTime f.stepNo) f.key (headDei f.bytes)
      let o := r.1
      let fr := (r.2.frerOf { f with verdict := v }).map (fun i => (i, r.2.frerPop { f with verdict := v }))
      (o.pass, { v with colour := o.colour, dei := v.dei || o.dei, ipv := o.ipv, rtagSeq := o.rtag, frer := fr }, r.2)

/-- R291: stage 8 of the frame's stream uses the length of a frame that has not ended. -/
def State.measures (s : State) (f : Frame) : Bool :=
  match f.verdict.stream with
  | none => false
  | some h =>
    let b := s.stmAt 1 h
    f.passes = 0 && f.verdict.forward && !f.ended && (le b 0 2 ≠ 0 || bitAt (le b 2 2) 15)

/-- Stage 8 of frame `fid`, which then waits for stage 9 (R196, R290, R291). -/
def State.finish8 (s : State) (fid : Nat) : State :=
  match s.frame fid with
  | none => s
  | some f =>
    let r := s.runStage8 f f.verdict
    let v := r.2.1
    if !r.1 then r.2.2.killFrame fid
    else if v.recirc.isSome && 3 ≤ f.passes then
      r.2.2.passLimit fid { f with verdict := v } v
    else r.2.2.setFrame fid (some { f with verdict := v, stage := .decide })

/-- The outer tag of a frame carries a VID of 1 to 4094 (R260, R288). -/
def headTagged (b : List Byte) : Bool := vlanAt b 12 && be16 b 14 % 4096 ≠ 0 && be16 b 14 % 4096 ≠ 4095

/-- A frame is untagged or priority-tagged (R260, R288). -/
def headUntagged (b : List Byte) : Bool := !vlanAt b 12 || be16 b 14 % 4096 = 0

/-- Stages 5 to 8 for frame `fid` with key record `k`, parse outcome `o` and the program's RECIRC request. -/
def State.classify (s : State) (fid : Nat) (k : Key) (o : ParseEnd) (req : Option (Option Nat)) : State :=
  match s.frame fid with
  | none => s
  | some f =>
    let act := s.parseAction f.inPort o
    let deliver := 2 ≤ act.1
    let vp := s.vlanOf f.inPort f.bytes
    let dmac := ofBytesBE (f.bytes.take 6)
    let smac := ofBytesBE ((f.bytes.drop 6).take 6)
    let tagged := headTagged f.bytes
    let untagged := headUntagged f.bytes
    -- stage 5 (R287, R290)
    let st := if f.passes = 0 then s.identify ⟨f.inPort, dmac, smac, vp.1, tagged, untagged, k⟩ else (f.verdict.stream, false, s)
    let s := st.2.2
    if st.2.1 then s.killFrame fid
    else
      -- stage 6 (R224, R225, R228, R238, R239)
      let s := s.stamp fid
      let ep := ((s.frame fid).bind (fun g => g.epoch)).getD 0
      let k := { k with epoch := if f.passes = 0 then 0 else ep }
      let fd := s.walksUp.fdbLookup dmac vp.1
      let s := fd.2
      let zs := s.zoneOf f.inPort vp.1
      let zd := s.destZone f.inPort vp.1 dmac fd.1
      let bypass := s.on .CLS_CFG_BYPASS
      let b := s.bankOf ep
      let s := s.cinc (Ctr.cls 0)
      let tr := if bypass then (⟨some 1, none⟩, s) else s.treeWalk b zs zd k.bytes k.l4Absent
      let s := tr.2
      let a := tr.1.action.getD 0
      let vd := tr.1.verdict
      let rule := tr.1.rule.map (fun r => (b, r))
      let s := if vd = 0 then s.cinc (Ctr.cls 4) else s
      -- stage 7 (R235, R236)
      let s7 := if bypass then ((⟨true, none, false⟩ : Sess7), s) else s.stage7 k zs zd vd rule (bitAt a 22) (!deliver)
      let s := s7.2
      let base : Verdict :=
        if f.passes = 0 then { Verdict.empty with stream := st.1, dei := headDei f.bytes, tagged := tagged } else f.verdict
      let clsEn := !bypass && bitAt a 3
      let v : Verdict :=
        { base with
            zoneSrc := zs, zoneDst := zd, rule := rule, bypass := bypass, fdbDest := fd.1, vid := vp.1, pcp := vp.2
            session := s7.1.session, sessionNew := s7.1.fresh, clsOverride := if clsEn then some (bitsAt a 4 3) else none
            dei := base.dei || (!bypass && bitAt a 7), reason := 0, toCcx := none, toHatch := none
            forward := s7.1.forward, recirc := none, noLearn := false }
      let f := { f with key := k, verdict := v, epoch := some ep, ref := ((s.frame fid).map (fun g : Frame => g.ref)).getD f.ref }
      if deliver then
        let v := if act.1 = 2 then
            { v with forward := false, toCcx := some (s.rf .RAK_EXC_CFG_CCX_CLASS), clsOverride := none, reason := act.2.2, noLearn := true }
          else { v with forward := false, toHatch := some act.2.1, clsOverride := none, reason := act.2.2, noLearn := true }
        (s.setFrame fid (some { f with verdict := v, stage := .decide })).dropRef fid
      else if vd = 4 then
        let v := { v with forward := false, toCcx := some (v.clsOverride.getD f.cls), reason := 1 }
        ((s.cinc (Ctr.cls 7)).setFrame fid (some { f with verdict := v, stage := .decide })).dropRef fid
      else if vd = 5 then
        let v := { v with forward := false, toHatch := some (bitsAt a 16 6), reason := 1 }
        ((s.cinc (Ctr.cls 8)).setFrame fid (some { f with verdict := v, stage := .decide })).dropRef fid
      else
        let mark := v.forward && ((!bypass && bitAt a 8) || req.isSome)
        let entry := if !bypass && bitAt a 9 then some (bitsAt a 10 6) else req.join
        let f := { f with verdict := { v with recirc := if mark then some entry else none } }
        let s := (if mark then s.cinc (Ctr.cls 9) else s).setFrame fid (some f)
        let s := if mark && f.passes < 3 then s else s.dropRef fid
        if s.measures f then s.modFrame fid (fun f => { f with stage := .measure }) else s.finish8 fid

/-- A finished parse of frame `fid` by Rake `r` (R182, R189 to R194): its outcome is counted and, where the frame has not
been dropped meanwhile, its action taken. -/
def State.keyRecord (s : State) (r fid : Nat) (k : Key) (o : ParseEnd) (checks : List LenCheck)
    (req : Option (Option Nat)) (user : Word) : State :=
  let s := s.parseCount r o k
  match s.frame fid with
  | none => s
  | some f =>
    if f.dropped then s
    else
      let k := k.withEnd o
      let s := s.setFrame fid (some { f with key := k, checks := if f.ended then [] else checks, user := user })
      match (if f.ended then lenVerdict checks f.bytes.length else none) with
      | some c => s.lateFail fid c
      | none => if (s.parseAction f.inPort o).1 = 0 then s.parseDrop fid o else s.classify fid k o req

/-- FRAME_END on an external port, with the FCS verdict, whether symbol errors were seen, and how the MAC merge sublayer
of ports 0 to 19 received it: from fragments, or with a reassembly error, which loses it (R167, R175). -/
def State.frameEnd (s : State) (fid : Nat) (fcsOk phyErr frags asmErr : Bool) : State :=
  match s.frame fid with
  | none => s
  | some f =>
    if f.ended then s
    else
      let n := f.inPort
      let len := f.bytes.length
      let ctl := be16 f.bytes 12 = 0x8808
      if asmErr && n < 20 then
        ((s.setFrame fid (some { f with ended := true, bad := true })).cinc (Ctr.mac n 12)).killFrame fid
      else
      match s.rxError n len fcsOk phyErr with
      | some i =>
        let s := s.setFrame fid (some { f with ended := true, bad := true })
        let s := if i = 5 || i = 8 then s.macError n else s
        (s.cinc (Ctr.mac n i)).killFrame fid
      | none =>
        let s := if frags && !ctl && n < 20 then s.cinc (Ctr.mac n 13) else s
        let s := s.setFrame fid (some { f with ended := true })
        if ctl then (s.macControl n f.bytes).settle fid
        else
          let bcast := f.bytes.take 6 == List.replicate 6 0xFF
          let s := ((s.cinc (Ctr.mac n 1)).cadd (Ctr.mac n 0) (len + 4)).cinc
            (Ctr.mac n (if bcast then 4 else if bitAt (byteAt f.bytes 0) 0 then 3 else 2))
          if f.dropped then s.settle fid
          else if f.stage = .verify then s.macsecReceive fid
          else match lenVerdict f.checks len with
          | some c => s.lateFail fid c
          | none => (if f.stage = .measure then s.finish8 fid else s).settle fid

/-! Stages 9 and 10 (R226, R237, R260, R264, R282, R435). -/

/-- Ports of a mask, ascending. -/
def portsOf (m : Nat) : List Nat := (List.range 30).filter (bitAt m)

/-- R260: whether the VLAN checks drop a frame of port `n` with VID `v`; `reserved` says that its outer tag carries VID
4095, `tagged` that it arrived with VID 1-4094. -/
def State.vlanDrop (s : State) (n v : Nat) (reserved tagged : Bool) : Bool :=
  let acc := s.rf (.SWC_PORT_CFG_ACCEPT n)
  reserved || (acc = 1 && !tagged) || (acc = 2 && tagged) ||
  (s.on (.SWC_PORT_CFG_ING_FILTER n) && !bitAt (s.rf (.SWC_VLAN_MEMBER_MEMBER v)) n) || !s.on (.SWC_VLAN_MEMBER_VALID v)

/-- R264: the destination set before trimming, and the state with its counters. -/
def State.destSet (s : State) (dmac v : Nat) (e : Option FdbEntry) : Nat × State :=
  let members := s.rf (.SWC_VLAN_MEMBER_MEMBER v)
  let flood (drop : Bool) : Nat × State := if drop then (0, s) else (members, s.cinc (Ctr.swc 4))
  if dmac / 16 = 0x0180C200000 then
    match e with
    | some x => if x.static then (x.ports, s) else (0, s)
    | none => (0, s)
  else if dmac = 2 ^ 48 - 1 then (members, s)
  else match e with
  | some x => if !macGroup dmac && x.discard then (0, s.cinc (Ctr.swc 10)) else (x.ports, s)
  | none => flood (s.on (if macGroup dmac then .SWC_VLAN_UNTAG_MC_DROP v else .SWC_VLAN_UNTAG_UU_DROP v))

/-- R264, R226: trim the set. -/
def State.trimSet (s : State) (n v zd m : Nat) (bypass : Bool) : List Nat × State :=
  let l0 := portsOf m
  let l1 := l0.filter (fun e => e ≠ n)
  let s := if l1 = [] && l0 ≠ [] then s.cinc (Ctr.swc 5) else s
  let members := s.rf (.SWC_VLAN_MEMBER_MEMBER v)
  let l2 := l1.filter (fun e => e < 28 && bitAt members e)
  if bypass || l2.length ≤ 1 then (l2, s)
  else
    let l3 := l2.filter (fun e => s.zoneOf e v = zd)
    (l3, s.cadd (Ctr.cls 6) (l2.length - l3.length))

/-- The class of a frame's copies (R233, R291). -/
def Frame.outCls (f : Frame) : Nat :=
  match f.verdict.clsOverride with
  | some c => c
  | none => f.verdict.ipv.getD f.cls

/-- The copy of a frame with verdict `v` for port `e` in class `c`, with its egress edits (R262, R300, R301). -/
def State.copyOf (s : State) (fid : Nat) (v : Verdict) (e c reason : Nat) (hatch : Option Nat) : Copy :=
  { Copy.plain fid e c v.vid reason with
    pcp := v.pcp, dei := v.dei, untag := bitAt (s.rf (.SWC_VLAN_UNTAG_UNTAG v.vid)) e, rtag := v.rtagSeq,
    rtagStrip := v.frer.any (fun x => x.2), hatch := hatch }

/-- Stage 10 for a copy of frame `c.fid`, with the egress mirror copies of its port (R271, R282, R301). Answers whether the
copy was admitted. -/
def State.sendCopy (s : State) (c : Copy) : Bool × State :=
  match s.frame c.fid with
  | none => (false, s)
  | some f =>
    match s.copyLong c (f.at (c.passOf f)) with
    | some k => (false, s.cinc k)
    | none =>
      let q := c.port * 8 + c.cls
      let before := (s.queue q).length
      let s := s.enqueueCopy c
      if (s.queue q).length = before then (false, s) else (true, (s.mirror c.fid c.port c.vid true).dropTooLong c.fid)

/-- Stage 10 for a forwarded copy to port `e`. -/
def State.copyTo (s : State) (fid e c reason : Nat) (hatch : Option Nat) : State :=
  match s.frame fid with
  | none => s
  | some f => (s.sendCopy (s.copyOf fid (if reason = 4 then f.at 0 else f).verdict e c reason hatch)).2

/-- R265: the learning unit takes its oldest request whose frame has ended. The copy of a source without an entry goes
to port 24 with REASON 0x04. -/
def State.learnNext (s : State) : State :=
  match s.cel.learn.find? s.learnReady with
  | none => s
  | some r =>
    let s := s.walksUp
    let known := (s.fdbFind r.mac r.vid).isSome
    let s := if r.copy && !known && s.learnCopyOk r.mac r.vid then
        let s := s.copyTo r.fid 24 (s.rf .SWC_CFG_LEARN_CLASS) 4 none
        let old := s.cel.learnCopyAt.filter (fun y => s.cycles < y.2.2 + 1000000 && !(y.1 = r.mac && y.2.1 = r.vid))
        s.cellar fun x => { x with learnCopyAt := (r.mac, r.vid, s.cycles) :: old }
      else s
    let s := s.cellar fun x => { x with learn := x.learn.erase r }
    let s := if r.learn then s.learnApply r else s
    s.settle r.fid

/-- R435: the Strongroom copy of a frame that has passed stage 8. -/
def State.stgCopy (s : State) (fid : Nat) : State :=
  match s.frame fid with
  | none => s
  | some f =>
    match f.verdict.stream with
    | none => s
    | some h =>
      if !f.verdict.forward then s
      else match (List.range 64).find? (fun i => s.on (.STG_SLOT_EN i) && s.rf (.STG_SLOT_HANDLE i) = h) with
      | none => s
      | some i => (s.sendCopy { Copy.plain fid 27 (s.rf (.STG_SLOT_CLASS i)) f.verdict.vid 0 with hatch := some i }).2

/-- R265: the learning request of a frame at stage 9. -/
def State.learnAsk (s : State) (fid : Nat) : State :=
  match s.frame fid with
  | none => s
  | some f =>
    let smac := ofBytesBE ((f.bytes.drop 6).take 6)
    let mode := s.rf (.SWC_PORT_CFG_LEARN f.inPort)
    let v := f.verdict
    if mode ≠ 0 && !s.on (.SWC_VLAN_MEMBER_LEARN_DIS v.vid) && !macGroup smac && smac ≠ 0 && f.passes = 0 && v.forward &&
        !v.noLearn && s.egressOn f.inPort && v.vid ≠ 0 && v.vid ≠ 4095 then
      s.cellar fun x => { x with learn := x.learn ++ [⟨fid, smac, v.vid, f.inPort, mode % 2 = 1, 2 ≤ mode⟩] }
    else s

/-- The logical port by which a frame entered stage 3 (R195). -/
def Frame.entryPort (f : Frame) : Nat := if f.passes = 0 then f.inPort else 28

/-- R18: stage 9 must take frame `g` before `f`: both came from one ingress port, `g` began stage 1 first, and `g` still
has its stage 9 of the same pass before it, or has yet to begin that pass. -/
def Frame.before (g f : Frame) : Bool :=
  g.inPort = f.inPort && g.order < f.order && !g.dropped &&
  ((g.passes = f.passes && decide (g.stage ≠ .queued) && decide (g.stage ≠ .recirc)) ||
    (g.passes + 1 = f.passes && decide (g.stage = .recirc)))

/-- R18: the oldest frame of entry port `p` that waits for stage 9 and whose turn it is. -/
def State.oldest (s : State) (p : Nat) : Option (Nat × Frame) :=
  s.frames.foldl (fun m x =>
    match x.2 with
    | none => m
    | some f =>
      if f.entryPort = p && !f.dropped && decide (f.stage = .decide) &&
          !s.frames.any (fun y => y.2.any (fun g => g.before f)) then
        match m with
        | none => some (x.1, f)
        | some (_, g) => if f.order < g.order then some (x.1, f) else m
      else m) none

/-- Stages 9 and 10 for frame `fid` (R226, R237, R260, R264, R282). The VLAN checks meet every frame whose verdict has not
denied it. -/
def State.decide9 (s : State) (fid : Nat) (f : Frame) : State :=
  let v := f.verdict
  let s := s.setFrame fid (some { f with stage := .queued })
  let reserved := vlanAt f.bytes 12 && be16 f.bytes 14 % 4096 = 4095
  let out := s.vlanDrop f.inPort v.vid reserved v.tagged
  match v.recirc with
  | some _ =>
    let s := (s.setFrame fid (some { f with stage := .recirc })).learnAsk fid
    let r := if out then (false, s.cinc (Ctr.swc 9)) else s.sendCopy (s.copyOf fid v 28 f.outCls 0 none)
    let s := if r.1 then r.2 else r.2.dropRef fid
    ((s.mirror fid f.entryPort v.vid false).dropTooLong fid).releaseOwn fid
  | none =>
    let s := s.learnAsk fid
    let s :=
      if !v.forward && v.toCcx.isNone && v.toHatch.isNone then s
      else if out then s.cinc (Ctr.swc 9)
      else
        match v.toCcx, v.toHatch with
        | some c, _ => s.copyTo fid 24 c v.reason none
        | none, some h => s.copyTo fid 25 (v.clsOverride.getD f.cls) v.reason (some h)
        | none, none =>
          let d := s.destSet (ofBytesBE (f.bytes.take 6)) v.vid v.fdbDest
          let t := d.2.trimSet f.inPort v.vid v.zoneDst d.1 v.bypass
          t.2.each t.1 (fun s e => s.copyTo fid e f.outCls (if e = 24 && (ptpEvent f.bytes).isSome then 6 else 0) none)
    let s := ((s.stgCopy fid).mirror fid f.entryPort v.vid false).dropTooLong fid
    s.releaseOwn fid

/-- FORWARDING_DECISION for entry port `p`: its oldest frame for which stages 5 to 8 have run (R18). -/
def State.forwarding (s : State) (p : Nat) : State :=
  match s.oldest p with
  | some (fid, f) => s.decide9 fid f
  | none => s

/-- RECIRCULATION_PASS: the copy leaving on port 28 re-enters at stage 3 as its egress edits left it (R181, R195, R270,
R273); while port 28's sender is held it waits (R274). -/
def State.recirculate (s : State) : State :=
  match s.onWire 28 with
  | none => s
  | some c =>
    if s.fwdEn && s.held 28 then s
    else
    let b := s.leaving c
    let s := s.setWire 28 none
    match s.frame c.fid with
    | none => s
    | some f =>
      if !s.fwdEn then (s.cinc (Ctr.port 28 8)).releaseCopy c
      else
        s.setFrame c.fid (some { f with
          bytes := b, past := f.past ++ [⟨f.bytes, f.passes, f.key, f.verdict, f.epoch⟩], refs := f.refs - 1, ownDesc := true, passes := f.passes + 1, stage := .ready, entry := f.verdict.recirc.join })

/-- R273: FWD_EN falls: every queue of ports 0-23 is flushed; the frame in transmission completes. -/
def State.fwdOff (s : State) : State := s.each (List.range 24) State.flushQueues

/-- Set TOP_STATE.FWD_EN (R273). -/
def State.setFwd (s : State) (b : Bool) : State :=
  let was := s.fwdEn
  let s := s.wf .TOP_STATE_FWD_EN (b2n b)
  if was && !b then s.fwdOff else s

end Sys2Proof.Machine
end

