-- ==== Sys2Proof/Machine/Dram.lean ====
section
/-!
DEFINITION. DRAM as an addressed memory (R31, R113): its bytes, its fixed regions and the overlap rules of the
regions that registers place in it (R422, R437, R496); and the CRC-32 of R97.
-/
namespace Sys2Proof.Machine

/-- Byte `a` of DRAM. A byte nothing has written since the contents were lost is a free value of that loss. -/
def State.dramGet (s : State) (a : Nat) : Byte :=
  match spGet (fun _ => none) s.dram.cells a with
  | some b => b
  | none => Config.dramByte s.dram.epoch a

def State.dramGets (s : State) (a n : Nat) : List Byte := (List.range n).map (fun i => s.dramGet (a + i))

/-- Write byte `a` of DRAM. -/
def State.dramPut (s : State) (a : Nat) (b : Byte) : State :=
  { s with dram := { s.dram with cells := spSet (fun _ => none) s.dram.cells a (some b) } }

/-- Write bytes from `a`, lowest first. -/
def State.dramPuts (s : State) (a : Nat) : List Byte → State
  | [] => s
  | b :: l => (s.dramPut a b).dramPuts (a + 1) l

/-- Update the bridge's own state. -/
def State.bridge (s : State) (g : Brg → Brg) : State := { s with brg := g s.brg }

/-- BRG counters: global, and of ring `r` (R433). -/
def Ctr.brg (i : Nat) : Nat := Reg.BRG_CFG + 0x2000 + 8 * i
def Ctr.ring (r i : Nat) : Nat := Reg.BRG_CFG + 0x2100 + 0x20 * r + 8 * i

/-- DRAM and Hatch pop ports in the internal address map (R31). -/
def dramBase : Nat := 0x1000000000
def popBase : Nat := 0x120000000
def popEnd : Nat := 0x120040000

/-! Prefetch buffers that a write discards (R409). -/

/-- Two regions, as first byte and size, share a byte. -/
def overlap (a b : Nat × Nat) : Bool := a.1 < b.1 + b.2 && b.1 < a.1 + a.2 && 0 < a.2 && 0 < b.2

def State.pfBuf (s : State) (i : Nat) : Option PfBuf := spGet (fun _ => none) s.brg.bufs i
def State.setPf (s : State) (i : Nat) (b : Option PfBuf) : State :=
  s.bridge fun x => { x with bufs := spSet (fun _ => none) x.bufs i b }

/-- Discard prefetch buffer `i`. -/
def State.pfDiscard (s : State) (i : Nat) : State :=
  if (s.pfBuf i).isSome then (s.setPf i none).cinc (Ctr.brg 5) else s
def State.pfDiscardAll (s : State) : State := s.each (List.range 16) State.pfDiscard

/-- A write of `n` bytes at internal address `a` discards every buffer that holds one of them. -/
def State.pfTouch (s : State) (a n : Nat) : State :=
  s.each (List.range 16) (fun s i => match s.pfBuf i with
    | some b => if overlap (a, n) (b.addr, b.len) then s.pfDiscard i else s
    | none => s)

/-- A write to DRAM by any requester (R409); what it writes is no longer damaged. -/
def State.dramWrite (s : State) (a : Nat) (b : List Byte) : State :=
  let s := (List.range ((a + b.length + 63) / 64 - a / 64)).foldl (fun s l => s.eccClear .dram (a / 64 + l)) s
  (s.pfTouch (dramBase + a) b.length).dramPuts a b

/-- A read of `n` bytes of DRAM from offset `o` by the device: what is damaged under them is corrected or reported with
its line (0x2A0, 0x2A1); true where a line is uncorrectable. -/
def State.dramCheck (s : State) (o n : Nat) : Bool × State :=
  ((List.range ((o + n + 63) / 64 - o / 64)).map (· + o / 64)).foldl (fun r l =>
    match r.2.eccAt .dram l with
    | 0 => r
    | 1 => (r.1, (r.2.eccClear .dram l).report 0x2A0 0x01 l)
    | _ => (true, r.2.report 0x2A1 0x02 l)) (false, s)

/-- DRAM answers: a DRAM section is in force, and the chips are trained and not in self-refresh. -/
def State.dramServes (s : State) : Bool := s.dram.cfg.isSome && s.dram.up && !s.dram.selfRefresh

/-- DRAM contents are lost (R28, R76). -/
def State.dramLose (s : State) : State :=
  let d := s.draw
  { d.2 with dram := { d.2.dram with epoch := d.1, cells := [] } }

/-- MR4_TEMPERATURE_REPORT (R71, R483): the DRAM reports its refresh rate, and whether it is above its normal range. -/
def State.mr4Report (s : State) (rate : Nat) (hot : Bool) : State :=
  if s.dram.up && !s.dram.selfRefresh then
    let s := { s with dram := { s.dram with refresh := rate } }
    if hot then s.raise 0x2A3 0x0C else s.lower 0x2A3
  else s

/-- One MiB. -/
def mib : Nat := 1048576

/-- Fitted capacity in bytes; 0 without a DRAM section. -/
def State.dramFitted (s : State) : Nat := match s.dram.cfg with | some c => c.sizeMib * mib | none => 0

/-- First byte and size of the resume and of the staging region (R113). -/
def State.resumeRegion (s : State) : Nat × Nat :=
  match s.dram.cfg with | some c => ((c.sizeMib - c.resumeMib) * mib, c.resumeMib * mib) | none => (0, 0)
def State.stagingRegion (s : State) : Nat × Nat :=
  match s.dram.cfg with
  | some c => ((c.sizeMib - c.resumeMib - c.stagingMib) * mib, c.stagingMib * mib)
  | none => (0, 0)

/-- Regions that registers place: spill region of Hatch `h`, the Strongroom ring, the crate region. -/
def State.spillRegion (s : State) (h : Nat) : Nat × Nat :=
  (s.rf (.HAT_SPILL_BASE_MIB h) * mib, s.rf (.HAT_SPILL_SIZE_MIB h) * mib)
def State.ringRegion (s : State) : Nat × Nat := (s.rf .STG_RING_BASE_MIB * mib, s.rf .STG_RING_SIZE_MIB * mib)
def State.crateRegion (s : State) : Nat × Nat := (s.rf .PAIR_MISC_CRATE_BASE_MIB * mib, 8 * mib)

/-- The unit is strapped as one of a pair. -/
def State.paired (s : State) : Bool := s.on .TOP_STRAP_PAIR_EN

/-- Region `r` lies in the fitted DRAM and clear of the resume and staging regions (R113). -/
def State.regionFree (s : State) (r : Nat × Nat) : Bool :=
  r.1 + r.2 ≤ s.dramFitted && !overlap r s.resumeRegion && !overlap r s.stagingRegion

/-- R437: whether STG_RING may take the value `w`. -/
def State.ringOk (s : State) (w : Word) : Bool :=
  let size := fldGet w 0 14
  let r := (fldGet w 16 16 * mib, size * mib)
  size = 0 || (16 ≤ size && size ≤ 12288 && s.regionFree r && (List.range 64).all (fun h => !overlap r (s.spillRegion h)) &&
    !(s.paired && overlap r s.crateRegion))

/-- R422: whether HAT_SPILL[h] may take the value `w`. A region of 0 MiB touches nothing. -/
def State.spillOk (s : State) (h : Nat) (w : Word) : Bool :=
  let r := (fldGet w 16 16 * mib, fldGet w 0 7 * mib)
  let others := (List.range 64).filter (fun j => j ≠ h)
  fldGet w 0 7 ≤ 64 &&
  (r.2 = 0 || (s.regionFree r && others.all (fun j => !overlap r (s.spillRegion j)) && !overlap r s.ringRegion &&
    !(s.paired && overlap r s.crateRegion)))

/-- R496: whether PAIR_MISC may place the crate region at `base` MiB. -/
def State.crateOk (s : State) (base : Nat) : Bool :=
  let r := (base * mib, 8 * mib)
  !s.paired || (s.regionFree r && (List.range 64).all (fun h => !overlap r (s.spillRegion h)) && !overlap r s.ringRegion)

/-- Shift one bit out of a reflected CRC-32 (IEEE 802.3 polynomial, R97). -/
def crcBit (c : Nat) : Nat := if c % 2 = 1 then (c / 2) ^^^ 0xEDB88320 else c / 2

/-- One byte into the CRC-32. -/
def crcByte (c : Nat) (b : Byte) : Nat := crcBit (crcBit (crcBit (crcBit (crcBit (crcBit (crcBit (crcBit (c ^^^ b.toNat))))))))

/-- CRC-32 of R97 over bytes. -/
def crc32 (l : List Byte) : Nat := l.foldl crcByte 0xFFFFFFFF ^^^ 0xFFFFFFFF

end Sys2Proof.Machine
end

