-- ==== Sys2Proof/Machine/Stg.lean ====
section
/-!
DEFINITION. The Strongroom (R435 to R451): records, the directory, incidents, export and the STG commands.
-/
namespace Sys2Proof.Machine

/-- Update the Strongroom's own state. -/
def State.strong (s : State) (g : Stg → Stg) : State := { s with stg := g s.stg }

/-- STG counters (R451). -/
def Ctr.stg (i : Nat) : Nat := Reg.STG_CFG + 0x400 + 8 * i

def SegEnt.zero : SegEnt := ⟨0, false, false, false, 0, 0, 0⟩
def State.seg (s : State) (i : Nat) : SegEnt := spGet (fun _ => SegEnt.zero) s.stg.segs i
def State.inc (s : State) (i : Nat) : Option IncInfo := spGet (fun _ => none) s.stg.incs i

/-- Segments of the ring, and its first byte in DRAM. -/
def State.ringSize (s : State) : Nat := s.rf .STG_RING_SIZE_MIB
def State.ringBase (s : State) : Nat := s.rf .STG_RING_BASE_MIB * mib

/-! The directory in DRAM (R441). -/

/-- An entry with its CRC-32 in the last four bytes. -/
def withCrc (b : List Byte) : List Byte := b ++ bytesLE 4 (crc32 b)

/-- The directory header. -/
def State.dirHeader (s : State) : List Byte :=
  withCrc (bytesLE 4 0x53545247 ++ bytesLE 4 s.ringSize ++ bytesLE 4 (s.rf .STG_STATUS_WRITER) ++ List.replicate 48 0)

/-- Entry of a segment. -/
def SegEnt.bytes (e : SegEnt) : List Byte :=
  withCrc (bytesLE 1 e.frozen ++ bytesLE 1 (b2n e.writing * 4 + b2n e.step * 2 + b2n e.filled) ++ [0, 0] ++ bytesLE 4 e.pfx ++
    bytesLE 8 e.firstTime ++ bytesLE 8 e.firstDist ++ [0, 0, 0, 0])

/-- FLAGS of incident `i` (STG_INC[i] bits 23:19): 4 PROTECT, 3 PRE_CUT, 2 STEP, 1 LIMIT, 0 FWD_OFF. -/
def State.incFlags (s : State) (i : Nat) : Nat := s.rf (.STG_INC_FLAGS i)
def State.setIncFlag (s : State) (i b : Nat) : State := s.wf (.STG_INC_FLAGS i) (s.incFlags i ||| 2 ^ b)

/-- The 256-byte entry of incident `i`: its CRC lies at byte 60 and covers the rest. -/
def State.incBytes (s : State) (i : Nat) : List Byte :=
  let x := (s.inc i).getD ⟨0, 0, 0, 0, [], 0, 0, 0, 0⟩
  let a := bytesLE 1 (s.rf (.STG_INC_STATE i)) ++ bytesLE 1 (s.rf (.STG_INC_SOURCE i)) ++ bytesLE 1 (s.incFlags i) ++
    bytesLE 1 (s.rf (.STG_INC_REASON i)) ++ bytesLE 2 (s.rf (.STG_INC_SEG_FIRST_SEG i)) ++
    bytesLE 2 (s.rf (.STG_INC_SEG_LAST_SEG i)) ++ bytesLE 8 x.time ++ bytesLE 8 x.dist ++ bytesLE 8 x.baseValue ++
    bytesLE 4 x.pfx ++ List.replicate 24 0
  let b := x.sess ++ List.replicate (192 - x.sess.length) 0
  a ++ bytesLE 4 (crc32 (a ++ b)) ++ b

/-- Write the header, a segment entry or an incident entry through to DRAM. -/
def State.putHeader (s : State) : State := s.dramWrite s.ringBase s.dirHeader
def State.putSeg (s : State) (i : Nat) (e : SegEnt) : State :=
  (s.strong fun x => { x with segs := spSet (fun _ => SegEnt.zero) x.segs i e }).dramWrite (s.ringBase + 4096 + 32 * i) e.bytes
def State.putInc (s : State) (i : Nat) : State := s.dramWrite (s.ringBase + 256 + 256 * i) (s.incBytes i)

/-- Store what the directory keeps of incident `i`. -/
def State.setInc (s : State) (i : Nat) (x : Option IncInfo) : State :=
  s.strong fun y => { y with incs := spSet (fun _ => none) y.incs i x }

/-- The ring is cleared: every incident and segment is free, and the directory is written anew (R449, R450). -/
def State.ringClear (s : State) : State :=
  let s := s.strong fun x => { x with segs := [], incs := [], wpos := none, exp := none, dirAt := some (s.rf .STG_RING_BASE_MIB, s.ringSize) }
  let s := s.wf .STG_STATUS_WRITER 0
  let s := s.each (List.range 8) (fun s i => ((s.wword (Reg.STG_INC i) 0).wword (Reg.STG_INC_SEG i) 0).putInc i)
  (s.each (List.range s.ringSize) (fun s i => s.putSeg i SegEnt.zero)).putHeader

/-- The header, a segment entry and an incident entry as DRAM holds them. -/
def State.dirHead (s : State) : List Byte := s.dramGets s.ringBase 64
def State.dirSeg (s : State) (i : Nat) : List Byte := s.dramGets (s.ringBase + 4096 + 32 * i) 32
def State.dirInc (s : State) (i : Nat) : List Byte := s.dramGets (s.ringBase + 256 + 256 * i) 256

/-- An entry ends in the CRC-32 over its other bytes. -/
def crcOk (b : List Byte) : Bool := le b (b.length - 4) 4 = crc32 (b.take (b.length - 4))

/-- R449: MAGIC, SEG_COUNT and every CRC of the directory in DRAM are right. -/
def State.dirGood (s : State) : Bool :=
  le s.dirHead 0 4 = 0x53545247 && le s.dirHead 4 4 = s.ringSize && crcOk s.dirHead &&
  (List.range 8).all (fun i => le (s.dirInc i) 60 4 = crc32 ((s.dirInc i).take 60 ++ (s.dirInc i).drop 64)) &&
  (List.range s.ringSize).all (fun i => crcOk (s.dirSeg i))

/-- The segment that an entry describes. -/
def SegEnt.ofBytes (b : List Byte) : SegEnt :=
  ⟨le b 0 1, bitAt (le b 1 1) 0, bitAt (le b 1 1) 1, bitAt (le b 1 1) 2, le b 4 4, le b 8 8, le b 16 8⟩

/-- Incident `i` is read from its entry in DRAM. -/
def State.incLoad (s : State) (i : Nat) : State :=
  let b := s.dirInc i
  let s := (((s.wword (Reg.STG_INC i) 0).wf (.STG_INC_STATE i) (le b 0 1)).wf (.STG_INC_SOURCE i) (le b 1 1)).wf (.STG_INC_FLAGS i) (le b 2 1)
  let s := ((s.wf (.STG_INC_REASON i) (le b 3 1)).wf (.STG_INC_SEG_FIRST_SEG i) (le b 4 2)).wf (.STG_INC_SEG_LAST_SEG i) (le b 6 2)
  s.setInc i (if le b 0 1 = 0 then none else some ⟨le b 8 8, le b 16 8, le b 24 8, le b 32 4, b.drop 64, 0, 0, 0, 0⟩)

/-- The directory is read from DRAM (R441, R449). -/
def State.dirLoad (s : State) : State :=
  let s := (s.wf .STG_STATUS_WRITER (le s.dirHead 8 4)).strong fun x => { x with segs := [], incs := [] }
  let s := s.each (List.range s.ringSize) (fun s i =>
    s.strong fun x => { x with segs := spSet (fun _ => SegEnt.zero) x.segs i (SegEnt.ofBytes (s.dirSeg i)) })
  s.each (List.range 8) State.incLoad

/-! Recording (R436, R438 to R442). -/

/-- A key slot of the Strongroom is usable: valid, USAGE bit 4, AES-256 (R436). -/
def State.stgKeyOk (s : State) (k : Nat) : Bool :=
  s.on (.SEC_KEY_ATTR_VALID k) && bitAt (s.rf (.SEC_KEY_ATTR_USAGE k)) 4 && s.rf (.SEC_KEY_ATTR_ALG k) = 2
def State.stgKeys (s : State) : Bool := s.stgKeyOk (s.rf .STG_CFG_KEY_SLOT) && s.stgKeyOk (s.rf .STG_CFG_EXPORT_SLOT)

/-- Everything R436 asks but the keys. -/
def State.stgReady (s : State) : Bool := s.on .STG_CFG_EN && s.fwdEn && s.dram.up && s.ringSize ≠ 0

/-- R436: the Strongroom records. -/
def State.recording (s : State) : Bool := s.stgReady && s.stgKeys

/-- The header of a record (R438). -/
def recHeader (ty len slot inPort dataLen pfx flags counter time dist stream : Nat) : List Byte :=
  bytesLE 2 ty ++ bytesLE 2 len ++ bytesLE 1 slot ++ bytesLE 1 inPort ++ bytesLE 2 dataLen ++ bytesLE 4 pfx ++ bytesLE 4 flags ++
  bytesLE 8 counter ++ bytesLE 8 time ++ bytesLE 8 dist ++ bytesLE 2 stream ++ List.replicate 6 0

/-- The IV of record `counter` of the session with prefix `pfx` (R371). -/
def recIv (pfx counter : Nat) : List Byte := bytesBE 4 pfx ++ bytesBE 8 counter

/-- A pad record with its zero padding, which fills `n` bytes (R438). -/
def padRecord (n : Nat) : List Byte := recHeader 4 (n / 64) 0 0 0 0 0 0 0 0 0 ++ List.replicate 16 0

/-- R442: the segment after `w` in ring order that no incident freezes. -/
def State.nextSeg (s : State) (w : Nat) : Option Nat :=
  let ring := (List.range s.ringSize).drop 1
  (ring.filter (fun i => w < i) ++ ring.filter (fun i => i ≤ w)).find? (fun i => (s.seg i).frozen = 0)

/-- Incidents in state `st` (0 FREE, 1 OPEN, 2 CLOSED, 3 EXPORTING). -/
def State.incsIn (s : State) (st : Nat) : List Nat := (List.range 8).filter (fun i => s.rf (.STG_INC_STATE i) = st)

/-- A mask of indices. -/
def maskOf (l : List Nat) : Nat := l.foldl (fun m i => m ||| 2 ^ i) 0

/-- R442: leave the present segment, closing it with a pad record, and enter `n`. -/
def State.enterSeg (s : State) (n time dist : Nat) : State :=
  let w := s.rf .STG_STATUS_WRITER
  let pfx := match s.stg.session with | some x => x.pfx | none => 0
  let s := match s.stg.wpos with
    | none => s
    | some p =>
      let s := if p < mib then s.dramWrite (s.ringBase + w * mib + p) (padRecord (mib - p)) else s
      s.putSeg w { s.seg w with filled := true, writing := false }
  let s := s.wf .STG_STATUS_WRITER n
  let s := s.putSeg n ⟨maskOf (s.incsIn 1), false, false, true, pfx, time, dist⟩
  (s.strong fun x => { x with wpos := some 0 }).putHeader

/-- RING_FULL, TRIG_LOST and ENC_REFUSED set LOSS. -/
def State.stgLoss (s : State) (i : Nat) : State := (s.cinc (Ctr.stg i)).wf .STG_INT_LOSS 1

/-- Write a record whose padded length is `len` × 64 bytes; none where the ring is full (R442). -/
def State.putRecord (s : State) (bytes : List Byte) (time dist : Nat) : Option State :=
  let len := (bytes.length + 63) / 64 * 64
  let room := match s.stg.wpos with | some p => decide (p + len ≤ mib) | none => false
  let go (s : State) : State :=
    let p := s.stg.wpos.getD 0
    let s := s.dramWrite (s.ringBase + s.rf .STG_STATUS_WRITER * mib + p) (bytes ++ List.replicate (len - bytes.length) 0)
    ((s.strong fun x => { x with wpos := some (p + len) }).cinc (Ctr.stg 0)).cadd (Ctr.stg 1) len
  if room then some (go s)
  else match s.nextSeg (s.rf .STG_STATUS_WRITER) with
  | some n => some (go (s.enterSeg n time dist))
  | none => none

/-- The counter value the next record takes, and the state after it. -/
def State.takeCounter (s : State) : Nat × State :=
  match s.stg.session with
  | some x => (x.counter, s.strong fun y => { y with session := some { x with counter := x.counter + 1 } })
  | none => (0, s)

/-- The session record of prefix `pfx` (R438, R439): its payload in the clear, and the tag over header and payload. -/
def State.sessionRecord (s : State) (pfx : Nat) : List Byte :=
  let key := s.keyMat (s.rf .STG_CFG_KEY_SLOT)
  let wrapped := (List.range 40).map (Config.keyWrap (s.keyMat (s.rf .STG_CFG_EXPORT_SLOT)) key)
  let uid := (List.range 4).flatMap (fun i => bytesLE 4 (le s.sec.uid (4 * i) 4))
  let img := (List.range 4).flatMap (fun i => bytesLE 4 (s.rword (Reg.BOOT_IMAGE_ID i)).toNat)
  let b := recHeader 3 3 0xFF 0 88 pfx 0 0 s.now s.d48 0 ++
    wrapped ++ bytesLE 1 (s.rf .STG_CFG_EXPORT_SLOT) ++ List.replicate 7 0 ++ uid ++ img ++ bytesLE 8 s.d48
  b ++ gcmTag key (recIv pfx 0) b []

/-- R439: a new session and its session record; it starts in a segment of its own. -/
def State.openSession (s : State) : State :=
  let pfx := s.stg.pfx
  let rec_ := s.sessionRecord pfx
  match s.nextSeg (s.rf .STG_STATUS_WRITER) with
  | none => s
  | some n =>
    let s := (s.strong fun x => { x with session := some ⟨pfx, 1, rec_ ++ List.replicate 40 0⟩ }).enterSeg n s.now s.d48
    match s.putRecord rec_ s.now s.d48 with | some s => s.service 3 (some (s.rf .STG_CFG_KEY_SLOT)) | none => s

/-- The encrypted record with header `h` and `payload`, whose counter is `counter` (R371, R438). -/
def State.recordBytes (s : State) (pfx counter : Nat) (h payload : List Byte) : List Byte :=
  let key := s.keyMat (s.rf .STG_CFG_KEY_SLOT)
  let ct := gcmCrypt key (recIv pfx counter) payload
  h ++ ct ++ gcmTag key (recIv pfx counter) h ct

/-- Write an encrypted record of type `ty`; false where it is not written (R371, R438, R440, R442). -/
def State.writeRecord (s : State) (ty slot inPort flags time dist stream : Nat) (payload : List Byte) : Bool × State :=
  let refused (s : State) : Bool × State := (false, (s.stgLoss 7).notify 0x285 0x07)
  let full (s : State) : Bool × State := (false, (s.stgLoss 4).notify 0x282 0x07)
  let n := payload.length
  if !s.anyPan then refused s
  else
    let s := if s.stg.session.isNone then s.openSession else s
    match s.stg.session with
    | none => full s
    | some x =>
      if x.counter = 2 ^ 64 - 1 then refused s
      else
        let h := recHeader ty ((48 + n + 16 + 63) / 64) slot inPort n x.pfx flags x.counter time dist stream
        match s.putRecord (s.recordBytes x.pfx x.counter h payload) time dist with
        | some s => (true, ((s.takeCounter.2).cinc (Ctr.cph 7)).service 3 (some (s.rf .STG_CFG_KEY_SLOT)))
        | none => full s

/-- A marker record (R438, R440, R444). -/
def State.writeMarker (s : State) (source incident reason base value : Nat) : State :=
  let b := bytesLE 1 source ++ bytesLE 1 incident ++ bytesLE 1 reason ++ bytesLE 1 base ++ [0, 0, 0, 0] ++ bytesLE 8 value
  let r := s.writeRecord 2 0xFF 0 0 s.now s.d48 0 b
  if r.1 then r.2.cinc (Ctr.stg 2) else r.2

/-- STRONGROOM_RECORD: the copy leaving on port 27 (R436, R438). -/
def State.strongRecord (s : State) : State :=
  match s.onWire 27 with
  | none => s
  | some c =>
    let s := s.setWire 27 none
    let s :=
      if !s.recording then
        let s := s.cinc (Ctr.stg 3)
        if s.stgReady then ((s.keyUse (s.rf .STG_CFG_KEY_SLOT) 4).2.keyUse (s.rf .STG_CFG_EXPORT_SLOT) 4).2.notify 0x284 0x0D else s
      else match s.copyFrame c with
      | none => s
      | some f =>
        (s.writeRecord 1 (c.hatch.getD 0) f.inPort (b2n f.sc.isSome) f.rxTime f.rxDist
          (f.verdict.stream.getD 0) (s.leaving c)).2
    s.releaseCopy c

/-! Incidents (R443 to R447). -/

/-- The event is before its target: `a` at or before `b` in `w` bits. -/
def atOrBefore (w a b : Nat) : Bool := atOrAfter w b a

/-- R445: freeze segments backward from `w` for incident `i`, at most `n` of them; answers the first segment and
whether PRE_CUT is set. -/
def State.freezeBack (s : State) (i w start pfx unit bound : Nat) : Nat → Nat → Nat × Bool × State
  | 0, first => (first, false, s)
  | n + 1, first =>
    let e := s.seg w
    if (w ≠ start && !e.filled) || e.pfx ≠ pfx then (first, true, s)
    else
      let s := s.putSeg w { e with frozen := e.frozen ||| 2 ^ i }
      let reached := if unit = 0 then atOrBefore 64 e.firstTime bound else atOrBefore 48 e.firstDist bound
      if reached then (w, false, s)
      else if e.step then (w, true, s)
      else
        let p := if w ≤ 1 then s.ringSize - 1 else w - 1
        if p = start then (w, false, s) else s.freezeBack i p start pfx unit bound n w

/-- A PRE or POST window of unit 0 in T64: `n` × 100 ms. -/
def winTime (n : Nat) : Nat := n * 100000000

/-- R447: incident `i` becomes FREE and its segments lose its bit. -/
def State.incFree (s : State) (i : Nat) : State :=
  let s := s.each ((List.range s.ringSize).drop 1) (fun s k =>
    let e := s.seg k
    if bitAt e.frozen i then s.putSeg k { e with frozen := e.frozen - 2 ^ i } else s)
  (((s.wword (Reg.STG_INC i) 0).wword (Reg.STG_INC_SEG i) 0).setInc i none).putInc i

/-- R446: OPEN incident `i` closes; `f` sets the flag that says why. -/
def State.incClose (s : State) (i : Nat) (f : State → State) : State :=
  if s.rf (.STG_INC_STATE i) = 1 then
    let s := f ((s.wf (.STG_INC_STATE i) 2).wf (.STG_INC_SEG_LAST_SEG i) (s.rf .STG_STATUS_WRITER))
    (s.wf .STG_INT_CLOSED 1).putInc i
  else s

/-- R444: the incident a trigger takes. -/
def State.incTake (s : State) : Option Nat × State :=
  match s.incsIn 0 with
  | i :: _ => (some i, s)
  | [] =>
    let cand := (s.incsIn 2).filter (fun i => !bitAt (s.incFlags i) 4)
    let t (i : Nat) : Nat := ((s.inc i).map (fun x => x.time)).getD 0
    match cand.foldl (fun m i => match m with
        | none => some i
        | some k => if atOrAfter 64 (t i) (t k) then some k else some i) none with
    | some i => (some i, s.incFree i)
    | none => (none, s)

/-- LIMIT of trigger source `j` in s: 0 acts as 255. -/
def State.incBound (s : State) (j : Nat) : Nat := if s.rf (.STG_TSRC_LIMIT j) = 0 then 255 else s.rf (.STG_TSRC_LIMIT j)

/-- R443 to R445: trigger source `j` fires, with its REASON, BASE and BASE_VALUE. -/
def State.stgTrigger (s : State) (j reason base baseValue : Nat) : State :=
  if !s.on (.STG_TSRC_EN j) then s
  else if !s.recording then s.cinc (Ctr.stg 6)
  else
    let take := s.incTake
    let s := take.2
    match take.1 with
    | none => (s.stgLoss 5).notify 0x281 0x07
    | some i =>
      let s := if s.stg.session.isNone && s.anyPan then s.openSession else s
      let t := s.now
      let d := s.d48
      let unit := s.rf (.STG_TSRC_UNIT j)
      let pre := s.rf (.STG_TSRC_PRE j)
      let w := s.rf .STG_STATUS_WRITER
      let pfx := match s.stg.session with | some x => x.pfx | none => 0
      let sess := match s.stg.session with | some x => x.record | none => []
      let bound := if unit = 0 then subW 64 t (winTime pre) else subW 48 d (pre * 1000)
      let r := s.freezeBack i w w pfx unit bound (s.ringSize - 1) w
      let s := r.2.2
      let s := s.wword (Reg.STG_INC i) 0
      let s := (((s.wf (.STG_INC_STATE i) 1).wf (.STG_INC_SOURCE i) j).wf (.STG_INC_REASON i) reason).wf
        (.STG_INC_FLAGS i) (s.rf (.STG_TSRC_PROTECT j) * 16 + b2n r.2.1 * 8)
      let s := s.wf (.STG_INC_SEG_FIRST_SEG i) r.1
      let s := s.setInc i (some ⟨t, d, baseValue, pfx, sess, unit, s.rf (.STG_TSRC_POST j), s.incBound j, s.cycles⟩)
      let s := (s.wf .STG_INT_OPENED 1).putInc i
      s.writeMarker j i reason base baseValue

/-- INCIDENT_POST_EXPIRY of incident `i` (R446): it acts once the post window has ended. -/
def State.incPost (s : State) (i : Nat) : State :=
  match s.inc i with
  | none => s
  | some x =>
    let past := if x.unit = 0 then atOrAfter 64 s.now (x.time + winTime x.post) else atOrAfter 48 s.d48 (x.dist + x.post * 1000)
    if past then s.incClose i id else s

/-- A counter update (R344): distance incidents whose target it passes close. -/
def State.incTravel (s : State) : State :=
  s.each (s.incsIn 1) (fun s i => match s.inc i with | some x => if x.unit = 1 then s.incPost i else s | none => s)

/-- INCIDENT_LIMIT_EXPIRY of incident `i`: only a distance incident has a limit, which ends LIMIT seconds after the trigger on
the core clock (R446). -/
def State.incLimit (s : State) (i : Nat) : State :=
  match s.inc i with
  | some x => if x.unit = 1 && x.began + x.limit * 1000000000 ≤ s.cycles then s.incClose i (fun s => s.setIncFlag i 1) else s
  | none => s

/-- A commanded step is applied (R440, R446). INCIDENT and REASON of its marker are free values (log entry 146). -/
def State.stgStep (s : State) : State :=
  let s := s.each (s.incsIn 1) (fun s i => s.incClose i (fun s => s.setIncFlag i 2))
  if s.recording then
    let d := s.draw
    let e := d.2.draw
    let s := e.2.writeMarker 0xFF (Config.free d.1) (Config.free e.1) 0 s.now
    match s.stg.wpos with
    | some _ => let w := s.rf .STG_STATUS_WRITER; s.putSeg w { s.seg w with step := true }
    | none => s
  else s

/-- An export ends; its incident returns to CLOSED (R448). -/
def State.exportEnd (s : State) : State :=
  match s.stg.exp with
  | none => s
  | some e =>
    let s := s.strong fun x => { x with exp := none }
    ((s.wf (.STG_INC_STATE e.inc) 2).wf .STG_INT_EXPORT_DONE 1).putInc e.inc

/-- FWD_EN falls, or a chip reset: OPEN incidents close with FWD_OFF and an export ends (R446, R448). -/
def State.stgFwdOff (s : State) : State :=
  (s.each (s.incsIn 1) (fun s i => s.incClose i (fun s => s.setIncFlag i 0))).exportEnd

/-! Commands and export (R447, R448, R450). -/

/-- A refused STG command with its code. -/
def State.stgRefuse (s : State) (code : Nat) : State := (s.wf .STG_STATUS_REFUSE_CODE code).refuse 0x283 0x08

/-- STG_CMD TRIGGER. -/
def State.stgCmdTrigger (s : State) (reason : Nat) : State := s.stgTrigger 17 reason 0 s.now

/-- STG_CMD RELEASE. -/
def State.stgRelease (s : State) (i : Nat) : State :=
  match s.rf (.STG_INC_STATE i) with
  | 2 => s.incFree i
  | 3 => s.stgRefuse 2
  | _ => s.stgRefuse 1

/-- STG_CMD EXPORT. -/
def State.stgExport (s : State) (i : Nat) : State :=
  if s.rf (.STG_INC_STATE i) ≠ 2 then s.stgRefuse 1
  else if s.stg.exp.isSome then s.stgRefuse 2
  else ((s.wf (.STG_INC_STATE i) 3).strong fun x => { x with exp := some ⟨i, none, 0, 0⟩ }).putInc i

/-- STG_CMD STOP_EXPORT. -/
def State.stgStop (s : State) : State := s.exportEnd

/-- STG_CMD CLEAR_RING. -/
def State.stgClear (s : State) : State :=
  if s.on .STG_CFG_EN then s.stgRefuse 4 else if s.ringSize = 0 then s.stgRefuse 3 else s.ringClear

/-- A replay frame: header, tag, export header and data (R448). -/
def State.replayFrame (s : State) (inc flags seq segment off : Nat) (data : List Byte) : List Byte :=
  let mac (lo hi : Word) : List Byte := bytesBE 2 (hi.toNat % 65536) ++ bytesBE 4 lo.toNat
  let tci := s.rf .STG_REPLAY_CFG_CLASS * 8192 + s.rf .STG_REPLAY_CFG_VID
  mac (s.rword Reg.STG_REPLAY_DST_LO) (s.rword Reg.STG_REPLAY_DST_HI) ++
  mac (s.rword Reg.STG_REPLAY_SRC_LO) (s.rword Reg.STG_REPLAY_SRC_HI) ++
  (if s.on .STG_REPLAY_CFG_TAGGED then [0x81, 0x00] ++ bytesBE 2 tci else []) ++ bytesBE 2 (s.rf .STG_REPLAY_CFG_ETHERTYPE) ++
  bytesLE 1 inc ++ bytesLE 1 flags ++ bytesLE 2 seq ++ bytesLE 2 segment ++ [0, 0] ++ bytesLE 4 off ++ [0, 0, 0, 0] ++ data

/-- The `n` bytes at `a` of the ring as the replay reads them. -/
def State.ringRead (s : State) (a n : Nat) : List Byte × State := (s.dramGets (s.ringBase + a) n, (s.dramCheck (s.ringBase + a) n).2)

/-- EXPORT_FRAME: the next frame of the replay enters at port 27 unless R274 holds it. -/
def State.exportFrame (s : State) : State :=
  match s.stg.exp with
  | none => s
  | some e =>
    if s.held 27 then s
    else
      let c := s.rf .STG_REPLAY_CFG_CLASS
      let last := s.rf (.STG_INC_SEG_LAST_SEG e.inc)
      let s := s.cinc (Ctr.stg 8)
      match e.seg with
      | none =>
        let d := s.ringRead (256 + 256 * e.inc) 256
        let s := d.2.inject 27 c (s.replayFrame e.inc 1 0 0 0 d.1) false
        s.strong fun x => { x with exp := some ⟨e.inc, some (s.rf (.STG_INC_SEG_FIRST_SEG e.inc)), 0, 1⟩ }
      | some g =>
        let end_ := g = last && e.off + 1024 = mib
        let d := s.ringRead (g * mib + e.off) 1024
        let s := d.2.inject 27 c (s.replayFrame e.inc (b2n end_ * 2) (e.seq % 65536) g e.off d.1) false
        if end_ then s.exportEnd
        else
          let n : StgExport := if e.off + 1024 = mib then
              ⟨e.inc, some (if g + 1 < s.ringSize then g + 1 else 1), 0, e.seq + 1⟩
            else ⟨e.inc, some g, e.off + 1024, e.seq + 1⟩
          s.strong fun x => { x with exp := some n }

/-- R446, R449: the check of the directory at a start, and what it says of incidents that were OPEN or EXPORTING; `cold` says that the ring is not kept (cold reset, SLEEP-D, or a chip
reset caused by the DRAM port). A new session begins with the next record. -/
def State.dirCheck (s : State) (cold : Bool) : State :=
  let s := s.strong fun x => { x with session := none, wpos := none }
  if !s.dram.up || s.ringSize = 0 then s
  else if cold then (s.ringClear).wf .STG_STATUS_DIR_RESET 1
  else
  let r := s.dramCheck s.ringBase (4096 + 32 * s.ringSize)
  let s := r.2
  if r.1 || !s.dirGood then ((s.ringClear).wf .STG_STATUS_DIR_RESET 1).notify 0x280 0x0E
  else
    let s := s.dirLoad.stgFwdOff
    s.each (s.incsIn 3) (fun s i => (s.wf (.STG_INC_STATE i) 2).putInc i)

end Sys2Proof.Machine
end

