-- ==== Sys2Proof/Machine/Irq.lean ====
section
/-!
DEFINITION. Interrupt lines and MSI-X (R33, R34, R421, R477).
-/
namespace Sys2Proof.Machine

/-- A word of the MSI-X table at reset: every vector is masked. -/
def msixWord (i : Nat) : Word := if i % 4 = 3 then 1 else 0

/-- The mask bit of vector `v`. -/
def State.vecMasked (s : State) (v : Nat) : Bool := (spGet msixWord s.irq.table (4 * v + 3)).getLsbD 0

/-- R34: a source sends its message on vector `v`; a mask holds it as the pending bit. -/
def State.msix (s : State) (v : Nat) : State :=
  if !s.irq.msixEnable then s
  else if s.irq.funcMask || s.vecMasked v then { s with irq := { s.irq with pba := s.irq.pba ||| 2 ^ v } }
  else s.emit (.msix v)

/-- R34: a pending message whose masks are clear is sent. -/
def State.msixFlush (s : State) (v : Nat) : State :=
  if bitAt s.irq.pba v && s.irq.msixEnable && !s.irq.funcMask && !s.vecMasked v then
    { s with irq := { s.irq with pba := s.irq.pba - 2 ^ v } }.emit (.msix v)
  else s

/-- Write word `i` of the MSI-X table (BAR4). -/
def State.msixTable (s : State) (i : Nat) (w : Word) : State :=
  State.msixFlush { s with irq := { s.irq with table := spSet msixWord s.irq.table i w } } (i / 4)

/-- MSIX_UNMASK of a vector: its mask bit is cleared. -/
def State.msixUnmask (s : State) (v : Nat) : State :=
  s.msixTable (4 * v + 3) (spGet msixWord s.irq.table (4 * v + 3) &&& ~~~1)

/-- MSI-X enable and function mask as configuration space gives them. -/
def State.msixControl (s : State) (enable mask : Bool) : State :=
  State.each { s with irq := { s.irq with msixEnable := enable, funcMask := mask } } (List.range 64) State.msixFlush

/-- A status register with `n` status bits from bit 0 and as many enables from bit 16 holds its line active. -/
def intActive (n : Nat) (w : Word) : Bool := (fldGet w 0 n) &&& (fldGet w 16 n) ≠ 0

/-- R477: a source with INT = 1 has PENDING = 1. A pending record is never at its reset value. -/
def State.fltLine (s : State) : Bool :=
  s.regs.any (fun e =>
    Reg.FLT_SRC_STATUS 0 ≤ e.1 && e.1 < Reg.FLT_SRC_STATUS 768 && (e.1 - Reg.FLT_SRC_STATUS 0) % 32 = 0 && e.2.getLsbD 30 &&
    s.on (.FLT_SRC_CFG_INT ((e.1 - Reg.FLT_SRC_STATUS 0) / 32)))

/-- The level of the line of block `b` (R33; the interrupt registers of the owning chapters). Blocks that have no
interrupt register never drive theirs. -/
def State.line (s : State) (b : Nat) : Bool :=
  match b with
  | 4 => intActive 3 (s.rword Reg.CCX_INT)
  | 5 => s.fltLine
  | 6 => intActive 5 (s.rword Reg.PAIR_INT)
  | 7 => intActive 8 (s.rword Reg.TIM_INT)
  | 8 => intActive 3 (s.rword Reg.GAT_INT)
  | 9 => (List.range 24).any (fun n => intActive 5 (s.rword (Reg.MAC_INT n)))
  | 11 => intActive 3 (s.rword Reg.RAK_INT)
  | 12 => intActive 2 (s.rword Reg.CLS_INT)
  | 13 => intActive 2 (s.rword Reg.FWL_INT)
  | 14 => intActive 5 (s.rword Reg.SWC_INT)
  | 15 => intActive 3 (s.rword Reg.STM_INT)
  | 17 => intActive 5 (s.rword Reg.CPH_INT)
  | 18 => intActive 4 (s.rword Reg.GWE_INT)
  | 19 => intActive 3 (s.rword Reg.HAT_INT)
  | 20 => intActive 4 (s.rword Reg.BRG_INT)
  | 21 => intActive 4 (s.rword Reg.STG_INT)
  | 22 => intActive 2 (s.rword Reg.MGT_INT)
  | _ => false

/-- The present levels of the 23 lines as a mask. -/
def State.lineMask (s : State) : Nat := maskOf ((List.range 23).filter s.line)

/-- R34: message of line `b` where it is routed to MSI-X. -/
def State.lineMessage (s : State) (b : Nat) : State :=
  if s.on (.TOP_INT_ROUTE_MSIX_EN b) then s.msix (s.rf (.TOP_INT_ROUTE_VECTOR b)) else s

/-- Core cycle at which line `b` last went active. -/
def State.lineRose (s : State) (b : Nat) : Option Nat := spGet (fun _ => none) s.irq.rose b

/-- Line `b` goes active now and sends its message. -/
def State.lineUp (s : State) (b : Nat) : State :=
  State.lineMessage { s with irq := { s.irq with rose := spSet (fun _ => none) s.irq.rose b (some s.cycles) } } b

/-- R34: the lines take their present levels; each that rises sends its message. -/
def State.updateLines (s : State) : State :=
  let old := s.rf .TOP_INT_STATUS_LINE
  let new := s.lineMask
  let s := s.wf .TOP_INT_STATUS_LINE new
  s.each ((List.range 23).filter (fun b => bitAt new b && !bitAt old b)) State.lineUp

/-- INT_EOI: each line written 1 that is active sends one message. A line that went active in this same core cycle has
sent its message already and sends no second one (R34). -/
def State.intEoi (s : State) (m : Nat) : State :=
  let s := s.updateLines
  s.each ((List.range 23).filter (fun b => bitAt m b && bitAt (s.rf .TOP_INT_STATUS_LINE) b && s.lineRose b != some s.cycles))
    State.lineMessage

/-- INT_N is driven low (R33). -/
def State.intN (s : State) : Bool :=
  (List.range 23).any (fun b => bitAt (s.rf .TOP_INT_STATUS_LINE) b && s.on (.TOP_INT_ROUTE_PIN_EN b))

end Sys2Proof.Machine
end

