-- ==== Sys2Proof/Machine/Hatch.lean ====
section
/-!
DEFINITION. Hatches (R422 to R434).
-/
namespace Sys2Proof.Machine

/-- HAT counters of Hatch `h` (R434). -/
def Ctr.hat (h i : Nat) : Nat := Reg.HAT_CFG 0 + 0x30000 + 0x40 * h + 8 * i

/-- Messages that block `b` has sent to a block in block reset (R30, which names no counter for them: DESIGN CHOICE, log
entry 134); no register shows it. -/
def Ctr.boundary (b : Nat) : Nat := 2 ^ 45 + 8 * b

def Hatch.fresh : Hatch := ⟨[], [], 0, 0, 0, false, false, none, false⟩
def State.hatch (s : State) (h : Nat) : Hatch := spGet (fun _ => Hatch.fresh) s.hat h
def State.setHatch (s : State) (h : Nat) (x : Hatch) : State := { s with hat := spSet (fun _ => Hatch.fresh) s.hat h x }

/-- How many lines a Hatch holds. -/
def Hatch.count (x : Hatch) : Nat := x.head.length + x.spill + x.tail.length

/-- R422: lines that the spill region of Hatch `h` holds; none while DRAM does not serve. -/
def State.spillCap (s : State) (h : Nat) : Nat := if s.dramServes then s.rf (.HAT_SPILL_SIZE_MIB h) * 16384 else 0

/-- R422: lines Hatch `h` can hold. -/
def State.hatCap (s : State) (h : Nat) : Nat := 128 + s.spillCap h

/-- Lines a message of `n` bytes takes (R424). -/
def linesOf (n : Nat) : Nat := (n + 59) / 60

/-- Lines that are free: the message being pushed holds its own. -/
def State.hatFree (s : State) (h : Nat) : Nat :=
  s.hatCap h - (s.hatch h).count - (match (s.hatch h).push with | some ws => linesOf (4 * ws.length) | none => 0)

/-- Cut a message into lines from sequence number `q` (R424). -/
def cutLines (q : Nat) (ovf : Bool) : Nat → List Byte → List HLine
  | 0, _ => []
  | n + 1, b => ⟨b.take 60, n = 0, ovf, q % 65536⟩ :: cutLines (q + 1) false n (b.drop 60)

/-- The message of Hatch `h` when its condition holds (R431). -/
def State.hatSignal (s : State) (h : Nat) : State :=
  let wm := s.rf (.HAT_CFG_WM h)
  let c := if s.on (.HAT_CFG_DIR h) then wm ≤ s.hatFree h else wm ≤ (s.hatch h).count
  if s.on (.HAT_CFG_VEC_EN h) && s.on (.HAT_STATUS_ARMED h) && c then
    (s.wf (.HAT_STATUS_ARMED h) 0).msix (s.rf (.HAT_CFG_VECTOR h))
  else s

/-- The 64 bytes of a line (R423). -/
def HLine.bytes (l : HLine) : List Byte :=
  l.data ++ List.replicate (60 - l.data.length) 0 ++
  bytesLE 4 (2 ^ 31 + l.data.length * 2 ^ 25 + b2n l.last * 2 ^ 24 + b2n l.ovf * 2 ^ 23 + l.seq)

/-- The line that 64 bytes of a spill region spell (R423). -/
def lineOf (b : List Byte) : HLine :=
  let w := ofBytesLE ((b.drop 60).take 4)
  ⟨b.take (min 60 (bitsAt w 25 6)), bitAt w 24, bitAt w 23, bitsAt w 0 16⟩

/-- R422: DRAM offset of line `i` of the spill region of Hatch `h`, which is used as a circle (log entry 55). -/
def State.spillAddr (s : State) (h i : Nat) : Nat :=
  (s.spillRegion h).1 + 64 * (i % max 1 (s.rf (.HAT_SPILL_SIZE_MIB h) * 16384))

/-- Lines `i` to `i + n - 1` of the spill region of Hatch `h`. -/
def State.spillLines (s : State) (h i n : Nat) : List HLine :=
  (List.range n).map (fun k => lineOf (s.dramGets (s.spillAddr h (i + k)) 64))

/-- R427, R432: a block of `n` lines at line `i` of the spill region of Hatch `h` is read; true where it is uncorrectable. -/
def State.spillCheck (s : State) (h i n : Nat) : Bool × State :=
  let one := (List.range n).any (fun k => s.eccAt .dram (s.spillAddr h (i + k) / 64) = 1)
  let r := (List.range n).foldl (fun (r : Bool × State) k =>
    let x := r.2.dramCheck (r.2.spillAddr h (i + k)) 64
    (r.1 || x.1, x.2)) (false, s)
  let s := if one then r.2.notify (0x220 + h) 0x01 else r.2
  (r.1, if r.1 then s.notify (0x220 + h) 0x02 else s)

/-- Lines reach the head: the first after lost ones carries OVF (R427). -/
def Hatch.arrive (x : Hatch) (l : List HLine) : Hatch :=
  match l with
  | [] => x
  | y :: r => { x with head := x.head ++ { y with ovf := y.ovf || x.cut } :: r, cut := false }

/-- R427: how many lines of `l`, which follow a lost block, belong to the message that its last line did not end. -/
def cutTail (last : Bool) (l : List HLine) : Nat :=
  if last then 0 else min l.length ((l.takeWhile (fun y => !y.last)).length + 1)

/-- R427: the oldest `m` lines in the spill region of Hatch `h` are lost with the rest of their last message. -/
def State.spillLost (s : State) (h m : Nat) : State :=
  let x := s.hatch h
  let last := (s.spillLines h (x.first + m - 1) 1).any (fun y => y.last)
  let n := cutTail last (s.spillLines h (x.first + m) (x.spill - m) ++ x.tail)
  let k := min n (x.spill - m)
  (s.setHatch h { x with spill := x.spill - m - k, first := x.first + m + k, tail := x.tail.drop (n - k), cut := true }).wf
    .HAT_INT_SPILL_ERR 1

/-- R426: the head takes the oldest block of 16 lines from the spill region, or it is lost (R427). What is left of a block after
a loss comes alone. -/
def State.hatRefill (s : State) (h : Nat) : State :=
  let x := s.hatch h
  let n := min 16 x.spill
  let r := s.spillCheck h x.first n
  if r.1 then r.2.spillLost h n
  else
    r.2.setHatch h ({ x with spill := x.spill - n, first := x.first + n }.arrive (s.spillLines h x.first n))

/-- R426: 16 lines of the tail go to the spill region, where it has room and the head does not take them. -/
def State.hatStore (s : State) (h : Nat) : State :=
  let x := s.hatch h
  if (64 ≤ x.head.length || 0 < x.spill) && 16 ≤ x.tail.length && x.spill + 16 ≤ s.spillCap h then
    let s := (List.range 16).foldl (fun s k =>
      s.dramWrite (s.spillAddr h (x.first + x.spill + k)) (((x.tail[k]?).map HLine.bytes).getD [])) s
    s.setHatch h { x with spill := x.spill + 16, tail := x.tail.drop 16 }
  else s

/-- Lines move once in Hatch `h` (R426, R427). -/
def State.hatShift (s : State) (h : Nat) : State :=
  let x := s.hatch h
  let room := 64 - x.head.length
  let s :=
    if x.spill = 0 then s.setHatch h ({ x with tail := x.tail.drop room }.arrive (x.tail.take room))
    else if 16 ≤ room && s.dramServes then s.hatRefill h
    else s
  s.hatStore h

/-- HATCH_LINE_MOVE of Hatch `h` (R426, R427). -/
def State.hatMove (s : State) (h : Nat) : State := (s.hatShift h).hatSignal h

/-- Lines move while the tail holds more than its 64. -/
def State.hatSink (h : Nat) : Nat → State → State
  | 0, s => s
  | n + 1, s => if (s.hatch h).tail.length ≤ 64 then s else State.hatSink h n (s.hatShift h)

/-- Put a whole message into Hatch `h` by its tail, which passes on what it cannot hold. -/
def State.hatPut (s : State) (h : Nat) (b : List Byte) : State :=
  let x := s.hatch h
  let n := linesOf b.length
  let s := s.setHatch h { x with tail := x.tail ++ cutLines x.seq x.ovf n b, seq := (x.seq + n) % 65536, ovf := false }
  ((State.hatSink h n ((s.cadd (Ctr.hat h 0) n).cinc (Ctr.hat h 2)))).hatSignal h

/-- R425: a message enters a device-to-host Hatch whole, or is lost; true where it enters. HAT in block reset takes
none: the sending block `from_` counts it (R30). -/
def State.hatEnter (s : State) (from_ h : Nat) (b : List Byte) : Bool × State :=
  if s.blockOff 19 then (false, s.cinc (Ctr.boundary from_))
  else if s.on (.HAT_CFG_EN h) && !s.on (.HAT_CFG_DIR h) && linesOf b.length ≤ s.hatFree h then (true, s.hatPut h b)
  else
    let x := s.hatch h
    (false, (((s.setHatch h { x with ovf := true }).cinc (Ctr.hat h 3)).wf .HAT_INT_DROPPED 1).notify (0x220 + h) 0x07)

/-- An empty line with sequence number `q`. -/
def emptyLine (q : Nat) : List Byte := List.replicate 60 0 ++ bytesLE 4 q

/-- SEQ of the next line a read delivers: the lines beyond the head are the last that were written. -/
def Hatch.nextSeq (x : Hatch) : Nat :=
  match x.head with
  | l :: _ => l.seq
  | [] => (x.seq + 65536 - (x.spill + x.tail.length) % 65536) % 65536

/-- The lines of Hatch `h` that are on the chip are read; true where one is uncorrectable (R432). -/
def State.hatEcc (s : State) (h : Nat) : Bool × State :=
  let r := s.eccRead .hatch h (0x220 + h) none
  (r.1, if r.1 then r.2.eccClear .hatch h else r.2)

/-- HATCH_POP: `k` lines read from the pop port of Hatch `h` (R428); true where their data are uncorrectable (R411). -/
def State.hatPop (s : State) (h k : Nat) : Bool × List Byte × State :=
  if !s.on (.HAT_CFG_EN h) || s.on (.HAT_CFG_DIR h) then (false, (List.replicate k (emptyLine 0)).flatten, s)
  else
    let x := s.hatch h
    let n := min k x.head.length
    let e := if n = 0 then (false, s) else s.hatEcc h
    let s := e.2
    let out := (x.head.take n).flatMap HLine.bytes
    let s := (s.setHatch h { x with head := x.head.drop n }).cadd (Ctr.hat h 1) n
    let s := if n < k then s.cinc (Ctr.hat h 5) else s
    (e.1, out ++ (List.replicate (k - n) (emptyLine (s.hatch h).nextSeq)).flatten, s.hatSignal h)

/-- A message is being pushed to Hatch `h`. -/
def State.hatPushes (s : State) (h : Nat) : Bool := (s.hatch h).push.isSome || s.on (.HAT_STATUS_BROKEN h)

/-- The message being pushed to Hatch `h`, if there is one, is broken (R429). -/
def State.hatBreak (s : State) (h : Nat) : State := if s.hatPushes h then s.wf (.HAT_STATUS_BROKEN h) 1 else s

/-- The contents of Hatch `h` are discarded (R430). `keep` is FLUSH: SEQ is kept and the next message has OVF. A message being
pushed loses its words and is broken until its end (R429; for FLUSH log entry 159). -/
def State.hatDiscard (s : State) (h : Nat) (keep : Bool) : State :=
  let x := s.hatch h
  let s := s.hatBreak h
  (s.setHatch h { Hatch.fresh with seq := if keep then x.seq else 0, ovf := keep, told := x.told }).hatSignal h

/-- HATCH_FLUSH. -/
def State.hatFlush (s : State) (h : Nat) : State := s.hatDiscard h true

/-- HATCH_ARM. -/
def State.hatArm (s : State) (h : Nat) : State := (s.wf (.HAT_STATUS_ARMED h) 1).hatSignal h

/-- A write of HAT_CTRL[h]. -/
def State.hatCtrl (s : State) (h : Nat) (w : Word) : State :=
  let s := if w.getLsbD 1 then s.hatFlush h else s
  if w.getLsbD 0 then s.hatArm h else s

/-- HATCH_CFG_WRITE: a write that makes HAT_CFG[h] the word `w` (R430). -/
def State.hatCfg (s : State) (h : Nat) (w : Word) : State :=
  if fldGet w 16 8 = 0 then s.refuse (0x220 + h) 0x08
  else
    let s := s.wword (Reg.HAT_CFG h) w
    let s := if s.on (.HAT_CFG_DIR h) then s else s.hatBreak h
    if s.on (.HAT_CFG_EN h) then s.hatSignal h else s.hatDiscard h false

/-- A write that makes HAT_SPILL[h] the word `w` (R422). -/
def State.hatSpill (s : State) (h : Nat) (w : Word) : State :=
  if s.spillOk h w then (s.wword (Reg.HAT_SPILL h) w).hatSignal h else s.refuse (0x220 + h) 0x08

/-- The first refused write of the message being pushed to Hatch `h` is logged and reported (R429). -/
def State.hatRefuse (s : State) (h : Nat) : State :=
  let x := s.hatch h
  if x.told then s else (s.setHatch h { x with told := true }).refuse (0x220 + h) 0x07

/-- HATCH_PUSH: a word written to HAT_PUSH[h] (R429). -/
def State.hatPush (s : State) (h : Nat) (w : Word) : State :=
  let x := s.hatch h
  let ws := x.push.getD []
  if !s.on (.HAT_STATUS_BROKEN h) && s.on (.HAT_CFG_EN h) && s.on (.HAT_CFG_DIR h) && ws.length < 4096 &&
      x.count + linesOf (4 * (ws.length + 1)) ≤ s.hatCap h then
    s.setHatch h { x with push := some (ws ++ [w]) }
  else (s.wf (.HAT_STATUS_BROKEN h) 1).hatRefuse h

/-- R429: the message being pushed to Hatch `h` ends: it enters, or is discarded where it is broken, which frees its lines. -/
def State.hatPushEnd (s : State) (h : Nat) : State :=
  let x := s.hatch h
  let s' := s.setHatch h { x with push := none, told := false }
  if s.on (.HAT_STATUS_BROKEN h) then
    let s := s.hatRefuse h
    ((((s.setHatch h { x with push := none, told := false }).wf (.HAT_STATUS_BROKEN h) 0).cinc (Ctr.hat h 4)).wf
      .HAT_INT_WR_DISCARD 1).hatSignal h
  else match x.push with
  | none => s'
  | some ws => s'.hatPut h (ws.flatMap (fun w => bytesLE 4 w.toNat))

/-- The lines of the oldest message of Hatch `h`, taken from its head as it refills; `got` are those already taken. Lines that
a lost block cut off from the rest of their message are dropped (R427). -/
def State.hatDrain (h : Nat) : Nat → List HLine → State → List HLine × State
  | 0, got, s => (got, s)
  | n + 1, got, s =>
    let x := s.hatch h
    match x.head with
    | [] => if x.count = 0 then (got, s) else State.hatDrain h n got (s.hatShift h)
    | l :: r =>
      let s := (s.setHatch h { x with head := r }).cinc (Ctr.hat h 1)
      let got := if l.ovf then [l] else got ++ [l]
      if l.last then (got, s) else State.hatDrain h n got s

/-- The consumer takes the oldest message of a host-to-device Hatch; one with an uncorrectable line comes empty. While DRAM
does not serve, what it holds waits. -/
def State.hatTake (s : State) (h : Nat) : Option (List Byte) × State :=
  let x := s.hatch h
  if x.count = 0 || (0 < x.spill && !s.dramServes) then (none, s)
  else
    let e := s.hatEcc h
    let r := State.hatDrain h (2 * x.count) [] e.2
    let s := r.2.hatSignal h
    if r.1.getLast?.any (fun y => y.last) then (some (if e.1 then [] else r.1.flatMap (fun y => y.data)), s) else (none, s)

/-- HAT_STATUS[h].LINES. -/
def State.hatLines (s : State) (h : Nat) : Nat := min 0xFFFFF (s.hatch h).count

end Sys2Proof.Machine
end

