-- ==== Sys2Proof/Machine/Brg.lean ====
section
/-!
DEFINITION. The host bridge beside register access (R403, R404, R406, R407, R409, R412 to R421): the error log,
windows, prefetch buffers, DMA rings, delivery to rings and Hatches, and PCIe resets.
-/
namespace Sys2Proof.Machine

/-! The error log (R412, R413). -/

/-- R413: a write failure is logged in the lowest free entry, or lost. -/
def State.writeFail (s : State) (space offset kind bytes reqId : Nat) : State :=
  let s := s.cinc (Ctr.brg 7)
  match (List.range 16).find? (fun e => !s.on (.BRG_ELOG1_VALID e)) with
  | none => s.wf .BRG_ELOG_CTL_OVERFLOW (satInc 16 (s.rf .BRG_ELOG_CTL_OVERFLOW))
  | some e =>
    let q := s.rf .BRG_ELOG_CTL_NEXT_SEQ
    let s := ((s.wf .BRG_INT_ELOG 1).wf .BRG_ELOG_CTL_NEXT_SEQ ((q + 1) % 256)).wf (.BRG_ELOG0_OFFSET e) (offset % 2 ^ 32)
    let s := (((s.wf (.BRG_ELOG1_VALID e) 1).wf (.BRG_ELOG1_SPACE e) space).wf (.BRG_ELOG1_KIND e) kind).wf (.BRG_ELOG1_BYTES e) bytes
    ((s.wf (.BRG_ELOG2_REQ_ID e) reqId).wf (.BRG_ELOG2_SEQ e) q).wf (.BRG_ELOG3_TIME e) (s.now % 2 ^ 32)

/-- A refused BRG register write (R432). -/
def State.brgRefused (s : State) : State := s.refuse 0x264 0x08

/-! Windows (R406, R407). -/

/-- Internal base of window `w`. -/
def State.winBase (s : State) (w : Nat) : Nat :=
  s.rf (.BRG_WIN_BASE_HI_BASE_HI w) * 2 ^ 32 + s.rf (.BRG_WIN_BASE_LO_BASE_LO w) * 4096

/-- R407: the range of `len` bytes from `a` lies wholly in DRAM outside its fixed regions, or in the pop ports. -/
def State.winTarget (s : State) (a len : Nat) : Bool :=
  (dramBase ≤ a && s.regionFree (a - dramBase, len)) || (popBase ≤ a && a + len ≤ popEnd)

/-- WINDOW_CFG_WRITE: a write that makes BRG_WIN_CFG[w] the word `v`. -/
def State.winCfg (s : State) (w : Nat) (v : Word) : State :=
  let len := fldGet v 0 15 * 4096
  let lim := s.rf (.BRG_WIN_CFG_LIMIT w)
  if s.on (.BRG_WIN_CFG_EN w) && fldGet v 0 15 ≠ lim then s.brgRefused
  else if v.getLsbD 31 && (fldGet v 0 15 = 0 || 16384 < fldGet v 0 15 || !s.winTarget (s.winBase w) len) then s.brgRefused
  else s.wword (Reg.BRG_WIN_CFG w) v

/-- A write of BRG_WIN_BASE_LO[w] or _HI[w] at address `a` (R407). -/
def State.winBaseWrite (s : State) (w a : Nat) (v : Word) : State :=
  if s.on (.BRG_WIN_CFG_EN w) && v ≠ s.rword a then s.brgRefused else s.wword a v

/-- R406: the internal address of BAR2 offset `x`, with its window. -/
def State.winFind (s : State) (x : Nat) : Option (Nat × Nat) :=
  let w := x / (64 * mib)
  let o := x % (64 * mib)
  if w < 16 && s.on (.BRG_WIN_CFG_EN w) && o < s.rf (.BRG_WIN_CFG_LIMIT w) * 4096 then some (w, s.winBase w + o) else none

/-! Prefetch (R409). -/

/-- Buffer that holds the `n` bytes at `a`. -/
def State.pfHit (s : State) (a n : Nat) : Option Nat :=
  (List.range 16).find? (fun i => match s.pfBuf i with
    | some b => b.filled && b.addr ≤ a && a + n ≤ b.addr + b.len
    | none => false)

/-- A buffer is used. -/
def State.pfUse (s : State) (i : Nat) : State :=
  match s.pfBuf i with
  | some b => (s.setPf i (some { b with used := s.brg.uses })).bridge fun x => { x with uses := x.uses + 1 }
  | none => s

/-- R409: the buffer a new prefetch takes: one that holds nothing, else the least recently used. -/
def State.pfVictim (s : State) : Nat :=
  match (List.range 16).find? (fun i => (s.pfBuf i).isNone) with
  | some i => i
  | none =>
    let u (i : Nat) : Nat := ((s.pfBuf i).map (fun b => b.used)).getD 0
    (List.range 16).foldl (fun m i => if u i < u m then i else m) 0

/-- Start a prefetch of what follows the `n` bytes at `a`, up to the next 4 KiB boundary. -/
def State.pfStart (s : State) (a n : Nat) : State :=
  let from_ := a + n
  let limit := (a + n - 1) / 4096 * 4096 + 4096
  let len := min (s.rf .BRG_CFG_PF_LINES * 64) (limit - from_)
  if len = 0 then s
  else
    let i := s.pfVictim
    (s.setPf i (some ⟨from_, len, false, [], s.brg.uses, s.cycles⟩)).bridge fun x => { x with uses := x.uses + 1 }

/-- PREFETCH_FILL_DONE of buffer `i`; data with an uncorrectable error are not kept. -/
def State.pfFill (s : State) (i : Nat) : State :=
  match s.pfBuf i with
  | some b =>
    let o := b.addr - dramBase
    if b.filled then s
    else
      let r := s.dramCheck o b.len
      if r.1 then r.2.pfDiscard i
      else r.2.setPf i (some { b with filled := true, bytes := s.dramGets o b.len, born := s.cycles })
  | none => s

/-- PREFETCH_EXPIRY of buffer `i`: 2 µs after its data arrived. -/
def State.pfExpire (s : State) (i : Nat) : State :=
  match s.pfBuf i with
  | some b => if b.filled then s.pfDiscard i else s
  | none => s

/-! DMA rings (R414 to R420). -/

def Ring.fresh : Ring := ⟨none, [], [], false⟩
def State.ring (s : State) (r : Nat) : Ring := spGet (fun _ => Ring.fresh) s.brg.rings r
def State.setRing (s : State) (r : Nat) (x : Ring) : State :=
  s.bridge fun b => { b with rings := spSet (fun _ => Ring.fresh) b.rings r x }

/-- Host address of descriptor index `i` of ring `r` (R415). -/
def State.descAddr (s : State) (r i : Nat) : Nat :=
  s.rf (.BRG_RING_BASE_HI_BASE_HI r) * 2 ^ 32 + s.rf (.BRG_RING_BASE_LO_BASE_LO r) * 64 + i % 2 ^ (s.rf (.BRG_RING_CFG_SIZE_LOG r)) * 16

/-- Descriptors available to the device (R415). -/
def State.ringAvail (s : State) (r : Nat) : Nat := subW 16 (s.rf (.BRG_RING_TAIL_TAIL r)) (s.rf (.BRG_RING_HEAD_HEAD r))

/-- The ring may move (R403, R417, R418): not halted, with the link up and the function not in D3hot. -/
def State.ringLive (s : State) (r : Nat) : Bool :=
  !s.on (.BRG_RING_CFG_HALTED r) && s.on .BRG_LINK_STATUS_UP && !s.brg.d3hot

/-- R414: cut a transfer of `n` bytes at `a` so that no piece crosses 4 KiB or exceeds `most`. -/
def cutBursts (most : Nat) : Nat → Nat → Nat → List (Nat × Nat)
  | 0, _, _ => []
  | fuel + 1, a, n =>
    if n = 0 then []
    else
      let k := min n (min most (4096 - a % 4096))
      (a, k) :: cutBursts most fuel (a + k) (n - k)

/-- An outbound read, cut (R414). The acted request size is at most 1 KiB (R403). -/
def State.hostRead (s : State) (a n : Nat) : State :=
  s.each (cutBursts (min s.brg.mrrs 1024) n a n) (fun s p => s.emit (.dmaRead p.1 p.2))

/-- An outbound write, cut (R414). -/
def State.hostWrite (s : State) (a : Nat) (b : List Byte) : State :=
  s.each (cutBursts s.brg.mps b.length a b.length) (fun s p => s.emit (.dmaWrite p.1 ((b.drop (p.1 - a)).take p.2)))

/-- R416: the write-back of descriptor index `i`: bytes 8 to 15 in one write. -/
def State.writeBack (s : State) (r i len ctrl code : Nat) : State :=
  s.emit (.dmaWrite (s.descAddr r i + 8) (bytesLE 2 len ++ bytesLE 1 ctrl ++ [0] ++ bytesLE 2 (2 ^ 15 + code * 2 ^ 12) ++ [0, 0]))

/-- R419: a frame is completed on ring `r`. -/
def State.ringDone (s : State) (r : Nat) : State :=
  if !s.on (.BRG_RING_CFG_VEC_EN r) then s
  else if s.rf (.BRG_RING_CFG_COAL_US r) = 0 then s.msix (s.rf (.BRG_RING_CFG_VECTOR r))
  else s.setRing r { s.ring r with coal := true }

/-- COALESCE_TIMER_EXPIRY of ring `r`. -/
def State.coalesce (s : State) (r : Nat) : State :=
  if (s.ring r).coal then
    let s := s.setRing r { s.ring r with coal := false }
    if s.on (.BRG_RING_CFG_VEC_EN r) then s.msix (s.rf (.BRG_RING_CFG_VECTOR r)) else s
  else s

/-- R420: ring `r` halts with `code`; `first` is the first descriptor index that may not have arrived. -/
def State.ringHalt (s : State) (r code first : Nat) : State :=
  let s := (s.wf (.BRG_RING_CFG_HALTED r) 1).wf .BRG_INT_RING_HALT 1
  let s := ((s.wf (.BRG_RING_HALT_VALID r) 1).wf (.BRG_RING_HALT_CODE r) code).wf (.BRG_RING_HALT_FIRST r) first
  let s := s.notify 0x265 0x0E
  let s := if s.on .BRG_LINK_STATUS_UP && !s.brg.d3hot then
      let d := s.draw
      d.2.writeBack r first (Config.free d.1 % 65536) (Config.free d.1 / 65536 % 256) code
    else s
  s.setRing r { Ring.fresh with coal := (s.ring r).coal }

/-- The frame of transmit ring `r` is whole: it enters port 25, and its descriptors are written back (R416, R417). -/
def State.ringEnter (s : State) (r : Nat) : State :=
  let x := s.ring r
  if s.held 25 then s.setRing r { x with wait := some .enter }
  else
    let n := x.bytes.length
    let long := 10236 < n
    let cls := match x.descs with | d :: _ => d.2 % 8 | [] => 0
    let code := if long then 1 else if !s.fwdEn then 4 else 0
    let s := if long then s else s.inject 25 cls x.bytes false
    let head := s.rf (.BRG_RING_HEAD_HEAD r)
    let s := s.each ((List.range x.descs.length).zip x.descs) (fun s d => s.writeBack r (head + d.1) d.2.1 d.2.2 code)
    let s := s.wf (.BRG_RING_HEAD_HEAD r) ((head + x.descs.length) % 65536)
    let s := s.setRing r { Ring.fresh with coal := x.coal }
    let s := if code = 0 then (s.cinc (Ctr.ring r 0)).cadd (Ctr.ring r 1) n else s.cinc (Ctr.ring r 2)
    s.ringDone r

/-- R417: transmit ring `r` may fetch from host memory. -/
def State.ringReads (s : State) (r : Nat) : Bool := s.ringLive r && s.fwdEn && !s.held 25

/-- The read of a descriptor's buffer, once the ring may fetch (R417). -/
def State.ringBuf (s : State) (r i addr len ctrl : Nat) : State :=
  if s.ringReads r then (s.setRing r { s.ring r with wait := some (.data i len ctrl) }).hostRead addr len
  else s.setRing r { s.ring r with wait := some (.buf i addr len ctrl) }

/-- TX_RING_FETCH of transmit ring `r`: it fetches its next descriptor (R417), or goes on with what waited. -/
def State.ringFetch (s : State) (r : Nat) : State :=
  let x := s.ring r
  match x.wait with
  | some .enter => if s.ringLive r then s.ringEnter r else s
  | some (.buf i addr len ctrl) => s.ringBuf r i addr len ctrl
  | some _ => s
  | none =>
    if s.ringReads r && (s.on (.BRG_RING_CFG_EN r) || x.descs ≠ []) && x.descs.length < s.ringAvail r then
      let i := (s.rf (.BRG_RING_HEAD_HEAD r) + x.descs.length) % 65536
      (s.setRing r { x with wait := some (.desc i) }).hostRead (s.descAddr r i) 16
    else s

/-- A read of bridge buffer `i`: 0 to 15 the prefetch buffers, 16 + r the data of ring r (R432). -/
def State.bufRead (s : State) (i : Nat) : Bool × State := s.eccRead .ring i 0x267 none

/-- DMA_READ_COMPLETION on ring `r` with the bytes read; data with an uncorrectable error are a read error (R416, R432). -/
def State.ringData (s : State) (r : Nat) (b : List Byte) : State :=
  let x := s.ring r
  match x.wait with
  | some (.desc i) =>
    let len := ofBytesLE ((b.drop 8).take 2)
    let ctrl := ofBytesLE ((b.drop 10).take 1)
    s.ringBuf r i (ofBytesLE (b.take 8)) len ctrl
  | some (.data _ len ctrl) =>
    let d := s.bufRead (16 + r)
    let s := d.2
    if d.1 then (s.eccClear .ring (16 + r)).ringHalt r 2 (s.rf (.BRG_RING_HEAD_HEAD r)) else
    let s := s.setRing r { x with wait := none, bytes := x.bytes ++ b.take len, descs := x.descs ++ [(len, ctrl)] }
    if bitAt ctrl 7 then s.ringEnter r else s
  | _ => s

/-- DMA_READ_TIMEOUT on ring `r`: a receive ring reads descriptors while it is live (R416, R418, R420). -/
def State.ringTimeout (s : State) (r : Nat) : State :=
  match (s.ring r).wait with
  | some .enter | some (.buf ..) => s
  | some _ => (s.notify 0x266 0x05).ringHalt r 2 (s.rf (.BRG_RING_HEAD_HEAD r))
  | none =>
    if 16 ≤ r && s.on (.BRG_RING_CFG_EN r) && s.ringLive r then (s.notify 0x266 0x05).ringHalt r 2 (s.rf (.BRG_RING_HEAD_HEAD r)) else s

/-- DMA_WRITE_FAILURE on ring `r` (R420), whose writes may be unacknowledged still after EN = 0. -/
def State.ringWriteFail (s : State) (r first : Nat) : State :=
  if s.on (.BRG_RING_CFG_HALTED r) then s else s.ringHalt r 3 first

/-- An outbound write of damaged data: its first piece goes out poisoned (R420). -/
def State.hostPoison (s : State) (a : Nat) (b : List Byte) : State :=
  match cutBursts s.brg.mps b.length a b.length with
  | p :: _ => s.emit (.dmaPoison p.1 (b.take p.2))
  | [] => s

/-- R418: write a delivered frame into receive ring `r`, whose next descriptors name the buffers `bufs`. Data with an
uncorrectable error go out poisoned, which halts the ring (R420). -/
def State.ringDeliver (s : State) (r : Nat) (data : List Byte) (frameLen : Nat) (bufs : List Nat) : State :=
  let size := s.rf (.BRG_RING_CFG_BUF_SIZE r) * 256
  let n := (data.length + size - 1) / size
  if !s.on (.BRG_RING_CFG_EN r) || !s.ringLive r then s.cinc (Ctr.ring r 2)
  else if s.ringAvail r < n then s.cinc (Ctr.ring r 3)
  else
    let head := s.rf (.BRG_RING_HEAD_HEAD r)
    let s := s.each (List.range n) (fun s k => s.hostRead (s.descAddr r (head + k)) 16)
    let d := s.bufRead (16 + r)
    let s := d.2
    if d.1 then ((s.eccClear .ring (16 + r)).hostPoison (bufs[0]?.getD 0) (data.take size)).ringHalt r 3 head else
    let s := s.each (List.range n) (fun s k => s.hostWrite (bufs[k]?.getD 0) ((data.drop (k * size)).take size))
    let s := s.each (List.range n) (fun s k =>
      s.writeBack r (head + k) (min size (data.length - k * size)) (b2n (k + 1 = n) * 128 + b2n (k = 0) * 64) 0)
    let s := s.wf (.BRG_RING_HEAD_HEAD r) ((head + n) % 65536)
    ((s.cinc (Ctr.ring r 0)).cadd (Ctr.ring r 1) frameLen).ringDone r

/-- RX_RING_DELIVERY: the copy leaving on port `p` (25 or 29) goes to a Hatch or a receive ring (R418). -/
def State.rxDeliver (s : State) (p : Nat) (bufs : List Nat) : State :=
  match s.onWire p with
  | none => s
  | some c =>
    let s := s.setWire p none
    let s := match s.copyFrame c with
      | none => s
      | some f =>
        let b := s.leaving c
        let data := metaRecord c f b.length ++ b
        match p, c.hatch with
        | 25, some h => (s.hatEnter 14 h data).2
        | 25, none => s.ringDeliver (16 + bitsAt (s.rf .BRG_RX_MAP_MAP) (4 * c.cls) 4) data b.length bufs
        | _, _ => s.ringDeliver (s.rf .BRG_CFG_ANA_RING) data b.length bufs
    s.releaseCopy c

/-- RING_TAIL_WRITE. -/
def State.ringTail (s : State) (r : Nat) (w : Word) : State := s.wf (.BRG_RING_TAIL_TAIL r) (fldGet w 0 16)

/-- RING_CFG_WRITE: a write that makes BRG_RING_CFG[r] the word `w` (R415, R420). -/
def State.ringCfg (s : State) (r : Nat) (w : Word) : State :=
  let old := s.rword (Reg.BRG_RING_CFG r)
  let size := fldGet w 24 4
  let buf := fldGet w 16 8
  if size < 4 || buf = 0 || 64 < buf then s.brgRefused
  else if old.getLsbD 31 && (size ≠ fldGet old 24 4 || buf ≠ fldGet old 16 8) then s.brgRefused
  else
    let s := s.wword (Reg.BRG_RING_CFG r) w
    if !old.getLsbD 31 && w.getLsbD 31 then s.wf (.BRG_RING_CFG_HALTED r) 0 else s

/-- A write of BRG_RING_BASE_LO[r] or _HI[r] at address `a` (R415). -/
def State.ringBaseWrite (s : State) (r a : Nat) (v : Word) : State :=
  if s.on (.BRG_RING_CFG_EN r) && v ≠ s.rword a then s.brgRefused else s.wword a v

/-- A write that makes BRG_CFG the word `w` (R409). -/
def State.brgCfg (s : State) (w : Word) : State :=
  let n := fldGet w 16 8
  if n = 0 || 64 < n || fldGet w 0 5 < 16 then s.brgRefused
  else
    let s := s.wword Reg.BRG_CFG w
    if s.on .BRG_CFG_PF_EN then s else s.pfDiscardAll

/-! Link and PCIe resets (R403, R404). -/

/-- R403: the configuration header of the function, as a read of configuration space finds it. -/
structure PcieHeader where
  vendor : Nat
  device : Nat
  revision : Nat
  cls : Nat
  subVendor : Nat
  subId : Nat
  deriving DecidableEq, Repr

/-- R403: the header that the device shows now; the Vendor ID is fused and stated nowhere. -/
def State.pcieHeader (s : State) : PcieHeader where
  vendor := Config.pcieVendor.toNat
  device := 0x8425
  revision := s.rf .TOP_REV_MAJOR % 16 * 16 + s.rf .TOP_REV_MINOR % 16
  cls := 0x028000
  subVendor := s.rf .BRG_SUBSYS_SUBSYS_VID
  subId := s.rf .BRG_SUBSYS_SUBSYS_ID

/-- PCIE_LINK_UP with speed and width; the LTSSM number of L0 is left to the PCIe specification. -/
def State.pcieUp (s : State) (speed width mps : Nat) (host : HostSetup) : State :=
  if s.on .TOP_STRAP_PCIE_EN && !s.on .BRG_LINK_STATUS_UP then
    let d := s.draw
    let s := (d.2.bridge fun x => { x with mps := mps, mrrs := host.mrrs, d3hot := host.d3hot }).wf .BRG_LINK_STATUS_UP 1
    let s := s.wf .BRG_LINK_STATUS_LTSSM (Config.free d.1 % 64)
    ((s.wf .BRG_LINK_STATUS_SPEED speed).wf .BRG_LINK_STATUS_WIDTH width).wf .BRG_INT_LINK_UP 1
  else s

/-- PCIE_RESET; `down` says that the link went down with it (R404). -/
def State.pcieReset (s : State) (down : Bool) : State :=
  let s := s.chalVoid.pfDiscardAll
  let s := s.each (List.range 32) (fun s r =>
    [Reg.BRG_RING_BASE_LO r, Reg.BRG_RING_BASE_HI r, Reg.BRG_RING_CFG r, Reg.BRG_RING_TAIL r, Reg.BRG_RING_HEAD r].foldl
      (fun s a => s.wword a (resetWord a)) s)
  let s := s.bridge fun x => { x with rings := [], open_ := [], mps := 128, mrrs := 512, d3hot := false }
  let s := { s with irq := ⟨false, false, 0, [], s.irq.rose⟩ }
  if down && s.on .BRG_LINK_STATUS_UP then
    let s := (s.wword Reg.BRG_LINK_STATUS (resetWord Reg.BRG_LINK_STATUS)).wf .BRG_INT_LINK_DOWN 1
    (s.cinc (Ctr.brg 6)).notify 0x260 0x10
  else s

end Sys2Proof.Machine
end

