-- ==== Sys2Proof/Machine/Gateway.lean ====
section
/-!
DEFINITION. The legacy bus channels, their messages and events, the Pantry, delivery, encapsulation and
decapsulation (R375 to R392, R396 to R402). The engine that runs programs is in Machine/Isa.lean.
-/
namespace Sys2Proof.Machine

/-- Update the gateway's own state. -/
def State.gway (s : State) (g : Gwe → Gwe) : State := { s with gwe := g s.gwe }

/-- Counters of channel `c` and the global counters (R402). -/
def Ctr.gwe (c i : Nat) : Nat := Reg.GWE_CH_CFG 0 + 0x4000 + 0x80 * c + 8 * i
def Ctr.gweAll (i : Nat) : Nat := Reg.GWE_CH_CFG 0 + 0x6000 + 8 * i

def Chan.fresh : Chan := ⟨[], [], none, false, [], .off, none, (0, 0), false, [], 0, 0, 0, false⟩
def State.chan (s : State) (c : Nat) : Chan := spGet (fun _ => Chan.fresh) s.gwe.chans c
def State.setChan (s : State) (c : Nat) (x : Chan) : State :=
  s.gway fun g => { g with chans := spSet (fun _ => Chan.fresh) g.chans c x }

/-- STATE of channel `c`: 0 OFF, 1 LISTEN, 2 ACTIVE, 3 BUS_OFF, 4 SLEEP (R382). -/
def State.chState (s : State) (c : Nat) : Nat := s.rf (.GWE_CH_STATUS_STATE c)
def State.chMode (s : State) (c : Nat) : Nat := s.rf (.GWE_CH_CFG_MODE c)
def isCan (c : Nat) : Bool := c < 16
def isLin (c : Nat) : Bool := 16 ≤ c && c < 24

/-- A refusal on the source of channel `c` (R401). -/
def State.chRefused (s : State) (c : Nat) : State := s.refuse (0x1E0 + c) 0x08

/-! The Pantry (R385 to R388). -/

def State.pantryByte (s : State) (a : Nat) : Byte := spGet (fun _ => 0) s.gwe.pantry a
def State.pantryBytes (s : State) (a n : Nat) : List Byte := (List.range n).map (fun i => s.pantryByte (a + i))
def State.pantryLE (s : State) (a n : Nat) : Nat := ofBytesLE (s.pantryBytes a n)

/-- Write bytes from Pantry offset `a`, lowest first. -/
def State.pantryPuts (s : State) (a : Nat) : List Byte → State
  | [] => s
  | b :: l => (s.gway fun g => { g with pantry := spSet (fun _ => 0) g.pantry a b }).pantryPuts (a + 1) l

/-- Byte `o` of the context of channel `c`. -/
def State.ctx (s : State) (c o n : Nat) : Nat := s.pantryLE (512 * c + o) n
def State.ctxValid (s : State) (c : Nat) : Bool := bitAt (s.ctx c 64 1) 7

/-- Source 0x1E0 + the channel in service, or channel 0 where none is (R401). -/
def State.gweSrc (s : State) : Nat := 0x1E0 + (match s.gwe.event with | some v => v.chan | none => 0)

/-- A read of the Pantry words under `n` bytes from offset `a` (R400, R401): each damaged word is corrected or reported
on `src`; the answer is true where one of them is uncorrectable. -/
def State.pantryCheck (s : State) (src a n : Nat) : Bool × State :=
  (List.range ((a + n + 3) / 4 - a / 4)).foldl (fun r i =>
    let x := r.2.eccRead .pantry (a / 4 + i) src none
    (r.1 || x.1, x.2)) (false, s)

/-- The program region of the Pantry (R385). -/
def pantryProg : Nat := 0xA000
def pantryStage : Nat := 0x3F8000
def pantryEnd : Nat := 0x400000

/-! Messages (R389, R390). -/

/-- The 32-byte record of a message without DATA (R389), big-endian. -/
def Msg.header (m : Msg) (seq : Nat) : List Byte :=
  [1] ++ bytesBE 1 m.channel ++ bytesBE 2 seq ++ bytesBE 1 m.format ++ bytesBE 1 m.flags ++ bytesBE 2 m.data.length ++
  bytesBE 4 m.id ++ bytesBE 1 m.sdt ++ bytesBE 1 m.vcid ++ bytesBE 1 m.kind ++ bytesBE 1 m.status ++ bytesBE 4 m.af ++
  [0, 0, 0, 0] ++ bytesBE 8 m.time

/-- Bytes padded with zeros to a multiple of 4. -/
def pad4 (b : List Byte) : List Byte := b ++ List.replicate ((4 - b.length % 4) % 4) 0

/-- The whole record of a message. -/
def Msg.record (m : Msg) (seq : Nat) : List Byte := m.header seq ++ pad4 m.data

/-- Big-endian field of `n` bytes at `o`. -/
def beAt (b : List Byte) (o n : Nat) : Nat := ofBytesBE ((b.drop o).take n)

/-- The fields of a record that the device takes (R397); none where it is bad. -/
def parseRecord (b : List Byte) : Option Msg :=
  let len := beAt b 6 2
  if b.length < 32 || beAt b 0 1 ≠ 1 || 2048 < len || b.length < 32 + len then none
  else some ⟨0, beAt b 4 1, beAt b 5 1, beAt b 8 4, beAt b 12 1, beAt b 13 1, 0, 0, beAt b 16 4, 0, (b.drop 32).take len⟩

/-- A message with no data. -/
def Msg.blank (c kind status id time : Nat) : Msg := ⟨c, 0, 0, id, 0, 0, kind, status, 0, time, []⟩

/-! Events (R391, R392). -/

/-- Event bytes in units of 64 that a message takes in a FIFO. -/
def Msg.units (m : Msg) : Nat := (m.data.length + 63) / 64

/-- Events of one cycle stand in ascending KIND order (R392). -/
def kindInsert (m : Msg) : List Msg → List Msg
  | [] => [m]
  | h :: t => if m.kind < h.kind then m :: h :: t else h :: kindInsert m t

/-- The FIFO of channel `x` takes an event posted at core cycle `t`. -/
def Chan.post (x : Chan) (m : Msg) (t : Nat) : Chan :=
  let k := if x.posted.1 = t then min x.posted.2 x.fifo.length else 0
  let n := x.fifo.length - k
  { x with fifo := x.fifo.take n ++ kindInsert m (x.fifo.drop n), posted := (t, k + 1) }

/-- The FIFO of a channel cannot take the event (R392). -/
def Chan.full (x : Chan) (m : Msg) : Bool := 16 ≤ x.fifo.length || 128 < (x.fifo.map Msg.units).sum + m.units

/-- Post an event to channel `c` (R391, R392, R400). The record of a LOOP event names the channel that sent it (R389). -/
def State.postEvent (s : State) (c : Nat) (m : Msg) : State :=
  let x := s.chan c
  let dup := (m.kind = 5 && x.fifo.any (fun y => y.kind = 5)) || (m.kind = 6 && x.fifo.any (fun y => y.kind = 6 && y.id = m.id))
  if s.on (.GWE_CH_STATUS_STOPPED c) then s.cinc (Ctr.gwe c 4)
  else if dup then s.cinc (Ctr.gwe c 10)
  else if x.full m then
    ((s.cinc (Ctr.gwe c 3)).wf .GWE_INT_RX_OVERFLOW 1).notify (0x1E0 + c) 0x07
  else s.setChan c (x.post (if m.kind = 4 then m else { m with channel := c }) s.cycles)

/-- Post an event that only a channel in ACTIVE takes (R382). -/
def State.postActive (s : State) (c : Nat) (m : Msg) : State := if s.chState c = 2 then s.postEvent c m else s.cinc (Ctr.gwe c 4)

/-- A BUS event with its STATUS. -/
def State.busEvent (s : State) (c status : Nat) : State := s.postEvent c (Msg.blank c 8 status 0 s.now)

/-- An error counted in RX_ERR (R401). -/
def State.rxErr (s : State) (c : Nat) : State := (s.cinc (Ctr.gwe c 2)).rateEvent (0x1E0 + c) (s.rf (.GWE_CH_CFG_ERR_THR c))

/-- A due moment of trigger `k` (R347, R391). -/
def State.gweTrigger (s : State) (k : Nat) : State :=
  s.each (List.range 64) (fun s c =>
    if s.ctxValid c && bitAt (s.ctx c 66 1) k then s.postActive c (Msg.blank c 6 0 k s.now) else s)

/-- GATEWAY_TIMER of channel `c`. -/
def State.gweTimer (s : State) (c : Nat) : State :=
  if s.ctxValid c && s.ctx c 84 4 ≠ 0 then s.postActive c (Msg.blank c 5 0 0 s.now) else s

/-! Channel states (R378, R382 to R384). -/

/-- The queue and the LIN responses of channel `c` are flushed into TX_FLUSHED. -/
def State.chFlush (s : State) (c : Nat) : State :=
  let x := s.chan c
  (s.setChan c { x with txq := [], lin := [], flushed := x.onBus.isSome }).cadd (Ctr.gwe c 5) (x.txq.length + x.lin.length)

/-- Channel `c` is enabled (R382). -/
def State.chEnabled (s : State) (c : Nat) : Bool :=
  if c < 32 then s.chMode c ≠ 0 && s.on (.GWE_CH_CFG_ENABLE c) else s.ctxValid c

/-- Channel `c` enters OFF, or leaves it (R382). -/
def State.chUpdate (s : State) (c : Nat) : State :=
  if !s.chEnabled c then (s.wf (.GWE_CH_STATUS_STATE c) 0).setChan c { s.chan c with slot := .off, header := none, onBus := none, flushed := false, rx := [], sleeping := false, recovering := false }
  else if s.chState c = 0 then
    let s := s.wf (.GWE_CH_STATUS_STATE c) (if s.fwdEn then 2 else 1)
    s.setChan c { s.chan c with slot := if s.fwdEn && s.chMode c = 4 then .next 0 else .off }
  else s

/-- R383: a serial channel completes its current character; the rest of its message is flushed (log entry 157). -/
def State.serialStop (s : State) (c : Nat) : State :=
  if isCan c || isLin c || (s.chan c).onBus.isNone then s
  else ((s.setChan c { s.chan c with onBus := none, flushed := false }).emit (.busStop c)).cinc (Ctr.gwe c 5)

/-- R383: FWD_EN falls. -/
def State.gweFwdOff (s : State) : State :=
  s.each (List.range 64) (fun s c =>
    if s.chState c = 2 then
      let s := (s.chFlush c).serialStop c
      let x := s.chan c
      ((s.setChan c { x with fifo := [], slot := .off }).cadd (Ctr.gwe c 4) x.fifo.length).wf (.GWE_CH_STATUS_STATE c) 1
    else s)

/-- R383: FWD_EN rises. -/
def State.gweFwdOn (s : State) : State :=
  s.each (List.range 64) (fun s c =>
    if s.chState c = 1 then
      let s := s.wf (.GWE_CH_STATUS_STATE c) 2
      let s := s.setChan c { s.chan c with slot := if isLin c && s.chMode c = 4 then .next 0 else .off }
      s.postEvent c (Msg.blank c 9 0 0 s.now)
    else s)

/-- Channel `c` enters SLEEP (R382, R384). -/
def State.chToSleep (s : State) (c : Nat) : State :=
  let s := (s.chFlush c).wf (.GWE_CH_STATUS_STATE c) 4
  (s.setChan c { s.chan c with slot := .off, header := none, sleeping := false }).busEvent c 5

/-- The protected identifier of LIN identifier `id` (R379, R389: a LIN ID stands without its parity bits). -/
def linPid (id : Nat) : Nat :=
  let b (k : Nat) : Nat := id / 2 ^ k % 2
  id % 64 + 64 * ((b 0 + b 1 + b 2 + b 4) % 2) + 128 * ((1 + b 1 + b 3 + b 4 + b 5) % 2)

/-- The LIN checksum over `l`: the inverted sum of its bytes with the carry added in. -/
def linSum (l : List Byte) : Nat := 255 - l.foldl (fun a b => let t := a + b.toNat; if 255 < t then t - 255 else t) 0

/-- A response on LIN channel `c` as it is sent (R379): the data and the classic or enhanced checksum. -/
def State.linResponse (s : State) (c id : Nat) (l : List Byte) : List Byte :=
  let classic := s.on (.GWE_LIN_CFG_CLASSIC c) || id = 0x3C || id = 0x3D
  l ++ bytesBE 1 (linSum (if classic then l else bytesBE 1 (linPid id) ++ l))

/-- The header a LIN commander sends (R379): the break, and with it the sync byte 0x55, and the protected identifier. -/
def State.linHead (s : State) (c id : Nat) : State := s.emit (.linBreak c (13 + s.rf (.GWE_LIN_CFG_BREAK_BITS c)) (linPid id))

/-- CHANNEL_SLEEP. -/
def State.chSleepCmd (s : State) (c : Nat) : State :=
  if 24 ≤ c || !(s.chState c = 1 || s.chState c = 2) then s.chRefused c
  else if isCan c && (s.chan c).onBus.isSome then s.setChan c { s.chan c with sleeping := true }
  else
    let s := if isLin c && s.chMode c = 4 && s.chState c = 2 then
        (s.linHead c 0x3C).emit (.busMessage c (s.linResponse c 0x3C ([0x00] ++ List.replicate 7 0xFF)))
      else s
    (s.emit (.busSleep c)).chToSleep c

/-- Channel `c` wakes (R384). -/
def State.chWakeUp (s : State) (c : Nat) : State :=
  let s := (s.busEvent c 4).wf .GWE_INT_WAKE 1
  let s := s.wf (.GWE_CH_STATUS_STATE c) (if s.fwdEn then 2 else 1)
  if isLin c && s.chMode c = 4 then s.setChan c { s.chan c with slot := .resume } else s

/-- CHANNEL_WAKE. -/
def State.chWakeCmd (s : State) (c : Nat) : State :=
  if 24 ≤ c || s.chState c ≠ 4 then s.chRefused c
  else (if isLin c then s.emit (.busWake c) else s).chWakeUp c

/-- CHANNEL_WAKE_DETECT. -/
def State.chWakeDetect (s : State) (c : Nat) : State := if c < 24 && s.chState c = 4 then s.chWakeUp c else s

/-- LIN_SCHEDULE_RESUME. -/
def State.linResume (s : State) (c : Nat) : State :=
  if (s.chan c).slot = .resume then s.setChan c { s.chan c with slot := .next 0 } else s

/-- LIN_IDLE_SLEEP. -/
def State.linIdle (s : State) (c : Nat) : State :=
  if isLin c && s.on (.GWE_CH_CFG_IDLE_SLEEP c) && (s.chState c = 1 || s.chState c = 2) then s.chToSleep c else s

/-- CHANNEL_FLUSH_TX. -/
def State.chFlushCmd (s : State) (c : Nat) : State := if 32 ≤ c || s.chState c = 0 then s.chRefused c else s.chFlush c

/-- CHANNEL_RECOVER (R378). -/
def State.chRecover (s : State) (c : Nat) : State :=
  if !isCan c || s.chState c ≠ 3 then s.chRefused c else s.setChan c { s.chan c with recovering := true }

/-- BUS_OFF_RECOVERY (R378). -/
def State.busOffEnd (s : State) (c : Nat) : State :=
  if s.chState c = 3 && ((s.chan c).recovering || s.on (.GWE_CH_CFG_AUTO_RECOVER c)) then
    let s := s.setChan c { s.chan c with recovering := false }
    let s := ((s.wf (.GWE_CAN_ERR_STATE c) 0).wf (.GWE_CAN_ERR_TEC c) 0).wf (.GWE_CAN_ERR_REC c) 0
    (s.wf (.GWE_CH_STATUS_STATE c) (if s.fwdEn then 2 else 1)).busEvent c 3
  else s

/-- TEC after a frame that the controller sent (ISO 11898-1, log entry 49). -/
def tecNext (tec : Nat) (e : CanErr) : Nat := if e.lec = 0 then tec - 1 else if e.extra then tec else tec + 8

/-- REC after a frame that the controller received; from error passive a good frame takes it to a value from 119 to 127, free
value `n`. -/
def recNext (r n : Nat) (e : CanErr) : Nat :=
  if e.lec ≠ 0 then min 255 (r + 1 + (if e.extra then 8 else 0)) else if 127 < r then 119 + n % 9 else r - 1

/-- R378: fault confinement of CAN channel `c` after a frame, sent or received. LEC names the last error. -/
def State.canErr (s : State) (c : Nat) (sent : Bool) (e : CanErr) : State :=
  let tec := if sent then tecNext (s.rf (.GWE_CAN_ERR_TEC c)) e else s.rf (.GWE_CAN_ERR_TEC c)
  let d := s.draw
  let rec_ := if sent then s.rf (.GWE_CAN_ERR_REC c) else recNext (s.rf (.GWE_CAN_ERR_REC c)) (Config.free d.1) e
  let s := if sent then s else d.2
  let s := (s.wf (.GWE_CAN_ERR_TEC c) (min tec 511)).wf (.GWE_CAN_ERR_REC c) rec_
  let s := if e.lec = 0 then s else s.wf (.GWE_CAN_ERR_LEC c) e.lec
  let old := s.rf (.GWE_CAN_ERR_STATE c)
  if 255 < tec then
    let s := (s.wf (.GWE_CAN_ERR_STATE c) 2).chFlush c
    let x := s.chan c
    let s := (s.setChan c { x with onBus := none, flushed := false, sleeping := false, recovering := s.on (.GWE_CH_CFG_AUTO_RECOVER c) }).cadd
      (Ctr.gwe c 5) (b2n x.onBus.isSome)
    let s := ((s.wf (.GWE_CH_STATUS_STATE c) 3).cinc (Ctr.gwe c 9)).wf .GWE_INT_BUS_OFF 1
    (s.busEvent c 2).notify (0x1E0 + c) 0x10
  else
    let new := if 127 < tec || 127 < rec_ then 1 else 0
    let s := s.wf (.GWE_CAN_ERR_STATE c) new
    if new = old then s else s.busEvent c (if new = 1 then 1 else 3)

/-! Reception (R378 to R381, R391). -/

/-- A message received on channel `c` (R382, R391); `m.status` tells good from errored. -/
def State.received (s : State) (c : Nat) (m : Msg) : State :=
  let s := if m.status = 0 then s.cinc (Ctr.gwe c 0) else s.rxErr c
  if s.chState c = 1 then s.cinc (Ctr.gwe c 4)
  else if m.status = 0 || s.on (.GWE_CH_CFG_ERR_EVT c) then s.postEvent c { m with kind := 1 } else s

/-- The unescaped bytes of an HDLC-like frame (R381). -/
def hdlcUnescape : List Byte → List Byte
  | [] => []
  | [b] => if b = 0x7D then [] else [b]
  | a :: b :: l => if a = 0x7D then (b ^^^ 0x20) :: hdlcUnescape l else a :: hdlcUnescape (b :: l)

/-- Escape for HDLC-like framing. -/
def hdlcEscape (l : List Byte) : List Byte := l.flatMap (fun b => if b = 0x7D || b = 0x7E then [0x7D, b ^^^ 0x20] else [b])

/-- The FCS-16 of RFC 1662. -/
def fcsBit (c : Nat) : Nat := if c % 2 = 1 then (c / 2) ^^^ 0x8408 else c / 2
def fcsByte (c : Nat) (b : Byte) : Nat := fcsBit (fcsBit (fcsBit (fcsBit (fcsBit (fcsBit (fcsBit (fcsBit (c ^^^ b.toNat))))))))
def fcs16 (l : List Byte) : Nat := l.foldl fcsByte 0xFFFF

/-- Serial mode of channel `c` drives DE and does not hear itself (R381). -/
def State.serDeaf (s : State) (c : Nat) : Bool :=
  let m := s.chMode c
  (m = 7 || m = 8 || m = 10) && (s.chan c).onBus.isSome && !s.on (.GWE_SER_FRM_ECHO c)

/-- SERIAL_MESSAGE_END on channel `c` (R381). The event of an errored message carries the bytes received, with those of an FCS. -/
def State.serialEnd (s : State) (c : Nat) : State :=
  let x := s.chan c
  let s := s.setChan c { x with rx := [], rxId := 0, rxErr := 0 }
  let mode := s.chMode c
  if x.rx = [] || !(s.chState c = 1 || s.chState c = 2) then s
  else
    let hdlc := 9 ≤ mode
    let raw := if hdlc then hdlcUnescape x.rx else x.rx
    let bad := hdlc && (raw.length < 2 || fcs16 raw ≠ 0xF0B8)
    let body := if hdlc then raw.take (raw.length - 2) else raw
    let data := if bad || x.rxErr ≠ 0 then raw else body
    let status := if 2048 < body.length then 4 else if x.rxErr ≠ 0 then 2 else if bad then 1 else 0
    let fmt := if mode = 8 then 5 else if hdlc then 6 else 4
    s.received c ⟨c, fmt, 0, x.rxId, 0, 0, 1, status, 0, x.rxTime, data.take 2048⟩

/-- Characters received on serial channel `c`, the first of them with its start bit at `at_`: `addr` is the address character that begins a mode 8 message. In modes 6
to 8 the message ends at 2,048 bytes; what follows begins the next one, but in mode 8, where an address character does. -/
def State.serialChars (s : State) (c addr err at_ : Nat) (b : List Byte) : State :=
  if s.serDeaf c then s
  else
    let x := s.chan c
    let fresh := x.rx = []
    let mine := s.chMode c ≠ 8 || addr = s.rf (.GWE_SER_FRM_ADDR c) || addr = 0xFF
    if !mine then s
    else
      let mode := s.chMode c
      let n := if mode ≤ 8 then 2048 - x.rx.length else b.length
      let s := s.setChan c { x with
        rx := x.rx ++ b.take n, rxId := if mode = 8 then addr else 0, rxTime := if fresh then at_ else x.rxTime, rxErr := max x.rxErr err }
      if n ≤ b.length && mode ≤ 8 then
        let s := s.serialEnd c
        if mode = 8 || b.drop n = [] then s else s.setChan c { s.chan c with rx := b.drop n, rxTime := s.now, rxErr := err }
      else s

/-- CAN FD lengths. -/
def fdLens : List Nat := [0, 1, 2, 3, 4, 5, 6, 7, 8, 12, 16, 20, 24, 32, 48, 64]

/-- R375: a message of this format and length reaches CAN channel `c` in its MODE. -/
def State.rxFits (s : State) (c : Nat) (m : Msg) : Bool :=
  let n := m.data.length
  match m.format with
  | 0 => n ≤ 8 && 1 ≤ s.chMode c
  | 1 => fdLens.contains n && 2 ≤ s.chMode c
  | 2 => 1 ≤ n && n ≤ 2048 && s.chMode c = 3
  | _ => false

/-- R380: the response `b` to the header with identifier `id`: 9 bytes at most, the last its checksum; the STATUS and the data.
`framing`: a byte met a framing error. -/
def State.linTaken (s : State) (c id : Nat) (framing : Bool) (b : List Byte) : Nat × List Byte :=
  let r := b.take 9
  let data := r.dropLast
  (if framing then 2 else if data = [] || s.linResponse c id data ≠ r then 1 else 0, data)

/-- The response on LIN channel `c` (R380). -/
def State.linRx (s : State) (c : Nat) (m : Msg) : State :=
  let x := s.chan c
  let h := match x.header with | some h => h | none => (m.id % 64, m.time)
  if m.data = [] then s
  else
    let r := s.linTaken c h.1 (m.status ≠ 0) m.data
    let s := (s.setChan c { x with header := none }).received c ⟨c, 3, 0, h.1, 0, 0, 1, r.1, 0, h.2, r.2⟩
    if r.1 = 0 && h.1 = 0x3C && r.2.head? = some 0 then s.chToSleep c else s

/-- CHANNEL_RX on channel `c` (R375, R378 to R382). Of a message that the MODE does not have nothing is received but the error
(log entry 158). -/
def State.channelRx (s : State) (c : Nat) (m : Msg) (e : CanErr) : State :=
  let st := s.chState c
  if !(st = 1 || st = 2) then s
  else if isCan c then
    let s := if s.rxFits c m then s.received c m else s
    if st = 2 then s.canErr c false e else s
  else if isLin c then s.linRx c m
  else s.serialChars c m.id m.status m.time m.data

/-- LIN_RESPONSE_TIMEOUT on channel `c` (R380). -/
def State.linTimeout (s : State) (c : Nat) : State :=
  match (s.chan c).header with
  | some h => (s.setChan c { s.chan c with header := none }).received c ⟨c, 3, 0, h.1, 0, 0, 1, 3, 0, h.2, []⟩
  | none => s

/-! Transmission (R378, R379, R381, R396). -/

/-- R396: channel `c` can carry the message. -/
def State.canCarry (s : State) (c : Nat) (m : Msg) : Bool :=
  let n := m.data.length
  let mode := s.chMode c
  let idOk := if bitAt m.flags 7 then m.id < 2 ^ 29 else m.id < 2 ^ 11
  if isCan c then
    match m.format with
    | 0 => n ≤ 8 && idOk && 1 ≤ mode
    | 1 => n ≤ 64 && idOk && 2 ≤ mode
    | 2 => 1 ≤ n && n ≤ 2048 && m.id < 2 ^ 11 && mode = 3
    | _ => false
  else if isLin c then m.format = 3 && 1 ≤ n && n ≤ 8 && m.id < 64
  else
    1 ≤ n && n ≤ 2048 && (match mode with | 8 => m.format = 5 && m.id < 256 | 9 => m.format = 6 | 10 => m.format = 6 | _ => m.format = 4)

/-- What a message looks like on the bus (R381, R396). -/
def State.framed (s : State) (c : Nat) (m : Msg) : List Byte :=
  match s.chMode c with
  | 8 => BitVec.ofNat 8 m.id :: m.data
  | 9 | 10 =>
    let f := 0xFFFF - fcs16 m.data
    [0x7E] ++ hdlcEscape (m.data ++ bytesLE 2 f) ++ [0x7E]
  | _ => if m.format = 1 then m.data ++ List.replicate (((fdLens.find? (fun k => m.data.length ≤ k)).getD 64) - m.data.length) 0 else m.data

/-- Order of an identifier on a CAN bus: an 11-bit one takes bits 28:18 (R378). -/
def Msg.order (m : Msg) : Nat := if bitAt m.flags 7 then m.id else m.id * 2 ^ 18

/-- The position of the message that channel `c` sends next (R378). -/
def State.txPick (s : State) (c : Nat) : Nat :=
  let q := (s.chan c).txq
  if isCan c && s.on (.GWE_CH_CFG_TX_ORDER c) then
    ((List.range q.length).foldl (fun m i => match q[m]?, q[i]? with
      | some a, some b => if b.order < a.order then i else m
      | _, _ => m) 0)
  else 0

/-- R377: the coding of the XL data phase that channel `c` drives. -/
def State.xlCoding (s : State) (c : Nat) : Option (Nat × Nat × Nat) :=
  if s.on (.GWE_CAN_PWM_PWM_EN c) then some (s.rf (.GWE_CAN_PWM_PWMS c), s.rf (.GWE_CAN_PWM_PWML c), s.rf (.GWE_CAN_PWM_PWMO c)) else none

/-- Message `m` goes onto the bus of channel `c`, which started at `at_`. -/
def State.busSend (s : State) (c at_ : Nat) (m : Msg) (b : List Byte) : State :=
  let s := s.setChan c { s.chan c with onBus := some { m with time := at_ }, flushed := false }
  (if isCan c && m.format = 2 then s.emit (.xlPhase c (s.xlCoding c)) else s).emit (.busMessage c b)

/-- CHANNEL_TX_START on channel `c`: a queued message with a parity error is discarded (R401). -/
def State.txStart (s : State) (c : Nat) : State :=
  let x := s.chan c
  if isLin c || 32 ≤ c || s.chState c ≠ 2 || x.onBus.isSome || x.sleeping then s
  else
    let i := s.txPick c
    match x.txq[i]? with
    | none => s
    | some m =>
      let r := s.parityRead .txq c (0x1E0 + c)
      let s := r.2.setChan c { x with txq := x.txq.eraseIdx i }
      if r.1 then s
      else if s.canCarry c m then
        s.busSend c s.now m (s.framed c m)
      else s.cinc (Ctr.gwe c 6)

/-- CHANNEL_TX_DONE on channel `c`; `ok` is false where the frame lost arbitration (no error) or met an error: it is sent again,
but for one whose queue has been flushed meanwhile, which is flushed too (log entry 157). -/
def State.txDone (s : State) (c : Nat) (ok : Bool) (e : CanErr) : State :=
  let x := s.chan c
  match x.onBus with
  | none => s
  | some m =>
    let s := if ok then
        let s := (s.setChan c { x with onBus := none, flushed := false }).cinc (Ctr.gwe c 1)
        if s.on (.GWE_CH_CFG_TXC_EN c) && s.chState c = 2 then s.postEvent c { Msg.blank c 7 0 m.id m.time with format := m.format } else s
      else if x.flushed then (s.setChan c { x with onBus := none, flushed := false }).cinc (Ctr.gwe c 5)
      else s.setChan c { x with onBus := none, txq := m :: x.txq }
    let s := if isCan c && (ok || e.lec ≠ 0) then s.canErr c true (if ok then { e with lec := 0 } else e) else s
    if (s.chan c).sleeping then (s.emit (.busSleep c)).chToSleep c else s

/-- The loaded response of a LIN channel is sent (R379, R396), to a header whose break fell at `at_`. One that the channel
cannot carry is discarded. -/
def State.linSend (s : State) (c id at_ : Nat) (m : Msg) : State :=
  let x := s.chan c
  let lin := if bitAt m.flags 2 || !s.canCarry c m then spSet (fun _ => none) x.lin id none else x.lin
  let s := s.setChan c { x with lin := lin, header := none }
  if s.canCarry c m then s.busSend c at_ m (s.linResponse c id m.data) else s.cinc (Ctr.gwe c 6)

/-- LIN_SLOT_START on channel `c` (R379). -/
def State.linSlot (s : State) (c : Nat) : State :=
  match (s.chan c).slot with
  | .next k =>
    let n := s.rf (.GWE_LIN_CFG_NSLOTS c)
    if s.chState c ≠ 2 || n = 0 then s
    else
      let k := if k < n then k else 0
      let e := 32 * (c - 16) + k
      let id := s.rf (.GWE_LIN_SCHED_ID e)
      let s := s.linHead c id
      let s := s.setChan c { s.chan c with slot := .next ((k + 1) % n), header := some (id, s.now) }
      match s.on (.GWE_LIN_SCHED_PUBLISH e), spGet (fun _ => none) (s.chan c).lin id with
      | true, some m => s.linSend c id s.now m
      | _, _ => s
  | _ => s

/-- LIN_HEADER_RECEIVED on channel `c` (R379). -/
def State.linHeader (s : State) (c : Nat) (h : LinHead) : State :=
  let id := h.id.val
  if !isLin c || s.chMode c ≠ 5 || !(s.chState c = 1 || s.chState c = 2) then s
  else match spGet (fun _ => none) (s.chan c).lin id with
  | some m => if s.chState c = 2 then s.linSend c id h.time m else s.setChan c { s.chan c with header := some (id, h.time) }
  | none => s.setChan c { s.chan c with header := some (id, h.time) }

/-! Delivery (R396 to R398). -/

/-- A SEND to channel `d` (R396): true where it is accepted. A CAN message on the bus keeps its place in the queue, since it may
have to be sent again; a stopped virtual channel takes the LOOP event and discards it (R400). -/
def State.sendChannel (s : State) (d : Nat) (m : Msg) : Bool × State :=
  if s.chState d ≠ 2 then (false, s)
  else if isLin d then
    (true, s.setChan d { s.chan d with lin := spSet (fun _ => none) (s.chan d).lin (m.id % 64) (some m) })
  else if d < 32 then
    let x := s.chan d
    let q := x.txq ++ (if isCan d then x.onBus.toList else [])
    if 16 ≤ q.length || 8192 < (q.map (fun y => y.data.length)).sum + m.data.length then (false, s)
    else (true, s.setChan d { x with txq := x.txq ++ [m] })
  else
    let m := { m with kind := 4, status := 0 }
    (s.on (.GWE_CH_STATUS_STOPPED d) || !(s.chan d).full m, s.postEvent d m)

/-- One's-complement sum of big-endian 16-bit words, an odd last byte padded. -/
def onesSumOf (b : List Byte) : Nat := onesSum b ((b.length + 1) / 2) 0

/-- An Ethernet frame head with its tag. -/
def State.encapHead (s : State) (a et : Nat) : List Byte :=
  let v := s.pantryLE (a + 12) 2
  s.pantryBytes a 12 ++
  (if bitAt v 12 then [0x81, 0x00] ++ bytesBE 2 (v / 8192 * 8192 + v % 4096) else []) ++ bytesBE 2 et

/-- The ACF message of a message (R398, IEEE 1722); none for a format it cannot carry. -/
def acfMessage (m : Msg) (brief mtv : Bool) (bus : Nat) : Option (List Byte) :=
  let data := pad4 m.data
  let pad := data.length - m.data.length
  let ts := bytesBE 8 m.time
  if m.format ≤ 1 then
    let fl := bitAt m.flags
    let b2 := pad * 64 + b2n mtv * 32 + b2n (fl 6) * 16 + b2n (fl 7) * 8 + b2n (fl 5) * 4 + m.format * 2 + b2n (fl 4)
    let body := bytesBE 1 b2 ++ bytesBE 1 bus ++ (if brief then [] else ts) ++ bytesBE 4 m.id ++ data
    some (bytesBE 2 ((if brief then 2 else 1) * 512 + (body.length + 2) / 4) ++ body)
  else if m.format = 3 then
    let body := bytesBE 1 (pad * 64 + b2n mtv * 32 + bus) ++ bytesBE 1 m.id ++ ts ++ data
    some (bytesBE 2 (3 * 512 + (body.length + 2) / 4) ++ body)
  else none

/-- The ACF frame of encapsulation entry at Pantry offset `a` with sequence `q` (R398). -/
def State.acfFrame (s : State) (a q : Nat) (m : Msg) : Option (List Byte) :=
  let f := s.pantryLE (a + 15) 1
  (acfMessage m (bitAt f 7) (bitAt f 6) (f % 32)).map fun acf =>
    s.encapHead a 0x22F0 ++ [0x82] ++ bytesBE 2 (0x8000 + acf.length % 2048) ++ bytesBE 1 (q % 256) ++
    bytesBE 8 (s.pantryLE (a + 16) 8) ++ acf

/-- The UDP frame of the entry at `a` with sequence `q` (R398). -/
def State.udpFrame (s : State) (a q : Nat) (m : Msg) : List Byte :=
  let pay := m.record (q % 65536)
  let src := bytesBE 4 (s.pantryLE (a + 24) 4)
  let dst := bytesBE 4 (s.pantryLE (a + 28) 4)
  let ulen := 8 + pay.length
  let ports := bytesBE 2 (s.pantryLE (a + 32) 2) ++ bytesBE 2 (s.pantryLE (a + 34) 2)
  let sum := onesSumOf (src ++ dst ++ [0, 17] ++ bytesBE 2 ulen ++ ports ++ bytesBE 2 ulen ++ [0, 0] ++ pay)
  let ck := if sum = 0xFFFF then 0xFFFF else 0xFFFF - sum
  let ip (c : Nat) : List Byte := [0x45] ++ bytesBE 1 (s.pantryLE (a + 36) 1 % 64 * 4) ++ bytesBE 2 (20 + ulen) ++ [0, 0, 0x40, 0] ++
    bytesBE 1 (s.pantryLE (a + 37) 1) ++ [17] ++ bytesBE 2 c ++ src ++ dst
  s.encapHead a 0x0800 ++ ip (0xFFFF - onesSumOf (ip 0)) ++ ports ++ bytesBE 2 ulen ++ bytesBE 2 ck ++ pay

/-- A SEND to port 26 through encapsulation entry `e`; `udp` tells destination 2 from 1 (R398). -/
def State.sendPort26 (s : State) (c e : Nat) (udp : Bool) (m : Msg) : Bool × State :=
  let a := 0x8000 + 64 * e
  let ty := s.pantryLE (a + 14) 1
  let q := spGet (fun _ => 0) s.gwe.encap e
  if s.held 26 then (false, s)
  else if !bitAt ty 7 || ty % 4 ≠ (if udp then 2 else 1) then (true, s.cinc (Ctr.gwe c 6))
  else match (if udp then some (s.udpFrame a q m) else s.acfFrame a q m) with
  | none => (true, s.cinc (Ctr.gwe c 6))
  | some b =>
    let s := s.gway fun g => { g with encap := spSet (fun _ => 0) g.encap e (q + 1) }
    (true, (s.inject 26 (s.pantryLE (a + 38) 1 % 8) b false).cinc (Ctr.gweAll 2))

/-- A SEND to Hatch `h` (R397, R443). -/
def State.sendHatch (s : State) (h : Nat) (m : Msg) : Bool × State :=
  let r := s.hatEnter 18 h (m.record 0)
  (r.1, if s.on .STG_CFG_GW_EN && s.rf .STG_CFG_GW_HATCH = h then r.2.stgTrigger 16 (m.id % 256) 0 s.now else r.2)

/-- R466: the mailbox serves Hatch `h` as its request Hatch. -/
def State.mboxTakes (s : State) (h : Nat) : Bool := s.on .CCX_MBOX_CFG_EN && s.rf .CCX_MBOX_CFG_REQ_HATCH = h

/-- R397: the messages of host-to-device Hatch `h` go to the channel whose context names it, but for the mailbox's own
(R466). GWE in block reset takes none: HAT counts them (R30). -/
def State.hatConsume (s : State) (h : Nat) : State :=
  if s.mboxTakes h || !s.on (.HAT_CFG_DIR h) then s
  else match (List.range 64).find? (fun c => s.ctxValid c && bitAt (s.ctx c 65 1) 7 && s.ctx c 65 1 % 64 = h) with
  | none => s
  | some c =>
    s.each (List.range ((s.hatch h).count)) (fun s _ =>
      match s.hatTake h with
      | (none, s) => s
      | (some b, s) => if s.blockOff 18 then s.cinc (Ctr.boundary 19) else match parseRecord b with
        | some m => s.postActive c { m with kind := 3, time := s.now }
        | none => s.rxErr c)

/-- HATCH_PUSH_END. -/
def State.hatPushDone (s : State) (h : Nat) : State := (s.hatPushEnd h).hatConsume h

/-! Pantry access (R387, R388). -/

/-- A 32-bit write at Pantry offset `a` by a requester (R387, R388). -/
def State.pantryWrite (s : State) (a : Nat) (w : Word) : State :=
  let b := bytesLE 4 w.toNat
  let put := (s.eccClear .pantry (a / 4)).pantryPuts a b
  if a < 0x8000 then
    let c := a / 512
    let o := a % 512
    if 64 ≤ o && o < 96 then
      let s := put.wf (.GWE_CH_STATUS_STOPPED c) 0
      let s := if 32 ≤ c then s.chUpdate c else s
      s.hatConsume (s.ctx c 65 1 % 64)
    else if 96 ≤ o && o < 128 then s.refuse 0x264 0x06
    else if s.ctxValid c then s.chRefused c
    else put
  else if pantryStage ≤ a then s.chRefused 0
  else put

/-- CONTEXT_WRITE: a word at byte `o` of the context of channel `c`. -/
def State.contextWrite (s : State) (c o : Nat) (w : Word) : State := s.pantryWrite (512 * c + o) w

/-- Advance GWE_PANTRY_ADDR.WORD (R388). -/
def State.pantryNext (s : State) : State :=
  if s.on .GWE_PANTRY_ADDR_AUTO_INC then s.wf .GWE_PANTRY_ADDR_WORD ((s.rf .GWE_PANTRY_ADDR_WORD + 1) % 2 ^ 20) else s

/-- PANTRY_DATA_WRITE. -/
def State.pantryDataWrite (s : State) (w : Word) : State := (s.pantryWrite (4 * s.rf .GWE_PANTRY_ADDR_WORD) w).pantryNext

/-- The Pantry word at byte offset `a`. -/
def State.pantryWord (s : State) (a : Nat) : Word := BitVec.ofNat 32 (s.pantryLE a 4)

/-- A read of the Pantry word at byte offset `a` by a requester: its ECC is checked, and true says that it is
uncorrectable (R400, R401, R411). -/
def State.pantryRead (s : State) (a : Nat) : Bool × Word × State :=
  let r := s.pantryCheck s.gweSrc a 4
  (r.1, s.pantryWord a, r.2)

/-- PANTRY_DATA_READ. -/
def State.pantryDataRead (s : State) : Bool × Word × State :=
  let r := s.pantryRead (4 * s.rf .GWE_PANTRY_ADDR_WORD)
  (r.1, r.2.1, r.2.2.pantryNext)

/-! Decapsulation (R399). -/

/-- Take the ACF messages of an NTSCF payload for bus `bus` (none: any); false where a malformed one ends it. -/
def acfParse (bus : Option Nat) : Nat → List Byte → List Msg × Bool
  | 0, _ => ([], true)
  | fuel + 1, b =>
    if b = [] then ([], true)
    else
      let h := beAt b 0 2
      let ty := h / 512
      let len := h % 512 * 4
      let hdr := if ty = 1 then 16 else if ty = 2 then 8 else if ty = 3 then 12 else 0
      let pad := beAt b 2 1 / 64
      if b.length < 4 || hdr = 0 || len < hdr + pad || b.length < len then ([], false)
      else
        let x := beAt b 2 1
        let id := if ty = 1 then beAt b 12 4 % 2 ^ 29 else if ty = 2 then beAt b 4 4 % 2 ^ 29 else beAt b 3 1
        let fl := if ty = 3 then 0
          else b2n (bitAt x 3) * 128 + b2n (bitAt x 4) * 64 + b2n (bitAt x 2) * 32 + b2n (bitAt x 0) * 16
        let fmt := if ty = 3 then 3 else b2n (bitAt x 1)
        let bid := if ty = 3 then x % 32 else beAt b 3 1 % 32
        let m : Msg := ⟨0, fmt, fl, id, 0, 0, 2, 0, 0, if ty = 2 then 0 else beAt b 4 8, (b.drop hdr).take (len - hdr - pad)⟩
        let r := acfParse bus fuel (b.drop len)
        (if bus.isNone || bus = some bid then (m :: r.1, r.2) else r)

/-- Take the records of a UDP payload; false where a malformed one ends it. -/
def recParse : Nat → List Byte → List Msg × Bool
  | 0, _ => ([], true)
  | fuel + 1, b =>
    if b = [] then ([], true)
    else match parseRecord b with
    | none => ([], false)
    | some m =>
      let r := recParse fuel (b.drop (32 + (m.data.length + 3) / 4 * 4))
      ({ m with kind := 2 } :: r.1, r.2)

/-- R399: what decapsulation entry `d` takes from the frame `b`: its messages and whether all were well formed. -/
def State.decapEntry (s : State) (d : Nat) (b : List Byte) : Option (Nat × List Msg × Bool) :=
  let a := 0x9000 + 16 * d
  let fl := s.pantryLE (a + 10) 1
  let o := if vlanAt b 12 then 16 else 12
  let p := b.drop (o + 2)
  let ch := s.pantryLE (a + 11) 1 % 64
  if !bitAt fl 7 then none
  else if bitAt fl 6 then
    let ihl := beAt p 0 1 % 16 * 4
    let u := p.drop ihl
    if be16 b o = 0x0800 && beAt p 0 1 / 16 = 4 && beAt p 9 1 = 17 && beAt u 2 2 = s.pantryLE (a + 8) 2 then
      let pay := (u.drop 8).take (beAt u 4 2 - 8)
      some (ch, recParse pay.length pay)
    else none
  else if be16 b o = 0x22F0 && beAt p 0 1 = 0x82 && bitAt (beAt p 1 1) 7 && beAt p 4 8 = s.pantryLE a 8 then
    let pay := (p.drop 12).take (beAt p 1 2 % 2048)
    some (ch, acfParse (if bitAt fl 5 then none else some (fl % 32)) pay.length pay)
  else none

/-- R399: the decapsulation entries from `d` are tried in ascending order on the frame `b`; an entry with an
uncorrectable word takes no frame. -/
def State.decapFind (s : State) (b : List Byte) : Nat → Nat → Option (Nat × List Msg × Bool) × State
  | _, 0 => (none, s)
  | d, n + 1 =>
    let r := s.pantryCheck s.gweSrc (0x9000 + 16 * d) 16
    match (if r.1 then none else r.2.decapEntry d b) with
    | some x => (some x, r.2)
    | none => r.2.decapFind b (d + 1) n

/-- DECAPSULATION: the copy leaving on port 26 (R399). -/
def State.decap (s : State) : State :=
  match s.onWire 26 with
  | none => s
  | some c =>
    let s := s.setWire 26 none
    let b := s.leaving c
    let r := s.decapFind b 0 64
    let s := r.2
    let s := match r.1 with
      | none => s.cinc (Ctr.gweAll 0)
      | some (ch, ms, ok) =>
        let s := s.each ms (fun s m => s.postActive ch { m with kind := 2, time := s.now })
        if ok then s else s.cinc (Ctr.gweAll 1)
    s.releaseCopy c

/-! GWE registers (R375, R376). -/

/-- R375: channel `c` accepts MODE `m`. -/
def chModeOk (c m : Nat) : Bool :=
  m = 0 || (c < 16 && m ≤ 3) || (isLin c && (m = 4 || m = 5)) || (24 ≤ c && 6 ≤ m && m ≤ 10)

/-- A write that makes GWE_CH_CFG[c] the word `w`. -/
def State.chCfg (s : State) (c : Nat) (w : Word) : State :=
  if chModeOk c (fldGet w 0 4) then (s.wword (Reg.GWE_CH_CFG c) w).chUpdate c else s.chRefused c

/-- Clocks of a data bit as BRP, TSEG1 and TSEG2 give them (R376). -/
def dataClocks (w : Word) : Nat := (fldGet w 27 5 + 1) * (1 + (fldGet w 22 5 + 1) + (fldGet w 18 4 + 1))

/-- A write that makes the timing register at offset 4, 8 or 12 of channel `c` the word `w` (R376). -/
def State.chTiming (s : State) (c off : Nat) (w : Word) : State :=
  let ok :=
    if isCan c then (off = 8 → 10 ≤ dataClocks w) && (off = 12 → 8 ≤ dataClocks w)
    else if isLin c then off = 4 → 500 ≤ fldGet w 16 16 && fldGet w 16 16 ≤ 10000
    else off = 4 → 100 ≤ fldGet w 10 22
  if ok then s.wword (Reg.GWE_CH_CFG c + off) w else s.chRefused c

/-- GWE_CMD with the right key. -/
def State.gweCmd (s : State) (c action : Nat) : State :=
  if action = 0 || 4 < action then s
  else if 32 ≤ c then s.chRefused c
  else match action with
  | 1 => s.chRecover c
  | 2 => s.chSleepCmd c
  | 3 => s.chWakeCmd c
  | _ => s.chFlushCmd c

end Sys2Proof.Machine
end

