-- ==== Sys2Proof/Machine/Isa.lean ====
section
/-!
DEFINITION. The Rake instruction set (R202 to R223) in both profiles, Rake dispatch (R176 to R181, R195, R211), the
end of a pass (R189, R191, R216) and the slices of the gateway engine (R386, R390, R393, R400).
-/
namespace Sys2Proof.Machine

/-- The fields of an instruction word (R205). -/
structure IWord where
  op : Nat
  rd : Nat
  ra : Nat
  rb : Nat
  i : Bool
  sz : Nat
  cr : Bool
  cx : Nat
  x : Nat
  imm : Word
  deriving DecidableEq, Repr

/-- Split a word into its fields (R205). -/
def decodeI (w : BitVec 64) : IWord :=
  ⟨(w.extractLsb' 58 6).toNat, (w.extractLsb' 54 4).toNat, (w.extractLsb' 50 4).toNat, (w.extractLsb' 46 4).toNat, w.getLsbD 45,
   (w.extractLsb' 43 2).toNat, w.getLsbD 42, (w.extractLsb' 38 4).toNat, (w.extractLsb' 32 6).toNat, w.extractLsb' 0 32⟩

/-- The opcodes of R206 and the profile that has them: both, parser only, gateway only. -/
def opBoth : List Nat := [1, 2, 3, 4, 5, 6, 7, 8, 9, 10, 11, 12, 16, 17, 18, 19, 20, 21, 32, 33]
def opParser : List Nat := [36, 48, 49, 50]
def opGateway : List Nat := [56, 57, 58, 59]

/-- R202, R206: opcode `o` is legal for engine `e`. -/
def opLegal (e : EngId) (o : Nat) : Bool :=
  opBoth.contains o || (match e with | .rake _ => opParser.contains o | .gateway => opGateway.contains o)

/-- Work register `i`. -/
def Eng.reg (g : Eng) (i : Nat) : Word := g.w[i]?.getD 0
def Eng.setReg (g : Eng) (i : Nat) (v : Word) : Eng := { g with w := g.w.set i v }

/-- The second operand b (R205). -/
def Eng.opB (g : Eng) (x : IWord) : Word := if x.i then x.imm else g.reg x.rb

/-- The instance that engine `e` runs. -/
def State.eng (s : State) (e : EngId) : Option Eng :=
  match e with
  | .rake r => spGet (fun _ => none) s.rak.rakes r.val
  | .gateway => s.gwe.eng
def State.setEng (s : State) (e : EngId) (g : Option Eng) : State :=
  match e with
  | .rake r => { s with rak := { s.rak with rakes := spSet (fun _ => none) s.rak.rakes r.val g } }
  | .gateway => s.gway fun x => { x with eng := g }

/-- Instruction limit of R202. -/
def isaLimit (e : EngId) : Nat := match e with | .rake _ => 256 | .gateway => 1024

/-! The end of a pass (R189, R191, R192, R216). -/

/-- Window limit in bytes of the frame an instance parses (R181, R195). -/
def State.winOf (s : State) (g : Eng) : Nat := s.rf (.RAK_PORT_CFG_WINDOW g.key.inPort) * 4

/-- Bytes of the frame an instance parses, and whether it has ended: a frame dropped in its parse stays in the window
(`State.rakeHolds`). -/
def State.frameOf (s : State) (g : Eng) : List Byte × Bool :=
  match s.frame g.fid with
  | some f => (f.bytes, f.ended)
  | none => ([], true)

/-- The parse of Rake `r` ends with `o`, once its frame-length checks are made or left to the MAC (R191, R192). -/
def State.passEnd (s : State) (r : Fin 32) (g : Eng) (o : ParseEnd) : State :=
  let f := s.frameOf g
  let hard := match o with | .malf c => decide (0xB ≤ c) | _ => false
  let done (g : Eng) : State := s.setEng (.rake r) (some { g with status := .ended })
  let g := { g with outcome := o }
  if hard then done { g with checks := [] }
  else if g.checks = [] || s.winOf g < f.1.length then done g
  else if f.2 then done { g with outcome := o.withChecks g.cur g.checks f.1.length, checks := [] }
  else s.setEng (.rake r) (some { g with status := .waitEnd, stallAt := s.cycles })

/-! The end of a gateway event (R218, R400). -/

/-- A slice ends: the channel's statistics (R386, R393). -/
def State.sliceEnd (s : State) (g : Eng) (v : GwEvent) : State :=
  let a := 512 * v.chan
  let t := g.cycles + (if v.miss then 48 else 0)
  let s := s.pantryPuts (a + 96) (bytesLE 4 (s.ctx v.chan 96 4 + 1))
  let s := s.pantryPuts (a + 104) (bytesLE 4 (max (s.ctx v.chan 104 4) (min g.cycles (2 ^ 32 - 1))))
  let s := (s.cinc (Ctr.gwe v.chan 7)).wf .GWE_STATUS_MAX_SLICE (max (s.rf .GWE_STATUS_MAX_SLICE) (min t 65535))
  (s.wf .GWE_STATUS_BUSY 0).gway fun x => { x with eng := none, event := none }

/-- The waiting events of a stopped channel are discarded (R400). -/
def State.chStop (s : State) (c : Nat) : State :=
  let n := (s.chan c).fifo.length
  ((s.setChan c { s.chan c with fifo := [] }).cadd (Ctr.gwe c 4) n).wf (.GWE_CH_STATUS_STOPPED c) 1

/-- The event ends by execution fault `n`; 0 stands for an uncorrectable Pantry word (R400). STOP_ON_FAULT is the one that the
event has loaded (R387). -/
def State.eventFault (s : State) (g : Eng) (v : GwEvent) (n : Nat) : State :=
  let a := 512 * v.chan
  let s := s.sliceEnd g v
  let s := (s.cinc (Ctr.gwe v.chan 8)).wf .GWE_INT_EXEC_FAULT 1
  let s := s.pantryPuts (a + 100) (bytesLE 2 (satInc 16 (s.ctx v.chan 100 2)))
  if n = 0 then s.chStop v.chan
  else
    let s := (s.pantryPuts (a + 102) (bytesLE 1 n)).report (0x1E0 + v.chan) 0x06 n
    if bitAt (ofBytesLE ((v.ctx.drop 64).take 1)) 6 then s.chStop v.chan else s

/-- R218: END writes W0 to W15 and the event's context stores back together. -/
def State.eventEnd (s : State) (g : Eng) (v : GwEvent) : State :=
  let a := 512 * v.chan
  let s := s.pantryPuts a (g.w.flatMap (fun w => bytesLE 4 w.toNat))
  let s := s.each v.dirty (fun s o => s.pantryPuts (a + o) ((v.ctx.drop o).take 1))
  s.sliceEnd g v

/-! Faults and fetching (R200, R215, R219, R220). -/

/-- R220: execution fault `n` ends the pass or event of engine `e`. -/
def State.isaFault (s : State) (e : EngId) (g : Eng) (n : Nat) : State :=
  match e with
  | .rake r => s.passEnd r { g with fault := n } (.malf 0xF)
  | .gateway => match s.gwe.event with
    | some v => s.eventFault g v n
    | none => s

/-- A hardware error ends the pass with code 0xE (R200), or the event (R400). -/
def State.isaHard (s : State) (e : EngId) (g : Eng) : State :=
  match e with
  | .rake r => s.passEnd r g (.malf 0xE)
  | .gateway => match s.gwe.event with
    | some v => s.eventFault g v 0
    | none => s

/-- The word at the program counter of engine `e`. -/
def State.fetchWord (s : State) (e : EngId) (pc : Nat) : BitVec 64 :=
  match e with
  | .rake _ => spGet (fun _ => 0) s.rak.store pc
  | .gateway => match s.gwe.event with
    | some v => BitVec.ofNat 64 (s.pantryLE (v.base + 8 * pc) 8)
    | none => 0

/-- R215: word indices the program may reach. -/
def State.progLen (s : State) (e : EngId) : Nat :=
  match e with
  | .rake _ => 16384
  | .gateway => match s.gwe.event with | some v => v.len | none => 0

/-- The ECC of the word about to be fetched (R200, R400), and the parity of a Rake (R199). -/
def State.fetchEcc (s : State) (e : EngId) (pc : Nat) : Bool × State :=
  match e with
  | .rake r =>
    if s.eccAt .rake r.val ≠ 0 then (true, (s.eccClear .rake r.val).report 0x101 0x03 r.val)
    else s.eccRead .store pc 0x100 (some pc)
  | .gateway => match s.gwe.event with
    | some v => s.pantryCheck (0x1E0 + v.chan) (v.base + 8 * pc) 8
    | none => (false, s)

/-- Engine `e` is about to fetch its next word: what stops it before it executes (R200, R206, R215, R219). -/
def State.isaReady (s : State) (e : EngId) (g : Eng) : State :=
  if s.progLen e ≤ g.pc then s.isaFault e g 4
  else if isaLimit e ≤ g.icount then s.isaFault e g 1
  else
    let r := s.fetchEcc e g.pc
    if r.1 then r.2.isaHard e g
    else if !opLegal e (decodeI (r.2.fetchWord e g.pc)).op then r.2.isaFault e g 2
    else r.2.setEng e (some { g with status := .run })

/-- An instruction that cost `n` cycles is done; the next is at `pc`. -/
def State.isaGo (s : State) (e : EngId) (g : Eng) (pc n : Nat) : State :=
  s.isaReady e { g with pc := pc, icount := g.icount + 1, cycles := g.cycles + n }

/-- The same with the next instruction in order. -/
def State.isaNext (s : State) (e : EngId) (g : Eng) (n : Nat) : State := s.isaGo e g (g.pc + 1) n

/-- An instruction whose opcode is `op` executes on engine `e`: nothing happens unless the engine runs and the word at its
program counter is that instruction. -/
def State.isa (s : State) (e : EngId) (op : Nat) (body : State → Eng → IWord → State) : State :=
  match s.eng e with
  | none => s
  | some g =>
    let x := decodeI (s.fetchWord e g.pc)
    if g.status = .run && x.op = op then body s g x else s

/-! Flags (R204). -/

/-- An arithmetic or logic instruction (R204, R206). -/
def State.isaAlu (s : State) (e : EngId) (op : Nat) (wr : Bool) (f : Word → Word → Word × Bool) : State :=
  s.isa e op fun s g x =>
    let r := f (g.reg x.ra) (g.opB x)
    let g := g.flags r.1 r.2
    s.isaNext e (if wr then g.setReg x.rd r.1 else g) 1

/-! Instructions of both profiles (R206 to R210, R215). -/

def State.isaMov (s : State) (e : EngId) : State :=
  s.isa e 0x08 fun s g x => s.isaNext e (g.setReg x.rd (g.opB x)) 1

def State.isaExt (s : State) (e : EngId) : State :=
  s.isa e 0x09 fun s g x =>
    let n := x.imm.toNat % 64
    if n = 0 || 32 < n then s.isaFault e g 3
    else s.isaNext e (g.setReg x.rd ((g.reg x.ra >>> (x.x % 32)) &&& BitVec.ofNat 32 (2 ^ n - 1))) 1

/-- Special register `n` (R208); none where it is not allowed. -/
def State.special (s : State) (e : EngId) (g : Eng) (n : Nat) : Option Nat :=
  match e with
  | .rake _ =>
    let f := s.frameOf g
    match n with
    | 0 => some g.cur
    | 1 => some g.sel
    | 2 => some f.1.length
    | 3 => some (b2n f.2)
    | 4 => some g.key.inPort
    | 5 => some g.key.passes
    | 6 => some g.key.headers
    | 7 => some (match s.frame g.fid with | some f => f.rxTime % 2 ^ 32 | none => 0)
    | _ => none
  | .gateway => match s.gwe.event with
    | none => none
    | some v => match n with
      | 0 => some v.chan
      | 1 => some v.msg.kind
      | 2 => some v.msg.data.length
      | 3 => some v.olen
      | 4 => some (v.msg.time % 2 ^ 32)
      | _ => none

def State.isaRds (s : State) (e : EngId) : State :=
  s.isa e 0x0C fun s g x =>
    match s.special e g x.x with
    | some v => s.isaNext e (g.setReg x.rd (BitVec.ofNat 32 v)) 1
    | none => s.isaFault e g 3

/-- R205: IMM[31:14] of a branch is to be 0. -/
def IWord.farImm (x : IWord) : Bool := 2 ^ 14 ≤ x.imm.toNat

def State.isaBr (s : State) (e : EngId) : State :=
  s.isa e 0x10 fun s g x =>
    if x.farImm || 8 < x.cx then s.isaFault e g 3
    else if g.cond x.cx then s.isaGo e g x.imm.toNat 2 else s.isaNext e g 1

def State.isaCall (s : State) (e : EngId) : State :=
  s.isa e 0x11 fun s g x =>
    if x.farImm then s.isaFault e g 3
    else if 4 ≤ g.stack.length then s.isaFault e g 5
    else s.isaGo e { g with stack := (g.pc + 1) :: g.stack } x.imm.toNat 2

def State.isaRet (s : State) (e : EngId) : State :=
  s.isa e 0x12 fun s g _ =>
    match g.stack with
    | [] => s.isaFault e g 5
    | p :: l => s.isaGo e { g with stack := l } p 2

def State.isaBrx (s : State) (e : EngId) : State :=
  s.isa e 0x13 fun s g x =>
    if x.farImm then s.isaFault e g 3
    else if (g.reg x.ra).toNat ≤ x.x then s.isaGo e g (x.imm.toNat + (g.reg x.ra).toNat) 2 else s.isaNext e g 1

def State.isaEnd (s : State) (e : EngId) : State :=
  s.isa e 0x14 fun s g _ =>
    let g := { g with icount := g.icount + 1, cycles := g.cycles + 1 }
    match e with
    | .rake r => s.passEnd r g .normal
    | .gateway => match s.gwe.event with | some v => s.eventEnd g v | none => s

def State.isaNop (s : State) (e : EngId) : State := s.isa e 0x15 fun s g _ => s.isaNext e g 1

/-- R209: the address of an access; none where it names CUR and the profile has none. -/
def accAddr (e : EngId) (g : Eng) (x : IWord) : Option Int :=
  match e, x.cr with
  | .gateway, true => none
  | _, true => some ((g.cur : Int) + x.imm.toInt)
  | _, false => some (((g.reg x.ra).toNat : Int) + x.imm.toInt)

/-- The input buffer of the gateway (R390). -/
def GwEvent.input (v : GwEvent) : List Byte :=
  let d := v.msg.data.take 2048
  d ++ List.replicate (2048 - d.length) 0 ++ v.msg.header 0 ++ List.replicate 96 0

/-- The output buffer of the gateway. -/
def State.outBytes (s : State) (a n : Nat) : List Byte := (List.range n).map (fun i => spGet (fun _ => 0) s.gwe.obuf (a + i))
def State.putOut (s : State) (a : Nat) : List Byte → State
  | [] => s
  | b :: l => (s.gway fun x => { x with obuf := spSet (fun _ => 0) x.obuf a b }).putOut (a + 1) l

/-- What a load finds (R209). -/
inductive LoadOut where
  | value (v : Nat)
  | out
  | stall (need : Nat)
  | bad
  deriving DecidableEq, Repr

/-- R209: load `n` bytes of space `sp` at `a`. -/
def State.isaLoad (s : State) (e : EngId) (g : Eng) (sp : Nat) (a : Int) (n : Nat) : LoadOut :=
  let k := a.toNat
  let inside (lim : Nat) : Bool := 0 ≤ a && k + n ≤ lim
  match e, sp with
  | .rake _, 0 =>
    let f := s.frameOf g
    if !inside (s.winOf g) then .out
    else if k + n ≤ f.1.length then .value (fbe f.1 k n)
    else if f.2 then .out else .stall (k + n)
  | .rake _, 1 => if inside 64 then .value (ofBytesLE ((g.key.bytes.drop k).take n)) else .out
  | .rake _, _ => .bad
  | .gateway, _ => match s.gwe.event with
    | none => .bad
    | some v => match sp with
      | 0 => if inside 2176 then .value (fbe v.input k n) else .out
      | 1 => if inside 512 then .value (ofBytesLE ((v.ctx.drop k).take n)) else .out
      | 2 => if inside 2176 then .value (ofBytesBE (s.outBytes k n)) else .out
      | _ => .bad

/-- Bytes of an access; SZ 3 is not allowed. -/
def IWord.size (x : IWord) : Nat := 2 ^ x.sz

def State.isaLd (s : State) (e : EngId) : State :=
  s.isa e 0x20 fun s g x =>
    match accAddr e g x with
    | none => s.isaFault e g 3
    | some a =>
      if x.sz = 3 then s.isaFault e g 3
      else match s.isaLoad e g x.cx a x.size with
      | .value v => s.isaNext e ({ g with v := false }.setReg x.rd (BitVec.ofNat 32 v)) 1
      | .out => s.isaNext e ({ g with v := true }.setReg x.rd 0) 1
      | .stall need => s.setEng e (some { g with status := .stalled need, stallAt := s.cycles })
      | .bad => s.isaFault e g 3

def State.isaSt (s : State) (e : EngId) : State :=
  s.isa e 0x21 fun s g x =>
    match accAddr e g x with
    | none => s.isaFault e g 3
    | some a =>
      let n := x.size
      let k := a.toNat
      let v := (g.reg x.rb).toNat
      if x.sz = 3 then s.isaFault e g 3
      else match e, x.cx with
      | .rake _, 0 => s.isaFault e g 6
      | .rake _, 1 =>
        if 60 ≤ a && k + n ≤ 64 then
          let u := putBytes (bytesLE 4 g.key.user.toNat) (k - 60) (bytesLE n v)
          s.isaNext e { g with key := { g.key with user := BitVec.ofNat 32 (ofBytesLE u) } } 1
        else s.isaFault e g 6
      | .rake _, _ => s.isaFault e g 3
      | .gateway, 0 => s.isaFault e g 6
      | .gateway, 1 => match s.gwe.event with
        | none => s
        | some w =>
          if 128 ≤ a && k + n ≤ 512 then
            let w := { w with ctx := putBytes w.ctx k (bytesLE n v), dirty := w.dirty ++ (List.range n).map (fun i => k + i) }
            (s.gway fun y => { y with event := some w }).isaNext e g 1
          else s.isaFault e g 6
      | .gateway, 2 => if 0 ≤ a && k + n ≤ 2176 then (s.putOut k (bytesBE n v)).isaNext e g 1 else s.isaFault e g 6
      | .gateway, _ => s.isaFault e g 3

/-! Parser instructions (R206, R211 to R216). -/

def State.isaSetcur (s : State) (e : EngId) : State :=
  s.isa e 0x24 fun s g x =>
    let b := (g.opB x).toNat
    s.isaNext e { g with cur := (if x.cr then g.cur + b else b) % 65536, l2pos := false } 1

/-- What a header step of Rake instance `g` sees. -/
def State.hdrCtx (s : State) (g : Eng) : HdrCtx :=
  let f := s.frameOf g
  ⟨f.1, f.2, s.winOf g, s.rf (.RAK_PORT_CFG_DEPTH g.key.inPort), g.key.inPort < 24 && s.rxSec g.key.inPort⟩

def State.isaHdr (s : State) (e : EngId) : State :=
  match e with
  | .gateway => s
  | .rake r => s.isa e 0x30 fun s g x =>
    let t := x.x % 32
    if 18 < t then s.isaFault e g 3
    else match hdrStep (s.hdrCtx g) g t with
    | .took g len =>
      let g := g.setReg x.rd (BitVec.ofNat 32 g.sel)
      s.isaNext e { g with z := g.done, n := false, c := false } (2 + (len + 15) / 16)
    | .nothing g =>
      let g := g.setReg x.rd (BitVec.ofNat 32 g.sel)
      s.isaNext e { g with z := true, n := false, c := false } 2
    | .stall need => s.setEng e (some { g with status := .stalled need, stallAt := s.cycles })
    | .stop o => s.passEnd r { g with icount := g.icount + 1, cycles := g.cycles + 2 } o

def State.isaMalf (s : State) (e : EngId) : State :=
  match e with
  | .gateway => s
  | .rake r => s.isa e 0x31 fun s g x =>
    let c := x.imm.toNat % 16
    if c < 0xB || 0xD < c then s.isaFault e g 7
    else s.passEnd r { g with icount := g.icount + 1, cycles := g.cycles + 1 } (.malf c)

def State.isaRecirc (s : State) (e : EngId) : State :=
  s.isa e 0x32 fun s g x =>
    s.isaNext e { g with recirc := some (if x.i then some (x.imm.toNat % 64) else none) } 1

/-! Gateway instructions (R217, R395). -/

/-- R395: the first matching filter entry's result. -/
def State.lookup (s : State) (base count key mask : Nat) : Nat :=
  ((List.range count).findSome? (fun i =>
    let a := base + 16 * i
    let r := s.pantryLE (a + 8) 4
    if ((key ^^^ s.pantryLE a 4) &&& s.pantryLE (a + 4) 4 &&& mask) = 0 && r ≠ 0 then some r else none)).getD 0

def State.isaLkp (s : State) (e : EngId) : State :=
  s.isa e 0x38 fun s g x => match s.gwe.event with
    | none => s
    | some v =>
      let base := ofBytesLE ((v.ctx.drop 76).take 4)
      let count := ofBytesLE ((v.ctx.drop 80).take 2)
      if 256 < count || base % 16 ≠ 0 || (0 < count && (base < pantryProg || pantryStage < base + 16 * count)) then s.isaFault e g 3
      else
        let q := s.pantryCheck (0x1E0 + v.chan) base (16 * count)
        if q.1 then q.2.isaHard e g
        else
          let r := BitVec.ofNat 32 (s.lookup base count (g.reg x.ra).toNat (g.reg x.rb).toNat)
          q.2.isaNext e ((g.setReg x.rd r).flagsZ r) 6

/-- AUTH of the event `v` (R217, R369): the result, the new output length and the state. Which of the results a call against
the entry's TX flag gives is a free value (log entry 45). -/
def State.canAuth (s : State) (v : GwEvent) (gen : Bool) : Nat × Nat × State :=
  let k := ofBytesLE ((v.ctx.drop 67).take 1)
  let i := ofBytesLE ((v.ctx.drop 74).take 2) % 512
  if !s.anyPan then (3, v.olen, s)
  else
    let u := s.keyUse k 3
    let s := u.2
    if !u.1 then (3, v.olen, s)
    else if s.freshFlag i 7 && s.freshFlag i 6 ≠ gen then
      let d := s.draw
      (Config.free d.1 % 4, v.olen, d.2)
    else if gen then
      let r := s.authGenerate k i (s.outBytes 0 (min v.olen 2048))
      if r.1 = 0 then (0, v.olen + r.2.1.length, r.2.2.putOut v.olen r.2.1) else (r.1, v.olen, r.2.2)
    else
      let r := s.authVerify k i v.msg.data
      (r.1, v.olen, r.2)

/-- AUTH (R206, R217): no rule gives the wait for the service, so its cycles are a free value; an absent key calls none. -/
def State.isaAuth (s : State) (e : EngId) : State :=
  s.isa e 0x39 fun s g x => match s.gwe.event with
    | none => s
    | some v =>
      let r := s.canAuth v (bitAt x.x 0)
      let s := r.2.2.gway fun y => { y with event := some { v with olen := r.2.1 } }
      let d := BitVec.ofNat 32 r.1
      let w := if r.1 = 3 then (0, s) else (Config.free s.draw.1, s.draw.2)
      w.2.isaNext e ((g.setReg x.rd d).flagsZ d) (4 + w.1)

/-- The data of the output buffer (R390): LEN is OLEN, and what lies past the data region is a free value (log entry 51). -/
def State.outData (s : State) (olen : Nat) : List Byte :=
  s.outBytes 0 (min olen 2048) ++ (List.range (olen - 2048)).map (fun i => BitVec.ofNat 8 (Config.free (s.draws + i)))

/-- The message that SEND copies from the output buffer (R390). -/
def State.outMsg (s : State) (v : GwEvent) : Msg :=
  let h := s.outBytes 2048 32
  ⟨v.chan, beAt h 4 1, beAt h 5 1, beAt h 8 4, beAt h 12 1, beAt h 13 1, v.msg.kind, v.msg.status, beAt h 16 4, v.msg.time,
   s.outData v.olen⟩

def State.isaSend (s : State) (e : EngId) : State :=
  s.isa e 0x3A fun s g x => match s.gwe.event with
    | none => s
    | some v =>
      let d := x.imm.toNat % 64
      let m := s.outMsg v
      let q := if x.x % 4 = 1 || x.x % 4 = 2 then s.pantryCheck (0x1E0 + v.chan) (0x8000 + 64 * d) 40 else (false, s)
      let s := q.2
      if q.1 then s.isaHard e g else
      let r := match x.x % 4 with
        | 0 => s.sendChannel d m
        | 1 => s.sendPort26 v.chan d false m
        | 2 => s.sendPort26 v.chan d true m
        | _ => s.sendHatch d m
      let y : Word := if r.1 then 0 else 1
      r.2.isaNext e ((g.setReg x.rd y).flagsZ y) 2

def State.isaOlen (s : State) (e : EngId) : State :=
  s.isa e 0x3B fun s g x => match s.gwe.event with
    | none => s
    | some v =>
      let b := (g.opB x).toNat
      if 2176 < b then s.isaFault e g 3
      else (s.gway fun y => { y with event := some { v with olen := b } }).isaNext e g 1

/-- Execute the instruction at the program counter of engine `e`. -/
def State.isaExec (s : State) (e : EngId) : State :=
  match s.eng e with
  | none => s
  | some g => match (decodeI (s.fetchWord e g.pc)).op with
    | 0x01 => s.isaAlu e 0x01 true addC
    | 0x02 => s.isaAlu e 0x02 true subC
    | 0x03 => s.isaAlu e 0x03 true (fun a b => (a &&& b, false))
    | 0x04 => s.isaAlu e 0x04 true (fun a b => (a ||| b, false))
    | 0x05 => s.isaAlu e 0x05 true (fun a b => (a ^^^ b, false))
    | 0x06 => s.isaAlu e 0x06 true (fun a b => (a <<< (b.toNat % 32), false))
    | 0x07 => s.isaAlu e 0x07 true (fun a b => (a >>> (b.toNat % 32), false))
    | 0x08 => s.isaMov e
    | 0x09 => s.isaExt e
    | 0x0A => s.isaAlu e 0x0A false subC
    | 0x0B => s.isaAlu e 0x0B false (fun a b => (a &&& b, false))
    | 0x0C => s.isaRds e
    | 0x10 => s.isaBr e
    | 0x11 => s.isaCall e
    | 0x12 => s.isaRet e
    | 0x13 => s.isaBrx e
    | 0x14 => s.isaEnd e
    | 0x15 => s.isaNop e
    | 0x20 => s.isaLd e
    | 0x21 => s.isaSt e
    | 0x24 => s.isaSetcur e
    | 0x30 => s.isaHdr e
    | 0x31 => s.isaMalf e
    | 0x32 => s.isaRecirc e
    | 0x38 => s.isaLkp e
    | 0x39 => s.isaAuth e
    | 0x3A => s.isaSend e
    | 0x3B => s.isaOlen e
    | _ => s

/-! Rakes (R176 to R181, R195, R201, R211, R221). -/

/-- A frame that is ready for dispatch (R176). -/
def Frame.dispatchable (f : Frame) : Bool := f.stage = .ready && !f.dropped && (64 ≤ f.bytes.length || f.ended)

/-- R176: the ready frame with the earliest timestamp, then the lowest port. -/
def State.nextReady (s : State) : Option (Nat × Frame) :=
  s.frames.foldl (fun m x =>
    match x.2 with
    | none => m
    | some f =>
      if !f.dispatchable then m
      else match m with
      | none => some (x.1, f)
      | some (_, g) => if !atOrAfter 64 f.rxTime g.rxTime || (f.rxTime = g.rxTime && f.entryPort < g.entryPort) then some (x.1, f) else m) none

/-- Ready frames that have no Rake (R176, RAK_WAIT.WAIT). -/
def State.rakeWait (s : State) : Nat :=
  (s.frames.filter (fun x => match x.2 with | some f => f.dispatchable | none => false)).length

/-- R177: the free Rake after the one assigned last. -/
def State.freeRake (s : State) : Option (Fin 32) :=
  ((List.range 32).map (fun i => Fin.ofNat 32 (s.rak.last + 1 + i))).find? (fun r => (s.eng (.rake r)).isNone)

/-- R180: the parser entry of a frame's pass. -/
def State.entryOf (s : State) (f : Frame) : Nat :=
  match f.passes, f.entry with
  | 0, _ => s.rf (.RAK_PORT_CFG_ENTRY f.inPort)
  | _, some e => e
  | _, none => s.rf (.RAK_PORT_CFG_ENTRY 28)

/-- An instance at the start of a pass (R183, R195, R203). -/
def Eng.start (fid : Nat) (f : Frame) : Eng :=
  let k := { Key.empty with inPort := f.inPort, passes := f.passes, epochValid := f.passes ≠ 0, epoch := f.epoch.getD 0,
                            user := if f.passes = 0 then 0 else f.user }
  ⟨.run, List.replicate 16 0, false, false, false, false, 0, [], 0, 3, 0, 0, fid, 0, 0, false, false, .none, false, 0, 0, k, [],
   .normal, none, 0⟩

/-- RAKE_DISPATCH (R176, R177, R211, R221). -/
def State.dispatch (s : State) : State :=
  match s.nextReady, s.freeRake with
  | some (fid, f), some r =>
    let s := { s.setFrame fid (some { f with stage := .parsing r.val }) with rak := { s.rak with last := r.val } }
    let g := Eng.start fid f
    let en := s.entryOf f
    match hdrOuter (s.hdrCtx g) g with
    | .took g _ =>
      if s.eccAt .entry en ≠ 0 then (s.notify 0x102 0x03).passEnd r g (.malf 0xE)
      else match spGet (fun _ => none) s.rak.entries en with
      | some start => s.isaReady (.rake r) { g with pc := start }
      | none => s.passEnd r g .normal
    | .stop o => s.passEnd r g o
    | _ => s
  | _, _ => s

/-- RAKE_STALL_END of Rake `r` (R17, R191): the instruction completes, or the parse ends, once its bytes are there. -/
def State.stallEnd (s : State) (r : Fin 32) : State :=
  match s.eng (.rake r) with
  | none => s
  | some g =>
    let f := s.frameOf g
    let waited := s.cycles - g.stallAt
    let g1 := { g with stall := g.stall + waited, cycles := g.cycles + waited }
    match g.status with
    | .stalled need =>
      if need ≤ f.1.length || f.2 then (s.setEng (.rake r) (some { g1 with status := .run })).isaExec (.rake r) else s
    | .waitEnd => if f.2 || s.winOf g < f.1.length then s.passEnd r g1 g.outcome else s
    | _ => s

/-- KEY_RECORD_WRITTEN of Rake `r` (R182, R201): the Rake is free, and stages 5 to 8 run. -/
def State.keyWritten (s : State) (r : Fin 32) : State :=
  match s.eng (.rake r) with
  | none => s
  | some g =>
    if g.status ≠ .ended then s
    else
      let s := s.setEng (.rake r) none
      let s := ((s.cinc (Ctr.rak 0)).cadd (Ctr.rak 1) g.cycles).cadd (Ctr.rak 2) g.stall
      let s := s.wf .RAK_MAX_CYCLES_CYCLES (max (s.rf .RAK_MAX_CYCLES_CYCLES) (min g.cycles 0xFFFFFF))
      let req := match g.outcome with | .normal => g.recirc | _ => none
      (s.keyRecord r g.fid g.key g.outcome g.checks req g.key.user).settle g.fid

/-- RAK_BUSY and RAK_STALLED. -/
def State.rakMask (s : State) (p : Eng → Bool) : Nat :=
  maskOf ((s.rak.rakes.filter (fun x => match x.2 with | some g => p g | none => false)).map (fun x => x.1))

/-! Slices (R386, R390, R393). -/

/-- The channel served next (R393). -/
def State.nextChan (s : State) : Option Nat :=
  ((List.range 64).map (fun i => (s.gwe.last + 1 + i) % 64)).find? (fun c =>
    s.ctxValid c && !s.on (.GWE_CH_STATUS_STOPPED c) && (s.chan c).fifo ≠ [])

/-- The engine takes its next event and loads the context (R386, R390, R393). An event with a parity error is discarded
(R401); a context not in the cache is read from the Pantry, where an uncorrectable word ends the event (R400). -/
def State.sliceStart (s : State) : State :=
  if !s.fwdEn || s.gwe.event.isSome then s
  else match s.nextChan with
  | none => s
  | some c => match (s.chan c).fifo with
    | [] => s
    | m :: l =>
      let p := s.parityRead .event c (0x1E0 + c)
      if p.1 then p.2.setChan c { s.chan c with fifo := l } else
      let ctx := s.pantryBytes (512 * c) 512
      let base := ofBytesLE ((ctx.drop 68).take 4)
      let len := ofBytesLE ((ctx.drop 72).take 2)
      let v : GwEvent := ⟨c, m, 0, ctx, [], base, len, !s.gwe.cache.contains c⟩
      let g := { Eng.start 0 ⟨0, [], true, false, 0, 0, 0, 0, 0, false, false, 0, 0, 0, [], false, 0, false, .queued, 0, 0, none, false,
        none, none, 0, 0, Key.empty, [], Verdict.empty, 0, [], none⟩ with w := wordsOf 16 ctx, cycles := 0 }
      let s := (s.setChan c { s.chan c with fifo := l }).putOut 2048 (List.replicate 32 0)
      let s := (s.wf .GWE_STATUS_CHANNEL c).wf .GWE_STATUS_BUSY 1
      let s := s.gway fun x => { x with event := some v, eng := some g, last := c, cache := (c :: x.cache.filter (fun k => k ≠ c)).take 16 }
      let q := if v.miss then s.pantryCheck (0x1E0 + c) (512 * c) 512 else (false, s)
      let s := q.2
      if q.1 then s.isaHard .gateway g
      else if base % 8 ≠ 0 || len = 0 || 4096 < len || base < pantryProg || pantryStage < base + 8 * len then s.isaFault .gateway g 4
      else s.isaReady .gateway g

/-- Run the event in service to its end. -/
def State.sliceRun (s : State) : Nat → State
  | 0 => s
  | n + 1 => if s.gwe.event.isSome then (s.isaExec .gateway).sliceRun n else s

/-- GATEWAY_SLICE: a slice starts; with `run` the whole program runs, else its instructions come as commands. -/
def State.slice (s : State) (run : Bool) : State :=
  let s := s.sliceStart
  if run then s.sliceRun 1025 else s

/-- Channels with waiting events (GWE_STATUS.PENDING). -/
def State.gwePending (s : State) : Nat := ((List.range 64).filter (fun c => (s.chan c).fifo ≠ [])).length

end Sys2Proof.Machine
end

