-- ==== Sys2Proof/Machine/Reset.lean ====
section
/-!
DEFINITION. Resets: cold, chip and block reset, and the losses of the sleep states (R27 to R30, R76, R83, R115).
Each builds the machine anew from `State.reset` and puts back what the rule retains.
-/
namespace Sys2Proof.Machine

/-- TOP_STATE.FWD_EN changes: FWD_EN_FALL and FWD_EN_RISE in every block that acts on them (R273, R383, R449). -/
def State.setForward (s : State) (b : Bool) : State :=
  let was := s.fwdEn
  let s := s.setFwd b
  if was && !b then s.stgFwdOff.gweFwdOff else if !was && b then s.gweFwdOn else s

/-- VDDIO_AON is powered: the device is not in OFF (R50, R52). -/
def State.supplied (s : State) : Bool := !s.pwr.off

/-- The power manager and the fault collector work: the device is neither in cold reset nor in a sleep state. -/
def State.powered (s : State) : Bool := !s.pwr.porst && s.pwr.asleep = 0

/-- The units have stopped: a sleep entry has passed its commit point (R79 step 4). -/
def State.unitsStopped (s : State) : Bool :=
  match s.pwr.entry with
  | some e => e.committed
  | none => false

/-- The units work: the device is powered, is not held in reset, has run its start table, and no sleep entry has stopped
its units (R74, R79, R91, R93). -/
def State.awake (s : State) : Bool :=
  s.powered && !s.resetHeld && s.pwr.wake = .none && !s.unitsStopped

/-- First register address of block `b`, and the size of its window (R31). -/
def blockAt (b : Nat) : Nat × Nat :=
  if b ≤ 8 then (0x10000 * b, 0x10000)
  else if b ≤ 10 then (0x100000 + 0x40000 * (b - 9), 0x40000)
  else if b ≤ 13 then (0x180000 + 0x10000 * (b - 11), 0x10000)
  else (0x200000 + 0x40000 * (b - 14), 0x40000)

/-- Address `a` lies in the window of block `b`. -/
def inBlock (b a : Nat) : Bool := (blockAt b).1 ≤ a && a < (blockAt b).1 + (blockAt b).2

/-- Registers of the travel counter in the always-on domain (R343). -/
def odoReg (a : Nat) : Bool := Reg.TIM_ODO_CFG ≤ a && a ≤ Reg.TIM_ODO_REVERSE

/-- The wake record, which R83 loads from the always-on domain. -/
def wakeReg (a : Nat) : Bool := a = Reg.PWR_WAKE_CAUSE || a = Reg.PWR_WAKE_D48 0 || a = Reg.PWR_WAKE_D48 1

/-- Records of the fault collector (R476). -/
def fltRecord (a : Nat) : Bool := Reg.FLT_SRC_STATUS 0 ≤ a && a < Reg.FLT_SRC_STATUS 768

/-- Incident registers of the Strongroom, whose directory lies in DRAM (R441, R449). -/
def incReg (a : Nat) : Bool := Reg.STG_INC 0 ≤ a && a < Reg.STG_INC 8

/-- Counters of the fault collector (R484). -/
def fltCtr (a : Nat) : Bool := Reg.FLT_PIN_CFG + 0xF000 ≤ a && a < Reg.FLT_PIN_CFG + 0x10000

/-- ACTIVE of every record reads 0 (R476). -/
def dropActive (m : Sparse Word) : Sparse Word :=
  (m.filter (fun e => fltRecord e.1 && (e.1 - Reg.FLT_SRC_STATUS 0) % 32 = 0)).foldl
    (fun m e => spSet resetWord m e.1 (fldSet (spGet resetWord m e.1) 31 1 0)) m

/-- The machine at its reset values but for what no reset touches: fuses, flash and DRAM chips, the levels of inputs,
and the model's own records. `keep` names the registers and `keepCtr` the counters that the reset retains. -/
def State.afresh (s : State) (keep keepCtr : Nat → Bool) : State :=
  let z := State.reset
  { z with
      regs := spKeep s.regs keep
      ctr := spKeep s.ctr keepCtr
      cycles := s.cycles
      draws := s.draws
      out := s.out
      nextFid := s.nextFid
      ecc := s.ecc
      pending := s.pending
      pwr := { z.pwr with pgood := s.pwr.pgood, wakeIn := s.pwr.wakeIn, off := s.pwr.off, ramp := if s.pwr.off then s.pwr.ramp else 0 }
      tim := { z.tim with odoA := s.tim.odoA, odoB := s.tim.odoB }
      sec := { z.sec with life := s.sec.life, fuse := s.sec.fuse, blowing := s.sec.blowing, prov := s.sec.prov, floor := s.sec.floor,
                          uid := s.sec.uid, cls := s.sec.cls, cert := s.sec.cert, roots := s.sec.roots, revoked := s.sec.revoked,
                          duk := s.sec.duk, secret := s.sec.secret }
      dram := { z.dram with epoch := s.dram.epoch, cells := s.dram.cells }
      boot := { z.boot with flashA := s.boot.flashA, flashB := s.boot.flashB, rec0 := s.boot.rec0, rec1 := s.boot.rec1, born := s.cycles } }

/-- The travel counter goes on (R343). -/
def State.keepTravel (s old : State) : State :=
  s.timeUnit fun x => { x with odo := old.tim.odo, debt := old.tim.debt }

/-- The sealed area of the Larder goes on: slot 255, the freshness table, and the write-through records of counters that
never go backward (R144, R370, R460, R489). -/
def State.keepSealed (s old : State) : State :=
  { s with
      sec := { s.sec with mat := spKeep old.sec.mat (fun k => k = 255) }
      cph := { s.cph with tab := spKeep old.cph.tab (fun k => k / 1024 = 3), loaded := old.cph.loaded }
      ccx := { s.ccx with mkaMember := old.ccx.mkaMember, mkaSent := old.ccx.mkaSent }
      pair := { s.pair with refSeen := old.pair.refSeen, crateOut := old.pair.crateOut } }

/-- The resume region's tags and the Strongroom's directory lie in DRAM, whose contents go on (R124, R449). -/
def State.keepDram (s old : State) : State :=
  { s with
      boot := { s.boot with parts := old.boot.parts }
      stg := { State.reset.stg with segs := old.stg.segs, incs := old.stg.incs, dirAt := old.stg.dirAt } }

/-- The lifecycle that a pattern of the fuse field stands for (R135). -/
def lifeOf (fuse : Nat) : Nat := if fuse = 0 then 0 else if fuse = 1 then 1 else if fuse = 3 then 2 else 3

/-- R137: an interrupted fuse write leaves the field as before it or as after it; which one is a free value. -/
def State.fuseSettle (s : State) : State :=
  match s.sec.blowing with
  | none => s
  | some t =>
    let d := s.draw
    let s := d.2
    let fuse := if Config.free d.1 % 2 = 0 then s.sec.fuse else s.sec.fuse ||| 2 ^ (t - 1)
    { s with sec := { s.sec with fuse := fuse, blowing := none } }

/-- What a cold reset leaves of the state: the fuses and, after SLEEP-D (`wake`), the always-on state that R83 and R343
keep. -/
def State.coldClear (s : State) (wake : Bool) : State :=
  let old := s
  let s := (s.afresh (fun a => wake && (odoReg a || wakeReg a)) (fun _ => false)).fuseSettle
  let s := { s with sec := { s.sec with life := lifeOf s.sec.fuse } }
  let s := s.dramLose
  if wake then State.keepTravel { s with pwr := { s.pwr with unreported := old.pwr.unreported } } old else s

/-- A cold reset (R27, R83, R343) for cause 0 PORST_N, 1 a supply failure, 2 an exit from SLEEP-D. -/
def State.coldReset (s : State) (cause : Nat) : State :=
  (((s.coldClear (cause = 2)).wf .TOP_RESET_CAUSE_COLD (b2n (cause = 0))).wf .TOP_RESET_CAUSE_SUPPLY (b2n (cause = 1))).wf
    .TOP_RESET_CAUSE_WAKE_D (b2n (cause = 2))

/-- Registers that a chip reset retains: the always-on domain, the straps and the reset cause, the fault records, the
counts "since the last cold reset", slot 255 and the highest TERM accepted, and the Strongroom's directory (R27, R144,
R343, R441, R460, R476). -/
def chipKept (a : Nat) : Bool :=
  inBlock 1 a || a = Reg.TOP_STRAP || a = Reg.TOP_RESET_CAUSE || odoReg a || fltRecord a || incReg a ||
  (Reg.CCX_GROUP 0 ≤ a && a < Reg.CCX_GROUP 16) || a = Reg.PAIR_TERM || a = Reg.SEC_KEY_ATTR 255

/-- Steps in use whose rails are up. -/
def State.raisedSteps (s : State) : List Nat :=
  (List.range (min 8 (s.rf .PWR_SEQ_CFG_NSEQ))).filter (fun i => !bitAt s.pwr.downSteps i)

/-- PGOOD inputs that raised steps name and that are low. -/
def State.pgoodLow (s : State) : Bool :=
  s.raisedSteps.any (fun i => s.rf (.PWR_SEQ_PG_MASK i) &&& s.pwr.pgood ≠ s.rf (.PWR_SEQ_PG_MASK i))

/-- Sources of the DRAM port (R469). -/
def dramSource (src : Nat) : Bool := 0x2A0 ≤ src && src ≤ 0x2A6

/-- What a chip reset leaves of the state (R27): the registers and counters that it retains, the fuses, the always-on
domain, the sealed area of the Larder, and the DRAM in self-refresh, unless its contents are `lost` (R28). It closes the open
incidents and ends an export (R446, R448). -/
def State.chipClear (s : State) (lost : Bool) : State :=
  let s := s.stgFwdOff
  let old := s
  let s := s.afresh chipKept fltCtr
  let s := { s with
      regs := dropActive s.regs
      pwr := { old.pwr with porst := false, entry := none, wake := .start 0, started := 0, wakePending := false, asleep := 0,
                            ramp := 0 }
      mac := { s.mac with refLost := old.mac.refLost }
      sec := { s.sec with level := old.sec.level }
      dram := { s.dram with selfRefresh := !lost && (old.dram.up || old.dram.selfRefresh) } }
  let s := (s.keepTravel old).keepSealed old
  if lost then { s.dramLose with boot := { s.boot with parts := [] } } else s.keepDram old

/-- The status that goes on through a chip reset or tells of it (R27, R77). -/
def State.chipMarks (s old : State) (src : Option Nat) : State :=
  let s := s.wf .SEC_STATUS_DEBUG (old.rf .SEC_STATUS_DEBUG) |>.wf .SEC_STATUS_ZEROIZED (old.rf .SEC_STATUS_ZEROIZED)
  let s := (s.wf .PWR_STATUS_BUSY 0).wf .PWR_STATUS_STATE 3
  let s := s.wf .PAIR_STATUS_SIDE_CONFLICT (old.rf .PAIR_STATUS_SIDE_CONFLICT)
  let s := s.wf .TOP_STATE_PREV_PWR (if old.rf .TOP_STATE_PWR_STATE = 4 then 4 else 0)
  match src with
  | some n => ((s.wf .TOP_RESET_CAUSE_CHIP_FAULT 1).wf .TOP_RESET_CAUSE_FAULT_SRC n).cinc (Reg.FLT_PIN_CFG + 0xF018)
  | none => s.wf .TOP_RESET_CAUSE_CHIP_CMD 1

/-- R476: a block that still finds the condition of a level source after a chip reset reports it again. -/
def State.reportAgain (s : State) : State :=
  let s := if s.rf .PWR_MON_STATUS_VOLT ≠ 0 then s.rail 0x010 true else s
  let s := if bitAt (s.rf .PWR_MON_STATUS_CLK) 1 || bitAt (s.rf .PWR_MON_STATUS_CLK) 2 then s.raise 0x012 0x0A else s
  let s := if bitAt (s.rf .PWR_MON_STATUS_CLK) 3 then s.raise 0x013 0x0A else s
  if s.pgoodLow then s.raise 0x019 0x0B else s

/-- R483: the DRAM that was in use does not enter self-refresh in time. -/
def State.refreshEntry (s : State) (up : Bool) : State :=
  if up && Config.refreshLate s.cycles then s.notify 0x2A6 0x05 else s

/-- A chip reset caused by fault source `src`, or by TOP_RESET_CMD (R27, R28, R77). The start sequence follows. -/
def State.chipReset (s : State) (src : Option Nat) : State :=
  let lost := match src with | some n => dramSource n | none => false
  (((s.chipClear lost).chipMarks s src).reportAgain).refreshEntry (s.dram.up && !lost)

/-- The blocks that have block reset (R29). -/
def hasBlockReset (b : Nat) : Bool := b = 18 || b = 19 || b = 20 || b = 21 || b = 22

/-- Registers and counters of block `b` return to their reset values. -/
def State.blockRegs (s : State) (b : Nat) : State :=
  { s with regs := spKeep s.regs (fun a => !inBlock b a), ctr := spKeep s.ctr (fun a => !inBlock b a),
           latch := spKeep s.latch (fun k => !inBlock b (k / 4)) }

/-- A copy is dropped at the boundary of the block it is addressed to, and counted by SWC (R30). -/
def State.dropAtBoundary (s : State) (c : Copy) : State := (s.cinc (Ctr.port c.port 3)).releaseCopy c

/-- The copy in delivery on internal port `p` is dropped where its block is in block reset (R30). -/
def State.dropWire (s : State) (p : Nat) : State :=
  match s.onWire p with
  | some c => if s.copyDown c then (s.setWire p none).dropAtBoundary c else s
  | none => s

/-- The copies that wait on internal port `p` for a block in block reset are dropped (R30). -/
def State.dropWaiting (s : State) (p : Nat) : State :=
  s.each (List.range 8) (fun s k =>
    let l := s.queue (p * 8 + k)
    (s.setQueue (p * 8 + k) (l.filter (fun c => !s.copyDown c))).each (l.filter s.copyDown) State.dropAtBoundary)

/-- R30: block `b` returns to its reset values. The Pantry and the DRAM are memories of their own and go on. -/
def State.blockClear (s : State) (b : Nat) : State :=
  let z := State.reset
  let s := s.blockRegs b
  match b with
  | 18 =>
    let s := (List.range 64).foldl (fun s c => s.lower (0x1E0 + c)) s
    { s with gwe := { z.gwe with pantry := s.gwe.pantry }
             flt := { s.flt with rate := spKeep s.flt.rate (fun k => k < 0x1E0 || 0x220 ≤ k) } }
  | 19 => { s with hat := [] }
  | 20 => { s with brg := z.brg, irq := z.irq }
  | 21 => { s with stg := z.stg }
  | 22 => { s with mgt := z.mgt }
  | _ => s

/-- The internal ports that lead to block `b` (R21). -/
def boundaryPorts (b : Nat) : List Nat :=
  match b with
  | 18 => [26]
  | 19 => [25]
  | 20 => [25, 29]
  | 21 => [27]
  | _ => []

/-- BLOCK_RESET of a block that has it (R30): its traffic is dropped. A block already in reset stays there. -/
def State.blockReset (s : State) (b : Nat) : State :=
  if s.blockOff b then s
  else
    let s := State.chalVoid { s with blockRst := s.blockRst ||| 2 ^ b }
    (s.each (boundaryPorts b) fun s p => (s.dropWire p).dropWaiting p).blockClear b

/-- R382: the virtual channels take the state that the contexts, which the Pantry has kept, give them. -/
def State.virtualStart (s : State) : State := s.each ((List.range 32).map (32 + ·)) State.chUpdate

/-- BLOCK_RESET_COMPLETE (R30): the block serves again, at its reset values. -/
def State.blockServe (s : State) (b : Nat) : State :=
  if s.blockOff b then
    let s : State := { (s.blockClear b) with blockRst := s.blockRst ^^^ 2 ^ b }
    if b = 18 then s.virtualStart else s
  else s

/-- A block reset of block `b` for fault source `src`: promoted to a chip reset where the block has none (R29). -/
def State.blockOrChip (s : State) (b src : Nat) : State :=
  if hasBlockReset b then s.blockReset b else s.chipReset (some src)

/-- Registers that SLEEP-R retains (R76). -/
def sleepKept (a : Nat) : Bool := chipKept a && !fltRecord a

/-- The ports in SLEEP for which `g` holds, as a mask (R171). -/
def State.dozers (s : State) (g : Nat → Bool) : Nat :=
  ((List.range 24).map (fun p => b2n (12 ≤ p && s.linkState p = 5 && g p) * 2 ^ p)).sum

/-- The state of the sleep states: everything but what R76 retains is lost. SLEEP-D loses the Larder, the Pantry and the
DRAM besides. -/
def State.sleepLoss (s : State) (target : Nat) : State :=
  let old := s
  let s := s.afresh sleepKept (fun _ => false)
  let s := { s with pwr := { old.pwr with started := 0 }, mac := { s.mac with refLost := old.mac.refLost, dozing := old.dozers (fun _ => true), dozeFwd := old.dozers old.tc10Forwards } }
  let s := s.keepTravel old
  let s := s.wf .SEC_STATUS_DEBUG (old.rf .SEC_STATUS_DEBUG) |>.wf .SEC_STATUS_ZEROIZED (old.rf .SEC_STATUS_ZEROIZED)
  let s := s.wf .SEC_STATUS_CERT (old.rf .SEC_STATUS_CERT)
  let s := { s with sec := { s.sec with level := old.sec.level } }
  let s := s.wf .PAIR_STATUS_SIDE_CONFLICT (old.rf .PAIR_STATUS_SIDE_CONFLICT)
  if target = 2 then
    let s := (s.keepSealed old).keepDram old
    { s with gwe := { s.gwe with pantry := old.gwe.pantry }
             ccx := { s.ccx with buf0 := if old.on .CCX_STATUS_CUR_BUF then old.ccx.buf1 else old.ccx.buf0 }
             boot := { s.boot with header := old.boot.header, slot := old.boot.slot }
             dram := { s.dram with cfg := old.dram.cfg, selfRefresh := old.dram.selfRefresh } }
  else
    { s with regs := spKeep s.regs (fun a => a ≠ Reg.PAIR_TERM && a ≠ Reg.SEC_KEY_ATTR 255 && !incReg a) }.dramLose

/-- R115: a configuration clear after a failure in pass 2. TOP, PWR, BOOT, SEC, CCX and FLT keep their state. So do what
other rules keep outside those blocks, by log entry 20: the records of the sealed area, SIDE_CONFLICT, which a cold reset
alone clears (R493), and the hash key and the IV prefix drawn at this boot. -/
def State.configClear (s : State) : State :=
  let z := State.reset
  let conflict := s.rf .PAIR_STATUS_SIDE_CONFLICT
  let kept (a : Nat) : Bool := a < 0x60000 || a = Reg.PAIR_TERM
  let s := { s with
      regs := spKeep s.regs kept
      ctr := spKeep s.ctr (fun a => a < 0x60000)
      latch := spKeep s.latch (fun k => k / 4 < 0x60000)
      irq := z.irq
      cel := z.cel
      mac := { z.mac with refLost := s.mac.refLost }
      frames := []
      rak := z.rak
      cls := { z.cls with hashDraw := s.cls.hashDraw }
      stm := z.stm
      gat := z.gat
      cph := { z.cph with tab := s.boot.sealed0, loaded := s.cph.loaded }
      stg := { z.stg with pfx := s.stg.pfx }
      hat := z.hat
      brg := z.brg
      gwe := { z.gwe with pantry := spKeep s.gwe.pantry (fun a => pantryStage ≤ a) }
      mgt := z.mgt
      tim := { z.tim with odoA := s.tim.odoA, odoB := s.tim.odoB }
      pair := { z.pair with refSeen := s.pair.refSeen, crateOut := s.pair.crateOut } }
  let s := (s.dramLose).wf .PAIR_STATUS_SIDE_CONFLICT conflict
  State.showHoldover { s with dram := { s.dram with cfg := none, up := false, selfRefresh := false } }

end Sys2Proof.Machine
end

