-- ==== Sys2Proof/Machine/FltReact.lean ====
section
/-!
DEFINITION. The fault collector: records, reactions and FAULT_N (R468 to R483).
-/
namespace Sys2Proof.Machine

/-- Owner of source `src` as a block index; 23 stands for the DRAM port, which is no block (R469). -/
def fltOwner (src : Nat) : Nat :=
  if src < 0x001 then 0 else if src < 0x010 then 5 else if src < 0x020 then 1 else if src < 0x028 then 2
  else if src < 0x040 then 3 else if src < 0x060 then 4 else if src < 0x070 then 7 else if src < 0x080 then 8
  else if src < 0x100 then 9 else if src < 0x110 then 11 else if src < 0x120 then 12 else if src < 0x140 then 13
  else if src < 0x180 then 14 else if src < 0x190 then 15 else if src < 0x1C0 then 16 else if src < 0x1E0 then 17
  else if src < 0x220 then 18 else if src < 0x260 then 19 else if src < 0x280 then 20 else if src < 0x2A0 then 21
  else if src < 0x2C0 then 23 else 6

/-- R470: the sources in dual-rail mode. -/
def dualRail (src : Nat) : Bool :=
  src = 0x010 || src = 0x011 || src = 0x014 || src = 0x016 || (0x040 ≤ src && src ≤ 0x050) || src = 0x052 || src = 0x055

/-- The kind fixed for a dual-rail source (R92, R93, R74, R467). -/
def railKind (src : Nat) : Nat :=
  if src = 0x010 then 0x0B else if src = 0x011 || src = 0x014 then 0x0A else if src = 0x016 then 0x0C
  else if src = 0x050 then 0x09 else if src = 0x055 then 0x05 else 0x04

/-- R478: sources whose CHIP_RESET is forced. -/
def forcedChip (src : Nat) : Bool := src = 0x011 || src = 0x014 || src = 0x016 || src = 0x052 || src = 0x055

/-- A source with PIN = 1 has ACTIVE = 1 (R480). -/
def State.pinActive (s : State) : Bool :=
  s.regs.any (fun e => fltRecord e.1 && (e.1 - Reg.FLT_SRC_STATUS 0) % 32 = 0 && e.2.getLsbD 31 &&
    s.on (.FLT_SRC_CFG_PIN ((e.1 - Reg.FLT_SRC_STATUS 0) / 32)))

/-- The fault collector. -/
def State.collector (s : State) (g : Flt → Flt) : State := { s with flt := g s.flt }

/-- R480: FAULT_N released once nothing holds it any more. -/
def State.pinSettle (s : State) : State :=
  if s.flt.pinWait && !s.pinActive then (s.wf .FLT_PIN_STATUS_ASSERTED 0).collector fun x => { x with pinWait := false } else s

/-- R480: a PIN occurrence of source `src`. -/
def State.pinAssert (s : State) (src : Nat) : State :=
  let s := s.wf .FLT_PIN_STATUS_SOURCE src
  if s.on .FLT_PIN_STATUS_RESET_HOLD then s.collector fun x => { x with pinBefore := true }
  else
    ((s.wf .FLT_PIN_STATUS_ASSERTED 1).wf .FLT_PIN_STATUS_TIMING 1).collector fun x => { x with heldRelease := false, pinWait := false }

/-- R480: FAULT_N at commit. -/
def State.pinCommit (s : State) : State :=
  let was := s.flt.pinBefore
  let s := (s.wf .FLT_PIN_STATUS_RESET_HOLD 0).collector fun x => { x with pinBefore := false }
  if was then s.wf .FLT_PIN_STATUS_TIMING 1 else s.wf .FLT_PIN_STATUS_ASSERTED 0

/-- A RELEASE is refused (R481, R482). -/
def State.pinRefused (s : State) : State := (s.wf .FLT_PIN_STATUS_REFUSED 1).refuse 0x003 0x08

/-- FAULT_PIN_TIMER_EXPIRY (R480, R481). -/
def State.pinTimer (s : State) : State :=
  if !s.on .FLT_PIN_STATUS_TIMING then s
  else
    let held := s.flt.heldRelease
    let s := (s.wf .FLT_PIN_STATUS_TIMING 0).collector fun x => { x with heldRelease := false }
    if held && !s.pinActive then s.wf .FLT_PIN_STATUS_ASSERTED 0
    else
      let s := if held then { s.pinRefused with wfail := none } else s
      if s.on .FLT_PIN_CFG_HOLD then s
      else State.pinSettle (s.collector fun x => { x with pinWait := true })

/-- FAULT_PIN_RELEASE (R481). Before commit nothing releases FAULT_N (R480). -/
def State.pinRelease (s : State) : State :=
  if s.pinActive then s.pinRefused
  else if s.on .FLT_PIN_STATUS_RESET_HOLD then s
  else if s.on .FLT_PIN_STATUS_TIMING then s.collector fun x => { x with heldRelease := true }
  else (s.wf .FLT_PIN_STATUS_ASSERTED 0).collector fun x => { x with pinWait := false }

/-- A write of FLT_PIN_CFG. -/
def State.pinCfg (s : State) (w : Word) : State :=
  if 1 ≤ fldGet w 0 14 && fldGet w 0 14 ≤ 10000 then s.wword Reg.FLT_PIN_CFG w else s.refuse 0x003 0x08

/-- R476: the record of `src` read from its SECDED memory. -/
def State.recordRead (s : State) (src : Nat) : State :=
  let r := s.eccRead .record src 0x001 (some src)
  if r.1 then
    let s := r.2.eccClear .record src
    ((s.wf (.FLT_SRC_STATUS_LOST src) 1).wf (.FLT_SRC_STATUS_PENDING src) 1).wf (.FLT_SRC_STATUS_FIRST_VALID src) 0 |>.wf
      (.FLT_SRC_STATUS_LAST_VALID src) 0
  else r.2

/-- R474: the record of `src` takes the occurrences of slot `x`. -/
def State.recordTake (s : State) (src : Nat) (x : Slot) : State :=
  let s := s.recordRead src
  let s := if s.on (.FLT_SRC_STATUS_FIRST_VALID src) then s
    else
      (((s.wf (.FLT_SRC_STATUS_FIRST_VALID src) 1).wf (.FLT_SRC_STATUS_FIRST_KIND src) x.firstKind).wword
        (Reg.FLT_SRC_FIRST_ADDR src) (BitVec.ofNat 32 x.firstAddr)).wword (Reg.FLT_SRC_FIRST_TIME_LO src) (BitVec.ofNat 32 x.firstTime)
        |>.wword (Reg.FLT_SRC_FIRST_TIME_HI src) (BitVec.ofNat 32 (x.firstTime / 2 ^ 32))
  let s := ((s.wf (.FLT_SRC_STATUS_PENDING src) 1).wf (.FLT_SRC_STATUS_LAST_VALID src) 1).wf
    (.FLT_SRC_STATUS_COUNT src) (min 0xFFFF (s.rf (.FLT_SRC_STATUS_COUNT src) + x.count))
  ((s.wword (Reg.FLT_SRC_LAST_KIND src) (BitVec.ofNat 32 (x.lastKind % 64))).wword (Reg.FLT_SRC_LAST_ADDR src)
    (BitVec.ofNat 32 x.lastAddr)).wword (Reg.FLT_SRC_LAST_TIME_LO src) (BitVec.ofNat 32 x.lastTime) |>.wword
    (Reg.FLT_SRC_LAST_TIME_HI src) (BitVec.ofNat 32 (x.lastTime / 2 ^ 32))

/-- R477: `n` occurrences send non-maskable interrupts; during steps 1 to 5 of a restart they wait. -/
def State.sendNmi (s : State) (n : Nat) : State :=
  if s.ccx.halted then s.collector fun x => { x with nmiWaiting := x.nmiWaiting + n }
  else s.each (List.range n) (fun s _ => s.emit .nmi)

/-- R477: the NMI and PIN reactions of `n` occurrences of source `src`. -/
def State.reactTell (s : State) (src n : Nat) : State :=
  let s := if s.on (.FLT_SRC_CFG_NMI src) then s.sendNmi n else s
  if s.on (.FLT_SRC_CFG_PIN src) then s.pinAssert src else s

/-- R29, R477, R478: an occurrence of source `src` ends in a chip reset: one that is forced or that the mask gives, or the
block reset of a block that has none. -/
def State.reactChip (s : State) (src : Nat) : Bool :=
  forcedChip src || (s.on (.FLT_SRC_CFG_CHIP_RESET src) && src ≠ 0x021) ||
    (s.on (.FLT_SRC_CFG_BLOCK_RESET src) && !hasBlockReset (fltOwner src))

/-- R477, R478, FAULT_REACTION: the reactions of `n` occurrences of source `src`. -/
def State.react (s : State) (src n : Nat) : State :=
  if 0x2E0 ≤ src then s
  else
    let t := s.reactTell src n
    if s.reactChip src then t.chipReset (some src)
    else if s.on (.FLT_SRC_CFG_BLOCK_RESET src) then t.blockReset (fltOwner src)
    else t

/-- The collector records `x` for source `src` and takes the reactions. -/
def State.occur (s : State) (src : Nat) (x : Slot) : State := (s.recordTake src x).react src x.count

/-- The lowest source of block `b` with a filled slot (R472). -/
def State.nextSlot (s : State) (b : Nat) : Option (Nat × Slot) :=
  match s.flt.slots.find? (fun e => fltOwner e.1 = b) with
  | some (k, some x) => some (k, x)
  | _ => none

/-- FAULT_MESSAGE (R472, R482): block `b` sends its lowest filled slot. -/
def State.faultMessage (s : State) (b : Nat) (bad : Bool) : State :=
  match s.nextSlot b with
  | none => s
  | some (src, x) =>
    if bad then
      let s := s.cinc (Reg.FLT_PIN_CFG + 0xF008)
      let n := spGet (fun _ => 0) s.flt.badMsgs b + 1
      let s := s.collector fun f => { f with badMsgs := spSet (fun _ => 0) f.badMsgs b (n % 3) }
      if n = 3 then s.report 0x002 0x03 b else s
    else
      let s := (s.cinc (Reg.FLT_PIN_CFG + 0xF000)).setSlot src none
      let s := s.collector fun f => { f with badMsgs := spSet (fun _ => 0) f.badMsgs b 0 }
      let s := match x.level with
        | some l => (s.wf (.FLT_SRC_STATUS_ACTIVE src) (b2n l)).pinSettle
        | none => s
      if x.count = 0 then s else s.occur src x

/-- An occurrence of a dual-rail source: kind `k`, address 0 (R470). -/
def State.railSlot (s : State) (k n : Nat) : Slot := ⟨k, 0, s.now, k, 0, s.now, n, none⟩

/-- DUAL_RAIL_CHANGE (R470, R471): the collector samples the pair of `src`. `bad`: the pair shows an invalid code for 2
consecutive cycles. -/
def State.railSample (s : State) (src : Nat) (bad : Bool) : State :=
  if !dualRail src then s
  else if bad then
    if spGet (fun _ => false) s.flt.railBad src then s else
    let s := (s.cinc (Reg.FLT_PIN_CFG + 0xF010)).collector fun f => { f with railBad := spSet (fun _ => false) f.railBad src true }
    (s.wf (.FLT_SRC_STATUS_ACTIVE src) 1).occur src (s.railSlot 0x09 1)
  else
    let n := spGet (fun _ => 0) s.flt.pulses src
    let up := spGet (fun _ => false) s.flt.rails src
    let s := s.collector fun f =>
      { f with railBad := spSet (fun _ => false) f.railBad src false, pulses := spSet (fun _ => 0) f.pulses src 0 }
    let s := (s.wf (.FLT_SRC_STATUS_ACTIVE src) (b2n up)).pinSettle
    if n = 0 then s else s.occur src (s.railSlot (railKind src) n)

/-- The collector samples the pair of `src` and records what it finds, with the reactions short of a reset. -/
def State.railTell (s : State) (src : Nat) : State :=
  let n := spGet (fun _ => 0) s.flt.pulses src
  let up := spGet (fun _ => false) s.flt.rails src
  let s := s.collector fun f => { f with pulses := spSet (fun _ => 0) f.pulses src 0 }
  let s := (s.wf (.FLT_SRC_STATUS_ACTIVE src) (b2n up)).pinSettle
  if n = 0 then s else (s.recordTake src (s.railSlot (railKind src) n)).reactTell src n

/-- R473, R477: a dual-rail source whose reaction is forced rises. The collector samples every pair that waits in that cycle
and records its occurrences; the chip reset that follows names the lowest source that causes one. -/
def State.forced (s : State) (src : Nat) : State :=
  let s := s.rail src true
  let l := (s.flt.pulses.map (fun e => e.1)).filter dualRail
  let t := s.each l State.railTell
  match l.find? s.reactChip with
  | some k => t.chipReset (some k)
  | none => t

/-- PENDING_CLEAR (R475): a write of 1 to PENDING. -/
def State.pendingClear (s : State) (src : Nat) : State :=
  if s.on (.FLT_SRC_STATUS_ACTIVE src) then s
  else ((s.wf (.FLT_SRC_STATUS_PENDING src) 0).wf (.FLT_SRC_STATUS_FIRST_VALID src) 0).wf (.FLT_SRC_STATUS_LOST src) 0

/-- FLT_CLEAR for one source. -/
def State.recordClear (s : State) (count last pend : Bool) (src : Nat) : State :=
  let s := if count then s.wf (.FLT_SRC_STATUS_COUNT src) 0 else s
  let s := if last then s.wf (.FLT_SRC_STATUS_LAST_VALID src) 0 else s
  if pend then s.pendingClear src else s

/-- FLT_CLEAR (R475): the command word without its key. -/
def State.fltClear (s : State) (w : Word) : State :=
  let src := fldGet w 0 10
  if w.getLsbD 15 then s.each (List.range 768) (fun s n => s.recordClear (w.getLsbD 14) (w.getLsbD 13) (w.getLsbD 12) n)
  else if src < 768 then s.recordClear (w.getLsbD 14) (w.getLsbD 13) (w.getLsbD 12) src
  else s.refuse 0x003 0x08

/-- RATE_WINDOW_EXPIRY (R473) of source `src`, whose threshold is `thr`: its level clears when the window did not exceed
it, and a new window begins. -/
def State.rateWindow (s : State) (src thr : Nat) : State :=
  let n := spGet (fun _ => 0) s.flt.rate src
  let s := if thr = 0 || n ≤ thr then s.lower src else s
  s.collector fun f => { f with rate := spSet (fun _ => 0) f.rate src 0 }

end Sys2Proof.Machine
end

