-- ==== Sys2Proof/Machine/Sec.lean ====
section
/-!
DEFINITION. Security functions: lifecycle, key slots, zeroization, debug unlock, DRBG (R131 to R155), and the end of
a management session and of an update, which zeroization and sleep bring about (R129, R519).
-/
namespace Sys2Proof.Machine

def State.secure (s : State) (g : Sec → Sec) : State := { s with sec := g s.sec }
def State.booting (s : State) (g : Boot → Boot) : State := { s with boot := g s.boot }
def State.manage (s : State) (g : Mgt → Mgt) : State := { s with mgt := g s.mgt }

/-- STATE of BOOT_UPDATE_STATUS. -/
def State.updState (s : State) : Nat := s.rf .BOOT_UPDATE_STATUS_STATE

/-- UPDATE_ABANDON (R129): an abandoned image capsule leaves the inactive slot invalid. -/
def State.updAbandon (s : State) : State :=
  let image := match s.boot.upd with | some u => !u.runtime | none => false
  let s := if image then
      s.booting fun b => if b.slot = 0 then { b with flashB := [] } else { b with flashA := [] }
    else s
  let s := s.booting fun b => { b with upd := none, chunk := none }
  ((s.wf .BOOT_UPDATE_STATUS_STATE 0).wf .BOOT_UPDATE_STATUS_CODE 0xE).wf .BOOT_UPDATE_STATUS_BUSY 0 |>.wf .BOOT_STAGE_STATUS_READY 1
    |>.wf .BOOT_STAGE_STATUS_NEXT 0

/-- An update in progress at sleep entry, or one that is receiving or verifying at a restart, is abandoned (R129). -/
def State.updStop (s : State) (restart : Bool) : State :=
  let st := s.updState
  if st = 2 || st = 3 || (!restart && (st = 1 || st = 4 || st = 5)) then s.updAbandon else s

def State.slotValid (s : State) (k : Nat) : Bool := s.on (.SEC_KEY_ATTR_VALID k)

/-- Slots of management session `k` (R507). -/
def State.mgtSlot (s : State) (k : Nat) : Nat := s.rf .MGT_SESS_CFG_SLOT_BASE + 2 * k

def State.mgtSess (s : State) (k : Nat) : Option MgtSess := spGet (fun _ => none) s.mgt.sess k

/-- The key store of the TCM: the key of management session `k` < 8, or of slot `k - 8` (R458); 0: cleared. -/
def State.keyStore (s : State) (k v : Nat) : State := { s with ccx := { s.ccx with keys := spSet (fun _ => 0) s.ccx.keys k v } }

/-- A read of the sealed area of the Larder, word 3 of the complex's memories (R458, R467). What an uncorrectable word held is
not known any more: free values (log entry 151). -/
def State.sealedRead (s : State) : State :=
  let r := s.eccRead .tcm 3 0x054 none
  if r.1 then
    let d := (r.2.eccClear .tcm 3).draw
    { d.2 with
        sec := { d.2.sec with mat := if spGet (fun _ => 0) d.2.sec.mat 255 = 0 then d.2.sec.mat else spSet (fun _ => 0) d.2.sec.mat 255 (Config.free d.1) }
        pair := { d.2.pair with refSeen := Config.free d.1, crateOut := Config.free (d.1 + 1) % 2 ^ 32 } }
  else r.2

/-! References to key slots (R144, R146): secure associations and services. -/

/-- Byte `o` of the gateway context of channel `c`. -/
def State.ctxByte (s : State) (c o : Nat) : Nat := (spGet (fun _ => (0 : Byte)) s.gwe.pantry (512 * c + o)).toNat

/-- Valid secure associations that name slot `k`. -/
def State.saRefs (s : State) (k : Nat) : Nat :=
  (s.cph.tab.filter (fun e => e.1 / 1024 = 2 && bitAt (le e.2 0 1) 7 && le e.2 1 1 = k)).length

/-- Services that refer to slot `k` (no rule lists them; log entry 141): the running session of the Strongroom, the pair link
while it is up, the referee's link of a paired unit, the management sessions that are up, and the valid gateway contexts. -/
def State.serviceRefs (s : State) (k : Nat) : Nat :=
  let stg := if s.stg.session.isSome then b2n (s.rf .STG_CFG_KEY_SLOT = k) + b2n (s.rf .STG_CFG_EXPORT_SLOT = k) else 0
  let pair := b2n (s.pair.link = .up && s.rf .PAIR_MISC_PAIR_SLOT = k)
  let ref := b2n (s.on .TOP_STRAP_PAIR_EN && s.committed && s.slotValid k && s.rf .PAIR_MISC_REF_SLOT = k)
  let mgt := ((List.range 8).filter (fun i => (s.mgtSess i).any (·.up) && (k = s.mgtSlot i || k = s.mgtSlot i + 1))).length
  let gwe := if s.slotValid k then
      ((List.range 64).filter (fun c => bitAt (s.ctxByte c 64) 7 && s.ctxByte c 67 = k)).length else 0
  stg + pair + ref + mgt + gwe

/-- SEC_KEY_ATTR[k].USE. -/
def State.slotUse (s : State) (k : Nat) : Nat := satTo 11 (s.saRefs k + s.serviceRefs k)

/-- Words of the DRBG from draw `d` on, as bytes. -/
def randomBytes (d n : Nat) : List Byte := (List.range n).flatMap (fun i => bytesLE 4 (Config.random (d + i)).toNat)

/-- The nonce of 32 bytes and the ephemeral private key that an exchange draws (R149, R491, R510). -/
def State.ephemeral (s : State) : (List Byte × Nat) × State :=
  let d := s.generate
  let s := { d.2 with draws := d.2.draws + 8 }
  let e := s.generateKey
  ((randomBytes d.2.draws 8, ofBytesLE (randomBytes e.2.draws 12)), { e.2 with draws := e.2.draws + 12 })

/-- The public key of an ephemeral private key, and the SHA-384 of a byte string, as bytes. -/
def publicBytes (key : Nat) : List Byte := (List.range 96).map (Config.ecPublic key)
def hash48 (b : List Byte) : List Byte := (List.range 48).map (Config.hash384 b)

/-- The signature of the identity key over the SHA-384 of a byte string, its nonce the DRBG's (R141, R491, R510). -/
def State.identitySign (s : State) (key : Nat) (b : List Byte) : List Byte × State :=
  let d := s.generate
  ((List.range 96).map (Config.ecSign key (hash48 b) d.1), d.2)

/-- A slot no longer holds a key. -/
def State.slotClear (s : State) (k : Nat) : State :=
  let s := s.wword (Reg.SEC_KEY_ATTR k) 0
  s.secure fun x => { x with mat := spErase x.mat k }

/-- R146: a write of slot `k` is refused. -/
def State.slotLocked (s : State) (k : Nat) : Bool := s.on (.SEC_KEY_ATTR_LOCK k) || s.slotUse k ≠ 0

/-- A slot takes a key (R144). -/
def State.slotFill (s : State) (k alg usage : Nat) (lock kek : Bool) (mat : Nat) : State :=
  let w := fldSet (fldSet (fldSet (fldSet (fldSet (s.rword (Reg.SEC_KEY_ATTR k)) 31 1 1) 30 1 (b2n lock)) 29 1 (b2n kek)) 24 2 alg) 16 8 usage
  (s.wword (Reg.SEC_KEY_ATTR k) w).secure fun x => { x with mat := spSet (fun _ => 0) x.mat k mat }

/-- R146: a slot write is refused when the slot is locked or in use, and reported on source 0x02B. -/
def State.slotWrite (s : State) (k alg usage : Nat) (lock kek : Bool) (mat : Nat) : Bool × State :=
  if s.slotLocked k then (false, s.notify 0x02B 0x0D) else (true, s.slotFill k alg usage lock kek mat)

/-- KEY_SLOT_WRITE: the firmware fills slot `k` with a key it has agreed, or draws (R144, R146). Slot 255 is the
resume key's, a halted DRBG gives no key, and the firmware that restarts fills none (R25). -/
def State.keySlotWrite (s : State) (k alg usage : Nat) (lock drawn : Bool) : State :=
  if s.on .TOP_STATE_CCX_RESTART then s
  else if k = 255 then s.notify 0x02B 0x0D
  else if drawn && s.on .SEC_STATUS_DRBG_HALT then s
  else
    let d := if drawn then s.generateKey else s.draw
    let w := d.2.slotWrite k alg usage lock false (Config.free d.1)
    if w.1 then w.2.keyStore (8 + k) (d.1 + 1) else w.2

/-- The firmware clears slot `k` where it holds a key: a write, which R146 refuses for a slot that is locked or in use. -/
def State.slotErase (s : State) (k : Nat) : State :=
  if !s.slotValid k then s else if s.slotLocked k then s.notify 0x02B 0x0D else s.slotClear k

def State.setMgtSess (s : State) (k : Nat) (x : Option MgtSess) : State :=
  s.manage fun m => { m with sess := spSet (fun _ => none) m.sess k x }

/-- R519: session `k` ends and its keys are cleared. The requests it had accepted run on, and their responses are lost
(R514). -/
def State.mgtEnd (s : State) (k : Nat) : State :=
  match s.mgtSess k with
  | none => s
  | some x =>
    let s := ((s.setMgtSess k none).keyStore k 0).manage fun m =>
      { m with queue := m.queue.map fun r => if r.session = k then { r with session := 8 } else r }
    let s := if x.up then
        ((s.slotErase (s.mgtSlot k)).slotErase (s.mgtSlot k + 1)).wf .MGT_STATUS_SESSIONS
          (maskSet (s.rf .MGT_STATUS_SESSIONS) k false)
      else s
    if s.mgt.owner = some k && (s.updState = 2 || s.updState = 3) then s.updAbandon else s

def State.mgtEndAll (s : State) : State := s.each (List.range 8) State.mgtEnd

/-- ZEROIZATION (R154). -/
def State.zeroize (s : State) : State :=
  let s := (s.each (List.range 256) State.slotClear).mgtEndAll
  let s := s.reseed.secure fun x => { x with unitKek := none, classKek := none, ident := none, mat := [] }
  let s := { s with ccx := { s.ccx with keys := [] } }
  (s.wf .SEC_STATUS_ZEROIZED 1).notify 0x02F 0x0D

/-- A write blocked under R101, R132 or R136. -/
def State.secBlocked (s : State) : State := s.refuse 0x02A 0x0D

/-- R136: the lifecycle changes that exist, with their conditions. That a change is refused while a fuse write runs, and
that the lifecycle in force judges a second change before the cold reset, is the model's choice (DESIGN CHOICE, log entry
101). -/
def State.lifeAllowed (s : State) (target : Nat) : Bool :=
  s.sec.blowing.isNone &&
  ((s.sec.life = 0 && target = 1 && s.sec.prov) || (s.sec.life = 1 && (target = 2 || target = 3)) ||
   (s.sec.life = 2 && target = 3 && s.sec.level = 2))

/-- The fuse write of an allowed change begins; entry into RETURNED zeroizes first (R137). -/
def State.lifeBlow (s : State) (target : Nat) : State :=
  let s := if target = 3 then s.zeroize else s
  s.secure fun x => { x with blowing := some target }

/-- LIFECYCLE_CMD (R136): only the control complex and the debug mailbox change the lifecycle. -/
def State.lifecycle (s : State) (r : Requester) (target : Nat) : State :=
  if (r = .ccx || r = .debug) && s.lifeAllowed target then s.lifeBlow target else s.secBlocked

/-- FUSE_WRITE_DONE (R137). -/
def State.fuseDone (s : State) : State :=
  match s.sec.blowing with
  | some t => s.secure fun x => { x with fuse := x.fuse ||| 2 ^ (t - 1), blowing := none }
  | none => s

/-- DEBUG_CHALLENGE_READ (R151, R152). -/
def State.chalRead (s : State) : Word × State :=
  if s.sec.chalShut || s.on .SEC_STATUS_DRBG_HALT then (0, s)
  else
    let g := s.generate
    let d := g.2.draws
    let s := { g.2 with draws := d + 8 }.each (List.range 8) (fun s n => s.wword (Reg.SEC_DEBUG_CHAL n) (Config.random (d + n)))
    (s.rword (Reg.SEC_DEBUG_CHAL 0), s.secure fun x => { x with chal := true })

/-- R105: the SHA-384 of a signer's key is the root key hash at its index in fuses, and the index is not revoked. -/
def State.keyTrusted (s : State) (signer : Nat) (key : List Byte) : Bool :=
  signer ≤ 3 && !bitAt s.sec.revoked signer && s.sec.roots[signer]?.getD [] == (List.range 48).map (Config.hash384 key)

/-- R151: every check of the token but that of its signature. Its reserved bytes 54 and 55 are not tested (DESIGN CHOICE, log
entry 138). -/
def State.tokenOk (s : State) : Bool :=
  let t := (List.range 62).flatMap (fun n => bytesLE 4 (s.rword (Reg.SEC_DEBUG_TOKEN n)).toNat)
  let c := (List.range 8).flatMap (fun n => bytesLE 4 (s.rword (Reg.SEC_DEBUG_CHAL n)).toNat)
  s.sec.chal && le t 0 4 = 0x4B544244 && (t.drop 4).take 16 == s.sec.uid && (t.drop 20).take 32 == c &&
  (le t 52 1 = 1 || le t 52 1 = 2) && s.keyTrusted (le t 53 1) ((t.drop 56).take 96)

/-- LEVEL of the token. -/
def State.tokenLevel (s : State) : Nat := fldGet (s.rword (Reg.SEC_DEBUG_TOKEN 13)) 0 8

/-- DEBUG_TOKEN_CHECK (R151 to R153). `sigOk`: the signature passes. -/
def State.tokenCheck (s : State) (sigOk : Bool) : State :=
  let level := s.tokenLevel
  if s.tokenOk && sigOk then
    let s := s.chalVoid
    let s := if s.sec.life = 0 then s else s.zeroize
    let s := ((s.wf .SEC_STATUS_CERT 0).wf .SEC_STATUS_DEBUG 1).secure fun x => { x with level := level }
    if level = 2 && s.sec.life = 2 && s.lifeAllowed 3 then s.secure fun x => { x with blowing := some 3 } else s
  else (s.chalVoid.secure fun x => { x with chalShut := true }).notify 0x02D 0x0D

/-- CHALLENGE_EXPIRY (R151). -/
def State.chalExpire (s : State) : State := if s.sec.chal then s.chalVoid else s

/-- CHALLENGE_REFUSAL_END (R152). -/
def State.chalOpen (s : State) : State := s.secure fun x => { x with chalShut := false }

/-- TRNG_HEALTH_FAIL after commit (R150). Between step 5 of the start-up and commit the event has no effect (DESIGN CHOICE, log
entry 140). -/
def State.trngFail (s : State) : State :=
  if s.committed then (s.wf .SEC_STATUS_DRBG_HALT 1).notify 0x028 0x0E else s

/-- DRBG_RESEED (R149): a halted DRBG does not reseed. -/
def State.drbgReseed (s : State) : State :=
  if s.on .SEC_STATUS_DRBG_HALT then s else s.reseed

/-- DRBG_RESTART (R150). -/
def State.drbgRestart (s : State) : State :=
  if s.on .SEC_STATUS_DRBG_HALT then (s.wf .SEC_STATUS_DRBG_HALT 0).drbgReseed else s

/-- R143: the partner's identity is wrong. -/
def State.partnerBad (s : State) : State := (s.wf .SEC_STATUS_PARTNER_BAD 1).notify 0x02E 0x0D

end Sys2Proof.Machine
end

