-- ==== Sys2Proof/Machine/Image.lean ====
section
/-!
DEFINITION. The configuration image: control records, header, sections and what each section's payload is to obey
(R97, R104 to R113, R147, R223, R244, R508).
-/
namespace Sys2Proof.Machine

/-- Bytes of flash from the start of a slot; what is not programmed reads as erased flash. -/
def flashTake (b : List Byte) (n : Nat) : List Byte := b.take n ++ List.replicate (n - b.length) 0xFF

/-! Control records (R97, R98). -/

def recValid (b : List Byte) : Bool :=
  16 ≤ b.length && le b 0 4 = 0x43525447 && le b 12 4 = crc32 (b.take 12)

def recBytes (seq pref : Nat) (trial : Bool) (tries : Nat) : List Byte :=
  let a := bytesLE 4 0x43525447 ++ bytesLE 4 seq ++ [BitVec.ofNat 8 pref, BitVec.ofNat 8 (b2n trial), BitVec.ofNat 8 tries, 0]
  a ++ bytesLE 4 (crc32 a)

/-- Which copy is in force: the valid one whose SEQ is later, copy 0 when equal, none when neither is valid. -/
def recPick (r0 r1 : List Byte) : Option Nat :=
  match recValid r0, recValid r1 with
  | true, true => if le r0 4 4 ≠ le r1 4 4 && atOrAfter 32 (le r1 4 4) (le r0 4 4) then some 1 else some 0
  | true, false => some 0
  | false, true => some 1
  | false, false => none

/-! The image header (R104 to R107). -/

/-- First failed check of a header in the order of R114, 0 when all pass (R105). `keyOk`: SIGNER_KEY hashes to the root
key hash at SIGNER and the index is not revoked; `sigOk`: the signature is valid. -/
def State.hdrCode (s : State) (b : List Byte) (runtime sigOk : Bool) : Nat :=
  let zero (off n : Nat) : Bool := le b off n = 0
  let size := le b 8 4
  let mode := le b 36 4
  let bind := le b 29 1
  if b.length < 352 || le b 0 4 ≠ 0x49564743 || le b 4 2 ≠ 1 || le b 6 2 ≠ 256 || !zero 30 2 || !zero 40 8 || !zero 240 16 ||
     le b 18 2 ≥ 16 || mode ≥ 2 ^ 24 || bitsAt mode 16 8 > 31 || (mode % 2 ^ 16 = 0 && mode ≠ 0) ||
     size > 8 * mib || size < 360 || le b 12 4 ≠ size - 352 then 0x2
  else if le b 20 2 ≠ 0x8425 || s.rf .TOP_REV_MAJOR < le b 22 1 || (s.rf .TOP_REV_MAJOR = le b 22 1 && s.rf .TOP_REV_MINOR < le b 23 1) then 0x3
  else if !s.keyTrusted (le b 28 1) ((b.drop 128).take 96) then 0x4
  else if !sigOk then 0x5
  else if le b 24 4 < s.sec.floor || 64 < le b 24 4 then 0x6
  else if bitAt (le b 18 2) 3 != runtime || 2 < bind || (bind = 1 && le b 32 4 ≠ s.sec.cls) ||
     (bind = 2 && (b.drop 48).take 16 != s.sec.uid) || (s.sec.life = 0 && bind ≠ 0) then 0x7
  else 0

/-! Sections (R108 to R110). -/

/-- A section: type, instance, SFLAGS, offset and length of its payload. -/
structure Section where
  ty : Nat
  inst : Nat
  sflags : Nat
  off : Nat
  len : Nat
  deriving DecidableEq, Repr

/-- The sections of image `b` of `size` bytes from offset `off`; none where R108 or R110 is broken. -/
def sectionsAt (b : List Byte) (size : Nat) : Nat → Nat → Option (List Section)
  | 0, _ => none
  | fuel + 1, off =>
    let x : Section := ⟨le b off 2, le b (off + 2) 1, le b (off + 3) 1, off + 8, le b (off + 4) 4⟩
    let stop := off + 8 + x.len
    let next := (stop + 7) / 8 * 8
    if off + 8 > size || stop > size || x.sflags > 1 then none
    else if x.ty = 0xFF then if x.len = 0 && stop = size then some [x] else none
    else if next > size || le b stop (next - stop) ≠ 0 then none
    else match sectionsAt b size fuel next with
      | some l => some (x :: l)
      | none => none

def sections (b : List Byte) : Option (List Section) := sectionsAt b (le b 8 4) (le b 8 4 / 8 + 1) 352

/-- The section types of R109, and those that a run-time capsule may carry. -/
def knownType (t : Nat) : Bool := (1 ≤ t && t ≤ 0xD) || t = 0xF0 || t = 0xFF
def runtimeType (t : Nat) : Bool := (1 ≤ t && t ≤ 4) || t = 7 || t = 8 || t = 0xB || t = 0xD || t = 0xF0 || t = 0xFF

def countType (l : List Section) (t : Nat) : Nat := (l.filter (fun x => x.ty = t)).length

/-- R110: the structure of an image. -/
def structureOk (b : List Byte) (l : List Section) (boot : Bool) : Bool :=
  l.length = le b 16 2 && 2 ≤ l.length && l.length ≤ 65535 &&
  l.all (fun x => knownType x.ty || x.sflags = 1) &&
  [5, 6, 0xA, 0xC, 0xD, 0xFF].all (fun t => countType l t ≤ 1) &&
  (l.drop 1).all (fun x => x.ty ≠ 5) &&
  (countType l 0xD = 0 || (l.takeWhile (fun x => x.ty ≠ 0xD)).all (fun x => x.ty = 5 || x.ty = 0xF0)) &&
  (countType l 0xA = 0 || (l.takeWhile (fun x => x.ty ≠ 0xA)).all (fun x => x.ty ≠ 0xB)) &&
  (!boot || l.all (fun x => x.ty ≠ 7 || x.inst ≠ 1))

/-! Payloads. -/

/-- The DRAM section (R113): its configuration, or none where the content is rejected. -/
def dramSection (p : List Byte) : Option DramCfg :=
  let size := le p 0 4
  let n := le p 6 2
  let region (v : Nat) : Bool := v = 0 || (8 ≤ v && v ≤ 64)
  if p.length = 16 + 2 * n && n ≤ 32 && (size = 1024 || size = 2048 || size = 4096 || size = 8192 || size = 16384) &&
     (le p 4 1 = 1 || le p 4 1 = 2) && le p 5 1 < 16 && region (le p 8 4) && region (le p 12 4) &&
     (List.range n).all (fun i => le p (16 + 2 * i) 1 ≠ 1 && le p (16 + 2 * i) 1 ≠ 2 && le p (16 + 2 * i) 1 ≠ 18) then
    some ⟨size, le p 4 1, le p 5 1, le p 8 4, le p 12 4,
      (List.range n).map (fun i => (le p (16 + 2 * i) 1, le p (17 + 2 * i) 1))⟩
  else none

/-- The little-endian 64-bit words of a byte list. -/
def words64 : Nat → List Byte → List Nat
  | 0, _ => []
  | n + 1, b => ofBytesLE (b.take 8) :: words64 n (b.drop 8)

/-- The RAKE_PROG section (R222, R223): entries and words. -/
def rakeSection (p : List Byte) : Option (List (Option Nat) × List (BitVec 64)) :=
  let n := le p 0 4
  let entry (e : Nat) : Nat := le p (8 + 4 * e) 4
  if 1 ≤ n && n ≤ 16384 && p.length = 264 + 8 * n && le p 4 4 = 0 &&
     (List.range 64).all (fun e => bitsAt (entry e) 14 17 = 0 && (!bitAt (entry e) 31 || entry e % 2 ^ 14 < n)) then
    some ((List.range 64).map (fun e => if bitAt (entry e) 31 then some (entry e % 2 ^ 14) else none),
          (words64 n (p.drop 264)).map (BitVec.ofNat 64))
  else none

/-- Word `i` of a bank image (R244). -/
def bankWord (ws : List Nat) (i : Nat) : Nat := ws[i]?.getD 0

/-- Reserved fields, VERDICT and the ROOT of a walked pair (R228, R232, R233, R244). -/
def bankWordOk (i w : Nat) : Bool :=
  if i < 1024 then
    bitsAt w 44 18 = 0 && bitsAt w 17 15 = 0 && (!(bitAt w 63 && bitAt w 62) || (41984 ≤ w % 2 ^ 17 && w % 2 ^ 17 ≤ 131071))
  else if i < 33792 then (i - 1024) % 2 = 0 || (!bitAt w 7 && !bitAt w 15 && bitsAt w 28 4 = 0)
  else if i < 41984 then (i - 33792) % 2 = 1 || (bitsAt w 23 41 = 0 && w % 8 < 6)
  else true

/-- A checked node, and the children it leads to (R229, R244). -/
def nodeOk (w : Nat) : Bool :=
  match bitsAt w 62 2 with
  | 0 => bitsAt w 53 5 + bitsAt w 50 3 + 1 ≤ 32 && 41984 ≤ w % 2 ^ 17 && w % 2 ^ 17 + 2 ^ (bitsAt w 50 3 + 1) - 1 ≤ 131071
  | 1 => w % 2 ^ 14 + bitsAt w 48 3 ≤ 16383
  | 2 => true
  | _ => false

def nodeKids (w : Nat) : List Nat :=
  if bitsAt w 62 2 = 0 then (List.range (2 ^ (bitsAt w 50 3 + 1))).map (fun i => w % 2 ^ 17 + i) else []

/-- Every node that a walk can reach passes its checks: rounds of nodes not seen before. -/
def nodesOk (ws : List Nat) : Nat → List Nat → List Nat → Bool
  | 0, _, _ => true
  | fuel + 1, front, seen =>
    match front with
    | [] => true
    | _ =>
      front.all (fun n => nodeOk (bankWord ws n)) &&
      (let seen := front ++ seen
       nodesOk ws fuel ((front.flatMap (fun n => nodeKids (bankWord ws n))).filter (fun n => !seen.contains n)).eraseDups seen)

/-- The RULESET section (R244): the words of the bank image. -/
def ruleSection (p : List Byte) : Option (List Nat) :=
  let n := le p 0 4
  if 1 ≤ n && n ≤ 131072 && p.length = 8 + 8 * n then
    let ws := words64 n (p.drop 8)
    let pairs := (ws.take 1024).filter (fun w => bitAt w 63 && bitAt w 62)
    if ws.zipIdx.all (fun e => bankWordOk e.2 e.1) && nodesOk ws 89088 (pairs.map (fun w => w % 2 ^ 17)).eraseDups [] then some ws
    else none
  else none

/-- A wrapped key record (R147). -/
structure KeyRec where
  slot : Nat
  kek : Nat
  alg : Nat
  usage : Nat
  lock : Bool
  wrapped : List Byte
  /-- Offset of the record in the payload, its bytes 0-7, and whether it fits the payload. -/
  off : Nat
  head : List Byte
  fits : Bool
  deriving DecidableEq, Repr

/-- The records of a KEYS section, up to one that runs past the payload (R147). -/
def keyRecords (p : List Byte) : Nat → Nat → List KeyRec
  | 0, _ => []
  | fuel + 1, off =>
    if p.length ≤ off then []
    else
      let wlen := le p (off + 6) 2
      let fits : Bool := off + 8 + wlen ≤ p.length
      ⟨le p off 1, le p (off + 1) 1, le p (off + 2) 1, le p (off + 3) 1, bitAt (le p (off + 4) 1) 0, (p.drop (off + 8)).take wlen,
        off, (p.drop off).take 8, fits⟩ :: (if fits then keyRecords p fuel ((off + 8 + wlen + 7) / 8 * 8) else [])

/-- WLEN fits ALG, and the record names a slot other than 255 (R147, R148). -/
def KeyRec.formOk (k : KeyRec) : Bool :=
  let wlen := le k.head 6 2
  k.fits && ((k.alg = 1 && wlen = 32) || (k.alg = 2 && wlen = 48)) && k.slot ≠ 255

/-- The key material of a record under the key-encryption keys `kek`: none where it does not unwrap, or where bytes 0-7
recovered differ from those of the record (R148). -/
def KeyRec.open (k : KeyRec) (kek : Nat → Option Nat) : Option Nat :=
  match kek k.kek with
  | none => none
  | some key => match Config.kwUnwrap key k.wrapped with
    | none => none
    | some b => if b.take 8 == k.head then some (ofBytesLE (b.drop 8)) else none

/-- The TRUST section's layout (R508). -/
def trustOk (p : List Byte) : Bool :=
  let n := le p 0 4
  1 ≤ n && n ≤ 16 && p.length = 8 + 104 * n && le p 4 4 = 0 &&
  (List.range n).all (fun i => le p (8 + 104 * i) 1 = i && le p (10 + 104 * i) 2 = 0)

/-- The words of the 64-bit counters of the register blocks (R10): base, stride, rows and counters in each row. -/
def counterRows : List (Nat × Nat × Nat × Nat) :=
  [ (Reg.FLT_PIN_CFG + 0xF000, 0, 1, 4), (0x60000 + 0x400, 0, 1, 8), (0x70000 + 0xF00, 0, 1, 8), (Reg.GAT_SEL + 0x1C00, 0, 1, 24),
    (Reg.MAC_PORT_CFG 0 + 0x800, 0x1000, 24, 28), (Reg.RAK_PORT_CFG 0 + 0x400, 0, 1, 24), (0x190400, 0, 1, 11),
    (0x1A0400, 0, 1, 11), (0x202000, 0, 1, 11), (0x203000, 0x80, 30, 9), (0x240400, 0, 1, 3), (Reg.CPH_CFG + 0x400, 0, 1, 12),
    (Reg.GWE_CH_CFG 0 + 0x4000, 0x80, 64, 11), (Reg.GWE_CH_CFG 0 + 0x6000, 0, 1, 3), (Reg.HAT_CFG 0 + 0x30000, 0x40, 64, 6),
    (Reg.BRG_CFG + 0x2000, 0, 1, 8), (Reg.BRG_CFG + 0x2100, 0x20, 32, 4), (Reg.STG_CFG + 0x400, 0, 1, 9),
    (Reg.MGT_CFG + 0x400, 0, 1, 9) ]

/-- Address `a` is a word of a counter. -/
def counterReg (a : Nat) : Bool :=
  counterRows.any fun r =>
    r.1 ≤ a && (if r.2.1 = 0 then a < r.1 + 8 * r.2.2.2 else (a - r.1) / r.2.1 < r.2.2.1 && (a - r.1) % r.2.1 < 8 * r.2.2.2)

/-- R111: an ADDR or DEST that names a register an image may write; a write of a counter is ignored (R9). -/
def imageReg (a : Nat) : Bool :=
  a % 4 = 0 && ((regRowAt a).isSome || counterReg a) && !inBlock 2 a && a ≠ Reg.TOP_RESET_CMD && a ≠ Reg.TOP_INT_EOI && a ≠ Reg.PWR_CMD

end Sys2Proof.Machine
end

