-- ==== Sys2Proof/Machine/Update.lean ====
section
/-!
DEFINITION. The control record and the commands of the update machine that need no section applied (R97, R98, R119,
R120, R127 to R130).
-/
namespace Sys2Proof.Machine

/-- The running slot is on trial: it is the preferred slot of a record with TRIAL = 1. -/
def State.onTrial (s : State) : Bool := s.committed && s.boot.trial && s.boot.slot = s.boot.pref

/-- BOOT_CTRL_REC shows the record in force, and BOOT_STATUS.TRIAL whether the running slot is on trial. -/
def State.recShow (s : State) : State :=
  let s := s.wf .BOOT_STATUS_TRIAL (b2n s.onTrial)
  ((s.wf .BOOT_CTRL_REC_SEQ s.boot.seq).wf .BOOT_CTRL_REC_TRIES s.boot.tries).wf .BOOT_CTRL_REC_TRIAL (b2n s.boot.trial) |>.wf
    .BOOT_CTRL_REC_PREF s.boot.pref

/-- The mode in which the ROM reads the control record and the headers (R102). -/
def State.romMode (s : State) : FlashMode :=
  if s.on .TOP_STRAP_XSPI_SAFE then ⟨1, false, 25, none⟩ else ⟨8, true, 200, some (0xEE11, 20)⟩

/-- The mode in which a slot is read whose verified header is `h` (R102, R104). -/
def slotMode (h : List Byte) : FlashMode :=
  ⟨8, true, 200, some (if le h 36 2 = 0 then (0xEE11, 20) else (le h 36 2, le h 38 1))⟩

/-- A read of `len` bytes of region `what` of the flash. -/
def State.flashRead (s : State) (m : FlashMode) (what len : Nat) : State :=
  (s.booting fun b => { b with flashMode := some m }).emit (.flashRead m what len)

/-- The control record in force is read (R97, R98). -/
def State.recRead (s : State) (flash : Bool) : State :=
  let s := (s.flashRead s.romMode 2 4096).flashRead s.romMode 3 4096
  let at_ := if flash then recPick s.boot.rec0 s.boot.rec1 else none
  let r := match at_ with
    | some 0 => s.boot.rec0
    | some _ => s.boot.rec1
    | none => []
  (s.booting fun b =>
    { b with recAt := at_, seq := le r 4 4, pref := le r 8 1 % 2, trial := le r 9 1 = 1, tries := le r 10 1 % 8 }).recShow

/-- CONTROL_RECORD_WRITE (R98): the copy not taken is programmed with SEQ + 1. -/
def State.recWrite (s : State) : State :=
  let at_ := if s.boot.recAt = some 0 then 1 else 0
  let seq := (s.boot.seq + 1) % 2 ^ 32
  let b := recBytes seq s.boot.pref s.boot.trial s.boot.tries
  let s := s.booting fun x =>
    if at_ = 0 then { x with seq := seq, recAt := some 0, rec0 := b } else { x with seq := seq, recAt := some 1, rec1 := b }
  (s.emit (.flashWrite (2 + at_) [seq, s.boot.pref, b2n s.boot.trial, s.boot.tries])).recShow

/-- An update command is refused (R127 to R129). -/
def State.updRefuse (s : State) : State := s.wf .BOOT_UPDATE_STATUS_REFUSED 1

/-- R129: update commands are refused during a restart and while BUSY; and they need a committed image. -/
def State.updCmd (s : State) (ok : Bool) (g : State → State) : State :=
  if s.on .TOP_STATE_CCX_RESTART || s.on .BOOT_UPDATE_STATUS_BUSY || !s.committed || !ok then s.updRefuse else g s

def State.setUpd (s : State) (st code : Nat) (busy : Bool) : State :=
  ((s.wf .BOOT_UPDATE_STATUS_STATE st).wf .BOOT_UPDATE_STATUS_CODE code).wf .BOOT_UPDATE_STATUS_BUSY (b2n busy)

/-- A new update may begin in IDLE, COMMITTED and FAILED. -/
def State.updIdle (s : State) : Bool := s.updState = 0 || s.updState = 6 || s.updState = 7

def State.stageClear (s : State) : State :=
  ((s.booting fun b => { b with chunk := none }).wf .BOOT_STAGE_STATUS_READY 1).wf .BOOT_STAGE_STATUS_NEXT 0

/-- The slot that did not load (R127). -/
def State.setSlotB (s : State) (b : List Byte) : State :=
  s.booting fun x => if x.slot = 0 then { x with flashB := b } else { x with flashA := b }
def State.slotB (s : State) : List Byte := if s.boot.slot = 0 then s.boot.flashB else s.boot.flashA

/-- BEGIN_IMAGE (R127): the inactive slot is erased; refused when the running image came from PCIe. -/
def State.beginImage (s : State) : State :=
  s.updCmd (s.updIdle && s.boot.slot ≠ 2) fun s =>
    let s := ((s.setSlotB []).booting fun b => { b with upd := some ⟨false, 0⟩ }).emit (.flashWrite (1 - s.boot.slot) [])
    (s.setUpd 1 0 true).stageClear

/-- BEGIN_RUNTIME (R128). -/
def State.beginRuntime (s : State) : State :=
  s.updCmd (s.updIdle && s.dram.up && 0 < s.stagingRegion.2) fun s =>
    ((s.booting fun b => { b with upd := some ⟨true, 0⟩ }).setUpd 2 0 false).stageClear

/-- UPDATE_ERASE_DONE (R127). -/
def State.eraseDone (s : State) : State := if s.updState = 1 then s.setUpd 2 0 false else s

/-- Room for a chunk of `n` bytes: a slot holds 8 MiB, a capsule what its staging region holds. -/
def State.stageRoom (s : State) (n : Nat) : Bool :=
  let most := match s.boot.upd with
    | some u => if u.runtime then s.stagingRegion.2 else 8 * mib
    | none => 8 * mib
  s.rf .BOOT_STAGE_STATUS_NEXT + n ≤ most

/-- STAGE_CHUNK_SUBMIT (R119, R120): a write of BOOT_STAGE_LEN. -/
def State.chunkSubmit (s : State) (v : Nat) : State :=
  let n := if v = 0 then 32768 else v
  let open_ := s.updState = 2 || s.rf .BOOT_STAGE_STATUS_PASS ≠ 0
  if open_ && s.on .BOOT_STAGE_STATUS_READY && n ≤ 32768 && s.rf .BOOT_STAGE_STATUS_NEXT % 4 = 0 && s.stageRoom n then
    (s.booting fun b => { b with chunk := some n }).wf .BOOT_STAGE_STATUS_READY 0
  else (s.wf .BOOT_STAGE_STATUS_ORDER_ERR 1).refuse 0x264 0x06

/-- Bytes of the staging buffer, the top 32 KiB of the Pantry (R112). -/
def State.stageBytes (s : State) (n : Nat) : List Byte := s.pantryBytes pantryStage n

/-- BOOT_UPDATE_END (R127, R128). -/
def State.updEnd (s : State) : State :=
  s.updCmd (s.updState = 2 && s.boot.chunk.isNone) fun s => s.setUpd 3 0 true

/-- BOOT_UPDATE_COMMIT (R127, R128). -/
def State.updCommit (s : State) (tries : Nat) : State :=
  s.updCmd (s.updState = 4) fun s =>
    match s.boot.upd with
    | some ⟨true, _⟩ => s.setUpd 5 0 true
    | _ =>
      let s := s.booting fun b => { b with pref := 1 - b.slot, trial := true, tries := if tries = 0 then 3 else tries }
      (s.recWrite.setUpd 6 0 false).booting fun b => { b with upd := none }

/-- BOOT_UPDATE_CONFIRM (R127). -/
def State.updConfirm (s : State) : State :=
  s.updCmd true fun s =>
    let s := if s.onTrial then (s.booting fun b => { b with trial := false }).recWrite else s
    s.secure fun x => { x with floor := max x.floor (s.rf .BOOT_VERSION_RUN) }

/-- BOOT_UPDATE_CANCEL (R129): in every state STATE returns to IDLE with code CANCELLED; in IDLE and COMMITTED there is no
staged image left to void. -/
def State.updCancel (s : State) : State := s.updCmd true State.updAbandon

/-- The action of BOOT_UPDATE_CMD. -/
def State.updAction (s : State) (action tries : Nat) : State :=
  match action with
  | 1 => s.beginImage
  | 2 => s.beginRuntime
  | 3 => s.updEnd
  | 4 => s.updCommit tries
  | 5 => s.updConfirm
  | 6 => s.updCancel
  | _ => s

/-- FLASH_TIMEOUT (R130): an erase, or the programming of a chunk, of an image capsule. R130 gives the report alone: STATE
FAILED with code 0x1 is the model's choice (DESIGN CHOICE, log entry 100). -/
def State.flashTimeout (s : State) : State :=
  let image := match s.boot.upd with | some u => !u.runtime | none => false
  if image && (s.updState = 1 || (s.updState = 2 && s.boot.chunk.isSome)) then
    ((s.setUpd 7 1 false).stageClear).notify 0x026 0x05
  else s

end Sys2Proof.Machine
end

