-- ==== Sys2Proof/Machine/Ccx.lean ====
section
/-!
DEFINITION. The control complex: lockstep comparison, checkpoints and restarts (R452 to R467).
-/
namespace Sys2Proof.Machine

def State.complex (s : State) (g : Ccx → Ccx) : State := { s with ccx := g s.ccx }

/-- One second and one millisecond of core cycles. -/
def secondCycles : Nat := 1000000000
def msCycles : Nat := 1000000

/-- The current checkpoint's contents; none while no checkpoint is current (R459). -/
def State.ckptCurrent (s : State) : Option Nat :=
  if !s.on .CCX_STATUS_CKPT_VALID then none
  else if s.on .CCX_STATUS_CUR_BUF then s.ccx.buf1 else s.ccx.buf0

/-- R463: the restart becomes a chip reset, whatever the mask holds. -/
def State.escalate (s : State) : State := s.forced 0x052

/-- Steps 1 and 2 of R461: a restart begins for `cause` (1 output, 2 signature, 3 TCM ECC, 4 not parked). -/
def State.restartBegin (s : State) (group cause : Nat) : State :=
  let s := (s.updStop true).chalVoid
  let s := ((s.wf .TOP_STATE_CCX_RESTART 1).wf .CCX_STATUS_RESTART 1).wf .CCX_STATUS_LAST_CAUSE cause
  let s := (s.wf .CCX_STATUS_LAST_GROUP group).wf .CCX_STATUS_RESTARTS (satInc 16 (s.rf .CCX_STATUS_RESTARTS))
  s.showHoldover.complex fun x => { x with halted := true, began := s.cycles, noticed := false, scratch := [] }

/-- A restart, or RESTART_ESCALATION when one runs or no checkpoint is current (R463). -/
def State.restartOr (s : State) (group cause : Nat) (again : Bool) : State :=
  if again || s.on .TOP_STATE_CCX_RESTART || s.ckptCurrent.isNone then s.escalate else s.restartBegin group cause

/-- R456, R463: a mismatch of group `g`; signature mismatches count in group 15. -/
def State.mismatch (s : State) (g cause : Nat) : State :=
  let s := (s.pulse (0x040 + g)).wf (.CCX_GROUP_COUNT g) (satInc 16 (s.rf (.CCX_GROUP_COUNT g)))
  let l := spGet (fun _ => []) s.ccx.times g
  let third := match l with
    | _ :: t :: _ => s.cycles < t + secondCycles
    | _ => false
  let s := s.complex fun x => { x with times := spSet (fun _ => []) x.times g ((s.cycles :: l).take 2) }
  s.restartOr g cause third

/-- LOCKSTEP_MISMATCH (R456): group 15 compares signatures (R455). -/
def State.lockstep (s : State) (g : Nat) : State := s.mismatch g (if g = 15 then 2 else 1)

/-- RAIL_DISAGREEMENT (R456, R464): the checkpoint out of schedule waits while a restart pauses checkpoints (R25). -/
def State.railDiffer (s : State) (g : Nat) : State :=
  let s := (s.pulse 0x050).wf .CCX_INT_RAIL 1
  if g = 15 then s.mismatch 15 2
  else if s.committed then s.complex fun x => { x with unscheduled := true }
  else s

/-- COMPARATOR_TEST (R457): a periodic test of 16 injections, one per group, with the rail and polarity whose turn it is (log
entry 148); `fail`: the injection that failed. One that is not among them cannot have. -/
def State.compTest (s : State) (fail : Option Nat) : State :=
  let fail := fail.filter (fun i => i % 4 = s.ccx.turn)
  let s := (s.wf .CCX_TEST_STATUS_RUNS ((s.rf .CCX_TEST_STATUS_RUNS + 1) % 2 ^ 16)).complex fun x => { x with turn := (x.turn + 1) % 4 }
  match fail with
  | some i =>
    (((s.wf .CCX_TEST_STATUS_FAIL 1).wf .CCX_TEST_STATUS_LAST_INJ i).wf .CCX_INT_TEST_FAIL 1).notify 0x051 0x13
  | none => s

/-- The checkpoint interval in core cycles (R459). -/
def State.ckptInterval (s : State) : Nat := s.rf .CCX_CFG_CKPT_MS * msCycles

/-- The first due moment of the schedule after now; those that a restart let pass are left out (R25, log entry 149). -/
def State.ckptNext (s : State) : State :=
  let n := s.ckptInterval
  s.complex fun x => { x with due := if s.cycles < x.due then x.due else x.due + ((s.cycles - x.due) / max n 1 + 1) * n }

/-- The checkpoints of the schedule are counted from the commit (R459). -/
def State.ckptStart (s : State) : State := s.complex fun x => { x with due := s.cycles + s.ckptInterval }

/-- CHECKPOINT_NOTICE (R459): 50 µs before a due moment. -/
def State.ckptNotice (s : State) : State :=
  if s.committed && !s.on .TOP_STATE_CCX_RESTART && s.ccx.due ≤ s.cycles + 50000 then
    (s.complex fun x => { x with noticed := true }).emit (.firmwareSignal 0)
  else s

/-- R459: the buffer that is not current takes the data region and the state image, and becomes current. -/
def State.ckptTake (s : State) : State :=
  let d := s.draw
  let s := d.2
  let other := s.on .CCX_STATUS_CKPT_VALID && !s.on .CCX_STATUS_CUR_BUF
  let s := (s.eccClear .tcm (1 + b2n other)).complex fun x =>
    if other then { x with live := d.1, buf1 := some d.1, unscheduled := false }
    else { x with live := d.1, buf0 := some d.1, unscheduled := false }
  ((s.wf .CCX_STATUS_CKPT_VALID 1).wf .CCX_STATUS_CUR_BUF (b2n other)).wf .CCX_CKPT_TIME_LO_T64_LO (s.now % 2 ^ 32) |>.wf
    .CCX_CKPT_TIME_HI_T64_HI (s.now / 2 ^ 32)

/-- A signature mismatch leaves the new buffer invalid. A sleep entry that awaits its checkpoint asks for another (R464, log
entry 150). -/
def State.ckptSpoil (s : State) : State :=
  let again := match s.pwr.entry with | some e => e.step = .awaitCheckpoint | none => false
  s.complex fun x =>
    if s.on .CCX_STATUS_CUR_BUF then { x with buf0 := none, unscheduled := again } else { x with buf1 := none, unscheduled := again }

/-- An uncorrectable TCM word (R467): it is reported, and the complex restarts from the current checkpoint, in a restart once
more; with no checkpoint to restore the restart becomes a chip reset (R463). -/
def State.tcmLost (s : State) : State :=
  let s := s.notify 0x053 0x02
  if s.ckptCurrent.isNone then s.escalate else s.restartBegin 0 3

/-- The damage of the TCM (R458): word 0 of the complex's memories stands for it, words 1 and 2 for the checkpoint buffers. -/
def State.tcmEcc (s : State) : Nat := s.eccAt .tcm 0

/-- A read of checkpoint buffer `b` (R458, R463): a correctable word is reported on 0x054; true where one is not. -/
def State.bufferRead (s : State) (b : Nat) : Bool × State := s.eccRead .tcm (1 + b) 0x054 none

/-- CHECKPOINT (R459): one of the schedule, at its due moment, or one out of schedule. It reads the TCM, whose damage it finds
(R467). A firmware that is not parked matters to one of the schedule alone. -/
def State.checkpoint (s : State) (parked agree : Bool) : State :=
  let sched := s.ccx.noticed && s.ccx.due ≤ s.cycles
  if !s.committed || s.on .TOP_STATE_CCX_RESTART || !(sched || s.ccx.unscheduled) then s
  else if 2 ≤ s.tcmEcc then (s.eccClear .tcm 0).tcmLost
  else
  let s := if s.tcmEcc = 1 then (s.eccClear .tcm 0).notify 0x053 0x01 else s
  let s := if sched then (s.complex fun x => { x with noticed := false }).ckptNext else s
  if !parked && sched then
    let again := match s.ccx.parkFail with | some t => s.cycles < t + secondCycles | none => false
    ((s.notify 0x056 0x05).complex fun x => { x with parkFail := some s.cycles }).restartOr 0 4 again
  else if agree then s.ckptTake
  else s.ckptSpoil.mismatch 15 2

/-- Steps 2 to 5 of R461. `bad`: an uncorrectable Larder error in the buffer being restored. -/
def State.restore (s : State) (bad : Bool) (fail : Option Nat) : State :=
  let r := s.bufferRead (s.rf .CCX_STATUS_CUR_BUF)
  if bad then (s.notify 0x054 0x02).escalate
  else if r.1 then r.2.escalate
  else
    let s := r.2
    let n := s.flt.nmiWaiting
    let s := s.complex fun x => { x with live := s.ckptCurrent.getD x.live, halted := false }
    let s := (s.collector fun f => { f with nmiWaiting := 0 }).compTest fail
    (s.sendNmi n).emit (.firmwareSignal 1)

/-- CCX_RESTART (R461): the restore of a restart that has begun, or the whole of one that an uncorrectable TCM error
causes. -/
def State.ccxRestart (s : State) (tcm bad : Bool) (fail : Option Nat) : State :=
  let s := if tcm then s.tcmLost else s
  if s.ccx.halted then s.restore bad fail else s

/-- CCX_DONE (R461): the firmware ends resynchronisation. -/
def State.ccxDone (s : State) : State :=
  if s.on .TOP_STATE_CCX_RESTART && !s.ccx.halted then
    ((((s.wf .TOP_STATE_CCX_RESTART 0).wf .CCX_STATUS_RESTART 0).wf .CCX_INT_RESTART 1).showHoldover).ckptNext
  else s

/-- RESTART_TIMEOUT (R461). -/
def State.restartLate (s : State) : State := if s.on .TOP_STATE_CCX_RESTART then s.forced 0x055 else s

/-- A write of CCX_CFG or CCX_MBOX_CFG (R459, R466). -/
def State.ccxCfg (s : State) (w : Word) : State :=
  if 1 ≤ fldGet w 0 7 && fldGet w 0 7 ≤ 100 then s.wword Reg.CCX_CFG w else s.refuse 0x057 0x08
def State.mboxCfg (s : State) (w : Word) : State :=
  if fldGet w 0 6 = fldGet w 8 6 then s.refuse 0x057 0x08 else s.wword Reg.CCX_MBOX_CFG w

/-- R466: the mailbox Hatches take their directions at commit. -/
def State.mboxCommit (s : State) : State :=
  if s.on .CCX_MBOX_CFG_EN then
    (s.wf (.HAT_CFG_DIR (s.rf .CCX_MBOX_CFG_REQ_HATCH)) 1).wf (.HAT_CFG_DIR (s.rf .CCX_MBOX_CFG_RESP_HATCH)) 0
  else s

end Sys2Proof.Machine
end

