-- ==== Sys2Proof/Machine/Pwr.lean ====
section
/-!
DEFINITION. The power manager: power states, sleep entry, wake sequence, start table and monitors (R76 to R95).
-/
namespace Sys2Proof.Machine

def State.power (s : State) (g : Pwr → Pwr) : State := { s with pwr := g s.pwr }

/-- Power states as TARGET and PWR_STATE encode them. -/
def pwrOff : Nat := 0
def pwrSleepD : Nat := 1
def pwrSleepR : Nat := 2
def pwrStandby : Nat := 3
def pwrActive : Nat := 4

/-- The power state changes (R77); FWD_EN is 1 in ACTIVE alone (R76), and outside it TRIG is at its inactive level
(R51). -/
def State.powerTo (s : State) (st : Nat) : State :=
  if s.rf .TOP_STATE_PWR_STATE = st then s
  else
    let s := ((s.wf .TOP_STATE_PREV_PWR (s.rf .TOP_STATE_PWR_STATE)).wf .TOP_STATE_PWR_STATE st).wf .PWR_STATUS_STATE st
    (if st = pwrActive then s else s.trigRelease).setForward (st = pwrActive)

/-- A transition is in progress (R78 code 5). -/
def State.inTransition (s : State) : Bool :=
  s.pwr.entry.isSome || s.pwr.wake ≠ .none || s.on .PWR_STATUS_BUSY

/-- An enabled level-mode WAKE_IN is at its active level: high with MODE 0, low with MODE 1 (R78, R81, R82). -/
def State.wakeActive (s : State) : Bool :=
  (List.range 4).any (fun n => bitAt (s.rf .PWR_WAKE_EN_WAKE_IN) n &&
    ((s.rf (.PWR_WAKE_IN_CFG_MODE n) = 0 && bitAt s.pwr.wakeIn n) || (s.rf (.PWR_WAKE_IN_CFG_MODE n) = 1 && !bitAt s.pwr.wakeIn n)))

/-- The levels `pins` of WAKE_IN as the auxiliary operand of a write of PWR_CMD. -/
def wakeAux (pins : Nat) : Nat := 16 + pins % 16

/-- The power manager samples WAKE_IN for a power command (R52, R78): the levels are those that the command's auxiliary
operand gives, and free values where it gives none (log entry 89). -/
def State.wakeSample (s : State) (aux : Nat) : State :=
  if bitAt aux 4 then s.power fun p => { p with wakeIn := aux % 16 }
  else
    let d := s.draw
    d.2.power fun p => { p with wakeIn := Config.free d.1 % 16 }

/-- R78: code of the first condition that refuses target `t`, 0 when none holds. -/
def State.pwrRefusal (s : State) (t : Nat) : Nat :=
  if s.wakeActive || s.pwr.wakePending then 1
  else if s.rf .TOP_STATE_PAIR_ROLE = 3 then 2
  else if t = pwrActive && !s.committed then 3
  else if t = pwrActive && s.paired && !s.on .TOP_STATE_LEASE then 4
  else if s.inTransition || (t ≤ pwrSleepR && s.on .TOP_STATE_CCX_RESTART) then 5
  else 0

/-- Step 1 of R79. -/
def State.sleepBegin (s : State) (t : Nat) : State :=
  let st := s.rf .TOP_STATE_PWR_STATE
  ((s.wf .PWR_STATUS_BUSY 1).wf .PWR_WAKE_CAUSE_FIRST 0).power fun p =>
    { p with entry := some ⟨t, st, .stopAdmission, false, false⟩, distDone := false }

/-- PWR_CMD with the right key and target `t` (R77, R78). -/
def State.pwrCmd (s : State) (t : Nat) : State :=
  if t = 0 || 4 < t then s
  else
    let code := s.pwrRefusal t
    if code ≠ 0 then s.wf .PWR_STATUS_REFUSE code
    else if t ≤ pwrSleepR then s.sleepBegin t
    else s.powerTo t

/-! Sequence steps (R84, R86, R87, R89). -/

/-- The sequence steps in use that are down in sleep state `t`. -/
def State.downSet (s : State) (t : Nat) : List Nat :=
  (List.range (min 8 (s.rf .PWR_SEQ_CFG_NSEQ))).filter (fun i => s.on (.PWR_SEQ_DOWN_R i) || (t = pwrSleepD && s.on (.PWR_SEQ_DOWN_D i)))

/-- PMBUS_OPERATION (R89) to the devices of step `i`. -/
def State.pmbOperation (s : State) (i data : Nat) : State :=
  s.each ((List.range 8).filter (fun d => s.on (.PWR_PMB_DEV_EN d) && s.on (.PWR_PMB_DEV_OPER d) && s.rf (.PWR_PMB_DEV_STEP d) = i))
    (fun s d => s.emit (.pmbus (s.rf (.PWR_PMB_DEV_ADDR d)) 0x01 data))

/-- The I/O banks of R44, numbered 0 VDDA_SER, 1 VDDA_PHY, 2 VDDQ_DDR, 3 VDDIO_F, 4 VDDIO_L, 5 VDDIO_AON and 6 VDDIO_B,
that are off in sleep state `t` (R50), as a mask. -/
def State.banksOff (s : State) (t : Nat) : Nat :=
  0b1001001 + (if s.rf .PWR_WAKE_EN_TC10 = 0 then 2 else 0) + (if t = pwrSleepR then 0 else 4)

/-- Step `i` goes down: its PWR_EN outputs go high, and the banks that sleep state `t` switches off ramp (R55, R84). -/
def State.stepDown (s : State) (t i : Nat) : State :=
  s.power fun p => { p with pwrEn := p.pwrEn ||| s.rf (.PWR_SEQ_EN_MASK i), downSteps := p.downSteps ||| 2 ^ i,
                            ramp := s.banksOff t }

/-- Step `i` is raised: its PWR_EN outputs go low, its banks ramp, and its PGOOD inputs are awaited (R55, R84, R86). -/
def State.stepUp (s : State) (i : Nat) : State :=
  s.power fun p => { p with pwrEn := p.pwrEn &&& (255 - s.rf (.PWR_SEQ_EN_MASK i)), wake := .pgood i,
                            ramp := s.banksOff p.asleep }

/-- INH in sleep state `t` (R79 step 6). -/
def State.inhIn (s : State) (t : Nat) : Bool := !(t = pwrSleepD || s.on .PWR_SEQ_CFG_INH_R)

/-- Every rail of the wake is up: from SLEEP-D the internal cold reset comes next, from SLEEP-R the start table. -/
def State.railsUp (s : State) : State :=
  s.power fun p => { p with wake := if p.asleep = pwrSleepD then .coldReset else .start 0, ramp := 0 }

/-- One attempt of the wake sequence (R86). -/
def State.wakeAttempt (s : State) : State :=
  let s := s.power fun p => { p with inh := true }
  match s.downSet s.pwr.asleep with
  | i :: _ => s.stepUp i
  | [] => s.railsUp

/-- The wake sequence of a new wake event. -/
def State.wakeStart (s : State) : State :=
  ((s.wf .PWR_STATUS_SEQ_FAILS 0).wakeAttempt).booting fun b => { b with born := s.cycles }

/-- PGOOD_WAIT_DONE (R86, R89): the PGOOD inputs of the step are high and DELAY has passed. -/
def State.pgoodDone (s : State) : State :=
  match s.pwr.wake with
  | .pgood i =>
    let s := (s.power fun p => { p with downSteps := if bitAt p.downSteps i then p.downSteps - 2 ^ i else p.downSteps,
                                        pgood := p.pgood ||| s.rf (.PWR_SEQ_PG_MASK i) }).pmbOperation i 0x80
    match (s.downSet s.pwr.asleep).filter (fun j => i < j) with
    | j :: _ => s.stepUp j
    | [] => s.railsUp
  | _ => s

/-- PGOOD_TIMEOUT (R87). R89 names OPERATION 0x00 for sleep entry alone: sending it to the devices of each step that a
failed wake takes back down, the step that timed out among them, is the model's choice (DESIGN CHOICE, log entry 90). -/
def State.pgoodTimeout (s : State) : State :=
  match s.pwr.wake with
  | .pgood i =>
    if s.rf (.PWR_SEQ_TIMEOUT i) = 0 then s
    else
      let s := s.each ((s.downSet s.pwr.asleep).filter (fun j => j ≤ i)).reverse (fun s j => (s.pmbOperation j 0x00).stepDown s.pwr.asleep j)
      let n := s.rf .PWR_STATUS_SEQ_FAILS + 1
      let s := (s.wf .PWR_STATUS_SEQ_FAIL 1).wf .PWR_STATUS_SEQ_FAILS n
      s.power fun p =>
        { p with unreported := p.unreported + 1, inh := s.inhIn p.asleep, wake := if n < 3 then .retry else .none,
                 wakePending := n < 3, ramp := 0 }
  | _ => s

/-- SEQUENCE_RETRY (R87). -/
def State.seqRetry (s : State) : State := if s.pwr.wake = .retry then s.wakeAttempt else s

/-- R87: the failures of a wake, reported once STANDBY is reached. No rule states their kind: it is a free value among
the kinds of R468. -/
def State.reportFails (s : State) : State :=
  let s := s.each (List.range s.pwr.unreported) (fun s _ => let d := s.draw; d.2.notify 0x018 (1 + Config.free d.1 % 19))
  s.power fun p => { p with unreported := 0 }

/-! Sleep entry (R79, R80). -/

def State.setEntry (s : State) (g : SleepEntry → SleepEntry) : State :=
  s.power fun p => { p with entry := p.entry.map g }

/-- R79 step 5: the down steps below `n`, last first; then step 6. -/
def State.entryAfter (s : State) (t n : Nat) : EntryStep :=
  match ((s.downSet t).filter (fun i => i < n)).reverse with
  | i :: _ => .lower i
  | [] => .reachSleep

/-- R79 step 6: the sleep state is reached. -/
def State.sleepReach (s : State) (e : SleepEntry) : State :=
  let inh := s.inhIn e.target
  let s := (s.wf .PWR_STATUS_STATE e.target).wf .PWR_STATUS_BUSY 0
  let s := s.sleepLoss e.target
  let s := s.power fun p => { p with entry := none, asleep := e.target, inh := inh, ramp := 0 }
  let s := (s.wf .TOP_STATE_PREV_PWR pwrStandby).wf .TOP_STATE_PWR_STATE e.target
  if e.wakeHeld then s.wakeStart else s

/-- The rest of R79 step 3, once the checkpoint is taken: the DRAM enters self-refresh, in time or not (R483, log entry 127),
and the ports request sleep of their partners. -/
def State.entrySettle (s : State) : State :=
  let s := s.refreshEntry s.dram.up
  let s := { s with dram := { s.dram with selfRefresh := s.dram.up, up := false } }
  let s := s.each ((List.range 12).map (fun i => 12 + i)) (fun s p => if s.on (.PHY_CFG_TC10_SLEEP p) then s.tc10Request p else s)
  s.setEntry fun e => { e with step := .stopUnits }

/-- SLEEP_ENTRY_STEP (R79): the next step of sleep entry. From ACTIVE, in which a take-over may have put the device on the
way, it passes through STANDBY (R77). The checkpoint of SLEEP-R is one out of schedule, which CHECKPOINT takes; the entry
waits for it, and for the end of a restart (R464). -/
def State.entryStep (s : State) : State :=
  match s.pwr.entry with
  | none => s
  | some e =>
    let s := s.powerTo pwrStandby
    match e.step with
    | .stopAdmission =>
      (s.updStop false).setEntry fun e => { e with step := .checkpoint }
    | .checkpoint =>
      if e.target = pwrSleepR && s.committed then
        (s.complex fun x => { x with unscheduled := true }).setEntry fun e => { e with step := .awaitCheckpoint }
      else s.entrySettle
    | .awaitCheckpoint => if s.ccx.unscheduled || s.on .TOP_STATE_CCX_RESTART then s else s.entrySettle
    | .stopUnits =>
      let next := s.entryAfter e.target 8
      ((s.mgtEndAll).power fun p => { p with started := 0 }).setEntry fun e => { e with step := next, committed := true }
    | .lower i =>
      let s := (s.pmbOperation i 0x00).stepDown e.target i
      let next := s.entryAfter e.target i
      s.setEntry fun e => { e with step := next }
    | .reachSleep => s.sleepReach e

/-- The state that an abandoned sleep entry returns to (R80): the one in which the command was accepted, but for ACTIVE in a
paired unit whose lease has ended meanwhile, which forwards no more (R486; DEDUCED, log entry 132). -/
def State.abandonTo (s : State) (e : SleepEntry) : Nat :=
  if e.fromState = pwrActive && s.paired && !s.on .TOP_STATE_LEASE then pwrStandby else e.fromState

/-- SLEEP_ENTRY_ABANDON (R80). -/
def State.entryAbandon (s : State) (e : SleepEntry) : State :=
  let s := s.refreshEntry s.dram.selfRefresh
  let s := { s with dram := { s.dram with up := s.dram.up || s.dram.selfRefresh, selfRefresh := false } }
  ((s.power fun p => { p with entry := none }).wf .PWR_STATUS_BUSY 0).powerTo (s.abandonTo e)

/-! Wake (R81, R82). -/

/-- Wake source `c`, as PWR_WAKE_CAUSE.FIRST encodes it, is enabled. -/
def State.wakeEnabled (s : State) (c : Nat) : Bool :=
  if 1 ≤ c && c ≤ 4 then bitAt (s.rf .PWR_WAKE_EN_WAKE_IN) (c - 1)
  else if 0x10 ≤ c && c ≤ 0x1F then bitAt (s.rf .PWR_BUS_WAKE_CAN) (c - 0x10)
  else if 0x20 ≤ c && c ≤ 0x27 then bitAt (s.rf .PWR_BUS_WAKE_LIN) (c - 0x20)
  else if 0x2C ≤ c && c ≤ 0x37 then bitAt (s.rf .PWR_WAKE_EN_TC10) (c - 0x2C)
  else if c = 0x40 then s.on .PWR_WAKE_EN_TIMER
  else c = 0x41 && s.on .PWR_WAKE_EN_DIST

/-- The first confirmed source and the travel count at its confirmation (R82, R83). -/
def State.wakeRecord (s : State) (c : Nat) : State :=
  if s.rf .PWR_WAKE_CAUSE_FIRST = 0 then
    ((s.wf .PWR_WAKE_CAUSE_FIRST c).wword (Reg.PWR_WAKE_D48 0) (BitVec.ofNat 32 s.d48)).wword (Reg.PWR_WAKE_D48 1)
      (BitVec.ofNat 32 (s.d48 / 2 ^ 32))
  else if s.rf .PWR_WAKE_CAUSE_FIRST = c then s else s.wf .PWR_WAKE_CAUSE_MORE 1

/-- WAKE_CONFIRMED (R80 to R82). -/
def State.wakeConfirm (s : State) (c : Nat) : State :=
  if s.pwr.porst || !s.wakeEnabled c then s
  else match s.pwr.entry with
  | some e =>
    let s := s.wakeRecord c
    if e.committed then
      ((s.wf .PWR_WAKE_CAUSE_EARLY 1).power fun p => { p with wakePending := true }).setEntry fun e => { e with wakeHeld := true }
    else s.entryAbandon e
  | none =>
    if s.pwr.asleep = 0 then s
    else
      let s := s.wakeRecord c
      if s.pwr.wake = .none then (s.power fun p => { p with wakePending := true }).wakeStart else s

/-- WAKE_TIMER_EXPIRY (R81). -/
def State.wakeTimer (s : State) : State := if s.pwr.asleep = 0 then s else s.wakeConfirm 0x40

/-- TRAVEL_WAKE (R80, R81): the first counter update at or past the target, in a sleep state or on the way to it. -/
def State.travelWake (s : State) : State :=
  if (s.pwr.asleep ≠ 0 || s.pwr.entry.isSome) && s.on .PWR_WAKE_EN_DIST && !s.pwr.distDone &&
      atOrAfter 32 (s.d48 % 2 ^ 32) (s.rf .PWR_WAKE_DIST_TARGET) then
    (s.power fun p => { p with distDone := true }).wakeConfirm 0x41
  else s

/-! The start table (R90, R91). -/

/-- Current step of unit `c` in units of 0.05 A (R90). -/
def unitStep (c : Nat) : Nat :=
  ([0, 2, 6, 3, 4, 3, 8, 8, 8, 8, 7, 3, 3, 3, 3, 6, 6, 4, 5, 4, 4, 4, 4, 4, 3, 4, 2, 2, 5, 4, 5][c]?).getD 0

/-- A start table entry: SAME_STEP, SPACING and UNIT. -/
structure StartEnt where
  same : Bool
  spacing : Nat
  unit : Nat
  deriving DecidableEq, Repr

def State.startTable (s : State) (n : Nat) : List StartEnt :=
  (List.range n).map (fun k => ⟨k ≠ 0 && s.on (.PWR_START_SAME_STEP k), s.rf (.PWR_START_SPACING k), s.rf (.PWR_START_UNIT k)⟩)

/-- The default table: codes 0x01 to 0x1E one per step at 20 µs. -/
def defaultTable : List StartEnt := (List.range 30).map (fun k => ⟨false, 20, k + 1⟩)

/-- The entries of the step that begins the list. -/
def stepHead : List StartEnt → List StartEnt
  | [] => []
  | e :: l => e :: l.takeWhile (fun x => x.same)

/-- R91: every step draws at most 2.0 A, and is followed by 20 to 255 µs unless it is the last. -/
def stepsOk : Nat → List StartEnt → Bool
  | 0, _ => true
  | fuel + 1, l =>
    match l with
    | [] => true
    | _ =>
      let h := stepHead l
      let rest := l.drop h.length
      (h.map (fun e => unitStep e.unit)).sum ≤ 40 &&
      (rest.isEmpty || (match h.getLast? with | some e => 20 ≤ e.spacing | none => true)) && stepsOk fuel rest

/-- R91: a valid start table. The rule gives codes 0x00 to 0x1E: a table with any other code is invalid here (DESIGN
CHOICE, log entry 91). -/
def tableValid (l : List StartEnt) : Bool :=
  1 ≤ l.length && l.length ≤ 64 && l.all (fun e => e.unit ≤ 0x1E) &&
  (List.range 30).all (fun c => (l.filter (fun e => e.unit = c + 1)).length = 1) && stepsOk 64 l

/-- PWR_SEQ_CFG_WRITE (R91). NSTART = 0 names the default table, which needs no check: that TABLE_BAD then reads 0 is the
model's choice (DESIGN CHOICE, log entry 91). -/
def State.seqCfg (s : State) (w : Word) : State :=
  let s := s.wword Reg.PWR_SEQ_CFG (fldSet w 7 1 (s.rf .PWR_SEQ_CFG_TABLE_BAD))
  let n := s.rf .PWR_SEQ_CFG_NSTART
  if n = 0 then (s.wf .PWR_SEQ_CFG_TABLE_BAD 0).power fun p => { p with tableOk := false }
  else if tableValid (s.startTable n) then (s.wf .PWR_SEQ_CFG_TABLE_BAD 0).power fun p => { p with tableOk := true }
  else ((s.wf .PWR_SEQ_CFG_TABLE_BAD 1).power fun p => { p with tableOk := false }).refuse 0x01A 0x08

/-- The table in force. An entry written after the check of NSTART must not break R60 and R91: a table that is no longer
valid gives way to the default table. -/
def State.startList (s : State) : List StartEnt :=
  let t := s.startTable (s.rf .PWR_SEQ_CFG_NSTART)
  if s.pwr.tableOk && tableValid t then t else defaultTable

/-- START_TABLE_STEP (R91, R95, R99): the units of the next step start. A reset held by the temperature sensor or a
clock starts nothing. -/
def State.tableStep (s : State) : State :=
  match s.pwr.wake with
  | .start k =>
    if s.pwr.tempHold || s.pwr.clockHold || s.on .PWR_MON_STATUS_PLL || s.pwr.porst then s
    else
      let l := s.startList.drop k
      let h := stepHead l
      let units := (h.filter (fun e => e.unit ≠ 0)).foldl (fun m e => m ||| 2 ^ e.unit) s.pwr.started
      let next := if (l.drop h.length).isEmpty then (if s.pwr.asleep = 0 then .none else .restore) else .start (k + h.length)
      s.power fun p => { p with started := units, wake := next }
  | _ => s

/-! Release, loss of power, monitors (R47, R77, R88 to R94). -/

/-- COLD_RESET_RELEASE (R47, R99): the straps are sampled and the start sequence begins. BOOT_TIME counts from here (R122),
after SLEEP-D from the release of the internal cold reset (DESIGN CHOICE, log entry 136). -/
def State.release (s : State) (boot : Nat) (pairEn pairSide pcie safe : Bool) : State :=
  if !s.pwr.porst then s
  else
    let s := (((s.wf .TOP_STRAP_BOOT_MODE boot).wf .TOP_STRAP_PAIR_EN (b2n pairEn)).wf .TOP_STRAP_PAIR_SIDE (b2n pairSide)).wf
      .TOP_STRAP_PCIE_EN (b2n pcie) |>.wf .TOP_STRAP_XSPI_SAFE (b2n safe) |>.wf .TOP_STRAP_STRAP_INVALID (b2n (boot % 4 = 3))
    let s := (s.wf .TOP_STATE_PWR_STATE pwrStandby).wf .PWR_STATUS_STATE pwrStandby
    ((s.power fun p => { p with porst := false, off := false, wake := .start 0, inh := true, ramp := 0 }).booting fun b => { b with born := s.cycles }).reportFails

/-- COLD_RESET for `cause` 0 PORST_N, 1 a supply failure, 2 the internal one that ends SLEEP-D, which comes once every
rail is up (R27, R80, R95). In OFF nothing is powered, and the device stays there until its release (R54, R77). -/
def State.coldCmd (s : State) (cause : Nat) : State :=
  if s.pwr.off then s
  else if cause = 2 then if s.pwr.wake = .coldReset then s.coldReset 2 else s else s.coldReset cause

/-- POWER_LOSS (R55, R77): the device goes to OFF and keeps its fuses; every bank ramps down, until the next tick. -/
def State.powerLoss (s : State) : State :=
  let s := s.coldReset 0
  ((s.wf .TOP_STATE_PWR_STATE pwrOff).wf .PWR_STATUS_STATE pwrOff).power fun p => { p with inh := false, ramp := if p.off then p.ramp else 127, off := true }

/-- A tick in which the units do not work: the core clock goes on, and the banks of a device in OFF are down (R51, R54,
R55). -/
def State.quietTick (s : State) : State :=
  { s with cycles := s.cycles + 2, pwr := { s.pwr with ramp := if s.pwr.off then 0 else s.pwr.ramp } }

/-- PGOOD_LOSS on input `n`: sampled wherever VDDIO_AON is powered (R52), reported in STANDBY and ACTIVE (R88). -/
def State.pgoodLoss (s : State) (n : Nat) : State :=
  let s := s.power fun p => { p with pgood := maskSet p.pgood n false }
  if s.powered && s.raisedSteps.any (fun i => bitAt (s.rf (.PWR_SEQ_PG_MASK i)) n) then s.raise 0x019 0x0B else s

/-- PGOOD_RECOVERY (R88) on input `n`. -/
def State.pgoodBack (s : State) (n : Nat) : State :=
  let s := s.power fun p => { p with pgood := maskSet p.pgood n true }
  if s.pgoodLow || !s.powered then s else s.lower 0x019

/-- PMBUS_ALERT (R89): every enabled device is read; `words` are their status words, by entry. Where every word is zero
nothing is recorded and nothing reported (DESIGN CHOICE, log entry 133). -/
def State.pmbAlert (s : State) (words : List Word) : State :=
  let devs := (List.range 8).filter (fun d => s.on (.PWR_PMB_DEV_EN d))
  let hit := devs.find? (fun d => fldGet (words[d]?.getD 0) 0 16 ≠ 0)
  let s := s.each devs (fun s d => s.emit (.pmbus (s.rf (.PWR_PMB_DEV_ADDR d)) 0x79 0))
  match hit with
  | none => s
  | some d =>
    let s := if s.on .PWR_PMB_STATUS_VALID then s
      else ((s.wf .PWR_PMB_STATUS_VALID 1).wf .PWR_PMB_STATUS_ADDR (s.rf (.PWR_PMB_DEV_ADDR d))).wf .PWR_PMB_STATUS_STATUS_WORD
        (fldGet (words[d]?.getD 0) 0 16)
    (s.emit (.pmbus (s.rf (.PWR_PMB_DEV_ADDR d)) 0x03 0)).notify 0x01B 0x0B

/-- PMBUS_TIMEOUT (R64, R89). -/
def State.pmbTimeout (s : State) : State := s.notify 0x017 0x05

/-- R92: monitor `r` acts: its rail is on and its sequence step is complete. VDD_AON and VDDIO_AON (2, 7) stay on in the
sleep states, and VDD_RET and VDD_DDRPHY (1, 6) in SLEEP-R (R50, R85); the others are on while no step of a sequence
is down. -/
def State.railOn (s : State) (r : Nat) : Bool :=
  s.supplied && !s.pwr.porst &&
  (r = 2 || r = 7 ||
    (match s.pwr.entry with
      | some e => s.pwr.downSteps = 0 || (e.target = pwrSleepR && (r = 1 || r = 6))
      | none => s.pwr.asleep = 0 || (s.pwr.asleep = pwrSleepR && (r = 1 || r = 6)) ||
          (match s.pwr.wake with
            | .start _ | .restore | .coldReset => true
            | _ => false)))

/-- R93, R95: the clock monitors are armed: in STANDBY and ACTIVE, and in a wake once its rails are up. -/
def State.clocksWatched (s : State) : Bool :=
  !s.pwr.porst && (s.pwr.asleep = 0 ||
    (match s.pwr.wake with
      | .start _ | .restore => true
      | _ => false))

/-- VOLTAGE_MONITOR_EVENT (R92) on rail `r`: 0 within, 1 outside the warning thresholds, 2 below the reset threshold. -/
def State.voltEvent (s : State) (r level : Nat) : State :=
  if level = 2 then s.coldReset 1
  else
    let s := s.wf .PWR_MON_STATUS_VOLT (maskSet (s.rf .PWR_MON_STATUS_VOLT) r (level = 1))
    s.rail 0x010 (s.rf .PWR_MON_STATUS_VOLT ≠ 0)

/-- A bit of PWR_MON_STATUS.CLK. -/
def State.clkBit (s : State) (i : Nat) (b : Bool) : State :=
  s.wf .PWR_MON_STATUS_CLK (maskSet (s.rf .PWR_MON_STATUS_CLK) i b)

/-- CLOCK_LOSS (R93, R157, R174): 0 crystal, 1 and 2 SD_REFCLK[0] and [1], 3 PCIE_REFCLK, 4 a PLL, 5 and 6 the SerDes
PLLs, 8 + l SerDes lane l. -/
def State.clockLoss (s : State) (c : Nat) : State :=
  match c with
  | 0 => ((s.clkBit 0 true).power fun p => { p with clockHold := true }).forced 0x011
  | 1 => ((s.clkBit 1 true).refLoss 0 true).raise 0x012 0x0A
  | 2 => ((s.clkBit 2 true).refLoss 1 true).raise 0x012 0x0A
  | 3 => ((s.clkBit 3 true).pcieReset true).raise 0x013 0x0A
  | 4 => (s.wf .PWR_MON_STATUS_PLL 1).forced 0x014
  | 5 => s.notify 0x0EC 0x0A
  | 6 => s.notify 0x0ED 0x0A
  | n => if 8 ≤ n && n < 20 then s.notify (0x0E0 + (n - 8)) 0x0A else s

/-- CLOCK_RECOVERY (R93, R157). -/
def State.clockBack (s : State) (c : Nat) : State :=
  match c with
  | 0 => ((s.clkBit 0 false).power fun p => { p with clockHold := false }).rail 0x011 false
  | 1 =>
    let s := (s.clkBit 1 false).refLoss 0 false
    if bitAt (s.rf .PWR_MON_STATUS_CLK) 2 then s else s.lower 0x012
  | 2 =>
    let s := (s.clkBit 2 false).refLoss 1 false
    if bitAt (s.rf .PWR_MON_STATUS_CLK) 1 then s else s.lower 0x012
  | 3 => (s.clkBit 3 false).lower 0x013
  | 4 => (s.wf .PWR_MON_STATUS_PLL 0).rail 0x014 false
  | _ => s

/-- TEMPERATURE_SAMPLE (R74, R94): the reading in units of 0.25 °C. -/
def State.tempSample (s : State) (v : Nat) : State :=
  let t := sextNat 12 v
  let s := s.wf .PWR_TEMP_TEMP v
  let s := if t ≥ 4 * (s.rf .PWR_TEMP_WARN_HI : Int) then s.raise 0x015 0x0C
    else if t < 4 * (s.rf .PWR_TEMP_WARN_CLR : Int) then s.lower 0x015 else s
  if t ≥ 560 then
    if s.pwr.tempHold then s else (s.power fun p => { p with tempHold := true }).forced 0x016
  else if t < 480 then (s.power fun p => { p with tempHold := false }).rail 0x016 false
  else s

end Sys2Proof.Machine
end

