-- ==== Sys2Proof/Machine/Pair.lean ====
section
/-!
DEFINITION. Paired operation: lease, referee link, pair link, crates, standby self-test and switch-over (R485 to R505).
-/
namespace Sys2Proof.Machine

def State.pairing (s : State) (g : Pair → Pair) : State := { s with pair := g s.pair }

/-- PAIR counters (R505). -/
def Ctr.pair (i : Nat) : Nat := Reg.PAIR_CFG + 0x400 + 8 * i

/-- PAIR_ROLE (R485): 0 undecided, 1 active, 2 standby, 3 taking over. -/
def State.role (s : State) : Nat := s.rf .TOP_STATE_PAIR_ROLE
/-- The unit's own side. -/
def State.side (s : State) : Nat := s.rf .TOP_STRAP_PAIR_SIDE
/-- A paired unit that has committed its image. -/
def State.pairUnit (s : State) : Bool := s.awake && s.paired && s.committed
/-- The firmware of a paired unit runs: the image is committed and no restart runs (R489, R503). -/
def State.pairRuns (s : State) : Bool := s.pairUnit && !s.on .TOP_STATE_CCX_RESTART

/-- The next COUNTER of this unit (R489): a high half drawn at boot and a low half that counts. -/
def State.ownCounter (s : State) : Nat × State :=
  let hi := if s.pair.cntDraw = 0 then 0 else (Config.random (s.pair.cntDraw - 1)).toNat
  (hi * 2 ^ 32 + s.pair.cntLow % 2 ^ 32, s.pairing fun p => { p with cntLow := p.cntLow + 1 })

/-- R489: the high half of COUNTER is drawn at a boot and at a resume. -/
def State.counterDraw (s : State) : State :=
  let d := s.generate
  d.2.pairing fun p => { p with cntDraw := d.1 + 1, cntLow := 0 }

/-! Age and staleness (R497, R499). -/

/-- Crate age in µs; none without a crate. -/
def State.crateAge (s : State) : Option Nat := s.pair.applied.map (fun x => x.1 + (s.cycles - x.2) / 1000)
/-- PAIR_CRATE_AGE. -/
def State.crateAgeUs (s : State) : Nat := match s.crateAge with | some n => min n (2 ^ 32 - 1) | none => 2 ^ 32 - 1
/-- The crate age exceeds `ms`, or there is no crate. -/
def State.olderThan (s : State) (ms : Nat) : Bool := match s.crateAge with | some n => ms * 1000 < n | none => true
/-- R499. -/
def State.stale (s : State) : Bool := s.pair.lostLink || s.olderThan (s.rf .PAIR_AGE_CFG_STALE_MS)
/-- PAIR_LEASE_LEFT. -/
def State.leaseLeft (s : State) : Nat := match s.pair.leaseEnd with | some t => (t - s.cycles) / 1000 | none => 0

/-- IMAGE_ID of the running image. -/
def State.imageId (s : State) : List Byte := s.regBytes (Reg.BOOT_IMAGE_ID 0) 4

/-- The partner that the exchange has named runs this unit's image and capsules; false with none (DESIGN CHOICE, log entry
153). -/
def State.configMatch (s : State) : Bool :=
  match s.pair.peer with
  | some h => h.image = ofBytesLE s.imageId && h.chain = ofBytesLE s.boot.chain
  | none => false

/-- A source with PIN = 1 has PENDING = 1. -/
def State.pinPending (s : State) : Bool :=
  s.regs.any (fun e => fltRecord e.1 && (e.1 - Reg.FLT_SRC_STATUS 0) % 32 = 0 && e.2.getLsbD 30 &&
    s.on (.FLT_SRC_CFG_PIN ((e.1 - Reg.FLT_SRC_STATUS 0) / 32)))

/-- The HEALTH byte (R488). -/
def State.healthByte (s : State) : Nat :=
  b2n s.pinPending * 128 + s.rf .PAIR_STATUS_SIDE_CONFLICT * 64 + s.rf .SEC_STATUS_PARTNER_BAD * 32 +
  b2n (s.rf .TIM_STATUS_STATE = 1) * 16 + b2n s.configMatch * 8 + b2n s.stale * 4 +
  s.rf .PAIR_STATUS_LINK_UP * 2 + s.rf .PAIR_STATUS_SELFTEST_OK

/-! The standby self-test (R498). -/

/-- A test in progress ends and its bank returns to the allocator. -/
def State.testStop (s : State) : State :=
  (s.cellar fun x => { x with bankOut := none }).pairing fun p => { p with test := none }

/-- Every enabled port is in UP. -/
def State.portsAllUp (s : State) : Bool :=
  (List.range 24).all (fun n => !s.on (.MAC_PORT_CFG_ENABLE n) || s.portUp n)

/-- A self-test begins; the Pans of `bad` answer the known-answer test wrongly. -/
def State.testBegin (s : State) (bad : Nat) : State :=
  let ok := (List.range 4).all (fun p => !(s.panIn p && bitAt bad p)) && s.portsAllUp
  let bank := s.pair.bank
  let s := (s.knownAnswer bad).cellar fun x => { x with bankOut := some bank }
  s.pairing fun p => { p with test := some ⟨bank, false, ok⟩, bank := (bank + 1) % 16 }

/-- STANDBY_SELFTEST: the periodic test of a standby. -/
def State.testPeriod (s : State) (bad : Nat) : State :=
  if s.pairRuns && s.role = 2 && s.pair.test.isNone then s.testBegin bad else s

/-- SELFTEST_NOW: refused while the unit forwards, takes over or already tests. -/
def State.testNow (s : State) (bad : Nat) : State :=
  if s.fwdEn || s.role = 3 || s.pair.test.isSome || !s.committed then s.refuse 0x2C8 0x08 else s.testBegin bad

/-- SELFTEST_BANK_FREE. -/
def State.testBank (s : State) : State :=
  match s.pair.test with
  | some t =>
    if !t.begun && s.cel.bankFree[t.bank]?.getD 0 = 3072 then s.pairing fun p => { p with test := some { t with begun := true } }
    else s
  | none => s

/-- SELFTEST_DONE: `cellsOk`, every cell read back both patterns. -/
def State.testDone (s : State) (cellsOk : Bool) : State :=
  match s.pair.test with
  | some t =>
    if !t.begun then s
    else
      let pass := t.ok && cellsOk
      let s := s.testStop.wf .PAIR_STATUS_SELFTEST_OK (b2n pass)
      if pass then s else s.notify 0x2CA 0x0E
  | none => s

/-! The lease (R486). -/

/-- The lease ends without an accepted renewal. -/
def State.leaseOver (s : State) : State :=
  let s := ((s.powerTo pwrStandby).wf .TOP_STATE_LEASE 0).wf .TOP_STATE_PAIR_ROLE 2
  let s := ((s.wf .PAIR_INT_LEASE_LOST 1).notify 0x2C2 0x0F).cinc (Ctr.pair 7)
  s.pairing fun p => { p with leaseEnd := none, take := none }

/-- The lease has ended by now. -/
def State.leaseDue (s : State) : Bool := match s.pair.leaseEnd with | some t => decide (t ≤ s.cycles) | none => false

/-- LEASE_EXPIRY. -/
def State.leaseExpiry (s : State) : State := if s.leaseDue then s.leaseOver else s

/-- RELINQUISH: an unleased unit has nothing to end. -/
def State.relinquish (s : State) : State := if s.on .TOP_STATE_LEASE then s.leaseOver else s

/-! Crates: content (R495). -/

/-- One record: its header and its entries, each an index and its bytes. -/
def crateRecord (ty : Nat) (l : List (Nat × List Byte)) : List Byte :=
  bytesLE 2 ty ++ bytesLE 2 l.length ++ bytesLE 4 0 ++ l.flatMap (fun e => bytesLE 4 e.1 ++ e.2)

/-- A record whose COUNT would not fit is sent as several. -/
def crateRecords (ty : Nat) : Nat → List (Nat × List Byte) → List Byte
  | 0, _ => []
  | fuel + 1, l => if l.length ≤ 65535 then crateRecord ty l else crateRecord ty (l.take 65535) ++ crateRecords ty fuel (l.drop 65535)

/-- Slots that hold a MACsec key of the firmware. -/
def State.sakSlots (s : State) : List Nat :=
  (List.range 255).filter (fun k => s.slotValid k && bitAt (s.rf (.SEC_KEY_ATTR_USAGE k)) 0)

/-- An SAK wrapped under the pair wrap key. -/
def State.sakEntry (s : State) (k : Nat) : List Byte :=
  [BitVec.ofNat 8 k, BitVec.ofNat 8 (s.rf (.SEC_KEY_ATTR_ALG k)), BitVec.ofNat 8 (s.rf (.SEC_KEY_ATTR_USAGE k))] ++ List.replicate 5 0 ++
  (List.range 48).map (Config.keyWrap (s.sec.wrap.getD 0) (spGet (fun _ => 0) s.sec.mat k))

/-- The crate of this unit, whose sending takes `sweep` µs. -/
def State.crateBytes (s : State) (seq sweep : Nat) : List Byte :=
  let head := bytesLE 4 seq ++ bytesLE 4 sweep ++ bytesLE 8 s.now ++ bytesLE 8 s.d48 ++ s.imageId ++
    bytesLE 4 (s.rf .PAIR_TERM_TERM) ++ List.replicate 20 0
  let cph (t n : Nat) := (List.range n).map (fun i => (i, s.cphAt t i))
  let fdb := s.cel.fdb.filterMap (fun x => match x.2 with | some e => if e.static then none else some (x.1, e.bytes) | none => none)
  let sess := s.cls.sess.filterMap (fun x => x.2.map (fun e => (x.1, e.bytes)))
  crateRecord 1 [(0, head)] ++ crateRecord 2 (s.sakSlots.map (fun k => (k, s.sakEntry k))) ++ crateRecord 3 (cph 1 256) ++
  crateRecord 4 (cph 2 1024) ++ crateRecord 5 (cph 3 512) ++
  crateRecord 6 ((List.range 1024).map (fun i => (i, s.stmAt 3 i))) ++ crateRecord 7 fdb ++ crateRecords 8 3 sess ++
  crateRecord 9 ((List.range 64).map (fun c => (c, s.pantryBytes (512 * c) 512))) ++ crateRecord 0xFF []

/-- Bytes of an entry of a record type. -/
def crateSize (ty : Nat) : Nat :=
  if ty = 1 || ty = 8 then 64 else if ty = 2 then 56 else if ty = 4 then 32 else if ty = 9 then 512
  else if ty = 3 || (5 ≤ ty && ty ≤ 7) then 16 else 0

/-- The entries of `n` entries of `z` bytes. -/
def crateEntries (ty z : Nat) : Nat → List Byte → List (Nat × Nat × List Byte)
  | 0, _ => []
  | n + 1, b => (ty, le b 0 4, (b.drop 4).take z) :: crateEntries ty z n (b.drop (4 + z))

/-- The entries of a crate in order, as type, index and bytes; none where END is missing. -/
def crateParse : Nat → List Byte → Option (List (Nat × Nat × List Byte))
  | 0, _ => none
  | fuel + 1, b =>
    let ty := le b 0 2
    let n := le b 2 2
    let z := crateSize ty
    if b.length < 8 then none
    else if ty = 0xFF then some []
    else if z = 0 || b.length < 8 + n * (4 + z) then none
    else (crateParse fuel (b.drop (8 + n * (4 + z)))).map (fun l => crateEntries ty z n (b.drop 8) ++ l)

/-! Crates: sending, receiving and applying (R495 to R497). -/

/-- A pair frame before its CMAC: TYPE, LAST, FRAG and CRATE_SEQ, COUNTER and body. The addresses are free values (`addrs`). -/
def pairFrameBytes (addrs : Nat) (kind last frag seq counter : Nat) (body : List Byte) : List Byte :=
  bytesLE 12 addrs ++ [0x88, 0xB6] ++ bytesLE 1 kind ++ bytesLE 1 last ++ bytesLE 2 body.length ++ bytesLE 2 frag ++
    bytesLE 4 seq ++ bytesLE 8 counter ++ body

/-- The CMAC of R488 under key material `k`. -/
def cmac16 (k : Nat) (b : List Byte) : List Byte := (List.range 16).map (Config.cmac k b)

/-- A HELLO or a PROOF with the next COUNTER, without a CMAC. -/
def State.pairPlain (s : State) (kind : Nat) (body : List Byte) : State :=
  let c := s.ownCounter
  let d := c.2.draw
  d.2.emit (.pairFrame (pairFrameBytes (Config.free d.1) kind 0 0 0 c.1 body))

/-- One frame of the pair link with the next COUNTER, under the key of PAIR_SLOT and a service job: none leaves without
them (R145, R352, R368). The CMAC is over bytes 14 to the end of the body. -/
def State.pairSend (s : State) (kind last frag seq : Nat) (body : List Byte) : State :=
  let k := s.keyUse (s.rf .PAIR_MISC_PAIR_SLOT) 2
  if k.1 && s.anyPan then
    let c := (k.2.service 2 (some (s.rf .PAIR_MISC_PAIR_SLOT))).ownCounter
    let d := c.2.draw
    let b := pairFrameBytes (Config.free d.1) kind last frag seq c.1 body
    d.2.emit (.pairFrame (b ++ cmac16 (spGet (fun _ => 0) s.sec.mat (s.rf .PAIR_MISC_PAIR_SLOT)) (b.drop 14)))
  else k.2

def State.linkUp (s : State) : Bool := s.pair.link = .up

/-- CRATE_SEND: the frames of a crate whose sending takes `sweep` µs. -/
def State.crateSend (s : State) (sweep : Nat) : State :=
  if s.pairRuns && s.role = 1 && s.linkUp then
    let s := s.sealedRead
    let seq := (s.pair.crateOut + 1) % 2 ^ 32
    let b := s.crateBytes seq sweep
    let n := (b.length + 8191) / 8192
    let s := s.each (List.range n) (fun s i =>
      s.pairSend 3 (b2n (i + 1 = n)) i seq ((b.drop (8192 * i)).take 8192))
    (s.cinc (Ctr.pair 3)).pairing fun p => { p with crateOut := seq }
  else s

/-- An SAK goes into its slot, unless it is there already. -/
def State.sakApply (s : State) (b : List Byte) : State :=
  let k := le b 0 1
  let m := Config.unwrap (s.sec.wrap.getD 0) ((b.drop 8).take 48)
  if k = 255 || (s.slotValid k && spGet (fun _ => 0) s.sec.mat k = m) then s
  else (s.slotWrite k (le b 1 1) (le b 2 1) false false m).2

/-- One entry of a crate is written (R496). One that CPH refuses is reported (R373). -/
def State.crateEntry (s : State) (e : Nat × Nat × List Byte) : State :=
  let i := e.2.1
  let b := e.2.2
  let cph (t : Nat) : State :=
    let u := if i < cphIndices t then s.cphTouch t i else s
    if i < cphIndices t && u.cphValid t i b && !u.cphBreaks t i (u.cphMargin t i b) then u.cphStore t i b true else u.notify 0x1CC 0x08
  match e.1 with
  | 2 => s.sakApply b
  | 3 => cph 1
  | 4 => cph 2
  | 5 => cph 3
  | 6 => if i < 1024 then s.stmStore 3 i b else s
  | 7 => { (s.fdbInsertEntry (FdbEntry.ofBytes b)).2.2 with wfail := none }
  | 8 =>
    let e := Sess.ofBytes b
    let r := (s.flushUp.sessProbe e.key).sessPlace e
    if r.1.isSome then r.2 else r.2.sessFull
  | 9 =>
    if i < 64 then
      let s := s.pantryPuts (512 * i) b
      if 32 ≤ i then s.chUpdate i else s
    else s
  | _ => s

/-- The dynamic FDB entries are flushed; which entries are dynamic is read (R267). -/
def State.fdbDynamicFlush (s : State) : State :=
  s.each s.cel.fdb fun s x =>
    let r := s.fdbCheck x.1
    match r.2.fdbAt x.1 with
    | some e => if e.static then r.2 else r.2.fdbPut x.1 none
    | none => r.2

/-- The session entries are removed: every one with `all`, else those read as not STATIC. -/
def State.sessFlush (s : State) (all : Bool) : State :=
  s.each s.cls.sess fun s x => s.sessDrop all x.1

/-- CRATE_APPLIED: the complete crate that awaits its application; where the link is down by then, the state is stale (R499, R503). -/
def State.crateApply (s : State) : State :=
  match s.pair.crateDone with
  | none => s
  | some (n, t) =>
    match crateParse 32 (s.dramGets s.crateRegion.1 n) with
    | none => s.pairing fun p => { p with crateDone := none }
    | some l =>
      let s := (s.fdbDynamicFlush).sessFlush true
      let s := s.each l State.crateEntry
      let sweep := match l with | e :: _ => le e.2.2 4 4 | [] => 0
      (s.cinc (Ctr.pair 4)).pairing fun p => { p with crateDone := none, applied := some (sweep, t), lostLink := !s.linkUp }

/-- CRATE_APPLIED on a unit that may take a crate (R496); one with SIDE_CONFLICT discards it (R493). -/
def State.crateApplied (s : State) : State :=
  if s.pairRuns && (s.role = 0 || s.role = 2) then
    if s.on .PAIR_STATUS_SIDE_CONFLICT then s.pairing fun p => { p with crateDone := none } else s.crateApply
  else s

/-- The mark of a crate whose remaining fragments are discarded. -/
def crateGone : Nat := 2 ^ 32

/-- A crate is discarded (R496). -/
def State.crateReject (s : State) (seq : Nat) : State :=
  ((s.cinc (Ctr.pair 5)).notify 0x2C5 0x0E).pairing fun p => { p with crateIn := some (seq, crateGone, 0) }

/-- A crate in reception loses its remaining fragments, and is discarded (R496, R501, R503). -/
def State.crateDrop (s : State) : State :=
  match s.pair.crateIn with
  | some (q, n, _) => (if n = crateGone then s else s.crateReject q).pairing fun p => { p with crateIn := none }
  | none => s

/-- A verified fragment in order is staged. -/
def State.crateStage (s : State) (seq frag at_ : Nat) (last : Bool) (body : List Byte) : State :=
  let total := at_ + body.length
  if 8 * mib < total || 8192 < body.length then s.crateReject seq
  else
    let s := s.dramWrite (s.crateRegion.1 + at_) body
    if !last then s.pairing fun p => { p with crateIn := some (seq, frag + 1, total) }
    else if (crateParse 32 (s.dramGets s.crateRegion.1 total)).isNone then s.crateReject seq
    else s.pairing fun p => { p with crateIn := none, crateDone := some (total, s.cycles) }

/-- A fragment where no crate is in progress: the first of a crate, or one whose predecessors are missing. -/
def State.crateFirst (s : State) (seq frag : Nat) (last : Bool) (body : List Byte) : State :=
  if frag = 0 then (s.crateApplied).crateStage seq 0 0 last body else s.crateReject seq

/-- A pair frame of the partner verifies (R489, R491): its CMAC under PAIR_SLOT, and its COUNTER is above the last. -/
def State.pairVerify (s : State) (ok : Bool) (counter : Nat) : Bool × State :=
  let k := s.keyUse (s.rf .PAIR_MISC_PAIR_SLOT) 2
  let t := if k.1 && s.anyPan then k.2.service 2 (some (s.rf .PAIR_MISC_PAIR_SLOT)) else k.2
  if ok && k.1 && s.anyPan && s.pair.peerSeen < counter then (true, t.pairing fun p => { p with peerSeen := counter }) else (false, t)

/-- CRATE_FRAGMENT: a fragment whose CMAC verifies with `ok`. -/
def State.crateFragment (s : State) (ok : Bool) (counter seq frag : Nat) (last : Bool) (body : List Byte) : State :=
  if !(s.pairRuns && s.linkUp && s.dram.up && (s.role = 0 || s.role = 2)) || s.on .PAIR_STATUS_SIDE_CONFLICT then s
  else
    let v := s.pairVerify ok counter
    let s := v.2
    match s.pair.crateIn with
    | none => if v.1 then s.crateFirst seq frag last body else s.crateReject seq
    | some (q, n, len) =>
      if n = crateGone then
        if q = seq then s else if v.1 then s.crateFirst seq frag last body else s.crateReject seq
      else if v.1 && q = seq && n = frag then s.crateStage seq frag len last body
      else
        let s := s.crateReject q
        if v.1 && q ≠ seq && frag = 0 then s.crateFirst seq frag last body else s

/-! Referee link (R488 to R490, R500, R501). -/

/-- A referee frame is discarded (R489). -/
def State.refReject (s : State) : State := (s.cinc (Ctr.pair 2)).notify 0x2C3 0x0F

/-- The checks of R489 that POLL and GRANT share; `ok`: the CMAC verifies under a usable key. -/
def State.refVerify (s : State) (ok : Bool) (pairId counter : Nat) : Bool × State :=
  let s := s.sealedRead
  let k := s.keyUse (s.rf .PAIR_MISC_REF_SLOT) 2
  (ok && k.1 && s.anyPan && pairId = s.rf .PAIR_ID_ID && s.pair.refSeen < counter, if k.1 && s.anyPan then k.2.service 2 (some (s.rf .PAIR_MISC_REF_SLOT)) else k.2)

/-- Ports in UP as a mask. -/
def State.upMask (s : State) : Nat := maskOf ((List.range 24).filter s.portUp)

/-- A referee link frame under key material `k` (R488): the CMAC is over all bytes but SOF. -/
def refFrame (k ty side pairId counter : Nat) (body : List Byte) : List Byte :=
  let b := bytesLE 1 ty ++ bytesLE 1 side ++ bytesLE 1 body.length ++ bytesLE 4 pairId ++ bytesLE 8 counter ++ body
  [0xA5] ++ b ++ cmac16 k b

/-- The STATUS that answers a POLL with COUNTER `echo`: 54 bytes at 1 Mbaud. -/
def State.statusSend (s : State) (echo : Nat) : State :=
  let c := (s.service 2 (some (s.rf .PAIR_MISC_REF_SLOT))).ownCounter
  let age := match s.crateAge with | some n => min (n / 1000) (2 ^ 32 - 1) | none => 2 ^ 32 - 1
  let body := bytesLE 1 s.role ++ bytesLE 1 s.healthByte ++ bytesLE 4 age ++ bytesLE 4 (s.rf .PAIR_TERM_TERM) ++ bytesLE 4 s.upMask ++
    bytesLE 8 echo
  let key := spGet (fun _ => 0) s.sec.mat (s.rf .PAIR_MISC_REF_SLOT)
  let s := c.2.emit (.refereeStatus (refFrame key 2 s.side (s.rf .PAIR_ID_ID) c.1 body))
  s.pairing fun p => { p with status := some (c.1, s.cycles, s.cycles + 540000) }

/-- REFEREE_POLL (R485, R489): `side` addressed and HOLDER named (0, 1; others none). No rule gives the POLL's TERM or LEASE_MS
an effect. -/
def State.refereePoll (s : State) (ok : Bool) (pairId counter side : Nat) (b : PollBody) : State :=
  if !s.pairRuns then s
  else
    let v := s.refVerify ok pairId counter
    if !v.1 then v.2.refReject
    else
      let s := (v.2.cinc (Ctr.pair 0)).pairing fun p => { p with refSeen := counter }
      let holder := b.holder
      let s := s.wf .PAIR_STATUS_HOLDER (if holder ≤ 1 then holder else 3)
      let s := if s.role = 0 || s.role = 2 then
          if 1 < holder then s.wf .TOP_STATE_PAIR_ROLE 0 else if holder ≠ s.side then s.wf .TOP_STATE_PAIR_ROLE 2 else s
        else s
      if side = s.side then s.statusSend counter else s

/-- R489: the checks of a GRANT on its ECHO, its time and its TERM. -/
def State.grantOk (s : State) (term echo : Nat) : Bool :=
  match s.pair.status with
  | some (c, _, last) => c = echo && s.cycles ≤ last + 1000000 && s.rf .PAIR_TERM_TERM ≤ term
  | none => false

/-- R500: every secure association is invalidated. -/
def State.saAllOff (s : State) : State :=
  s.each ((List.range 1024).filter (fun a => s.saFlag a 7)) (fun s a =>
    let s := (s.cphRead 2 a).2
    let b := s.cphAt 2 a
    s.saStore a (putBytes b 0 [BitVec.ofNat 8 (le b 0 1 % 128)]) false)

/-- R500: the saved state at a take-over. -/
def State.takeState (s : State) : State :=
  let s := if s.olderThan (s.rf .PAIR_AGE_CFG_SA_MAX_AGE_MS) then s.saAllOff else s
  if s.stale then ((s.sessFlush false).wf .PAIR_INT_STALE 1).notify 0x2C6 0x0F else s

/-- Steps 1 to 4 of R501. -/
def State.takeOver (s : State) : State :=
  let s := ((s.wf .TOP_STATE_LEASE 1).wf .TOP_STATE_PAIR_ROLE 3).wf .PAIR_INT_TAKEOVER 1
  let s := ((s.notify 0x2C9 0x0F).cinc (Ctr.pair 6)).pairing fun p => { p with take := some s.cycles }
  s.crateDrop.testStop.crateApply.takeState

/-- REFEREE_GRANT (R490, R493, R503) for `side`, with a lease of `leaseMs`. A GRANT that is discarded, or that is for the other
unit, leaves the COUNTER last accepted as it was. -/
def State.refereeGrant (s : State) (ok : Bool) (pairId counter side term leaseMs echo : Nat) : State :=
  if !s.pairRuns then s
  else
    let v := s.refVerify ok pairId counter
    if !v.1 then v.2.refReject
    else
      let s := v.2
      if side ≠ s.side then s
      else if s.on .PAIR_STATUS_SIDE_CONFLICT then s
      else if !s.grantOk term echo then s.refReject
      else
        let s := ((s.pairing fun p => { p with refSeen := counter }).cinc (Ctr.pair 1)).wf .PAIR_TERM_TERM term
        let first := match s.pair.status with | some (_, t, _) => t | none => s.cycles
        if s.leaseDue then s.leaseOver
        else
          let s := s.pairing fun p => { p with leaseEnd := some (first + leaseMs * msCycles) }
          if s.role = 1 || s.role = 3 then s else s.takeOver

/-- TAKEOVER_COMPLETE (R501 step 6). -/
def State.takeDone (s : State) : State :=
  match s.pair.take with
  | none => s
  | some t =>
    if s.role ≠ 3 then s
    else if s.leaseDue then s.leaseOver
    else
      let gap := s.cycles - t
      let s := ((s.wf .TOP_STATE_PAIR_ROLE 1).powerTo pwrActive).wf .PAIR_GAP_CYCLES (satTo 32 gap)
      let s := s.pairing fun p => { p with take := none }
      if 2000000 < gap then s.notify 0x2C7 0x05 else s

/-! The pair link (R491 to R494). -/

/-- The body of a HELLO (R491), its fields in the order in which the rule names them (DESIGN CHOICE, log entry 154). -/
def helloBody (h : PairPeer) : List Byte :=
  bytesLE 16 h.uid ++ bytesLE 1 h.side ++ bytesLE 4 h.pairId ++ bytesLE 16 h.image ++ bytesLE 48 h.chain ++ h.nonce.take 32 ++ h.eph.take 96

/-- A HELLO is sent: UID, side, PAIR_ID, IMAGE_ID, CAPSULE_CHAIN, a nonce and an ephemeral key; the private key stays. -/
def State.helloSend (s : State) : State :=
  let e := s.ephemeral
  let s := e.2
  let b := helloBody ⟨ofBytesLE s.sec.uid, s.side, s.rf .PAIR_ID_ID, ofBytesLE s.imageId, ofBytesLE s.boot.chain, e.1.1,
    publicBytes e.1.2⟩
  (s.pairPlain 1 b).pairing fun p => { p with link := .hello, peer := none, hello := some (e.1.2, b) }

/-- The exchange starts once the lane is locked and the firmware runs (R491). A halted DRBG gives it no nonce (R150). -/
def State.pairStart (s : State) : State :=
  if s.pairRuns && s.pair.lock && s.pair.link = .down && !s.on .SEC_STATUS_DRBG_HALT then s.helloSend else s

/-- PAIR_LINK_BLOCK_LOCK. -/
def State.pairLock (s : State) : State := (s.pairing fun p => { p with lock := true }).pairStart

/-- Both HELLOs, that of side 0 first (DESIGN CHOICE, log entry 154). -/
def State.hellos (s : State) (h : PairPeer) : List Byte :=
  let own := match s.pair.hello with | some x => x.2 | none => []
  if s.side = 0 then own ++ helloBody h else helloBody h ++ own

/-- A PROOF is sent: the device certificate and the signature of the identity key over the SHA-384 of both HELLOs. Without that
key, or with a halted DRBG, none is (R142, R154). -/
def State.proofSend (s : State) (h : PairPeer) : State :=
  match s.sec.ident with
  | some k =>
    if s.on .SEC_STATUS_DRBG_HALT then s
    else
      let g := s.identitySign k (s.hellos h)
      g.2.pairPlain 2 (s.sec.cert ++ g.1)
  | none => s

/-- PAIR_HELLO (R491, R493). A HELLO with the unit's own side shows the conflict whenever it comes, and the unit discards the
crates it holds. -/
def State.pairHello (s : State) (h : PairPeer) : State :=
  if !s.pairRuns then s
  else if h.side = s.side then
    ((s.wf .PAIR_STATUS_SIDE_CONFLICT 1).notify 0x2C4 0x0F).pairing fun p => { p with crateIn := none, crateDone := none }
  else if s.pair.link ≠ .hello then s
  else (s.pairing fun p => { p with link := .proof, peer := some h }).proofSend h

/-- The partner is the expected one (R491 step 3). -/
def State.peerOk (s : State) : Bool :=
  match s.pair.peer with
  | some h => !s.on .PAIR_MISC_PARTNER_CHECK || bytesLE 16 h.uid == s.regBytes (Reg.PAIR_PARTNER_UID 0) 4
  | none => false

/-- The labels "CGV-PAIR-M" and "CGV-PAIR-W" (R491). -/
def labelPairM : List Byte := [0x43, 0x47, 0x56, 0x2D, 0x50, 0x41, 0x49, 0x52, 0x2D, 0x4D]
def labelPairW : List Byte := [0x43, 0x47, 0x56, 0x2D, 0x50, 0x41, 0x49, 0x52, 0x2D, 0x57]

/-- The shared secret of the exchange: of the own ephemeral private key and the partner's public one. -/
def State.pairSecret (s : State) : List Byte :=
  match s.pair.hello, s.pair.peer with
  | some x, some h => Config.ecdh x.1 (h.eph.take 96)
  | _, _ => []

/-- PAIR_PROOF (R143, R491): `ok`, the partner's certificate chain and signature verify. -/
def State.pairProof (s : State) (ok : Bool) : State :=
  if !s.pairRuns || s.pair.link ≠ .proof then s
  else if !(ok && s.peerOk) then (s.partnerBad.notify 0x2C5 0x0D).pairing fun p => { p with link := .down }
  else if s.sec.ident.isNone then s.pairing fun p => { p with link := .down }
  else
    let z := s.pairSecret
    let w := s.slotWrite (s.rf .PAIR_MISC_PAIR_SLOT) 2 4 false false (Config.kdf z labelPairM)
    let s := w.2
    if !w.1 then s.pairing fun p => { p with link := .down } else
    let s := (s.secure fun x => { x with wrap := some (Config.kdf z labelPairW) }).pairing fun p => { p with link := .up, peerSeen := 0 }
    (s.wf .PAIR_STATUS_LINK_UP 1).wf .PAIR_INT_LINK_UP 1

/-- PAIR_LINK_LOSS (R492, R499, R503): the lane leaves block lock (`lane`), or 5 ms without a verified frame. -/
def State.pairLoss (s : State) (lane : Bool) : State :=
  let up := s.linkUp
  if !up && !lane then s
  else
  let s := s.crateDrop.pairing fun p =>
    { p with lock := p.lock && !lane, link := .down, peer := none, hello := none, timeSent := none, lostLink := p.lostLink || up }
  if up then ((s.wf .PAIR_STATUS_LINK_UP 0).wf .PAIR_INT_LINK_DOWN 1).notify 0x2C0 0x10 else s

/-- PAIR_HEALTH_SEND. -/
def State.healthSend (s : State) : State := if s.pairRuns && s.linkUp then s.pairSend 4 0 0 0 (bytesLE 1 s.healthByte) else s

/-- PAIR_HEALTH_RECEIVED. -/
def State.healthTake (s : State) (ok : Bool) (counter health : Nat) : State :=
  if !s.pairRuns || !s.linkUp then s
  else
    let v := s.pairVerify ok counter
    if v.1 then v.2.pairing fun p => { p with health := health } else v.2

/-- A TIME frame leaves, with the clocks at its transmit timestamp. -/
def State.timeFrame (s : State) : State :=
  (s.pairSend 5 0 0 0 (bytesLE 8 (t64Of s.tim.trk0) ++ bytesLE 8 (t64Of s.tim.trk1) ++ bytesLE 8 s.now)).pairing fun p =>
    { p with timeSent := some s.now }

/-- PAIR_TIME_SEND. -/
def State.timeSend (s : State) : State := if s.pairRuns && s.linkUp && s.role = 1 then s.timeFrame else s

/-- R494: the link delay, as PTP peer delay gives it, from the timestamps of the TIME frame sent last and of the one now
received, which its sender transmitted `back` ns after it had received the former (log entry 155). -/
def State.timeDelay (s : State) (back : Nat) : State :=
  match s.pair.timeSent with
  | some t => s.pairing fun p => { p with delay := ((s.now : Int) - t - back) / 2 }
  | none => s

/-- Tracker `d` is steered to the active's value `v`, which was taken at transmission (R318, R494): a step of the difference, and
the rate of the servo, a free value (log entry 155). -/
def State.steer (s : State) (d v : Nat) : State :=
  let own := t64Of (if d = 0 then s.tim.trk0 else s.tim.trk1)
  let adj := BitVec.ofInt 64 ((v : Int) + s.pair.delay - own)
  let r := s.draw
  let rate := BitVec.ofInt 32 ((Config.free r.1 % 4096000001 : Nat) - 2048000000)
  let s := r.2.domRate d rate
  (s.wword (Reg.TIM_DOM_ADJ_LO d) (adj.setWidth 32)).domAdjust d ((adj >>> 32).setWidth 32)

/-- PAIR_TIME_RECEIVED: a TIME frame with the T64 of trackers 0 and 1 and of the working clock. The standby answers, and steers
its trackers. -/
def State.timeTake (s : State) (ok : Bool) (counter : Nat) (trk0 trk1 _wc : BitVec 64) (back : Nat) : State :=
  if !s.pairRuns || !s.linkUp then s
  else
    let v := s.pairVerify ok counter
    if !v.1 then v.2
    else
      let s := v.2.timeDelay back
      if s.role = 1 then s else ((s.timeFrame).steer 0 trk0.toNat).steer 1 trk1.toNat

/-! PAIR registers. -/

/-- A write that makes PAIR_CFG or PAIR_MISC the word `w`. -/
def State.pairCfg (s : State) (w : Word) : State :=
  if 1 ≤ fldGet w 26 6 && 1 ≤ fldGet w 16 10 && fldGet w 16 10 ≤ 1000 && 5 ≤ fldGet w 0 9 && fldGet w 0 9 ≤ 500 then
    s.wword Reg.PAIR_CFG w
  else s.refuse 0x2C8 0x08
def State.pairMisc (s : State) (w : Word) : State :=
  if s.crateOk (fldGet w 16 15) && fldGet w 8 8 ≤ 254 && fldGet w 0 8 ≤ 254 then s.wword Reg.PAIR_MISC w else s.refuse 0x2C8 0x08

/-- PAIR_CMD with the right key; the self-test's Pans answer well. -/
def State.pairCmd (s : State) (action bad : Nat) : State :=
  match action with
  | 1 => s.relinquish
  | 2 => s.testNow bad
  | _ => s

end Sys2Proof.Machine
end

