-- ==== Sys2Proof/Machine/Bus.lean ====
section
/-!
DEFINITION. Register and memory accesses by every requester: the access types (R5 to R12), the address map (R31), the
rights of requesters (R101, R132), what each register shows when it is read and does when it is written, and the
inbound accesses of the PCIe host (R405 to R413).
-/
namespace Sys2Proof.Machine

/-! Register words (R6 to R9). -/

/-- Index of `a` in an array of `n` registers `stride` apart from `base`. -/
def arrayAt (base stride n a : Nat) : Option Nat :=
  if base ≤ a && (a - base) % stride = 0 && (a - base) / stride < n then some ((a - base) / stride) else none

/-- What belongs to a register, or to each register of an array. -/
structure RegCase (α : Type) where
  base : Nat
  stride : Nat
  count : Nat
  act : Nat → α

/-- The first case that holds address `a`. -/
def caseAt {α : Type} (l : List (RegCase α)) (a : Nat) : Option α :=
  l.findSome? (fun c => (arrayAt c.base c.stride c.count a).map c.act)

/-- One register. -/
def one {α : Type} (a : Nat) (v : α) : RegCase α := ⟨a, 4, 1, fun _ => v⟩

/-- A word with field `f` set to `v`. -/
def withF (w : Word) (f : Fld) (v : Nat) : Word := fldSet w f.lo f.width v

/-- R6, R8: what a write of `w` makes of one field of the word `acc`, whose value was `old`; also whether an LK field
would have changed after commit. -/
def FieldRow.next (f : FieldRow) (lock : Bool) (old w : Word) (acc : Word × Bool) : Word × Bool :=
  let v := fldGet w f.lo f.width
  match f.acc with
  | .rw | .wo => (fldSet acc.1 f.lo f.width v, acc.2)
  | .lk =>
    if lock then (acc.1, acc.2 || v != fldGet old f.lo f.width) else (fldSet acc.1 f.lo f.width v, acc.2)
  | .w1c => (acc.1 &&& ~~~(fldMask f.lo f.width &&& w), acc.2)
  | .w1s => (acc.1 ||| (fldMask f.lo f.width &&& w), acc.2)
  | .ro | .rc => acc

/-- R6, R8: the word that a write of `w` makes of `old`, and whether R8 was broken. -/
def RegRow.next (r : RegRow) (lock : Bool) (old w : Word) : Word × Bool :=
  r.fields.foldl (fun acc f => f.next lock old w acc) (old, false)

/-- The bits of the fields of one access type. -/
def RegRow.maskOf (r : RegRow) (a : Acc) : Word :=
  r.fields.foldl (fun m f => if f.acc = a then m ||| fldMask f.lo f.width else m) 0

/-! Who owns an address, and who may reach it. -/

def treeBase : Nat := 0x100000000
def treeEnd : Nat := 0x100200000
def pantryBase : Nat := 0x110000000
def pantryTop : Nat := 0x110400000
def dramEnd : Nat := 0x1400000000

/-- The block that holds an address (R31). -/
def ownerOf (a : Nat) : Option Nat :=
  if treeBase ≤ a && a < treeEnd then some 12
  else if pantryBase ≤ a && a < pantryTop then some 18
  else if popBase ≤ a && a < popEnd then some 19
  else (List.range 23).find? (fun b => inBlock b a)

/-- The block that holds an address is in block reset. -/
def State.ownerOff (s : State) (a : Nat) : Bool :=
  match ownerOf a with
  | some b => s.blockOff b
  | none => false

/-- Registers of the debug mailbox (R135); writable by the locked debug port; writable before commit (R101). -/
def mailboxReg (a : Nat) : Bool :=
  (Reg.SEC_DEBUG_CHAL 0 ≤ a && a < Reg.SEC_DEBUG_CHAL 8) || (Reg.SEC_DEBUG_TOKEN 0 ≤ a && a < Reg.SEC_DEBUG_TOKEN 62) ||
  a = Reg.SEC_DEBUG_CMD || a = Reg.SEC_LIFECYCLE_CMD
def mailboxWrite (a : Nat) : Bool :=
  (Reg.SEC_DEBUG_TOKEN 0 ≤ a && a < Reg.SEC_DEBUG_TOKEN 62) || a = Reg.SEC_DEBUG_CMD || a = Reg.SEC_LIFECYCLE_CMD
def earlyWrite (a : Nat) : Bool :=
  a = Reg.BOOT_STAGE_LEN || (Reg.BOOT_STAGE_BUF 0 ≤ a && a < Reg.BOOT_STAGE_BUF 8192) || a = Reg.SEC_ZEROIZE || mailboxReg a

/-- The debug port is unrestricted (R132). -/
def State.debugOpen (s : State) : Bool := s.sec.life = 0 || s.sec.life = 3 || s.on .SEC_STATUS_DEBUG

/-- R101, R132: requester `r` may write address `a`. -/
def State.mayWrite (s : State) (r : Requester) (a : Nat) : Bool :=
  match r with
  | .ccx | .boot => true
  | .host =>
    if !s.committed && !earlyWrite a then false
    else if a = Reg.SEC_ZEROIZE || a = Reg.SEC_DEBUG_CMD || (Reg.SEC_DEBUG_TOKEN 0 ≤ a && a < Reg.SEC_DEBUG_TOKEN 62) then true
    else match ownerOf a with
      | some b => bitAt (s.rf .SEC_ACCESS_HOST_WR) b &&
          (a != Reg.TOP_RESET_CMD || s.on .SEC_ACCESS_HOST_RESET) && (a != Reg.PWR_CMD || s.on .SEC_ACCESS_HOST_PWR)
      | none => true
  | .debug => if s.debugOpen then s.committed || earlyWrite a else mailboxWrite a

/-- R101, R132: requester `r` may read address `a`. -/
def State.mayRead (s : State) (r : Requester) (a : Nat) : Bool :=
  r != .debug || s.debugOpen || mailboxReg a

/-! What registers show. -/

/-- Bits `32 * w` to `32 * w + 31` of a predicate, as a word. -/
def maskWord (w : Nat) (p : Nat → Bool) : Nat := maskOf ((List.range 32).filter (fun i => p (32 * w + i)))

/-- The lowest pending source (FLT_NEXT). -/
def State.fltNext (s : State) : Option Nat := (List.range 768).find? (fun n => s.on (.FLT_SRC_STATUS_PENDING n))

/-- A queue's head copy has waited this long (R312), in units of 256 ns. -/
def State.qHead (s : State) (q : Nat) : Nat :=
  match (s.queue q).head? with
  | some c => min 0xFFFF ((s.cycles - c.tEnq) / 256)
  | none => 0

/-- Rakes in a condition, as a mask. -/
def State.rakeMask (s : State) (p : Eng → Bool) : Nat :=
  maskOf ((List.range 32).filter (fun r => match spGet (fun _ => none) s.rak.rakes r with | some g => p g | none => false))

/-- A Rake waits for frame bytes (RAK_STALLED). -/
def Eng.waits (g : Eng) : Bool :=
  match g.status with
  | .stalled _ | .waitEnd => true
  | _ => false

/-- Data of a channel's waiting events, in units of 64 bytes (R392). -/
def State.evBytes (s : State) (c : Nat) : Nat := ((s.chan c).fifo.map Msg.units).sum

/-- R31: fields that are not held in the register file but follow the state. -/
def State.liveCases (s : State) (w : Word) : List (RegCase Word) :=
  [ one Reg.TOP_STATE (withF w .TOP_STATE_HOLDOVER
      (b2n (s.rf .TIM_STATUS_STATE = 2 || s.rf .TIM_STATUS_STATE = 3 || s.on .TOP_STATE_CCX_RESTART))),
    one Reg.BOOT_VERSION (withF w .BOOT_VERSION_FLOOR s.sec.floor),
    one Reg.SEC_STATUS (withF (withF w .SEC_STATUS_LIFECYCLE s.sec.life) .SEC_STATUS_PROV (b2n s.sec.prov)),
    ⟨Reg.SEC_UID 0, 4, 4, fun n => BitVec.ofNat 32 (le s.sec.uid (4 * n) 4)⟩,
    one Reg.SEC_CLASS (BitVec.ofNat 32 s.sec.cls),
    ⟨Reg.SEC_KEY_ATTR 0, 4, 256, fun k => withF w (.SEC_KEY_ATTR_USE k) (s.slotUse k)⟩,
    one Reg.SEC_CERT_LEN (withF w .SEC_CERT_LEN_LEN s.sec.cert.length),
    ⟨Reg.SEC_CERT 0, 4, 512, fun n => BitVec.ofNat 32 (ofBytesLE ((s.sec.cert.drop (4 * n)).take 4))⟩,
    one Reg.CCX_FW_VERSION Config.fwVersion,
    ⟨Reg.FLT_SRC_STATUS 0, 32, 768, fun n => withF w (.FLT_SRC_STATUS_MODE n) (b2n (dualRail n))⟩,
    one Reg.FLT_NEXT (match s.fltNext with
      | some n => withF (withF 0 .FLT_NEXT_VALID 1) .FLT_NEXT_SOURCE n
      | none => 0),
    ⟨Reg.FLT_PEND 0, 4, 24, fun n => BitVec.ofNat 32 (maskWord n (fun i => s.on (.FLT_SRC_STATUS_PENDING i)))⟩,
    ⟨Reg.FLT_ACT 0, 4, 24, fun n => BitVec.ofNat 32 (maskWord n (fun i => s.on (.FLT_SRC_STATUS_ACTIVE i)))⟩,
    one Reg.PAIR_STATUS (withF (withF w .PAIR_STATUS_STALE (b2n s.stale)) .PAIR_STATUS_CONFIG_MATCH (b2n s.configMatch)),
    one Reg.PAIR_LEASE_LEFT (withF w .PAIR_LEASE_LEFT_US s.leaseLeft),
    one Reg.PAIR_CRATE_AGE (withF w .PAIR_CRATE_AGE_US s.crateAgeUs),
    one Reg.TIM_WC_TIME_NS (fullTime s.tim.wc).1,
    one (Reg.TIM_DOM_TIME_NS 0) (fullTime s.tim.trk0).1,
    one (Reg.TIM_DOM_TIME_NS 1) (fullTime s.tim.trk1).1,
    one Reg.TIM_ODO_D48_LO (BitVec.ofNat 32 s.d48),
    ⟨Reg.GAT_STATUS 0, 0x40, 96, fun n => (s.gateShow n).rword (Reg.GAT_STATUS n)⟩,
    ⟨Reg.GAT_GATES 0, 0x40, 96, fun n => (s.gateShow n).rword (Reg.GAT_GATES n)⟩,
    ⟨Reg.PHY_PLCA_STATUS 20, 0x1000, 4, fun k =>
      withF w (.PHY_PLCA_STATUS_ACTIVE (20 + k)) (b2n (s.plcaActive (20 + k)))⟩,
    one Reg.RAK_BUSY (BitVec.ofNat 32 (s.rakeMask (fun _ => true))),
    one Reg.RAK_STALLED (BitVec.ofNat 32 (s.rakeMask Eng.waits)),
    one Reg.RAK_WAIT (withF w .RAK_WAIT_WAIT (min 65535 s.rakeWait)),
    one Reg.FWL_OCCUPANCY (withF (withF w .FWL_OCCUPANCY_WAYS s.flushUp.sessWays) .FWL_OCCUPANCY_STASH s.flushUp.sessStash),
    ⟨Reg.SWC_PORT_STATUS 0, 4, 30, fun n =>
      withF (withF (withF w (.SWC_PORT_STATUS_EGRESS n) (s.egressCode n)) (.SWC_PORT_STATUS_HEAD_USE n) (s.portHead n))
        (.SWC_PORT_STATUS_HELD n) (b2n (24 ≤ n && n ≤ 28 && s.held n))⟩,
    ⟨Reg.SWC_QUEUE_STATUS 0, 0x10, 240, fun q =>
      withF (withF w (.SWC_QUEUE_STATUS_FRAMES q) (min 65535 (s.queue q).length)) (.SWC_QUEUE_STATUS_CELLS q) (min 65535 (s.queueCells q))⟩,
    one Reg.SWC_POOL (withF w .SWC_POOL_SHARED_FREE (min 65535 s.sharedFree)),
    one Reg.SWC_POOL_INFO (withF (withF w .SWC_POOL_INFO_SHARED_SIZE (min 65535 s.sharedSize))
      .SWC_POOL_INFO_DESC_FREE (min 65535 s.cel.descFree)),
    ⟨Reg.SCH_SHAPER_CREDIT 0, 0x10, 240, fun q => BitVec.ofInt 32 ((s.credit q).tdiv 125000)⟩,
    ⟨Reg.SCH_DWRR 0, 0x10, 240, fun q => withF w (.SCH_DWRR_DEFICIT q) (min 65535 (s.deficit q))⟩,
    ⟨Reg.SCH_QHEAD 0, 4, 240, fun q => withF w (.SCH_QHEAD_SOJ q) (s.qHead q)⟩,
    ⟨Reg.SCH_HIST 0, 4, 16, fun k =>
      BitVec.ofNat 32 (spGet (fun _ => 0) s.stm.hist (s.rf .SCH_HIST_SEL_QUEUE * 16 + k))⟩,
    ⟨Reg.GWE_CH_STATUS 0, 4, 64, fun c =>
      withF (withF (withF w (.GWE_CH_STATUS_EV_BYTES c) (s.evBytes c)) (.GWE_CH_STATUS_EV_COUNT c) (s.chan c).fifo.length)
        (.GWE_CH_STATUS_TX_COUNT c) (s.chan c).txq.length⟩,
    one Reg.GWE_STATUS (withF w .GWE_STATUS_PENDING s.gwePending),
    ⟨Reg.HAT_STATUS 0, 0x10, 64, fun h => withF w (.HAT_STATUS_LINES h) (s.hatLines h)⟩,
    one Reg.STG_STATUS (withF (withF w .STG_STATUS_RECORDING (b2n s.recording)) .STG_STATUS_EXPORTING (b2n s.stg.exp.isSome)),
    one Reg.MGT_STATUS (withF (withF w .MGT_STATUS_QUEUED s.mgt.queue.length) .MGT_STATUS_OWNER (s.mgt.owner.getD 0)) ]

/-- The word that the fields of register `a` show. -/
def State.regShow (s : State) (a : Nat) : Word := (caseAt (s.liveCases (s.rword a)) a).getD (s.rword a)

/-- R10, R12: what a read of the register at `a` latches, as addresses and words. -/
def State.latchOf (s : State) (a : Nat) : List (Nat × Word) :=
  let full (a c : Nat) : List (Nat × Word) := [(a + 4, (fullTime c).2.1), (a + 8, (fullTime c).2.2)]
  (caseAt [
    one Reg.TIM_WC_TIME_NS (full a s.tim.wc),
    one (Reg.TIM_DOM_TIME_NS 0) (full a s.tim.trk0),
    one (Reg.TIM_DOM_TIME_NS 1) (full a s.tim.trk1),
    one Reg.TIM_ODO_D48_LO [(a + 4, BitVec.ofNat 32 (s.d48 / 2 ^ 32))],
    one Reg.CCX_CKPT_TIME_LO [(a + 4, s.rword (a + 4))],
    one (Reg.PWR_WAKE_D48 0) [(a + 4, s.rword (a + 4))],
    ⟨Reg.FLT_SRC_FIRST_TIME_LO 0, 32, 768, fun _ => [(a + 4, s.rword (a + 4))]⟩,
    ⟨Reg.FLT_SRC_LAST_TIME_LO 0, 32, 768, fun _ => [(a + 4, s.rword (a + 4))]⟩ ] a).getD []

/-- Registers whose read returns what an earlier read latched. -/
def latchedReg (a : Nat) : Bool :=
  a = Reg.TIM_WC_TIME_SEC || a = Reg.TIM_WC_TIME_HI || a = Reg.TIM_DOM_TIME_SEC 0 || a = Reg.TIM_DOM_TIME_HI 0 ||
  a = Reg.TIM_DOM_TIME_SEC 1 || a = Reg.TIM_DOM_TIME_HI 1 || a = Reg.TIM_ODO_D48_HI || a = Reg.CCX_CKPT_TIME_HI ||
  a = Reg.PWR_WAKE_D48 1 || a = Reg.TIM_TXTS1 || a = Reg.TIM_TXTS2 || a = Reg.TIM_TXTS3 || a = Reg.TIM_TXTS4 || (arrayAt (Reg.FLT_SRC_FIRST_TIME_HI 0) 32 768 a).isSome ||
  (arrayAt (Reg.FLT_SRC_LAST_TIME_HI 0) 32 768 a).isSome

/-- RC_READ: the fields of type RC clear. MAX_CELLS of a queue that holds cells takes CELLS again at once (R311). -/
def State.rcClear (s : State) (r : RegRow) (a : Nat) : State :=
  let m := r.maskOf .rc
  if m = 0 then s
  else
    let s := s.wword a (s.rword a &&& ~~~m)
    match arrayAt (Reg.SCH_QMAX 0) 4 240 a with
    | some q => s.maxCells q
    | none => s

/-- A read of a register that has a row in the map. -/
def State.rowRead (s : State) (q : Requester) (r : RegRow) (a : Nat) : Word × State :=
  if latchedReg a then (s.latched q a, s)
  else
    let w := s.regShow a &&& ~~~(r.maskOf .wo)
    let s := s.each (s.latchOf a) (fun s e => s.setLatch q e.1 e.2)
    (w, s.rcClear r a)

/-- COUNTER_LOW_READ, and the read of a high word (R10). A reserved address reads 0 in the same way (R9). -/
def State.counterRead (s : State) (q : Requester) (a : Nat) : Word × State :=
  if a % 8 = 0 then
    let v := s.cget a
    (BitVec.ofNat 32 v, s.setLatch q (a + 4) (BitVec.ofNat 32 (v / 2 ^ 32)))
  else (s.latched q a, s)

/-! The entry windows of GAT (GAT_SEL). -/

def gatWin : Nat := 0x82000

/-- List, entry and half word of an address in the entry windows, and whether it shows operational entries. -/
def State.gatEntry (s : State) (a : Nat) : Option (Nat × Nat × Bool × Bool) :=
  let eg := s.rf .GAT_SEL_EG_LIST
  let ing := 32 + s.rf .GAT_SEL_IN_LIST
  if a < gatWin || 0x87000 ≤ a then none
  else
    let o := a - gatWin
    let hi := o % 8 = 4
    if o < 0x2000 then some (eg, o / 8, hi, false)
    else if o < 0x4000 then some (eg, (o - 0x2000) / 8, hi, true)
    else if o < 0x4800 then some (ing, (o - 0x4000) / 8, hi, false)
    else some (ing, (o - 0x4800) / 8, hi, true)

/-- Half of a 64-bit entry. -/
def half (v : Nat) (hi : Bool) : Word := BitVec.ofNat 32 (if hi then v / 2 ^ 32 else v)

/-- An operational entry in the layout of R330; an entry beyond the list reads 0. The STATE byte of an ingress entry
follows from its gate word. -/
def State.gateOperWord (s : State) (i e : Nat) : Nat :=
  match (s.gateOper i).bind (fun c => c.entries[e]?) with
  | some x =>
    let st := if i < 24 then x.2 % 256 else bitsAt x.2 8 1 * 128 + bitsAt x.2 15 1 * 64 + bitsAt x.2 12 3
    x.1 + st * 2 ^ 32
  | none => 0

/-- A write to the administrative window is ignored during a copy (R334). -/
def State.gatEntryWrite (s : State) (i e : Nat) (hi : Bool) (w : Word) : State :=
  let copying := match s.gatePend i with
    | some p => !p.copied
    | none => false
  if copying then s.gatRefused
  else
    let v := s.gateAdmin i e
    let n := if hi then w.toNat * 2 ^ 32 + v % 2 ^ 32 else v / 2 ^ 32 * 2 ^ 32 + w.toNat
    { s with gat := { s.gat with admin := spSet (fun _ => 0) s.gat.admin (i * 1024 + e) (BitVec.ofNat 64 n) } }

/-! Reads. -/

/-- A read whose register acts on it, as poison, word and next state. -/
def State.readCases (s : State) (q : Requester) (a : Nat) : List (RegCase (Bool × Word × State)) :=
  let after (t : State) : Bool × Word × State := (false, t.rword a, t)
  [ one (Reg.SEC_DEBUG_CHAL 0) (false, s.chalRead.1, s.chalRead.2),
    one Reg.TIM_TXTS0 (after (s.txtsRead q)),
    ⟨Reg.TIM_CAPT_TIME_LO 0, 32, 8, fun k => after (s.captureRead k)⟩,
    one Reg.CLS_TREE_DATA_LO (s.treeDataLo q),
    one Reg.CLS_TREE_DATA_HI (false, s.latched q a, s.treeNext),
    one Reg.GWE_PANTRY_DATA s.pantryDataRead,
    ⟨Reg.BOOT_STAGE_BUF 0, 4, 8192, fun n => s.pantryRead (pantryStage + 4 * n)⟩,
    ⟨Reg.SCH_HIST 0, 4, 16, fun k =>
      (false, s.regShow a, if s.on .SCH_HIST_SEL_CLR then
        { s with stm := { s.stm with hist := spSet (fun _ => 0) s.stm.hist (s.rf .SCH_HIST_SEL_QUEUE * 16 + k) 0 } } else s)⟩ ]

/-- A read of register space at `a` by `q` that its rights allow. -/
def State.regRead (s : State) (q : Requester) (a : Nat) : Bool × Word × State :=
  match caseAt (s.readCases q a) a with
  | some x => x
  | none =>
    match regRowAt a with
    | some r =>
      let s := match arrayAt (Reg.FLT_SRC_STATUS 0) 4 6144 a with
        | some i => s.recordRead (i / 8)
        | none => s
      (false, s.rowRead q r a)
    | none =>
      match s.gatEntry a with
      | some (i, e, hi, op) => (false, half (if op then s.gateOperWord i e else s.gateAdmin i e) hi, s)
      | none => (false, s.counterRead q a)

/-- Address `a` lies in register space (R31). -/
def regSpace (a : Nat) : Bool := a < 0x90000 || (0x100000 ≤ a && a < 0x1B0000) || (0x200000 ≤ a && a < 0x440000)

/-- An access to an address in no window (R31). -/
def State.unmapped (s : State) (a : Nat) : State := { s.report 0x000 0x06 (a % 2 ^ 32) with wfail := some 0x06 }

/-- An access that R405 or R428 does not allow. -/
def State.badAccess (s : State) : State := s.refuse 0x261 0x06

/-- An access to the DRAM port by a requester finds a parity error in its command or data queues (R483). -/
def State.dramPort (s : State) : State := (s.parityRead .ddrq 0 0x2A5).2

/-- A read of `n` bytes of DRAM from offset `o` (R31, R483): poison, bytes and next state. -/
def State.dramRead (s : State) (o n : Nat) : Bool × List Byte × State :=
  if !s.dramServes then (false, List.replicate n 0, s.notify 0x2A4 0x05)
  else if s.dramFitted < o + n then (false, List.replicate n 0, (s.notify 0x2A4 0x05).unmapped (dramBase + o))
  else
    let r := s.dramPort.dramCheck o n
    (r.1, s.dramGets o n, r.2)

/-- A write of bytes to DRAM offset `o` by a requester other than the Strongroom (R31, R412, R437, R483). -/
def State.dramStore (s : State) (o : Nat) (b : List Byte) : State :=
  if !s.dramServes then (s.notify 0x2A4 0x05).refuse 0x264 0x05
  else if s.dramFitted < o + b.length then (s.notify 0x2A4 0x05).unmapped (dramBase + o)
  else if overlap (o, b.length) s.ringRegion then s.refuse 0x283 0x0D
  else s.dramPort.dramWrite o b

/-- A 32-bit read at address `a` by `q`: poison, word and next state. -/
def State.busRead (s : State) (q : Requester) (a : Nat) : Bool × Word × State :=
  if !s.mayRead q a then (false, 0, s)
  else if s.ownerOff a then (false, 0, s)
  else if regSpace a then if a % 4 = 0 then s.regRead q a else (false, 0, s.badAccess)
  else if treeBase ≤ a && a < treeEnd && q != .host then
    if a % 4 = 0 then s.treeDirectRead q ((a - treeBase) / 8) (a % 8 = 4) else (false, 0, s.badAccess)
  else if pantryBase ≤ a && a < pantryTop && q != .host then
    if a % 4 = 0 then s.pantryRead (a - pantryBase) else (false, 0, s.badAccess)
  else if popBase ≤ a && a < popEnd then (false, 0, s.badAccess)
  else if dramBase ≤ a && a < dramEnd then
    let r := s.dramRead (a - dramBase) 4
    (r.1, BitVec.ofNat 32 (ofBytesLE r.2.1), r.2.2)
  else (false, 0, s.unmapped a)

/-! Writes. -/

/-- A command register with its key in bits 31:16: another key is ignored and reported on source 0x000. -/
def State.keyed (s : State) (w : Word) (key : Nat) (g : State → State) : State :=
  if fldGet w 16 16 = key then g s else s.refuse 0x000 0x06

/-- TOP_RESET_CMD (R35). -/
def State.resetCmd (s : State) (w : Word) : State :=
  s.keyed w 0xC6A5 fun s =>
    match fldGet w 0 4 with
    | 1 => s.chipReset none
    | 2 => if hasBlockReset (fldGet w 8 5) then s.blockReset (fldGet w 8 5) else s.refuse 0x000 0x08
    | _ => s

/-- A write of SWC_PORT_ADM or SWC_PORT_SHARE that keeps SHARED_SIZE at 2,048 or more (R269). -/
def State.admWrite (s : State) (a : Nat) (w : Word) : State :=
  let t := s.wword a w
  if t.sharedSize < 2048 then s.refuse 0x146 0x08 else t.xoffAll

/-- A write that source `src` refuses as kind 0x08 unless `ok`. -/
def State.checked (s : State) (ok : Bool) (src a : Nat) (w : Word) : State := if ok then s.wword a w else s.refuse src 0x08

/-- STG_CMD with the right key (R444, R447, R448, R450). -/
def State.stgCmdDo (s : State) (w : Word) : State :=
  match fldGet w 0 3 with
  | 1 => s.stgCmdTrigger (fldGet w 8 8)
  | 2 => s.stgRelease (fldGet w 5 3)
  | 3 => s.stgExport (fldGet w 5 3)
  | 4 => s.stgStop
  | 5 => s.stgClear
  | _ => s

/-- FWL_CMD with the right key (R252, R522). -/
def State.fwlCmdDo (s : State) (w : Word) : State :=
  match fldGet w 0 3 with
  | 1 => s.fwlLookup
  | 2 => s.fwlRead
  | 3 => s.fwlInsert
  | 4 => s.fwlDelete
  | 5 => s.fwlFlush (w.getLsbD 3)
  | _ => s.fwlCmd id

/-- STM_IND_CMD and CPH_IND_CMD with the right key (R315, R364, R373). -/
def State.stmCmdDo (s : State) (w : Word) : State :=
  match fldGet w 0 2 with
  | 1 => s.stmRdCmd
  | 2 => s.stmWrCmd
  | 3 => s.stmRcCmd
  | _ => s
def State.cphCmdDo (s : State) (w : Word) : State :=
  match fldGet w 0 3 with
  | 1 => s.cphRdCmd
  | 2 => s.cphWrCmd false
  | 3 => s.cphRcCmd
  | 4 => s.cphWrCmd true
  | _ => s

/-- TIM_WC_CMD and GAT_CMD with the right key (R323, R333, R334). -/
def State.wcCmdDo (s : State) (w : Word) : State :=
  match fldGet w 0 2 with
  | 1 => s.stepCmd (fldGet w 8 1)
  | 2 => s.stepCancel
  | _ => s
def State.gatCmdDo (s : State) (i : Nat) (w : Word) : State :=
  match fldGet w 0 2 with
  | 1 => s.configChange i
  | 2 => s.gateCancel i
  | _ => s

/-- A write of SWC_PORT_FC[n] (R275, R276). -/
def State.fcGenWrite (s : State) (n : Nat) (w : Word) : State :=
  let mode := fldGet w 30 2
  if mode = 3 || (mode ≠ 0 && 20 ≤ n) || (mode = 1 && s.rf (.SWC_PORT_ADM_PROT n) ≠ 0) then s.refuse 0x146 0x08
  else (s.wword (Reg.SWC_PORT_FC n) w).xoffAll

/-- A write of GAT_ADMIN_CFG[i] (R331). -/
def State.adminCfg (s : State) (i : Nat) (w : Word) : State :=
  let was := s.on (.GAT_ADMIN_CFG_ENABLE i)
  let s := s.wword (Reg.GAT_ADMIN_CFG i) w
  if was && !s.on (.GAT_ADMIN_CFG_ENABLE i) then s.gateDisable i else s

/-- A refused MGT register write is counted (R520's counters); MGT has no source, so the bridge's reports it (R412). -/
def State.mgtRefused (s : State) : State := (s.cinc (Reg.MGT_CFG + 0x400 + 8 * 8)).refuse 0x264 0x06

/-- A write of BOOT_STAGE_BUF: a word of the staging buffer, while the device does not hold a chunk (R119); R120 names no source
for a refusal, so the bridge's reports it (R412). -/
def State.stageWrite (s : State) (n : Nat) (w : Word) : State :=
  if s.on .BOOT_STAGE_STATUS_READY then s.pantryPuts (pantryStage + 4 * n) (bytesLE 4 w.toNat)
  else (s.wf .BOOT_STAGE_STATUS_ORDER_ERR 1).refuse 0x264 0x06

/-- What a write of `w` to a register does where it does more than store the word `n` that the access types make of
it. `aux` says how the checks end that the write starts: bit `p`, Pan `p` answers its known-answer test wrongly; for
SEC_DEBUG_CMD bit 0, the signature passes. -/
def State.writeCases (s : State) (q : Requester) (w n : Word) (aux : Nat) : List (RegCase State) :=
  let checked (ok : Bool) (src a : Nat) : State := s.checked ok src a n
  [ one Reg.TOP_RESET_CMD (s.resetCmd w),
    one Reg.TOP_INT_EOI (s.intEoi w.toNat),
    one Reg.PWR_CMD (s.keyed w 0x5A1E fun s => (s.wakeSample aux).pwrCmd (fldGet w 0 3)),
    one Reg.PWR_SEQ_CFG (s.seqCfg n),
    one Reg.BOOT_UPDATE_CMD (s.keyed w 0x3C91 fun s => s.updAction (fldGet w 0 3) (fldGet w 8 3)),
    one Reg.BOOT_STAGE_LEN (s.chunkSubmit (fldGet w 0 16)),
    ⟨Reg.BOOT_STAGE_BUF 0, 4, 8192, fun k => s.stageWrite k w⟩,
    one Reg.SEC_LIFECYCLE_CMD (s.keyed w 0x9E27 fun s => s.lifecycle q (fldGet w 0 2)),
    one Reg.SEC_ZEROIZE (s.keyed w 0x0D1E fun s => if w.getLsbD 0 then s.zeroize else s),
    one Reg.SEC_DEBUG_CMD (s.keyed w 0xDB61 fun s => if w.getLsbD 0 then s.tokenCheck (bitAt aux 0) else s),
    one Reg.CCX_CFG (s.ccxCfg n),
    one Reg.CCX_MBOX_CFG (s.mboxCfg n),
    one Reg.FLT_PIN_CFG (s.pinCfg n),
    one Reg.FLT_PIN_CMD (s.keyed w 0xF17A fun s => if w.getLsbD 0 then s.pinRelease else s),
    one Reg.FLT_CLEAR (s.keyed w 0xF1C3 fun s => s.fltClear w),
    ⟨Reg.FLT_SRC_CFG 0, 4, 768, fun k => (s.wword (Reg.FLT_SRC_CFG k) n).pinSettle⟩,
    ⟨Reg.FLT_SRC_STATUS 0, 32, 768, fun k => if w.getLsbD 30 then s.pendingClear k else s⟩,
    one Reg.PAIR_CFG (s.pairCfg n),
    one Reg.PAIR_MISC (s.pairMisc n),
    one Reg.PAIR_CMD (s.keyed w 0x9A1F fun s => s.pairCmd (fldGet w 0 2) aux),
    one Reg.TIM_WC_CFG (s.wcCfg n),
    one Reg.TIM_WC_CMD (s.keyed w 0x71AE fun s => s.wcCmdDo w),
    one Reg.TIM_ODO_CFG (checked (fldGet n 0 2 ≠ 3) 0x067 Reg.TIM_ODO_CFG),
    ⟨Reg.TIM_DOM_CFG 0, 0x40, 2, fun d =>
      if fldGet n 12 12 = 0 then s.timRefused else s.domCfg d (fldSet n 29 1 0) (w.getLsbD 29)⟩,
    ⟨Reg.TIM_DOM_RATE 0, 0x40, 2, fun d => s.domRate d n⟩,
    ⟨Reg.TIM_DOM_ADJ_HI 0, 0x40, 2, fun d => s.domAdjust d n⟩,
    ⟨Reg.TIM_TRIG_CFG 0, 0x20, 8, fun k =>
      if w.getLsbD 31 && fldGet n 26 2 = 3 && w.getLsbD 28 && !s.on (.TIM_TRIG_CFG_EN k) && s.rf (.TIM_TRIG_PERIOD_PERIOD k) = 0
      then s.timRefused else s.trigCfg k n⟩,
    ⟨Reg.TIM_TRIG_TARGET_LO 0, 0x20, 8, fun k => s.trigParam k (Reg.TIM_TRIG_TARGET_LO k) n⟩,
    ⟨Reg.TIM_TRIG_TARGET_HI 0, 0x20, 8, fun k => s.trigParam k (Reg.TIM_TRIG_TARGET_HI k) n⟩,
    ⟨Reg.TIM_TRIG_PERIOD 0, 0x20, 8, fun k => s.trigParam k (Reg.TIM_TRIG_PERIOD k) n⟩,
    ⟨Reg.TIM_TRIG_WIDTH 0, 0x20, 8, fun k =>
      if n.toNat < 10 then s.timRefused else s.trigParam k (Reg.TIM_TRIG_WIDTH k) n⟩,
    ⟨Reg.TIM_CAPT_CFG 0, 0x20, 8, fun k => checked (fldGet n 27 2 ≠ 3) 0x067 (Reg.TIM_CAPT_CFG k)⟩,
    one Reg.GAT_SEL (if 24 ≤ fldGet n 0 5 then s.gatRefused else s.wword Reg.GAT_SEL n),
    ⟨Reg.GAT_ADMIN_CFG 0, 0x40, 96, fun i => s.adminCfg i n⟩,
    ⟨Reg.GAT_CMD 0, 0x40, 96, fun i => s.keyed w 0x6A7E fun s => s.gatCmdDo i w⟩,
    ⟨Reg.MAC_PORT_CFG 0, 0x1000, 24, fun k => s.portCfg k n⟩,
    ⟨Reg.MAC_LINK_CFG 0, 0x1000, 24, fun k => s.linkCfg k n⟩,
    ⟨Reg.MAC_FC_CFG 0, 0x1000, 24, fun k => s.fcCfg k n⟩,
    ⟨Reg.MAC_PREEMPT 0, 0x1000, 24, fun k =>
      if fldGet n 16 8 = 0 || 128 < fldGet n 16 8 then s.portRefused k else s.preemptCfg k n⟩,
    ⟨Reg.MAC_MDIO_POLL 0, 4, 4, fun k => s.pollCfg k n⟩,
    one Reg.MAC_MDIO_CFG (checked (39 ≤ fldGet n 0 8) 0x083 Reg.MAC_MDIO_CFG),
    one Reg.MAC_MDIO_CMD (s.mdioCmd (fldSet n 31 1 0) (w.getLsbD 31)),
    ⟨Reg.PHY_PLCA 20, 0x1000, 4, fun k =>
      if fldGet n 12 4 = 0 || 8 < fldGet n 12 4 then s.portRefused (20 + k) else s.wword (Reg.PHY_PLCA (20 + k)) n⟩,
    ⟨Reg.PHY_TC10_CMD 12, 0x1000, 12, fun k => s.tc10Cmd (12 + k) (fldGet w 0 2)⟩,
    ⟨Reg.RAK_PORT_CFG 0, 4, 29, fun k =>
      checked (1 ≤ fldGet n 16 4 && fldGet n 16 4 ≤ 8 && 16 ≤ fldGet n 8 7 && fldGet n 8 7 ≤ 64) 0x106 (Reg.RAK_PORT_CFG k)⟩,
    one Reg.CLS_EPOCH_CMD (s.keyed w 0xE90C fun s => if fldGet w 0 2 = 1 then s.epochSwap else s),
    one Reg.CLS_TREE_DATA_LO { s with cls := { s.cls with dataLo := w } },
    one Reg.CLS_TREE_DATA_HI (s.treeDataHi w).2,
    one Reg.FWL_AGE_CFG (checked (1 ≤ fldGet n 0 6 && fldGet n 0 6 ≤ 60) 0x123 Reg.FWL_AGE_CFG),
    one Reg.FWL_RATE_CFG (s.wword Reg.FWL_RATE_CFG n).stashLevel,
    one Reg.FWL_CMD (s.keyed w 0x5E55 fun s => s.fwlCmdDo w),
    ⟨Reg.SWC_PORT_CFG 0, 4, 30, fun k => checked (fldGet n 22 10 ≤ 1000) 0x146 (Reg.SWC_PORT_CFG k)⟩,
    ⟨Reg.SWC_PORT_ADM 0, 4, 29, fun k => s.admWrite (Reg.SWC_PORT_ADM k) n⟩,
    ⟨Reg.SWC_PORT_SHARE 0, 4, 29, fun k => s.admWrite (Reg.SWC_PORT_SHARE k) n⟩,
    ⟨Reg.SWC_PORT_FC 0, 4, 24, fun k => s.fcGenWrite k n⟩,
    one Reg.SWC_POOL (s.wword Reg.SWC_POOL n).xoffAll,
    one Reg.SWC_AGE_CFG (checked (fldGet n 4 8 ≠ 0 && fldGet n 0 4 ≠ 0) 0x146 Reg.SWC_AGE_CFG),
    one Reg.SWC_FDB_CMD (s.keyed w 0xFD8C fun s => s.fdbCmd (fldGet w 0 3) (fldGet w 4 5) (w.getLsbD 3)),
    ⟨Reg.SWC_MIRROR_CFG 0, 8, 4, fun k => checked (fldGet n 24 5 < 24 || fldGet n 24 5 = 29) 0x146 (Reg.SWC_MIRROR_CFG k)⟩,
    one Reg.STM_IND_CMD (s.keyed w 0x57E4 fun s => s.stmCmdDo w),
    ⟨Reg.SCH_PORT_CFG 0, 4, 30, fun k =>
      s.schWrite (Reg.SCH_PORT_CFG k) (-32 ≤ sextNat 8 (fldGet n 0 8) && sextNat 8 (fldGet n 0 8) ≤ 63) n⟩,
    ⟨Reg.SCH_SHAPER_CFG 0, 0x10, 240, fun k => s.shaperCfg k n⟩,
    ⟨Reg.SCH_SHAPER_RATE 0, 0x10, 240, fun k => s.schWrite (Reg.SCH_SHAPER_RATE k) (fldGet n 0 26 ≤ 50000000) n⟩,
    ⟨Reg.SCH_DWRR 0, 0x10, 240, fun k => s.schWrite (Reg.SCH_DWRR k) (64 ≤ fldGet n 0 16) n⟩,
    one Reg.SCH_HIST_SEL (s.schWrite Reg.SCH_HIST_SEL (fldGet n 0 8 < 240) n),
    one Reg.CPH_PAN_CMD (s.keyed w 0xCA9E fun s => s.panReturn (fldGet w 0 4) aux),
    one Reg.CPH_IND_CMD (s.keyed w 0xC1D7 fun s => s.cphCmdDo w),
    ⟨Reg.CPH_REKEY_REQ 0, 4, 32, fun k => s.rekeyClear k w⟩,
    ⟨Reg.GWE_CH_CFG 0, 0x40, 32, fun c => s.chCfg c n⟩,
    ⟨Reg.GWE_CAN_NBT 0, 0x40, 32, fun c => s.chTiming c 4 n⟩,
    ⟨Reg.GWE_CAN_DBT 0, 0x40, 24, fun c => s.chTiming c 8 n⟩,
    ⟨Reg.GWE_SER_FRM 24, 0x40, 8, fun c =>
      if fldGet n 24 8 = 0 then s.chRefused (24 + c) else s.chTiming (24 + c) 8 n⟩,
    ⟨Reg.GWE_CAN_XBT 0, 0x40, 32, fun c => s.chTiming c 12 n⟩,
    ⟨Reg.GWE_LIN_SCHED 0, 4, 256, fun i =>
      if fldGet n 0 16 = 0 then s.chRefused (16 + i / 32) else s.wword (Reg.GWE_LIN_SCHED i) n⟩,
    one Reg.GWE_CMD (s.keyed w 0x6E4C fun s => s.gweCmd (fldGet w 8 6) (fldGet w 0 3)),
    one Reg.GWE_PANTRY_DATA (s.pantryDataWrite w),
    ⟨Reg.HAT_CFG 0, 0x10, 64, fun h => s.hatCfg h n⟩,
    ⟨Reg.HAT_SPILL 0, 0x10, 64, fun h => s.hatSpill h n⟩,
    ⟨Reg.HAT_CTRL 0, 0x10, 64, fun h => s.hatCtrl h w⟩,
    ⟨Reg.HAT_PUSH 0, 0x10, 64, fun h => s.hatPush h w⟩,
    ⟨Reg.HAT_PUSH_END 0, 0x10, 64, fun h => s.hatPushDone h⟩,
    one Reg.BRG_CFG (s.brgCfg n),
    ⟨Reg.BRG_WIN_CFG 0, 0x10, 16, fun k => s.winCfg k n⟩,
    ⟨Reg.BRG_WIN_BASE_LO 0, 0x10, 16, fun k => s.winBaseWrite k (Reg.BRG_WIN_BASE_LO k) n⟩,
    ⟨Reg.BRG_WIN_BASE_HI 0, 0x10, 16, fun k => s.winBaseWrite k (Reg.BRG_WIN_BASE_HI k) n⟩,
    ⟨Reg.BRG_RING_BASE_LO 0, 0x40, 32, fun k => s.ringBaseWrite k (Reg.BRG_RING_BASE_LO k) n⟩,
    ⟨Reg.BRG_RING_BASE_HI 0, 0x40, 32, fun k => s.ringBaseWrite k (Reg.BRG_RING_BASE_HI k) n⟩,
    ⟨Reg.BRG_RING_CFG 0, 0x40, 32, fun k => s.ringCfg k n⟩,
    ⟨Reg.BRG_RING_TAIL 0, 0x40, 32, fun k => s.ringTail k n⟩,
    one Reg.STG_RING (checked (s.ringOk n) 0x283 Reg.STG_RING),
    one Reg.STG_CMD (s.keyed w 0x57C8 fun s => s.stgCmdDo w),
    one Reg.MGT_SESS_CFG (if 0xEF < fldGet n 24 8 || fldGet n 0 16 < 10 then s.mgtRefused else s.wword Reg.MGT_SESS_CFG n),
    one Reg.MGT_WR_MASK (s.wword Reg.MGT_WR_MASK (n &&& ~~~0x5C)),
    one Reg.TIM_WC_TIME_NS (s.nsWrite Reg.TIM_WC_TIME_NS w n),
    ⟨Reg.TIM_DOM_TIME_NS 0, 0x40, 2, fun d => s.nsWrite (Reg.TIM_DOM_TIME_NS d) w n⟩,
    one Reg.TIM_TXTS1 (s.nsWrite Reg.TIM_TXTS1 w n) ]

/-- A write of `w` to the register at `a` that the requester's rights allow (R6, R8, R9). A write that both
breaks R8 and is refused by its block is logged with the block's kind (DESIGN CHOICE, log entry 135). -/
def State.regWrite (s : State) (q : Requester) (a : Nat) (w : Word) (aux : Nat) : State :=
  match regRowAt a with
  | some r =>
    let n := r.next (s.committed && q != .boot) (s.rword a) w
    let s := if n.2 then s.refuse 0x022 0x0D else s
    (caseAt (s.writeCases q w n.1 aux) a).getD (s.wword a n.1)
  | none =>
    match s.gatEntry a with
    | some (i, e, hi, op) => if op then s else s.gatEntryWrite i e hi w
    | none => s

/-- A 32-bit write at address `a` by `q`: its effect, with `wfail` set where it did not take effect (R412). -/
def State.busStore (s : State) (q : Requester) (a : Nat) (w : Word) (aux : Nat) : State :=
  if !(regSpace a || (treeBase ≤ a && a < treeEnd) || (pantryBase ≤ a && a < pantryTop) || (popBase ≤ a && a < popEnd) ||
      (dramBase ≤ a && a < dramEnd)) then s.unmapped a
  else if !s.mayWrite q a then s.secBlocked
  else if s.ownerOff a then s.refuse 0x264 0x06
  else if a % 4 ≠ 0 then s.badAccess
  else if regSpace a then s.regWrite q a w aux
  else if a < pantryBase then (s.treeDirectWrite q ((a - treeBase) / 8) (a % 8 = 4) w).2
  else if a < popBase then s.pantryWrite (a - pantryBase) w
  else if a < dramBase then s.refuse 0x264 0x06
  else s.dramStore (a - dramBase) (bytesLE 4 w.toNat)

/-- R412: a write that did not take effect is logged, unless the bridge itself is in block reset. -/
def State.logWrite (s : State) (space off bytes reqId : Nat) : State :=
  match s.wfail with
  | some k => { (if s.blockOff 20 then s else s.writeFail space off k bytes reqId) with wfail := none }
  | none => s

/-- The log of a register write by `q` at address `a`. The host writes through BAR0; no rule gives its requester ID
here, so that is a free value. -/
def State.logBy (s : State) (q : Requester) (a : Nat) : State :=
  if q = .host then
    let d := s.draw
    d.2.logWrite 0 a 4 (Config.free d.1 % 65536)
  else s.logWrite 2 a 4 0

/-- No write has failed yet. -/
def State.noFail (s : State) : State := { s with wfail := none }

/-- An access of the host counts in counter `i` of R433: 0 INB_READS, 1 INB_WRITES. -/
def State.inbound (s : State) (q : Requester) (i : Nat) : State := if q = .host then s.cinc (Ctr.brg i) else s

/-- A register write by `q` begins: it has counted and has not failed. -/
def State.begun (s : State) (q : Requester) : State := (s.inbound q 1).noFail

/-- A register write by `q`, logged where it does not take effect. -/
def State.busWriteAux (s : State) (q : Requester) (a : Nat) (w : Word) (aux : Nat) : State :=
  ((s.begun q).busStore q a w aux).logBy q a
def State.busWrite (s : State) (q : Requester) (a : Nat) (w : Word) : State := s.busWriteAux q a w 0

/-- A command register written with its key and the other fields `v`. -/
def State.cmdWrite (s : State) (q : Requester) (a key v : Nat) (aux : Nat := 0) : State :=
  s.busWriteAux q a (BitVec.ofNat 32 (key * 65536 + v % 65536)) aux

/-! Inbound accesses over PCIe (R405 to R413). -/

/-- A completion. -/
def State.complete (s : State) (tag status : Nat) (data : List Byte) : State := s.emit (.completion tag status data)

/-- Completion status: successful, completer abort, and data with EP. -/
def cplOk : Nat := 0
def cplAbort : Nat := 4
def cplPoison : Nat := 8

/-- R414: cut the completion of `n` bytes read at `a` at multiples of 64, each piece as long as `most` allows. -/
def cutCompletion (most : Nat) : Nat → Nat → Nat → List (Nat × Nat)
  | 0, _, _ => []
  | fuel + 1, a, n =>
    if n = 0 then []
    else
      let k := min n (max 64 most - a % 64)
      (a, k) :: cutCompletion most fuel (a + k) (n - k)

/-- The completions of a read of the bytes `b` at address `a` (R414). -/
def State.completeAt (s : State) (tag status a : Nat) (b : List Byte) : State :=
  if b = [] then s.complete tag status [] else
  s.each (cutCompletion s.brg.mps b.length a b.length) (fun s p => s.complete tag status ((b.drop (p.1 - a)).take p.2))

/-- A completer abort (R405, R411). -/
def State.abort (s : State) (tag : Nat) : State := { ((s.badAccess).cinc (Ctr.brg 2)).complete tag cplAbort [] with wfail := none }

/-- A completion with the data read, poisoned where a word was uncorrectable. -/
def State.answer (s : State) (tag : Nat) (bad : Bool) (a : Nat) (b : List Byte) : State :=
  if bad then (s.cinc (Ctr.brg 3)).completeAt tag cplPoison a b else s.completeAt tag cplOk a b

/-- R409: a read of `n` bytes at DRAM address `a` through window `w`, which may hit or start a prefetch. -/
def State.winRead (s : State) (w a n tag : Nat) : State :=
  let free := s.on (.BRG_WIN_CFG_SE_FREE w) && s.on .BRG_CFG_PF_EN
  match (if free then s.pfHit a n else none) with
  | some i =>
    let b := match s.pfBuf i with
      | some x => (x.bytes.drop (a - x.addr)).take n
      | none => []
    let d := s.bufRead i
    ((d.2.pfUse i).cinc (Ctr.brg 4)).answer tag d.1 a b
  | none =>
    let r := s.dramRead (a - dramBase) n
    let s := r.2.2.answer tag r.1 a r.2.1
    if free then s.pfStart a n else s

/-- An inbound read that its target answers. -/
def State.inboundServe (s : State) (bar off n tag : Nat) (whole : Bool) : State :=
  let s := State.cinc { s with wfail := none } (Ctr.brg 0)
  let zero (s : State) : State := s.completeAt tag cplOk off (List.replicate n 0)
  match bar with
  | 0 =>
    if n ≠ 4 || off % 4 ≠ 0 || !whole then s.abort tag
    else if 0x440000 ≤ off then { zero (s.unmapped off) with wfail := none }
    else
      let r := s.busRead .host off
      { r.2.2.answer tag r.1 off (bytesLE 4 r.2.1.toNat) with wfail := none }
  | 2 =>
    match s.winFind off with
    | none => { zero (s.unmapped off) with wfail := none }
    | some (w, a) =>
      if popBase ≤ a && a < popEnd then
        if s.blockOff 19 then zero s
        else if a % 64 ≠ 0 || n % 64 ≠ 0 || n = 0 then s.abort tag
        else
          let r := s.hatPop ((a - popBase) / 4096) (n / 64)
          r.2.2.answer tag r.1 a r.2.1
      else { s.winRead w a n tag with wfail := none }
  | _ =>
    let word (i : Nat) : Word :=
      if i < 256 then spGet msixWord s.irq.table i else if i = 1024 then BitVec.ofNat 32 s.irq.pba
      else if i = 1025 then BitVec.ofNat 32 (s.irq.pba / 2 ^ 32) else 0
    s.completeAt tag cplOk off (((List.range ((off % 4 + n + 3) / 4)).flatMap (fun i => bytesLE 4 (word (off / 4 + i)).toNat)).drop (off % 4) |>.take n)

/-- The read reaches an internal target, which may fail to answer (R411): the access is well formed and mapped. -/
def State.inboundTarget (s : State) (bar off n : Nat) (whole : Bool) : Bool :=
  match bar with
  | 0 => n = 4 && off % 4 = 0 && whole && off < 0x440000
  | 2 => (s.winFind off).isSome
  | _ => false

/-- INBOUND_READ of `n` bytes at `off` of BAR `bar`; `whole` tells that all byte enables are set, and `answers` that
the internal target answers. -/
def State.inboundRead (s : State) (bar off n tag : Nat) (whole answers : Bool) : State :=
  if answers || !s.inboundTarget bar off n whole then s.inboundServe bar off n tag whole
  else (s.cinc (Ctr.brg 0)).bridge fun x => { x with open_ := tag :: x.open_ }

/-- INBOUND_WRITE of bytes at `off` of BAR `bar` by PCIe requester `reqId`. -/
def State.inboundWrite (s : State) (bar off reqId : Nat) (b : List Byte) (whole : Bool) (aux : Nat) : State :=
  let s := State.cinc { s with wfail := none } (Ctr.brg 1)
  let n := b.length
  match bar with
  | 0 =>
    let s :=
      if n ≠ 4 || off % 4 ≠ 0 || !whole then s.badAccess
      else if 0x440000 ≤ off then s.unmapped off
      else s.busStore .host off (BitVec.ofNat 32 (ofBytesLE b)) aux
    s.logWrite 0 off n reqId
  | 2 =>
    let s := match s.winFind off with
      | none => s.unmapped off
      | some (w, a) =>
        if !s.on (.BRG_WIN_CFG_WR w) || (popBase ≤ a && a < popEnd) then s.refuse 0x264 0x06
        else s.dramStore (a - dramBase) b
    s.logWrite 1 off n reqId
  | _ =>
    s.each (List.range ((off % 4 + n + 3) / 4)) (fun s i =>
      let k := off / 4 + i
      let old := bytesLE 4 (spGet msixWord s.irq.table k).toNat
      let new := (List.range 4).map (fun j =>
        let p := 4 * k + j
        if off ≤ p && p < off + n then (b[p - off]?).getD 0 else (old[j]?).getD 0)
      if k < 256 then s.msixTable k (BitVec.ofNat 32 (ofBytesLE new)) else s)

/-- INBOUND_READ_TIMEOUT: the target has not answered the read of tag `tag` within 20 µs. -/
def State.inboundTimeout (s : State) (tag : Nat) : State :=
  if s.brg.open_.contains tag then
    let s := s.bridge fun x => { x with open_ := x.open_.filter (· != tag) }
    ((s.notify 0x262 0x05).cinc (Ctr.brg 2)).complete tag cplAbort []
  else s

/-- POISONED_TLP: a write of `n` bytes at `off` of BAR `bar` with poison or an ECRC error. -/
def State.poisoned (s : State) (bar off n reqId : Nat) : State :=
  (s.refuse 0x263 0x0E).logWrite (if bar = 2 then 1 else 0) off n reqId

end Sys2Proof.Machine
end

