-- ==== Sys2Proof/Machine/Boot.lean ====
section
/-!
DEFINITION. The boot process, image application, resume, and the ends of an update (R99 to R128, R133, R139, R148,
R457).
-/
namespace Sys2Proof.Machine

/-- Kind that source 0x020 reports for a failure code (R114). -/
def failKind (c : Nat) : Nat :=
  match c with
  | 0x1 | 0xF => 0x05
  | 0x3 | 0x9 | 0xA | 0xC => 0x08
  | 0xD => 0x0D
  | _ => 0x0E

/-- The code of a section that waits for DRAM training; no failure. -/
def waiting : Nat := 0x10

/-- BOOT_MODE; 0b11 is treated as 0b00. -/
def State.bootMode (s : State) : Nat := s.rf .TOP_STRAP_BOOT_MODE % 3

/-! Applying sections (R109 to R113, R147, R148, R242, R268, R315, R370, R373). -/

/-- An address inside a block's registers that an image may write (R111). -/
def State.imageAddr (s : State) (a : Nat) : Bool := imageReg a || (a % 4 = 0 && (s.gatEntry a).isSome)

/-- One word written by the boot process, or by a run-time capsule (`rt`): code 0xA where R111 or R128 ends the
application, as a session insertion does that finds its slots full. -/
def State.imgWord (s : State) (rt : Bool) (a : Nat) (v : Word) : Nat × State :=
  let s := State.busStore { s with wfail := none } (if rt then .ccx else .boot) a v 0
  let bad := match s.wfail with
    | some k => rt || k = 8
    | none => false
  let full := rt && a = Reg.FWL_CMD && fldGet v 0 3 = 3 && s.rf .FWL_CMD_STATUS_RESULT = 3
  (if bad || full then 0xA else 0, s.logWrite 2 a 4 0)

/-- Run the entries at the given offsets in order, up to the first that fails: its code and offset. -/
def State.runAt (s : State) (f : State → Nat → Nat × State) : List Nat → Nat × Nat × State
  | [] => (0, 0, s)
  | o :: l =>
    let r := f s o
    if r.1 = 0 then r.2.runAt f l else (r.1, o, r.2)

/-- A word of an image. -/
def wordAt (img : List Byte) (o : Nat) : Word := BitVec.ofNat 32 (le img o 4)

/-- Entries of 8 bytes as REG_WRITE, in the blocks that `ok` allows. -/
def State.applyRegs (s : State) (rt : Bool) (img : List Byte) (x : Section) (ok : Nat → Bool) : Nat × Nat × State :=
  if x.len % 8 ≠ 0 then (0xA, x.off, s)
  else s.runAt (fun s o =>
    let a := le img o 4
    if s.imageAddr a && ok a then s.imgWord rt a (wordAt img (o + 4)) else (0xA, s)) ((List.range (x.len / 8)).map (fun i => x.off + 8 * i))

/-- REG_MODIFY. -/
def State.applyModify (s : State) (rt : Bool) (img : List Byte) (x : Section) : Nat × Nat × State :=
  if x.len % 12 ≠ 0 then (0xA, x.off, s)
  else s.runAt (fun s o =>
    let a := le img o 4
    if s.imageAddr a then
      let r := s.busRead .boot a
      let m := wordAt img (o + 4)
      r.2.2.imgWord rt a ((r.2.1 &&& ~~~m) ||| (wordAt img (o + 8) &&& m))
    else (0xA, s)) ((List.range (x.len / 12)).map (fun i => x.off + 12 * i))

/-- MEM_LOAD (R111, R112). DEST is judged whatever the data's length. -/
def State.applyLoad (s : State) (rt : Bool) (img : List Byte) (x : Section) : Nat × Nat × State :=
  let d := le img x.off 8
  let n := x.len - 8
  let m := max n 4
  let words := (List.range (n / 4)).map (fun i => x.off + 8 + 4 * i)
  let put (s : State) : Nat × Nat × State := s.runAt (fun s o => s.imgWord rt (d + (o - x.off - 8)) (wordAt img o)) words
  if x.len < 8 || n % 4 ≠ 0 || d % 4 ≠ 0 || 2 ^ 40 ≤ d then (0xA, x.off, s)
  else if dramBase ≤ d && d < dramEnd then
    match s.dram.cfg, s.boot.train with
    | none, _ => (0xC, x.off, s)
    | some _, some false => (0xC, x.off, s)
    | some _, none => (waiting, x.off, s)
    | some _, some true => if s.regionFree (d - dramBase, m) then put s else (0xA, x.off, s)
  else if (treeBase ≤ d && d + m ≤ treeEnd) || (pantryBase ≤ d && d + m ≤ pantryBase + pantryStage) ||
      (List.range (m / 4)).all (fun i => s.imageAddr (d + 4 * i)) then put s
  else (0xA, x.off, s)

/-- The entries of an INDIRECT section from offset `o` up to `stop`. -/
def indirectAt (img : List Byte) (stop : Nat) : Nat → Nat → Option (List Nat)
  | 0, _ => none
  | fuel + 1, o =>
    if o = stop then some []
    else
      let next := o + 8 + 4 * le img (o + 2) 2
      if o + 8 > stop || next > stop then none else (indirectAt img stop fuel next).map (fun l => o :: l)

/-- One INDIRECT entry: `words` words for entry `i` of table `t`, as bytes. -/
def State.applyEntry (s : State) (rt : Bool) (t words i : Nat) (b : List Byte) : Nat × State :=
  let no (s : State) : Nat × State := (0xA, { s with wfail := none })
  if t = 0x0C00 then
    if words = 1 && i < 4096 then s.imgWord rt (Reg.CLS_VID_ZONE i) (wordAt b 0) else no s
  else if t = 0x0E00 then
    if words = 4 && i = 0 then
      let r := s.fdbInsertEntry (FdbEntry.ofBytes b)
      if r.1 = 2 then no r.2.2 else (0, r.2.2)
    else no s
  else if t = 0x0E01 then
    if words = 2 && i < 4096 then
      let r := s.imgWord rt (Reg.SWC_VLAN_MEMBER i) (wordAt b 0)
      if r.1 = 0 then r.2.imgWord rt (Reg.SWC_VLAN_UNTAG i) (wordAt b 4) else r
    else no s
  else if 0x0F00 ≤ t && t ≤ 0x0F03 then
    let k := t - 0x0F00
    if words = stmWords k && i < stmIndices k && stmValid k b then (0, s.stmStore k i b) else no s.stmRefused
  else if 0x1100 ≤ t && t ≤ 0x1103 then
    let k := t - 0x1100
    let sealed := !rt && k = 3 && s.cph.loaded
    let s := if i < cphIndices k then s.cphTouch k i else s
    if words = cphWords k && i < cphIndices k && s.cphValid k i b && (sealed || !s.cphBreaks k i b) then
      (0, if sealed then s else s.cphStore k i b false)
    else no s.cphRefused
  else no s

/-- INDIRECT. -/
def State.applyIndirect (s : State) (rt : Bool) (img : List Byte) (x : Section) : Nat × Nat × State :=
  match indirectAt img (x.off + x.len) (x.len / 8 + 1) x.off with
  | none => (0xA, x.off, s)
  | some l => s.runAt (fun s o =>
      let n := le img (o + 2) 2
      s.applyEntry rt (le img o 2) n (le img (o + 4) 4) ((img.drop (o + 8)).take (4 * n))) l

/-- The records of a KEYS payload. -/
def keysOf (p : List Byte) : List KeyRec := keyRecords p (p.length / 8 + 1) 0

/-- The key-encryption key that a record names (R139, R147). -/
def State.kekOf (s : State) (k : Nat) : Option Nat := if k = 0 then s.sec.unitKek else if k = 1 then s.sec.classKek else none

/-- A record of a KEYS section passes (R148). -/
def State.keyPasses (s : State) (k : KeyRec) : Bool := k.formOk && (k.open s.kekOf).isSome

/-- Write the records of a section that has passed into their slots, in order (R146, R148): code 0xA and the record's
offset where a run-time capsule's write is refused. -/
def State.keysLoad (s : State) (rt : Bool) (at_ : Nat) : List KeyRec → Nat × Nat × State
  | [] => (0, at_, s)
  | k :: l =>
    let w := s.slotWrite k.slot k.alg k.usage k.lock (k.kek = 1) ((k.open s.kekOf).getD 0)
    if w.1 || !rt then w.2.keysLoad rt at_ l else (0xA, at_ + k.off, w.2)

/-- KEYS at image offset `at_` (R146, R148): no record is loaded before every one has passed. -/
def State.applyKeys (s : State) (rt : Bool) (at_ : Nat) (p : List Byte) : Nat × Nat × State :=
  match (keysOf p).find? (fun k => !s.keyPasses k) with
  | some k => (0xA, at_ + k.off, s.notify 0x02C 0x0E)
  | none => s.keysLoad rt at_ (keysOf p)

/-- Forget the damage of every word of a memory. -/
def State.eccForget (s : State) (m : EccMem) : State := { s with ecc := spKeep s.ecc (fun k => k % 32 ≠ m.ctorIdx) }

/-- RULESET (R242, R244): the bank image replaces bank `b`. -/
def State.applyRules (s : State) (rt : Bool) (b : Nat) (p : List Byte) : Nat × State :=
  match ruleSection p with
  | none => (0xA, s)
  | some ws =>
    if 1 < b || (rt && !s.treeWritable (bankBase b)) then (0xA, s)
    else
      let s := { s with cls := { s.cls with tree := spKeep s.cls.tree (fun w => w / 131072 ≠ b) }
                        ecc := spKeep s.ecc (fun k => k % 32 ≠ EccMem.tree.ctorIdx || k / 32 / 131072 ≠ b) }
      (0, s.each ws.zipIdx (fun s e => s.treePut (bankBase b + e.2) e.1))

/-- RAKE_PROG (R222, R223). -/
def State.applyProg (s : State) (p : List Byte) : Nat × State :=
  match rakeSection p with
  | none => (0xA, s)
  | some (es, ws) =>
    let s := (s.eccForget .store).eccForget .entry
    (0, { s with rak := { s.rak with
            store := ws.zipIdx.foldl (fun m e => spSet (fun _ => 0) m e.2 e.1) []
            entries := es.zipIdx.foldl (fun m e => spSet (fun _ => none) m e.2 e.1) [] } })

/-- DRAM (R113): the port is initialised, its mode registers are written, and its training begins. In a resume the port is
up already. -/
def State.applyDram (s : State) (resume : Bool) (p : List Byte) : Nat × State :=
  match dramSection p with
  | none => (0xA, s)
  | some c =>
    if resume then (0, { s with dram := { s.dram with cfg := some c } })
    else
      let s : State := { s with dram := { s.dram with cfg := some c, up := false }, boot := { s.boot with train := none } }
      (0, s.each c.modes (fun s m => s.emit (.dramMode m.1 m.2)))

/-- One section (R109): code 0, a failure code or `waiting`, with the offset of the refused entry. -/
def State.applySection (s : State) (rt resume : Bool) (img : List Byte) (x : Section) : Nat × Nat × State :=
  let p := (img.drop x.off).take x.len
  let whole (r : Nat × State) : Nat × Nat × State := (r.1, x.off, r.2)
  match x.ty with
  | 0x1 => s.applyRegs rt img x (fun _ => true)
  | 0x2 => s.applyModify rt img x
  | 0x3 => s.applyLoad rt img x
  | 0x4 => s.applyIndirect rt img x
  | 0x5 => whole (s.applyDram resume p)
  | 0x6 => whole (s.applyProg p)
  | 0x7 => whole (s.applyRules rt x.inst p)
  | 0x8 => s.applyKeys rt x.off p
  | 0x9 => whole (if trustOk p then (0, s.manage fun m => { m with trust := p }) else (0xA, s))
  | 0xA => s.applyRegs rt img x (inBlock 7)
  | 0xB => s.applyRegs rt img x (inBlock 8)
  | 0xC => s.applyRegs rt img x (inBlock 6)
  | 0xD => s.applyRegs rt img x (inBlock 5)
  | _ => (0, x.off, s)

/-- Sections in image order, up to the first that fails or waits: its code, the offset of the refused entry, and how
many were applied. -/
def State.applyAll (s : State) (rt resume : Bool) (img : List Byte) : List Section → Nat × Nat × Nat × State
  | [] => (0, 0, 0, s)
  | x :: l =>
    let r := s.applySection rt resume img x
    if r.1 = 0 then
      let q := r.2.2.applyAll rt resume img l
      (q.1, q.2.1, q.2.2.1 + 1, q.2.2.2)
    else (r.1, r.2.1, 0, r.2.2)

/-! Sources (R103, R114, R115, R118 to R121). -/

/-- The code of a source, in BOOT_STATUS. -/
def State.setCode (s : State) (src c : Nat) : State :=
  match src with
  | 1 => s.wf .BOOT_STATUS_A_CODE c
  | 2 => s.wf .BOOT_STATUS_B_CODE c
  | 3 => s.wf .BOOT_STATUS_PCIE_CODE c
  | _ => s.wf .BOOT_STATUS_RESUME_CODE c

/-- A pass over a PCIe source begins: 1 or 2; 0 ends it. -/
def State.stagePass (s : State) (n : Nat) : State := s.stageClear.wf .BOOT_STAGE_STATUS_PASS n

/-- A PCIe source is opened. -/
def State.pcieOpen (s : State) (stage : BootStage) : State :=
  (s.booting fun b => { b with load := some ⟨3, [], false, 0⟩, stage := stage }).stagePass 1

/-- The failed state of R118 in which no image is loaded (R457). -/
def State.bootDead (s : State) : State :=
  ((s.wf .TOP_STATE_BOOT_PHASE 0xF).notify 0x021 0x0E).booting fun b => { b with stage := .failed, load := none }

/-- R118: no source loads. An image over PCIe is still taken where BOOT_MODE allows one. -/
def State.bootFailed (s : State) : State := if s.bootMode = 0 then s.bootDead else s.bootDead.pcieOpen .failed

/-- R103, R114: a source has failed: its code, the report, and the end of a trial that it was. -/
def State.sourceRecord (s : State) (src c : Nat) : State :=
  let s := (s.setCode src c).notify 0x020 (failKind c)
  if s.boot.trial && src = s.boot.pref + 1 then
    ((s.booting fun b => { b with pref := 1 - b.pref, trial := false }).recWrite).notify 0x024 0x0E
  else s

/-- Bytes of a slot. -/
def State.slotBytes (s : State) (src : Nat) : List Byte := if src = 1 then s.boot.flashA else s.boot.flashB

/-- R103: the next of the sources that are left. -/
def State.nextSource (s : State) : List Nat → State
  | [] => s.bootFailed
  | src :: rest =>
    let s := s.booting fun b => { b with rest := rest }
    if src = 3 then s.pcieOpen .pass1
    else
      let c := if src = 1 then s.boot.hdrA else s.boot.hdrB
      if c = 0 then
        let b := s.slotBytes src
        (s.flashRead (slotMode b) (src - 1) (le b 8 4)).booting fun x => { x with load := some ⟨src, b, true, 0⟩, stage := .pass1 }
      else (s.sourceRecord src c).nextSource rest

/-- The source in use fails with code `c`; in pass 2 a configuration clear follows (R115). -/
def State.sourceFail (s : State) (c : Nat) : State :=
  match s.boot.load with
  | none => s
  | some l =>
    let s := if s.boot.stage = .pass2 then s.configClear else s
    let s := ((s.stagePass 0).sourceRecord l.source c).booting fun b => { b with load := none, train := none }
    s.nextSource s.boot.rest

/-- The labels of R139: "CGV-ID", "CGV-WRAP-U" and "CGV-WRAP-C". -/
def labelId : List Byte := [0x43, 0x47, 0x56, 0x2D, 0x49, 0x44]
def labelUnit : List Byte := [0x43, 0x47, 0x56, 0x2D, 0x57, 0x52, 0x41, 0x50, 0x2D, 0x55]
def labelClass : List Byte := [0x43, 0x47, 0x56, 0x2D, 0x57, 0x52, 0x41, 0x50, 0x2D, 0x43]

/-- R139: the keys derived from the DUK and the class secret; RETURNED derives none. -/
def State.deriveKeys (s : State) : State :=
  if s.sec.life = 3 then s
  else s.secure fun x => { x with
      ident := some (Config.kdfScalar x.duk labelId)
      unitKek := some (Config.kdf x.duk labelUnit)
      classKek := some (Config.kdf x.secret labelClass) }

/-- The per-boot values are drawn: the hash key of the session table and the FDB, and the Strongroom's IV prefix (R150,
R245, R371). -/
def State.hashKeyDraw (s : State) : State :=
  let d := s.generate
  let p := d.2.generate
  { p.2 with cls := { p.2.cls with hashDraw := d.1 }, stg := { p.2.stg with pfx := (Config.random p.1).toNat } }

/-- BOOT_START (R99, R103, R139, R149, R150, R155, R457): steps 4 to 6. `comp1` and `comp2` are the injections that fail
the start-up test and its repetition, `trngBad` the runs of the health tests that fail, `fuseBad` tells that a fuse word
is uncorrectable (the start goes on: log entry 97), `flash` that the flash responds, and `sigA` and `sigB` that the
signature of each slot's header is valid. -/
def State.bootStart (s : State) (comp1 comp2 : Option Nat) (trngBad : Nat) (fuseBad readA readB sigA sigB : Bool) : State :=
  if s.boot.stage ≠ .start || s.pwr.wake ≠ .none || !s.awake || s.pwr.tempHold || s.pwr.clockHold then s
  else
    let s := (s.wf .TOP_STATE_BOOT_PHASE 1).complex fun x => { x with text := some Config.fwVersion }
    let fail (s : State) (i : Nat) : State :=
      ((s.wf .CCX_TEST_STATUS_LAST_INJ i).wf .CCX_INT_TEST_FAIL 1).notify 0x051 0x13
    let s := match comp1 with
      | none => s
      | some i => match comp2 with
        | none => fail s i
        | some j => fail (fail s i) j
    if comp1.isSome && comp2.isSome then s.bootDead
    else
      let s := s.wf .CCX_TEST_STATUS_START_PASS 1
      let s := if fuseBad then s.notify 0x029 0x02 else s
      let s := s.each (List.range (min trngBad 4)) (fun s _ => s.notify 0x028 0x0E)
      if 4 ≤ trngBad then s.bootFailed
      else
        let s := s.reseed.hashKeyDraw.deriveKeys
        let s := s.wf .TOP_STATE_BOOT_PHASE 2
        if s.bootMode = 2 then s.nextSource [3]
        else
          let code (b : List Byte) (read sig : Bool) : Nat := if read then s.hdrCode (flashTake b 352) false sig else 0x1
          let s := ((s.recRead (readA || readB)).flashRead s.romMode 0 352).flashRead s.romMode 1 352
          let s : State := s.booting fun b => { b with hdrA := code b.flashA readA sigA, hdrB := code b.flashB readB sigB }
          let s : State :=
            if !s.boot.trial then s
            else if s.boot.tries = 0 then
              ((s.booting fun b => { b with pref := 1 - b.pref, trial := false }).recWrite).notify 0x024 0x0E
            else (s.booting fun b => { b with tries := b.tries - 1 }).recWrite
          s.nextSource ([s.boot.pref + 1, 2 - s.boot.pref] ++ (if s.bootMode = 1 then [3] else []))

/-- R133: the constraints of the certified configuration for an image. -/
def State.certOk (s : State) (img : List Byte) : Bool :=
  s.sec.life = 2 && s.bootMode = 0 && (le img 29 1 = 1 || le img 29 1 = 2) && bitsAt (s.rf .SEC_ACCESS_HOST_WR) 3 4 = 0 &&
  !s.on .SEC_ACCESS_HOST_RESET && !s.on .SEC_ACCESS_HOST_PWR && !s.on .SEC_STATUS_DEBUG &&
  ((sections img).getD []).all (fun x => x.ty ≠ 8 ||
    (keysOf ((img.drop x.off).take x.len)).all (fun k => k.kek ≤ 1 && k.slot ≤ 254))

/-- A flag of an image's FLAGS. -/
def imgFlag (img : List Byte) (i : Nat) : Bool := bitAt (le img 18 2) i

/-- An image that claims the certified configuration breaks a constraint of R133. -/
def State.certBroken (s : State) (img : List Byte) : Bool := imgFlag img 1 && !s.certOk img

/-- R111, R117, R133: pass 2 applies the sections that it can. The certified constraints are tested before the first
section and after the last one applied, each time on the registers as they stand (DESIGN CHOICE, log entry 139). -/
def State.pass2Go (s : State) : State :=
  let s := s.wf .TOP_STATE_BOOT_PHASE 4
  match s.boot.load with
  | none => s
  | some l =>
    match sections l.bytes with
    | none => s.sourceFail 0x9
    | some x =>
      if !structureOk l.bytes x true then s.sourceFail 0x9
      else if s.certBroken l.bytes then s.sourceFail 0xD
      else
        let r := s.applyAll false false l.bytes (x.drop l.pos)
        if r.1 = 0 || r.1 = waiting then
          if r.2.2.2.certBroken l.bytes then r.2.2.2.sourceFail 0xD
          else r.2.2.2.booting fun b => { b with load := some { l with pos := l.pos + r.2.2.1 } }
        else r.2.2.2.sourceFail r.1

/-- PASS1_COMPLETE (R110, R117): `readOk`, no read timed out; `hashOk`, the hash is PAYLOAD_HASH. Pass 2 of a slot begins
at once, so BOOT_PHASE reads 0x3 after this command for a PCIe source alone (log entry 98). -/
def State.pass1Done (s : State) (readOk hashOk : Bool) : State :=
  match s.boot.load with
  | none => s
  | some l =>
    if s.boot.stage ≠ .pass1 then s
    else if l.source = 3 && (!l.checked || l.bytes.length < le l.bytes 8 4) then s
    else if !readOk then s.sourceFail 0x1
    else if !hashOk then s.sourceFail 0x8
    else
      let ok := match sections l.bytes with | some x => structureOk l.bytes x true | none => false
      if !ok then s.sourceFail 0x9
      else
        let s := (s.wf .TOP_STATE_BOOT_PHASE 3).booting fun b => { b with stage := .pass2, sealed0 := s.cph.tab, train := none }
        let s := s.collector fun x => { x with misfit := false }
        if l.source = 3 then (s.booting fun b => { b with load := some ⟨3, [], false, 0⟩ }).stagePass 2
        else State.pass2Go (s.flashRead (slotMode l.bytes) (l.source - 1) (le l.bytes 8 4))

/-- DRAM_TRAINING_DONE (R113). -/
def State.trained (s : State) (ok : Bool) : State :=
  if s.boot.stage ≠ .pass2 || s.dram.cfg.isNone || s.boot.train.isSome then s
  else if ok then
    let s := s.refreshEntry s.dram.selfRefresh
    let s := { s with dram := { s.dram with up := true, selfRefresh := false }, boot := { s.boot with train := some true } }
    s.pass2Go
  else ((s.notify 0x2A2 0x08).booting fun b => { b with train := some false }).sourceFail 0xC

/-- PCIE_IMAGE_TIMEOUT (R121). -/
def State.pcieTimeout (s : State) : State :=
  match s.boot.load with
  | some l =>
    if l.source = 3 && (s.boot.stage = .pass1 || s.boot.stage = .pass2) && s.boot.chunk.isNone then s.sourceFail 0xF else s
  | none => s

/-- A chunk of a PCIe source is taken: the header is checked once it is whole, and pass 2 applies a whole image. -/
def State.pcieChunk (s : State) (l : Load) (b : List Byte) (sigOk : Bool) : State :=
  let l := { l with bytes := l.bytes ++ b }
  let s := s.booting fun x => { x with load := some l, stage := if x.stage = .failed then .pass1 else x.stage }
  if !l.checked && 352 ≤ l.bytes.length then
    let c := s.hdrCode l.bytes false sigOk
    if c ≠ 0 then s.sourceFail c
    else
      let s := s.booting fun x => { x with load := some { l with checked := true } }
      if s.boot.stage = .pass2 && le l.bytes 8 4 ≤ l.bytes.length then s.pass2Go else s
  else if l.checked && s.boot.stage = .pass2 && le l.bytes 8 4 ≤ l.bytes.length then s.pass2Go
  else s

/-- STAGE_CHUNK_TAKEN (R119, R120, R127, R128): a chunk out of order is dropped, and ORDER_ERR says so. -/
def State.chunkTaken (s : State) (inOrder sigOk : Bool) : State :=
  match s.boot.chunk with
  | none => s
  | some n =>
    let b := s.stageBytes n
    let t := (s.booting fun x => { x with chunk := none }).wf .BOOT_STAGE_STATUS_READY 1
    if !inOrder then t.wf .BOOT_STAGE_STATUS_ORDER_ERR 1 else
    let s := t.wf .BOOT_STAGE_STATUS_NEXT (s.rf .BOOT_STAGE_STATUS_NEXT + n)
    if s.updState = 2 then
      match s.boot.upd with
      | some u =>
        let s := s.booting fun x => { x with upd := some { u with len := u.len + n } }
        if u.runtime then s.dramWrite (s.stagingRegion.1 + u.len) b
        else (s.setSlotB (s.slotB ++ b)).emit (.flashWrite (1 - s.boot.slot) [u.len, n])
      | none => s
    else match s.boot.load with
      | some l => if l.source = 3 then s.pcieChunk l b sigOk else s
      | none => s

/-! Commit (R122 to R124, R133). -/

/-- The key of slot 255 is drawn (R124, R125). -/
def State.resumeKey (s : State) : State :=
  let d := s.generateKey
  d.2.slotFill 255 2 64 false false d.1

/-- The GMAC of each of `n` parts of the resume region is a bulk job under slot 255 (R124, R125, R352). -/
def State.resumeTag (s : State) (n : Nat) : State := s.each (List.range n) (fun s _ => s.service 3 (some 255))

/-- The resume key may tag or verify `n` parts: slot 255 holds a key for the use, and a Pan is in service (R124, R125, R145,
R368). -/
def State.resumeUse (s : State) (n : Nat) : Bool × State :=
  let k := s.sealedRead.keyUse 255 6
  if k.1 && s.anyPan then (true, k.2.resumeTag n) else (false, k.2)

/-- R124: the committed image goes into the resume region. -/
def State.resumeKeep (s : State) (img : List Byte) : State :=
  let n := le img 8 4
  let r := s.resumeRegion
  if imgFlag img 2 && n ≤ r.2 && s.dram.up then
    ((s.resumeKey.resumeTag 1).dramWrite r.1 (img.take n)).booting fun b => { b with parts := [(0, n)] }
  else s.booting fun b => { b with parts := [] }

/-- Slot that source `src` stands for; a resume runs what ran. -/
def State.commitSlot (s : State) (src : Nat) : Nat :=
  match src with
  | 1 => 0
  | 2 => 1
  | 3 => 2
  | _ => s.boot.slot

/-- R122, R123: what commit records of image `img` of source `src`. -/
def State.commitMark (s : State) (src : Nat) (img : List Byte) : State :=
  let slot := s.commitSlot src
  let s := ((s.wf .TOP_STATE_COMMITTED 1).wf .TOP_STATE_BOOT_PHASE 5).wf .BOOT_STATUS_SOURCE src
  let s := (s.wf .BOOT_VERSION_RUN (le img 24 4)).wf .BOOT_TIME_US ((s.cycles - s.boot.born) / 1000)
  let s := (s.setRegBytes (Reg.BOOT_IMAGE_ID 0) 4 ((img.drop 64).take 16)).wf .SEC_STATUS_CERT (b2n (imgFlag img 1))
  State.recShow (({ s with cph := { s.cph with loaded := true } } : State).booting fun b => { b with
      stage := .committed, slot := slot, load := none, rest := [], header := img.take 352
      chain := List.replicate 48 0, partialRun := false })

/-- R122, R239: bank A is the active bank, EPOCH is 0, and no swap of pass 2 goes on. -/
def State.bankCommit (s : State) : State :=
  (((s.wf .CLS_EPOCH_STATUS_ACTIVE 0).wf .CLS_EPOCH_STATUS_EPOCH 0).wf .CLS_EPOCH_STATUS_OLD_REFS 0).wf
    .CLS_EPOCH_STATUS_SWAP_PENDING 0 |>.wf .CLS_EPOCH_STATUS_OLD_FREE 1

/-- The MKA member number is drawn where the sealed area holds none (R460, log entry 152). -/
def State.mkaStart (s : State) : State :=
  if s.ccx.mkaMember = 0 then let d := s.generate; d.2.complex fun x => { x with mkaMember := d.1 + 1 } else s

/-- What the blocks do at commit. -/
def State.commitStart (s : State) (src : Nat) (img : List Byte) : State :=
  let s := (s.stagePass 0).bankCommit
  let s := if src = 4 then s else s.resumeKeep img
  let s := (((s.pinCommit).ckptTake).ckptStart.mkaStart.mboxCommit).dirCheck (src ≠ 4 && s.stg.dirAt.isNone)
  let s := s.counterDraw.pairStart
  if imgFlag img 0 && !s.paired then s.powerTo pwrActive else s

/-- R122, R123: image `img` of source `src` commits. -/
def State.commitImage (s : State) (src : Nat) (img : List Byte) : State := (s.commitMark src img).commitStart src img

/-- IMAGE_COMMIT: the end of pass 2. A fault of kind 0x08 that a block reported meanwhile fails the image (R111). -/
def State.imageCommit (s : State) (readOk hashOk : Bool) : State :=
  match s.boot.load with
  | none => s
  | some l =>
    let n := match sections l.bytes with | some x => x.length | none => 0
    if s.boot.stage ≠ .pass2 || l.bytes.length < le l.bytes 8 4 || n = 0 || l.pos < n || (s.dram.cfg.isSome && s.boot.train.isNone) then s
    else if s.flt.misfit then s.sourceFail 0xA
    else if !readOk then s.sourceFail 0x1
    else if !hashOk then s.sourceFail 0xB
    else if s.paired && s.dram.cfg.isNone then s.sourceFail 0xC
    else if s.certBroken l.bytes then s.sourceFail 0xD
    else s.commitImage l.source l.bytes

/-! Resume (R95, R125, R126, R150). -/

/-- A resume fails with code `c`: the unit boots from flash, and no configuration is in force any more. -/
def State.resumeFail (s : State) (c : Nat) : State :=
  let s := ((s.wf .BOOT_STATUS_RESUME_CODE c).wf .SEC_STATUS_CERT 0).notify 0x025 0x0E
  { s with dram := { s.dram with cfg := none, up := false, selfRefresh := false }
           boot := { s.boot with stage := .start, load := none, train := none, parts := [] } }

/-- A part of the resume region. -/
def State.partBytes (s : State) (p : Nat × Nat) : List Byte := s.dramGets (s.resumeRegion.1 + p.1) p.2

/-- Apply the parts of the resume region in order; code 0 where all are applied. -/
def State.applyParts (s : State) : List (List Byte) → Nat × State
  | [] => (0, s)
  | b :: l =>
    match sections b with
    | none => (0x8, s)
    | some x =>
      let r := s.applyAll false true b x
      if r.1 = 0 then r.2.2.2.applyParts l else (0x8, r.2.2.2)

/-- CAPSULE_CHAIN after a capsule (R141). -/
def chainNext (c capsule : List Byte) : List Byte :=
  (List.range 48).map (Config.hash384 (c ++ (capsule.drop 80).take 48))


/-- R95: the wake from SLEEP-R is through: STANDBY is reached, the failed attempts are reported (R87), the DRAM has left
self-refresh with its stored training, and the control complex runs from the Larder. The keys of R139 are derived unless the
device has been zeroized (R154). `ddrLate`: the DRAM does not leave self-refresh in time (R483). -/
def State.wokenUp (s : State) (ddrLate : Bool) : State :=
  let s := (s.power fun p => { p with wake := .none, asleep := 0, wakePending := false }).powerTo pwrStandby
  let s := s.reportFails.virtualStart
  let s := if ddrLate && s.dram.selfRefresh then s.notify 0x2A6 0x05 else s
  let s := s.reseed.hashKeyDraw
  let s := if s.on .SEC_STATUS_ZEROIZED then s else s.deriveKeys
  { s with
    ccx := { s.ccx with live := s.ccx.buf0.getD s.ccx.live, text := some Config.fwVersion }
    dram := { s.dram with up := s.dram.cfg.isSome, selfRefresh := false }
    boot := { s.boot with stage := .resume, train := some true, sealed0 := s.cph.tab } }

/-- R125, R126, R133: the configuration comes back from the resume region; `tagOk`, every tag of it verifies under the key of
slot 255. The control record is read once the resume has committed, unless BOOT_MODE bars it (R98, R103, log entry 99). -/
def State.resume (s : State) (tagOk : Bool) : State :=
  match s.boot.parts.map s.partBytes with
  | [] => s.resumeFail 0xE
  | img :: caps =>
    if !s.dram.up then s.resumeFail 0xE
    else
    let k := s.resumeUse s.boot.parts.length
    let s := k.2
    if !tagOk || !k.1 then s.resumeFail 0x8
    else if le img 24 4 < s.sec.floor then s.resumeFail 0x6
    else if s.certBroken img then s.resumeFail 0xD
    else
      let r := s.applyParts (img :: caps)
      if r.1 ≠ 0 then r.2.configClear.resumeFail 0x8
      else if r.2.certBroken img then r.2.configClear.resumeFail 0xD
      else
        let s := r.2.commitImage 4 img
        let s := if s.bootMode = 2 then s else s.recRead true
        (s.booting fun b => { b with retag := true, chain := caps.foldl chainNext b.chain }).wf .PWR_STATUS_BUSY 1

/-- INTERNAL_READY (R95). -/
def State.internalReady (s : State) (tagOk ddrLate : Bool) : State :=
  if s.pwr.wake = .restore then (s.wokenUp ddrLate).resume tagOk else s


/-- RESUME_RETAG_DONE (R125): a halted DRBG draws no key, and the re-tagging waits for it (R150). -/
def State.retagDone (s : State) : State :=
  if s.boot.retag && !s.on .SEC_STATUS_DRBG_HALT then ((s.resumeKey.resumeTag s.boot.parts.length).booting fun b => { b with retag := false }).wf .PWR_STATUS_BUSY 0 else s

/-! The ends of an update (R127, R128). -/

/-- The capsule in the staging region. -/
def State.capsule (s : State) (u : Upd) : List Byte :=
  if u.runtime then s.dramGets s.stagingRegion.1 u.len else flashTake s.slotB u.len

/-- A write that R8 would hold back, judged against what the LK fields hold now. -/
def State.lkReach (s : State) (a : Nat) (v : Word) : Bool :=
  match regRowAt a with
  | some r => (r.next true (s.rword a) v).2
  | none => false

/-- The Pantry in use by the gateway program of channel `c`: its context, its program and its filter table (R385, R386). -/
def State.pantryUse (s : State) (c : Nat) : List (Nat × Nat) :=
  [(512 * c, 512), (s.ctx c 68 4, 8 * s.ctx c 72 2), (s.ctx c 76 4, 16 * s.ctx c 80 2)]

/-- A gateway program runs on channel `c`: the engine serves it (R386, R393). -/
def State.progRuns (s : State) (c : Nat) : Bool := s.ctxValid c && !s.on (.GWE_CH_STATUS_STOPPED c)

/-- An entry of a run-time capsule that its checks at END reject (R128). -/
def State.capsuleBad (s : State) (img : List Byte) (x : Section) : Bool :=
  match x.ty with
  | 0x1 | 0xB | 0xD => (List.range (x.len / 8)).any (fun i => s.lkReach (le img (x.off + 8 * i) 4) (wordAt img (x.off + 8 * i + 4)))
  | 0x2 => (List.range (x.len / 12)).any (fun i =>
      let o := x.off + 12 * i
      let m := wordAt img (o + 4)
      let old := (s.busRead .boot (le img o 4)).2.1
      s.lkReach (le img o 4) ((old &&& ~~~m) ||| (wordAt img (o + 8) &&& m)))
  | 0x3 =>
    let d := le img x.off 8
    let active := treeBase + s.rf .CLS_EPOCH_STATUS_ACTIVE * mib
    overlap (d, x.len - 8) (active, mib) ||
    (List.range 64).any (fun c => s.progRuns c && (s.pantryUse c).any (fun r => overlap (d, x.len - 8) (pantryBase + r.1, r.2))) ||
    (List.range ((x.len - 8) / 4)).any (fun i => s.lkReach (d + 4 * i) (wordAt img (x.off + 8 + 4 * i)))
  | 0x7 => !s.treeWritable (bankBase x.inst)
  | _ => false

/-- First failure that END finds, as a code of R114; 0 none. A capsule of which fewer than IMAGE_SIZE bytes came fails with
0x2, a case that R114's table does not name (DESIGN CHOICE, log entry 137). -/
def State.verifyCode (s : State) (u : Upd) (readOk hashOk sigOk : Bool) : Nat :=
  let b := s.capsule u
  let h := s.hdrCode b u.runtime sigOk
  if !readOk then 0x1
  else if h ≠ 0 then h
  else if b.length < le b 8 4 then 0x2
  else if !hashOk then 0x8
  else match sections b with
    | none => 0x9
    | some x =>
      if !structureOk b x (!u.runtime) then 0x9
      else if !u.runtime then 0
      else if (b.drop 224).take 16 != s.imageId then 0x7
      else if !x.all (fun y => runtimeType y.ty || !knownType y.ty) then 0x9
      else if x.any (s.capsuleBad b) then 0xA
      else 0

/-- The reads by which END verifies the slot of an image capsule, as steps 6 and 7 of R99 do (R102, R127): the payload is
read in the mode of a verified header alone. -/
def State.verifyRead (s : State) (u : Upd) (sigOk : Bool) : State :=
  if u.runtime then s
  else
    let b := s.capsule u
    let slot := 1 - s.boot.slot
    let s := s.flashRead s.romMode slot 352
    if s.hdrCode b false sigOk = 0 then s.flashRead (slotMode b) slot (le b 8 4) else s

/-- UPDATE_VERIFY_DONE. -/
def State.verifyDone (s : State) (readOk hashOk sigOk : Bool) : State :=
  match s.boot.upd with
  | none => s
  | some u =>
    if s.updState ≠ 3 then s
    else
      let c := s.verifyCode u readOk hashOk sigOk
      let s := s.verifyRead u sigOk
      if c = 0 then s.setUpd 4 0 false else ((s.setUpd 7 c false).notify 0x023 0x0E).booting fun b => { b with upd := none }

/-- R124: an applied capsule is appended to the resume region with its tag, or the region is voided: the capsule does not
fit, or slot 255 holds no key for the tag (R145). -/
def State.resumeAppend (s : State) (b : List Byte) : State :=
  match s.boot.parts.getLast? with
  | none => s
  | some p =>
    let at_ := p.1 + p.2
    let n := le b 8 4
    let k := if at_ + n ≤ s.resumeRegion.2 then s.resumeUse 1 else (false, s)
    let s := k.2
    if k.1 then
      (s.dramWrite (s.resumeRegion.1 + at_) (b.take n)).booting fun x => { x with parts := x.parts ++ [(at_, n)] }
    else s.booting fun x => { x with parts := [] }

/-- The sections of a run-time capsule applied in order (R128): the code, the offset of the refused entry and what stands
then. `refused`: the section whose first entry fails to take effect for a cause outside the model (log entry 129). -/
def State.applyUpTo (s : State) (b : List Byte) (refused : Option Nat) : Nat × Nat × State :=
  let l := (sections b).getD []
  let r := s.applyAll true false b (match refused with | some k => l.take k | none => l)
  match refused.bind (fun k => l[k]?) with
  | some x => if r.1 = 0 then (0xA, x.off, r.2.2.2) else (r.1, r.2.1, r.2.2.2)
  | none => (r.1, r.2.1, r.2.2.2)

/-- RUNTIME_APPLY_DONE (R128): the sections of the staged capsule in order. -/
def State.applyDone (s : State) (refused : Option Nat) : State :=
  match s.boot.upd with
  | none => s
  | some u =>
    if s.updState ≠ 5 || !u.runtime then s
    else
      let b := s.capsule u
      let r := s.applyUpTo b refused
      let s := r.2.2.booting fun x => { x with upd := none }
      if r.1 = 0 then
        (s.resumeAppend b).setUpd 6 0 false |>.booting fun x => { x with chain := chainNext x.chain b }
      else
        ((s.setUpd 7 0xA false).report 0x023 0x0E r.2.1).booting fun x => { x with parts := [], partialRun := true }

end Sys2Proof.Machine
end

