-- ==== Sys2Proof/Machine/Mgt.lean ====
section
/-!
DEFINITION. The management protocol (R506 to R520): sessions, sequence numbers, the queue of requests and what each
request does. What the device sends is computed with the functions of Config; whether what a client sends verifies is
an operand.
-/
namespace Sys2Proof.Machine

/-- MGT counters (R520). -/
def Ctr.mgt (i : Nat) : Nat := Reg.MGT_CFG + 0x400 + 8 * i

/-- Transports (R506): UDP over IPv4, the local EtherType, the PCIe mailbox, and UDP over IPv6. -/
def viaUdp : Nat := 0
def viaEth : Nat := 1
def viaMbox : Nat := 2
def viaUdp6 : Nat := 3

/-- R506: transport `via` is served. Frames reach the firmware only while the data plane forwards; an all-zero IP address is
not served. -/
def State.mgtOpen (s : State) (via : Nat) : Bool :=
  s.committed && !s.blockOff 22 &&
    (if via = viaUdp then s.on .MGT_CFG_UDP_EN && s.fwdEn && s.rword Reg.MGT_IPV4 ≠ 0
     else if via = viaUdp6 then s.on .MGT_CFG_UDP_EN && s.fwdEn && (List.range 4).any (fun i => s.rword (Reg.MGT_IPV6 i) ≠ 0)
     else if via = viaEth then s.on .MGT_CFG_ETH_EN && s.fwdEn
     else s.on .CCX_MBOX_CFG_EN)

/-- The firmware serves transport `via` now: no restart pauses it (R25). -/
def State.mgtRuns (s : State) (via : Nat) : Bool := s.mgtOpen via && !s.on .TOP_STATE_CCX_RESTART

/-- The largest message of a transport (R506). -/
def mgtLimit (via : Nat) : Nat := if via = viaMbox then 16384 else 1400

/-- A message of `n` bytes is longer than its transport allows (R506). -/
def mgtTooLong (via n : Nat) : Bool := mgtLimit via < n

/-- The bytes of a HELLO with a body of `n` bytes, and of a REQUEST with `n` bytes of parameters (R507, R513). -/
def helloSize (n : Nat) : Nat := 24 + n
def requestSize (n : Nat) : Nat := 24 + 4 + n + 16

/-- R466, R506: a message that came by the mailbox leaves the request Hatch, where it waits there (log entry 128). -/
def State.mgtTake (s : State) (via : Nat) : State :=
  if via = viaMbox && s.mgtRuns via then (s.hatTake (s.rf .CCX_MBOX_CFG_REQ_HATCH)).2 else s

/-- R506: a message of the device leaves on its transport: by the response Hatch, or on port 24 in the class of MGT_CFG. -/
def State.mgtPost (s : State) (via addr : Nat) (b : List Byte) : State :=
  if via = viaMbox then (s.hatEnter 22 (s.rf .CCX_MBOX_CFG_RESP_HATCH) b).2
  else s.emit (.mgtMessage via addr (s.rf .MGT_CFG_CLASS) b)

/-- The 24-byte header of a message from the device with a body of `n` bytes (R507). -/
def mgtHead (kind k seq n : Nat) : List Byte :=
  bytesLE 1 1 ++ bytesLE 1 kind ++ bytesLE 2 1 ++ bytesLE 4 k ++ bytesLE 8 seq ++ bytesLE 2 n ++ List.replicate 6 0

/-- Words as bytes. -/
def wordBytes (l : List Word) : List Byte := l.flatMap (fun w => bytesLE 4 w.toNat)

/-- R511: a set-up has failed. -/
def State.authFail (s : State) : State := (s.cinc (Ctr.mgt 2)).wf .MGT_INT_AUTH_FAIL 1

/-- An anchor of the TRUST section (R508): PRIV_MAX and MIN_SERIAL. -/
def State.anchorAt (s : State) (i : Nat) : Option (Nat × Nat) :=
  if i < le s.mgt.trust 0 4 then some (le s.mgt.trust (8 + 104 * i + 1) 1, le s.mgt.trust (8 + 104 * i + 4) 4) else none

/-- R509: the privileges that a credential gives, or none where it is not valid. -/
def State.credential (s : State) (anchor priv serial : Nat) (sigOk : Bool) : Option Nat :=
  match s.anchorAt anchor with
  | some (mx, lo) => if sigOk && lo ≤ serial then some (Nat.land (priv % 256) mx) else none
  | none => none

/-- The lowest session that does not exist. -/
def State.mgtFree (s : State) : Option Nat := (List.range 8).find? (fun k => (s.mgtSess k).isNone)

/-- The NONCE and the EPH of a HELLO_REPLY, with the private key: free bytes while the DRBG is halted, which draws none (R150,
log entry 160). -/
def State.replyKeys (s : State) : (List Byte × List Byte × Nat) × State :=
  if s.on .SEC_STATUS_DRBG_HALT then
    let d := s.draw
    (((List.range 32).map (Config.crypto d.1), (List.range 96).map (fun i => Config.crypto d.1 (32 + i)), 0), d.2)
  else
    let e := s.ephemeral
    ((e.1.1, publicBytes e.1.2, e.1.2), e.2)

/-- Bytes 0 to 183 of the body of HELLO_REPLY (R510). -/
def State.replyHead (s : State) (status k : Nat) (nonce eph : List Byte) : List Byte :=
  bytesLE 4 status ++ bytesLE 4 k ++ nonce ++ eph ++ hash48 s.sec.cert

/-- A HELLO_REPLY with a non-zero STATUS: a set-up that has failed, its signature 0 (R511). -/
def State.helloRefuse (s : State) (via addr status : Nat) : State :=
  let e := s.authFail.replyKeys
  e.2.mgtPost via addr (mgtHead 0x02 0 0 280 ++ e.2.replyHead status 0 e.1.1 e.1.2.1 ++ List.replicate 96 0)

/-- A HELLO_REPLY with STATUS 0 to a HELLO with the body `hello` and the EPH `eph`, signed with identity key `id`: half-open
session `k` with privileges `priv` keeps the shared secret (R510). -/
def State.helloReply (s : State) (via addr k priv id : Nat) (hello eph : List Byte) : State :=
  let e := s.replyKeys
  let z := Config.ecdh e.1.2.2 eph
  let s := e.2.setMgtSess k (some ⟨false, via, addr, priv, 0, 0, 0, [], [], s.cycles, s.cycles, z⟩)
  let h := s.replyHead 0 k e.1.1 e.1.2.1
  let g := s.identitySign id (hello ++ h)
  g.2.mgtPost via addr (mgtHead 0x02 k 0 280 ++ h ++ g.1)

/-- The parts of a HELLO have the lengths of R509 and R510. -/
def helloWhole (nonce eph credential : List Byte) : Bool := nonce.length = 32 && eph.length = 96 && credential.length = 200

/-- MGT_HELLO (R509 to R511): `sigOk`, the credential's signature verifies. -/
def State.mgtHello (s : State) (via addr : Nat) (nonce eph credential : List Byte) (sigOk : Bool) : State :=
  let body := nonce ++ eph ++ credential
  if !s.mgtRuns via then s
  else if mgtTooLong via (helloSize body.length) then s.cinc (Ctr.mgt 4)
  else
    match s.credential (le credential 0 1) (le credential 1 1) (le credential 4 4) (sigOk && helloWhole nonce eph credential) with
    | none => s.helloRefuse via addr 1
    | some p =>
      match s.mgtFree with
      | none => s.helloRefuse via addr 2
      | some k =>
        if s.on .SEC_STATUS_DRBG_HALT then s.helloRefuse via addr 3
        else
          match s.sec.ident with
          | none => s.helloRefuse via addr 4
          | some id => s.helloReply via addr k p id body eph

/-- A half-open session is discarded (R511). -/
def State.mgtDiscard (s : State) (k : Nat) : State := (s.mgtEnd k).authFail

/-- The labels "CGV-MGT-CD" and "CGV-MGT-DC" (R510). -/
def labelCD : List Byte := [0x43, 0x47, 0x56, 0x2D, 0x4D, 0x47, 0x54, 0x2D, 0x43, 0x44]
def labelDC : List Byte := [0x43, 0x47, 0x56, 0x2D, 0x4D, 0x47, 0x54, 0x2D, 0x44, 0x43]

/-- The 36 bytes of one direction of a session with shared secret `z`: the 32 of its key, and its SALT (R510). -/
def mgtDir (z label : List Byte) : List Byte := (List.range 36).map (Config.kdfBytes z label 36)
def mgtKey (z label : List Byte) : Nat := ofBytesLE ((mgtDir z label).take 32)
def mgtSalt (z label : List Byte) : List Byte := (mgtDir z label).drop 32

/-- An encrypted message of the device (R507): the header, the body under AES-256-GCM with the IV SALT ‖ SEQ and the header as
associated data, and the tag. -/
def mgtSealed (key : Nat) (salt : List Byte) (kind k seq : Nat) (body : List Byte) : List Byte :=
  let h := mgtHead kind k seq body.length
  let iv := salt ++ bytesBE 8 seq
  let ct := gcmCrypt key iv body
  h ++ ct ++ gcmTag key iv h ct

/-- One message of session `k` leaves, under the next SEQ of its direction (R512) and the device's key of the session, through
a job of a Pan: none leaves without that key or a Pan in service (R145, R368, R507). -/
def State.mgtSend (s : State) (k kind : Nat) (body : List Byte) : State :=
  match s.mgtSess k with
  | some x =>
    let u := s.keyUse (s.mgtSlot k + 1) 5
    if u.1 && s.anyPan then
      ((u.2.service 2 none).setMgtSess k (some { x with sent := x.sent + 1 })).mgtPost x.via x.addr
        (mgtSealed (spGet (fun _ => 0) s.sec.mat (s.mgtSlot k + 1)) (mgtSalt x.secret labelDC) kind k (x.sent + 1) body)
    else u.2
  | none => s

/-- A RESPONSE (R513), and its body: OPCODE, REQ_ID, STATUS, a reserved byte, DETAIL and the result. -/
def MgtResp.body (r : MgtResp) : List Byte :=
  bytesLE 2 r.opcode ++ bytesLE 2 r.reqId ++ bytesLE 1 r.status ++ [0] ++ bytesLE 2 r.detail ++ wordBytes r.result
def State.sendResp (s : State) (k : Nat) (r : MgtResp) : State := s.mgtSend k 0x11 r.body

/-- MGT_FINISH (R510, R511): `ok`, the client's signature verifies. A session whose keys find their slots locked or in use
(R146) is discarded (log entry 102). -/
def State.mgtFinish (s : State) (k via addr : Nat) (ok : Bool) : State :=
  if !s.mgtRuns via then s
  else
    match s.mgtSess k with
    | some x =>
      if x.up || x.via ≠ via || x.addr ≠ addr then s
      else if !ok then s.mgtDiscard k
      else
        let a := s.slotWrite (s.mgtSlot k) 2 32 false false (mgtKey x.secret labelCD)
        let b := a.2.slotWrite (s.mgtSlot k + 1) 2 32 false false (mgtKey x.secret labelDC)
        if !a.1 || !b.1 then
          let s := if a.1 then b.2.slotErase (s.mgtSlot k) else b.2
          let s := if b.1 then s.slotErase (s.mgtSlot k + 1) else s
          s.mgtDiscard k
        else
        let s := b.2.keyStore k (mgtKey x.secret labelCD + 1)
        let s := (s.setMgtSess k (some { x with up := true, heard := s.cycles })).cinc (Ctr.mgt 1)
        let s := (s.wf .MGT_INT_SESSION_UP 1).wf .MGT_STATUS_SESSIONS (maskSet (s.rf .MGT_STATUS_SESSIONS) k true)
        s.sendResp k ⟨0, 0, 0, x.priv, []⟩
    | none => s

/-- MGT_FINISH_TIMEOUT (R511): no FINISH within 2 s of HELLO_REPLY. -/
def State.finishTimeout (s : State) (k : Nat) : State :=
  match s.mgtSess k with
  | some x => if !x.up && !s.on .TOP_STATE_CCX_RESTART && x.began + 2 * secondCycles ≤ s.cycles then s.mgtDiscard k else s
  | none => s

/-- CERT_REQ (R510): a piece of the device certificate. -/
def State.certReq (s : State) (via addr off : Nat) : State :=
  if s.mgtRuns via then
    let b := (s.sec.cert.drop off).take 1024
    s.mgtPost via addr (mgtHead 0x05 0 0 (4 + b.length) ++ bytesLE 2 off ++ bytesLE 2 s.sec.cert.length ++ b)
  else s

/-! Sequence, acceptance and the queue (R512 to R514). -/

/-- R512: a SEQ may be accepted: above the highest, or one of the 64 values up to it that has not been. -/
def MgtSess.fresh (x : MgtSess) (seq : Nat) : Bool :=
  x.high < seq || (0 < seq && x.high - seq < 64 && !bitAt x.window (x.high - seq))

/-- The highest SEQ and the window once `seq` is accepted. -/
def MgtSess.take (x : MgtSess) (seq : Nat) : MgtSess :=
  if x.high < seq then { x with high := seq, window := (x.window * 2 ^ min 64 (seq - x.high) + 1) % 2 ^ 64 }
  else { x with window := maskSet x.window (x.high - seq) true }

/-- A message of session `k` is verified and its SEQ accepted (R507, R512): true, with the session's window moved. It
comes from the transport and address of the session; its tag is checked under the session's key by a Pan. -/
def State.mgtAccept (s : State) (k via addr seq : Nat) (tagOk : Bool) : Bool × State :=
  if !s.mgtRuns via then (false, s)
  else
    match s.mgtSess k with
    | some x =>
      if !x.up || x.via ≠ via || x.addr ≠ addr then (false, s)
      else
        let r := s.keyUse (s.mgtSlot k) 5
        let t := if r.1 && s.anyPan then r.2.service 2 none else r.2
        if !(r.1 && tagOk && s.anyPan) then (false, t.cinc (Ctr.mgt 7))
        else if !x.fresh seq then (false, t.cinc (Ctr.mgt 3))
        else (true, t.setMgtSess k (some { x.take seq with heard := s.cycles }))
    | none => (false, s)

/-- The operation of the oldest request is begun, or not. -/
def State.setBegun (s : State) (b : Bool) : State := s.manage fun m => { m with begun := b }

/-- A response is built for session `k`: the completion mark, and the last 8 responses kept (R513). -/
def State.mgtAnswer (s : State) (k : Nat) (r : MgtResp) : State :=
  let s := if r.status = 1 then s.cinc (Ctr.mgt 5) else s
  match s.mgtSess k with
  | some x =>
    (s.setMgtSess k (some { x with open_ := x.open_.erase r.reqId, kept := (r :: x.kept).take 8 })).sendResp k r
  | none => s

/-- The oldest request is answered and leaves the queue. -/
def State.mgtPop (s : State) (status detail : Nat) (result : List Word) : State :=
  match s.mgt.queue with
  | r :: rest =>
    (s.manage fun m => { m with queue := rest, begun := false }).mgtAnswer r.session ⟨r.reqId, r.opcode, status, detail, result⟩
  | [] => s

/-- Privilege bit that a command needs (R515); none: no such command. -/
def mgtPriv (op : Nat) : Option Nat :=
  match op with
  | 0x0001 | 0x0010 | 0x0020 | 0x0036 | 0x0050 | 0x0070 => some 0
  | 0x0011 | 0x0012 | 0x0021 => some 1
  | 0x0030 | 0x0031 | 0x0032 | 0x0033 | 0x0034 | 0x0035 => some 2
  | 0x0040 => some 3
  | 0x0051 | 0x0052 | 0x0053 => some 4
  | 0x0060 => some 5
  | 0x0071 | 0x0072 => some 6
  | 0x0080 | 0x0081 | 0x0082 => some 7
  | _ => none

/-- R518: a request with an unknown opcode is answered BAD_OPCODE as it becomes the oldest. -/
def State.mgtSettle : Nat → State → State
  | 0, s => s
  | n + 1, s =>
    match s.mgt.queue with
    | r :: _ => if (mgtPriv r.opcode).isNone then (s.mgtPop 2 0 []).mgtSettle n else s
    | [] => s
  termination_by structural n => n

/-- Answer the oldest request, and settle what follows it. -/
def State.mgtReply (s : State) (status detail : Nat) (result : List Word) : State :=
  (s.mgtPop status detail result).mgtSettle 32

/-- R514: an accepted request joins the queue: in the order of acceptance, those of one cycle by SESSION. -/
def mgtInsert (r : MgtReq) : List MgtReq → List MgtReq
  | [] => [r]
  | h :: t => if h.at_ = r.at_ && r.session < h.session then r :: h :: t else h :: mgtInsert r t

/-- MGT_REQUEST (R506, R512 to R514). -/
def State.mgtRequest (s : State) (k via addr seq : Nat) (tagOk : Bool) (reqId opcode : Nat) (params : List Byte) : State :=
  if !s.mgtRuns via then s
  else if mgtTooLong via (requestSize params.length) then s.cinc (Ctr.mgt 4)
  else
    let a := s.mgtAccept k via addr seq tagOk
    if !a.1 then a.2
    else
      let s := a.2
      match s.mgtSess k with
      | none => s
      | some x =>
        match x.kept.find? (fun r => r.reqId = reqId) with
        | some r => s.sendResp k r
        | none =>
          if x.open_.contains reqId then s
          else if 32 ≤ s.mgt.queue.length then
            (s.cinc (Ctr.mgt 6)).sendResp k ⟨reqId, opcode, 5, 0, []⟩
          else
            let r : MgtReq := ⟨k, x.priv, s.cycles, reqId, opcode, params⟩
            let s := (s.setMgtSess k (some { x with open_ := x.open_ ++ [reqId] })).cinc (Ctr.mgt 0)
            let q := s.mgt.queue
            let q := if s.mgt.begun then q.take 1 ++ mgtInsert r (q.drop 1) else mgtInsert r q
            let s := s.manage fun m => { m with queue := q }
            s.mgtSettle 32

/-- MGT_CLOSE (R519): from the client, or from the device. -/
def State.mgtClose (s : State) (k via addr seq : Nat) (tagOk fromDevice : Bool) : State :=
  if fromDevice then
    match s.mgtSess k with
    | some x => if x.up && s.mgtRuns x.via then (s.mgtSend k 0x1F []).mgtEnd k else s
    | none => s
  else
    let a := s.mgtAccept k via addr seq tagOk
    if a.1 then a.2.mgtEnd k else a.2

/-- SESSION_IDLE_TIMEOUT (R519). -/
def State.mgtIdle (s : State) (k : Nat) : State :=
  match s.mgtSess k with
  | some x => if x.up && !s.on .TOP_STATE_CCX_RESTART && x.heard + s.rf .MGT_SESS_CFG_IDLE_S * secondCycles ≤ s.cycles then s.mgtEnd k else s
  | none => s

/-- R462: once the firmware has resynchronised, every request without a completion mark is answered RESTARTED. -/
def State.mgtRestarted (s : State) : State :=
  s.each (List.range s.mgt.queue.length) fun s _ => s.mgtPop 6 0 []

/-! The commands (R515). -/

/-- The firmware executes the oldest request, which is command `op` with parameters of a length that `len` allows. -/
def State.mgtRun (s : State) (op : Nat) (len : Nat → Bool) (g : State → MgtReq → State) : State :=
  if !s.committed || s.on .TOP_STATE_CCX_RESTART || s.blockOff 22 then s
  else
    match s.mgt.queue with
    | r :: _ =>
      if r.opcode ≠ op then s
      else if !bitAt r.priv ((mgtPriv op).getD 0) then s.mgtReply 1 0 []
      else if !len r.params.length then s.mgtReply 3 0 []
      else g s r
    | [] => s

def State.mgtOk (s : State) (result : List Word) : State := s.mgtReply 0 0 result
def State.mgtBadParam (s : State) : State := s.mgtReply 3 0 []
def State.mgtDenied (s : State) (detail : Nat) : State := s.mgtReply 4 detail []

/-- A write that the firmware makes: the kind it was refused with, none where it took effect. -/
def State.fwWrite (s : State) (a : Nat) (w : Word) (aux : Nat := 0) : Option Nat × State :=
  let s := State.busStore { s with wfail := none } .ccx a w aux
  (s.wfail, s.logWrite 2 a 4 0)

/-- A read that the firmware makes. -/
def State.fwRead (s : State) (a : Nat) : Word × State := (s.busRead .ccx a).2

/-- Reads in order. -/
def State.fwReads (s : State) : List Nat → List Word × State
  | [] => ([], s)
  | a :: l =>
    let r := s.fwRead a
    let t := r.2.fwReads l
    (r.1 :: t.1, t.2)

/-- Answer with the registers at the given addresses. -/
def State.replyRegs (s : State) (l : List Nat) : State :=
  let r := s.fwReads l
  r.2.mgtOk r.1

/-- A command register written for a client: OK, or REFUSED with the detail that `code` gives. -/
def State.replyWrite (s : State) (a : Nat) (w : Word) (aux : Nat) (code : State → Nat → Nat) (ok : State → State) : State :=
  let r := s.fwWrite a w aux
  match r.1 with
  | some k => r.2.mgtDenied (code r.2 k)
  | none => ok r.2

/-- A command word: its key and its fields. -/
def cmdWord (key v : Nat) : Word := BitVec.ofNat 32 (key * 65536 + v)

/-- GET_INFO. -/
def State.getInfo (s : State) : State :=
  s.mgtRun 0x0001 (fun n => n = 0) fun s _ =>
    s.replyRegs ([Reg.TOP_ID, Reg.TOP_REV] ++ (List.range 4).map Reg.SEC_UID ++ (List.range 4).map Reg.BOOT_IMAGE_ID ++
      [Reg.CCX_FW_VERSION, Reg.TOP_STATE])

/-- REG_READ (R31, R131). -/
def State.regReadReq (s : State) : State :=
  s.mgtRun 0x0010 (fun n => n = 6) fun s r =>
    let n := le r.params 4 2
    if n = 0 || 256 < n then s.mgtBadParam
    else s.replyRegs ((List.range n).map (fun i => le r.params 0 4 + 4 * i))

/-- Command registers that REG_WRITE may not address (R516). -/
def mgtBarred (a : Nat) : Bool :=
  a = Reg.TOP_RESET_CMD || a = Reg.PWR_CMD || a = Reg.SEC_LIFECYCLE_CMD || a = Reg.SEC_ZEROIZE || a = Reg.SEC_DEBUG_CMD ||
    (arrayAt (Reg.SEC_DEBUG_TOKEN 0) 4 62 a).isSome || a = Reg.BOOT_UPDATE_CMD || a = Reg.BOOT_STAGE_LEN ||
    (arrayAt (Reg.BOOT_STAGE_BUF 0) 4 8192 a).isSome || a = Reg.CLS_EPOCH_CMD || a = Reg.TIM_WC_CMD ||
    (arrayAt (Reg.GAT_CMD 0) 0x40 96 a).isSome || a = Reg.PAIR_CMD

/-- R516: an entry for address `a` is denied. -/
def State.mgtDenies (s : State) (a : Nat) : Bool :=
  mgtBarred a || (match ownerOf a with
    | some b => !bitAt (s.rf .MGT_WR_MASK_MASK) b
    | none => false)

/-- R516: entries in order, up to the first that is denied or does not take effect; the STATUS, and how many were
applied. An entry is an address and the word to write there. -/
def State.mgtWrites (s : State) (done : Nat) : List (Nat × (State → Word × State)) → Nat × Nat × State
  | [] => (0, done, s)
  | e :: l =>
    if s.mgtDenies e.1 then (1, done, s)
    else
      let v := e.2 s
      let r := v.2.fwWrite e.1 v.1
      if r.1.isSome then (4, done, r.2) else r.2.mgtWrites (done + 1) l

def State.mgtWriteAll (s : State) (l : List (Nat × (State → Word × State))) : State :=
  let r := s.mgtWrites 0 l
  r.2.2.mgtReply r.1 r.2.1 []

/-- A word of the parameters. -/
def MgtReq.word (r : MgtReq) (o : Nat) : Word := BitVec.ofNat 32 (le r.params o 4)

/-- REG_WRITE and REG_MODIFY (R109, R516). -/
def State.regWriteReq (s : State) : State :=
  s.mgtRun 0x0011 (fun n => n % 8 = 0 && 8 ≤ n && n ≤ 1024) fun s r =>
    s.mgtWriteAll ((List.range (r.params.length / 8)).map fun i =>
      (le r.params (8 * i) 4, fun s => (r.word (8 * i + 4), s)))
def State.regModifyReq (s : State) : State :=
  s.mgtRun 0x0012 (fun n => n % 12 = 0 && 12 ≤ n && n ≤ 1020) fun s r =>
    s.mgtWriteAll ((List.range (r.params.length / 12)).map fun i =>
      (le r.params (12 * i) 4, fun s =>
        let m := r.word (12 * i + 4)
        let o := s.fwRead (le r.params (12 * i) 4)
        ((o.1 &&& ~~~m) ||| (r.word (12 * i + 8) &&& m), o.2)))

/-- CNT_READ: 64-bit counters, low word first (R10). -/
def State.cntRead (s : State) : State :=
  s.mgtRun 0x0020 (fun n => n = 6) fun s r =>
    let n := le r.params 4 2
    if n = 0 || 64 < n then s.mgtBadParam
    else s.replyRegs ((List.range (2 * n)).map (fun i => le r.params 0 4 + 4 * i))

/-- FAULT_CLEAR. -/
def State.faultClear (s : State) : State :=
  s.mgtRun 0x0021 (fun n => n = 4) fun s r =>
    s.replyWrite Reg.FLT_CLEAR (r.word 0) 0 (fun _ k => k) fun s => s.mgtOk []

/-! Updates (R517). -/

/-- An update command of BOOT: true where BOOT refused it. REFUSED keeps what it held. -/
def State.fwUpdate (s : State) (action tries : Nat) : Bool × State :=
  let old := s.rf .BOOT_UPDATE_STATUS_REFUSED
  let r := (s.wf .BOOT_UPDATE_STATUS_REFUSED 0).fwWrite Reg.BOOT_UPDATE_CMD (cmdWord 0x3C91 (tries * 256 + action))
  let bad := r.2.on .BOOT_UPDATE_STATUS_REFUSED || r.1.isSome
  (bad, r.2.wf .BOOT_UPDATE_STATUS_REFUSED (max old (r.2.rf .BOOT_UPDATE_STATUS_REFUSED)))

/-- REFUSED, with the code of BOOT. -/
def State.bootRefused (s : State) : State := s.mgtDenied (s.rf .BOOT_UPDATE_STATUS_CODE)

/-- The owner's update is in progress. -/
def State.ownerBusy (s : State) : Bool := s.mgt.owner.isSome && !s.updIdle

/-- An update command of a session, held back with BUSY while another session's update is in progress. -/
def State.updReq (s : State) (op : Nat) (len : Nat → Bool) (g : State → MgtReq → State) : State :=
  s.mgtRun op len fun s r =>
    if s.ownerBusy && s.mgt.owner ≠ some r.session then (s.cinc (Ctr.mgt 6)).mgtReply 5 0 [] else g s r

/-- Run an update command and answer it. -/
def State.updReply (s : State) (action tries : Nat) : State :=
  let r := s.fwUpdate action tries
  if r.1 then r.2.bootRefused else r.2.mgtOk []

/-- UPDATE_BEGIN. -/
def State.updBeginReq (s : State) : State :=
  s.updReq 0x0030 (fun n => n = 1) fun s r =>
    let k := le r.params 0 1
    if 1 < k then s.mgtBadParam
    else if k = 1 && !(s.dram.up && 0 < s.stagingRegion.2) then s.mgtReply 8 0 []
    else
      let u := s.fwUpdate (1 + k) 0
      if u.1 then u.2.bootRefused
      else
        (u.2.manage fun m =>
          { m with owner := if r.session < 8 then some r.session else none, hold := [], total := 0 }).mgtOk []

/-- The firmware passes up to 32,768 bytes to BOOT: true where BOOT took the submission. -/
def State.stagePush (s : State) : Bool × State :=
  let b := s.mgt.hold.take 32768
  let s := s.each (List.range ((b.length + 3) / 4)) fun s i =>
    (s.fwWrite (Reg.BOOT_STAGE_BUF i) (BitVec.ofNat 32 (le b (4 * i) 4))).2
  let s := (s.fwWrite Reg.BOOT_STAGE_LEN (BitVec.ofNat 32 b.length)).2
  if s.boot.chunk.isSome then (true, s.manage fun m => { m with hold := m.hold.drop 32768 }) else (false, s)

/-- BOOT can be given a chunk. -/
def State.stageTakes (s : State) : Bool := s.updState = 2 && s.on .BOOT_STAGE_STATUS_READY

/-- UPDATE_CHUNK. -/
def State.updChunkReq (s : State) : State :=
  s.updReq 0x0031 (fun n => 5 ≤ n && n ≤ 1028) fun s r =>
    if s.mgt.owner ≠ some r.session || !(s.updState = 1 || s.updState = 2) then s.bootRefused
    else if le r.params 0 4 ≠ s.mgt.total then s.mgtReply 7 0 []
    else if 32768 ≤ s.mgt.hold.length && !s.stageTakes then (s.cinc (Ctr.mgt 6)).mgtReply 5 0 []
    else
      let p := if 32768 ≤ s.mgt.hold.length then s.stagePush else (true, s)
      if !p.1 then p.2.bootRefused
      else
        let b := r.params.drop 4
        let s := p.2.manage fun m => { m with hold := m.hold ++ b, total := m.total + b.length }
        let p := if 32768 ≤ s.mgt.hold.length && s.stageTakes then s.stagePush else (true, s)
        if p.1 then p.2.mgtOk [] else p.2.bootRefused

/-- UPDATE_END: the rest is passed, then END runs, and its result is awaited; `late`: 100 ms have passed (R518). -/
def State.updEndReq (s : State) (late : Bool) : State :=
  s.updReq 0x0032 (fun n => n = 0) fun s _ =>
    let s0 := s
    let wait (s : State) : State := if late then s.mgtReply 9 0 [] else s
    if s.mgt.begun then
      if s.updState = 3 then wait s else s0.mgtReply 0 (s.rf .BOOT_UPDATE_STATUS_CODE) []
    else if s.updState = 1 || (s.updState = 2 && s.boot.chunk.isSome) then wait s
    else if s.updState = 2 && !s.mgt.hold.isEmpty then
      let p := s.stagePush
      if p.1 then wait p.2 else p.2.bootRefused
    else
      let u := s.fwUpdate 3 0
      if u.1 then u.2.bootRefused else wait (u.2.setBegun true)

/-- UPDATE_COMMIT, UPDATE_CONFIRM and UPDATE_CANCEL. -/
def State.updCommitReq (s : State) : State :=
  s.updReq 0x0033 (fun n => n = 1) fun s r =>
    if 7 < le r.params 0 1 then s.mgtBadParam else s.updReply 4 (le r.params 0 1)
def State.updConfirmReq (s : State) : State := s.updReq 0x0034 (fun n => n = 0) fun s _ => s.updReply 5 0
def State.updCancelReq (s : State) : State := s.updReq 0x0035 (fun n => n = 0) fun s _ => s.updReply 6 0

/-- UPDATE_STATUS. -/
def State.updStatusReq (s : State) : State :=
  s.mgtRun 0x0036 (fun n => n = 0) fun s _ => s.replyRegs [Reg.BOOT_UPDATE_STATUS, Reg.BOOT_CTRL_REC]

/-! Rule sets, time and gates. -/

/-- RULESET_SWAP: the swap is requested, and answered once SWAP_PENDING reads 0. -/
def State.rulesetSwap (s : State) (late : Bool) : State :=
  s.mgtRun 0x0040 (fun n => n = 0) fun s _ =>
    let done (s : State) : State :=
      if !s.on .CLS_EPOCH_STATUS_SWAP_PENDING then s.replyRegs [Reg.CLS_EPOCH_STATUS]
      else if late then s.mgtReply 9 0 [] else s.setBegun true
    if s.mgt.begun then done s
    else s.replyWrite Reg.CLS_EPOCH_CMD (cmdWord 0xE90C 1) 0 (fun s _ => s.rf .CLS_EPOCH_STATUS_REFUSE_CODE) done

/-- TIME_GET. -/
def State.timeGet (s : State) : State :=
  s.mgtRun 0x0050 (fun n => n = 0) fun s _ =>
    let st := s.fwRead Reg.TIM_STATUS
    let full (c : Nat) : List Word := let f := fullTime c; [f.1, f.2.1, f.2.2]
    st.2.mgtOk (st.1 :: (full s.tim.wc ++ full s.tim.trk0 ++ full s.tim.trk1))

/-- TIME_STEP (R323). -/
def State.timeStepReq (s : State) : State :=
  s.mgtRun 0x0051 (fun n => n = 1) fun s r =>
    if 1 < le r.params 0 1 then s.mgtBadParam
    else
      s.replyWrite Reg.TIM_WC_CMD (cmdWord 0x71AE (le r.params 0 1 * 256 + 1)) 0 (fun s _ => s.rf .TIM_STATUS_STEP_CODE)
        fun s => s.mgtReply 0 (s.rf .TIM_STATUS_STEP_CODE) []

/-- TIME_SOURCE (R322). -/
def State.timeSourceReq (s : State) : State :=
  s.mgtRun 0x0052 (fun n => n = 1) fun s r =>
    if 1 < le r.params 0 1 then s.mgtBadParam
    else
      let w := s.fwRead Reg.TIM_WC_CFG
      w.2.replyWrite Reg.TIM_WC_CFG (withF w.1 .TIM_WC_CFG_SOURCE (le r.params 0 1)) 0 (fun _ k => k) fun s => s.mgtOk []

/-- GATE_CHANGE (R333): answered once the change time is fixed. -/
def State.gateChangeReq (s : State) (late : Bool) : State :=
  s.mgtRun 0x0053 (fun n => n = 1) fun s r =>
    let i := le r.params 0 1
    let done (s : State) : State :=
      match s.gatePend i with
      | some ⟨_, _, _, false⟩ => if late then s.mgtReply 9 0 [] else s.setBegun true
      | _ =>
        s.mgtOk [s.rword (Reg.GAT_CHANGE_LO i), s.rword (Reg.GAT_CHANGE_HI i),
          BitVec.ofNat 32 (s.rf (.GAT_STATUS_BASE_PAST i)), BitVec.ofNat 32 (s.rf (.GAT_N_N i))]
    if 96 ≤ i || (24 ≤ i && i < 32) then s.mgtBadParam
    else if s.mgt.begun then done s
    else s.replyWrite (Reg.GAT_CMD i) (cmdWord 0x6A7E 1) 0 (fun s _ => s.rf (.GAT_STATUS_REFUSE_CODE i)) done

/-! Attestation, the pair and the last three. -/

/-- The quote of R141 without its signature. -/
def State.quoteHead (s : State) (nonce : List Byte) : List Byte :=
  let flags := b2n (s.on .SEC_STATUS_CERT) + 2 * b2n (s.on .SEC_STATUS_DEBUG) + 4 * b2n (s.on .SEC_STATUS_ZEROIZED) +
    8 * b2n (s.on .TOP_STRAP_PAIR_EN) + 16 * b2n (s.on .BOOT_STATUS_TRIAL) + 32 * b2n s.boot.partialRun
  let partner := match s.pair.link, s.pair.peer with
    | .up, some p => p.uid
    | _, _ => 0
  bytesLE 4 0x31515441 ++ bytesLE 2 1 ++ bytesLE 1 s.sec.life ++ bytesLE 1 flags ++
  (s.sec.uid.take 16 ++ bytesLE 4 s.sec.cls ++ bytesLE 4 (s.rword Reg.TOP_REV).toNat ++ nonce) ++
  ((s.boot.header.drop 64).take 64 ++ s.boot.chain) ++
  (bytesLE 1 (s.rf .BOOT_VERSION_RUN) ++ bytesLE 1 s.sec.floor ++ bytesLE 1 (s.rf .BOOT_STATUS_SOURCE) ++
    bytesLE 1 (s.rf .TOP_STATE_PAIR_ROLE)) ++
  (bytesLE 4 0 ++ bytesLE 8 s.now ++ bytesLE 16 partner)

/-- ATTEST (R141, R142). -/
def State.attest (s : State) : State :=
  s.mgtRun 0x0060 (fun n => n = 32) fun s r =>
    match s.sec.ident with
    | none => s.mgtReply 8 0 []
    | some id =>
      if s.sec.life = 3 || s.on .SEC_STATUS_ZEROIZED || s.on .SEC_STATUS_DRBG_HALT then s.mgtReply 8 0 []
      else
        let g := s.identitySign id (s.quoteHead r.params)
        g.2.mgtOk (wordsOf 76 (s.quoteHead r.params ++ g.1))

/-- PAIR_STATUS. -/
def State.pairStatusReq (s : State) : State :=
  s.mgtRun 0x0070 (fun n => n = 0) fun s _ =>
    s.replyRegs [Reg.PAIR_STATUS, Reg.PAIR_TERM, Reg.PAIR_LEASE_LEFT, Reg.PAIR_CRATE_AGE]

/-- PAIR_RELINQUISH and PAIR_SELFTEST; the Pans of `bad` fail the self-test's known-answer test. -/
def State.pairRelinquishReq (s : State) : State :=
  s.mgtRun 0x0071 (fun n => n = 0) fun s _ =>
    s.replyWrite Reg.PAIR_CMD (cmdWord 0x9A1F 1) 0 (fun _ k => k) fun s => s.mgtOk []
def State.pairSelftestReq (s : State) (bad : Nat) : State :=
  s.mgtRun 0x0072 (fun n => n = 0) fun s _ =>
    s.replyWrite Reg.PAIR_CMD (cmdWord 0x9A1F 2) bad (fun _ k => k) fun s => s.mgtOk []

/-- ZEROIZE (R519): the response leaves first. -/
def State.zeroizeReq (s : State) : State :=
  s.mgtRun 0x0080 (fun n => n = 0) fun s _ => ((s.mgtOk []).fwWrite Reg.SEC_ZEROIZE (cmdWord 0x0D1E 1)).2

/-- POWER (R78, R519): a sleep target is answered before it acts. -/
def State.powerReq (s : State) : State :=
  s.mgtRun 0x0081 (fun n => n = 1) fun s r =>
    let t := le r.params 0 1
    if t = 0 || 4 < t then s.mgtBadParam
    else
      let s := s.wakeSample 0
      let code := s.pwrRefusal t
      let w (s : State) : State := (s.fwWrite Reg.PWR_CMD (cmdWord 0x5A1E t) (wakeAux s.pwr.wakeIn)).2
      if code ≠ 0 then (w s).mgtDenied code
      else if t ≤ pwrSleepR then w (s.mgtOk [])
      else (w s).mgtOk []

/-- RESET (R519): the response leaves first. -/
def State.resetReq (s : State) : State :=
  s.mgtRun 0x0082 (fun n => n = 0) fun s _ => ((s.mgtOk []).fwWrite Reg.TOP_RESET_CMD (cmdWord 0xC6A5 1)).2

end Sys2Proof.Machine
end

