-- ==== Sys2Proof/Machine/Pins.lean ====
section
/-!
DEFINITION. The outputs of the device and the state each takes (R51, R53 to R55).
-/
namespace Sys2Proof.Machine

/-- The groups of DRAM outputs that R51 tells apart; `data` is DQ, DMI, WCK and RDQS. -/
inductive DdrPin where
  | resetN | cs | ca | ckT | ckC | data
  deriving DecidableEq, Repr

/-- The outputs of R51; a differential pair is one output. -/
inductive Pin where
  | sdTx (port : Fin 12)
  | pairTx
  | pcieTx (lane : Fin 4)
  | t1 (port : Fin 8)
  | t1s (port : Fin 4)
  | ddr (p : DdrPin)
  | xspiClk
  | xspiCsN (i : Fin 2)
  | xspiResetN
  | xspiDq (i : Fin 8)
  | canTxd (n : Fin 16)
  | linTxd (k : Fin 8)
  | serTxd (k : Fin 8)
  | serDe (k : Fin 8)
  | pwrEn (n : Fin 8)
  | inh
  | i2cScl
  | i2cSda
  | faultN
  | intN
  | trig (k : Fin 8)
  | refTxd
  | refDe
  | mdc
  | mdio
  | clkreqN
  | tdo
  deriving DecidableEq, Repr

/-- What a ball shows. `byUnit` is the cell of the table that hands the ball to the unit that owns it: the link, the
controller, the boot ROM, the power manager. -/
inductive PinLevel where
  | unpowered | highZ | low | high | released | electricalIdle | silent | idleSymbols | remoteFault | training | noTransmission
  | wakeDetect | byUnit
  deriving DecidableEq, Repr

/-- R55 leaves each output of a ramping bank the choice of high impedance (true) or its Reset-column level. -/
opaque Config.rampReleased : Pin → Nat → Bool

/-- R51 leaves the DRAM outputs but DDR_RESET_N low (true) or at high impedance in a cold reset. -/
opaque Config.ddrColdLow : DdrPin → Bool

/-- Bank of a ball (R44): 0 VDDA_SER, 1 VDDA_PHY, 2 VDDQ_DDR, 3 VDDIO_F, 4 VDDIO_L, 5 VDDIO_AON, 6 VDDIO_B. -/
def Pin.bank : Pin → Nat
  | .sdTx _ | .pairTx | .pcieTx _ => 0
  | .t1 _ | .t1s _ => 1
  | .ddr _ => 2
  | .xspiClk | .xspiCsN _ | .xspiResetN | .xspiDq _ => 3
  | .canTxd _ | .linTxd _ | .serTxd _ | .serDe _ => 4
  | .pwrEn _ | .inh | .i2cScl | .i2cSda | .faultN => 5
  | .intN | .trig _ | .refTxd | .refDe | .mdc | .mdio | .clkreqN | .tdo => 6

/-- A legacy TXD ball: CAN_TXD, LIN_TXD or SER_TXD. -/
def Pin.legacyTxd : Pin → Bool
  | .canTxd _ | .linTxd _ | .serTxd _ => true
  | _ => false

def levelOf (b : Bool) : PinLevel := if b then .high else .low

/-- The self-refresh hold (R51). -/
def ddrHold : DdrPin → PinLevel
  | .resetN | .ckC => .high
  | .cs | .ca | .ckT => .low
  | .data => .highZ

/-- The cold column of the DRAM outputs. -/
def ddrCold : DdrPin → PinLevel
  | .resetN => .low
  | p => if Config.ddrColdLow p then .low else .highZ

/-- What port `n` transmits in its link state while it sends no frame (R160): a SerDes port answers a local fault with remote
fault. -/
def State.portTx (s : State) (n : Nat) : PinLevel :=
  match s.linkState n with
  | 0 => if n < 12 then .electricalIdle else .silent
  | 1 | 2 => if 12 ≤ n then .training else if s.on (.MAC_LINK_STATUS_LOCAL_FAULT n) then .remoteFault else .idleSymbols
  | 5 => .silent
  | _ => .idleSymbols

/-- Port `n` in ACTIVE: in UP the frames are its MAC's while FWD_EN is 1 (R160). -/
def State.portActive (s : State) (n : Nat) : PinLevel := if s.portUp n && s.fwdEn then .byUnit else s.portTx n

/-- The inactive level of TRIG[k], by POL whatever OUT_EN is (DESIGN CHOICE, log entry 131). -/
def State.trigIdle (s : State) (k : Nat) : PinLevel := levelOf (s.on (.TIM_TRIG_CFG_POL k))

/-- The Reset column of R51; `cold` tells its two forms apart. The DRAM holds self-refresh in a chip reset unless R28
applies. -/
def State.pinReset (s : State) (cold : Bool) : Pin → PinLevel
  | .sdTx _ | .pairTx | .pcieTx _ => .electricalIdle
  | .t1 _ | .t1s _ => .highZ
  | .ddr p => if cold || !s.dram.selfRefresh then ddrCold p else ddrHold p
  | .xspiClk | .xspiResetN => .low
  | .xspiCsN _ => .high
  | .xspiDq _ => .highZ
  | .canTxd _ | .linTxd _ | .serTxd _ | .inh | .refTxd => .high
  | .serDe _ | .refDe | .mdc | .faultN => .low
  | .pwrEn n => if cold then .low else levelOf (bitAt s.pwr.pwrEn n)
  | .i2cScl | .i2cSda | .intN | .clkreqN => .released
  | .trig _ => .low
  | .mdio | .tdo => .highZ

/-- The SLEEP-D column, and the SLEEP-R column where `retain`. -/
def State.pinSleep (s : State) (retain : Bool) : Pin → PinLevel
  | .sdTx _ | .pairTx | .pcieTx _ | .xspiClk | .xspiCsN _ | .xspiResetN | .xspiDq _ | .intN | .trig _ | .refTxd | .refDe | .mdc | .mdio
  | .clkreqN | .tdo => .unpowered
  | .t1 p => if bitAt (s.rf .PWR_WAKE_EN_TC10) p then .wakeDetect else .highZ
  | .t1s p => if bitAt (s.rf .PWR_WAKE_EN_TC10) (8 + p) then .wakeDetect else .highZ
  | .ddr p => if retain then ddrHold p else .unpowered
  | .canTxd _ | .linTxd _ | .serTxd _ => .high
  | .serDe _ => .low
  | .pwrEn n => levelOf (bitAt s.pwr.pwrEn n)
  | .inh => levelOf s.pwr.inh
  | .i2cScl | .i2cSda => .byUnit
  | .faultN => .released

/-- The port or channel of a legacy ball is enabled, and drives it per its controller. -/
def State.legacyOn (s : State) (c : Nat) : PinLevel := if s.on (.GWE_CH_CFG_ENABLE c) then .byUnit else .high

/-- SER_DE is high while serial channel 24 + k transmits (R44, R51). -/
def State.serDriven (s : State) (k : Nat) : Bool := s.on (.GWE_CH_CFG_ENABLE (24 + k)) && (s.chan (24 + k)).onBus.isSome

/-- FAULT_N (R480) and INT_N (R33) as their units drive them. -/
def State.faultLevel (s : State) : PinLevel := if s.on .FLT_PIN_STATUS_ASSERTED then .low else .released
def State.intLevel (s : State) : PinLevel := if s.intN then .low else .released

/-- ACTIVE: every ball follows its configuration. The DRAM shows the self-refresh hold while it is in self-refresh (R79
step 3), and TDO is driven in a shift alone, which no command performs. -/
def State.pinActiveCol (s : State) : Pin → PinLevel
  | .sdTx n => s.portActive n
  | .t1 p => s.portActive (12 + p)
  | .t1s p => s.portActive (20 + p)
  | .ddr p => if s.dram.selfRefresh then ddrHold p else .byUnit
  | .tdo => .highZ
  | .canTxd n => s.legacyOn n
  | .linTxd k => s.legacyOn (16 + k)
  | .serTxd k => s.legacyOn (24 + k)
  | .serDe k => levelOf (s.serDriven k)
  | .pwrEn n => levelOf (bitAt s.pwr.pwrEn n)
  | .inh => .high
  | .faultN => s.faultLevel
  | .intN => s.intLevel
  | .trig k =>
    if spGet (fun _ => false) s.tim.pulse k then levelOf (!s.on (.TIM_TRIG_CFG_POL k)) else s.trigIdle k
  | _ => .byUnit

/-- The STANDBY column: an Ethernet port sends what its link state gives and no frame (R160). The pair lane is enabled by
PAIR_EN (DEDUCED, log entry 131). -/
def State.pinStandby (s : State) : Pin → PinLevel
  | .sdTx n => s.portTx n
  | .pairTx => if s.on .TOP_STRAP_PAIR_EN then .idleSymbols else .electricalIdle
  | .t1 p => s.portTx (12 + p)
  | .t1s _ => .noTransmission
  | .trig k => s.trigIdle k
  | p => s.pinActiveCol p

/-- The pair gap column: a ball it calls unchanged goes on under its unit, and an Ethernet port keeps its link and sends no
frame (R502), as in STANDBY. -/
def State.pinGap (s : State) : Pin → PinLevel
  | .canTxd _ | .linTxd _ | .serTxd _ => .high
  | .serDe _ => .low
  | p => s.pinStandby p

/-- The OFF column. -/
def pinOff : Pin → PinLevel
  | .faultN => .released
  | _ => .unpowered

/-- The state of an output by the column in force. -/
def State.pinByColumn (s : State) (p : Pin) : PinLevel :=
  match s.pinColumn with
  | .off => pinOff p
  | .coldReset => s.pinReset true p
  | .chipReset => s.pinReset false p
  | .sleepD => s.pinSleep false p
  | .sleepR => s.pinSleep true p
  | .standby => s.pinStandby p
  | .gap => s.pinGap p
  | .active => s.pinActiveCol p

/-- The state of output `p` (R51, R53 to R55): the column in force, or, while its bank ramps, high impedance or the
Reset-column level. -/
def State.pin (s : State) (p : Pin) : PinLevel :=
  if bitAt s.pwr.ramp p.bank then
    if Config.rampReleased p s.cycles then .highZ else s.pinReset true p
  else s.pinByColumn p

end Sys2Proof.Machine
end

