-- ==== Sys2Proof/Machine/Cmd.lean ====
section
/-!
DEFINITION. What the meanings of the commands share: the conditions under which a command reaches its block, the
register accesses that stand for rows of the opcode table, what follows every command, and the rows that touch several
blocks.
-/
namespace Sys2Proof.Machine

/-- The value of trigger or capture base `b` (R345, R348): T64 of a clock, or D48. -/
def State.baseValue (s : State) (b : Nat) : Nat := if b = 3 then s.d48 else t64Of (s.clock b)

/-- R347, R443: the due moments of the present command reach the Strongroom and the gateway, in ascending order. -/
def State.trigEvents (s : State) : State :=
  let l := (List.range 8).flatMap (fun k => s.tim.fresh.filter (fun j => j = k))
  let s := s.timeUnit fun x => { x with fresh := [] }
  s.each l fun s k => (s.stgTrigger k 0 (s.rf (.TIM_TRIG_CFG_BASE k)) (s.baseValue (s.rf (.TIM_TRIG_CFG_BASE k)))).gweTrigger k

/-- RAK_WAIT.MAX_WAIT keeps the largest number of ready frames without a Rake. -/
def State.maxWait (s : State) : State :=
  if s.rf .RAK_WAIT_MAX_WAIT < min 65535 s.rakeWait then s.wf .RAK_WAIT_MAX_WAIT (min 65535 s.rakeWait) else s

/-- What follows every command: the held senders that find room send (R274), verification jobs are requested (R355), events of
triggers reach their takers, and the interrupt lines take their present levels (R34). -/
def State.settled (s : State) : State :=
  let s := s.holdRelease.backlogRun
  let s := if s.tim.fresh.isEmpty then s else s.trigEvents.timeUnit fun x => { x with fresh := [] }
  State.updateLines { s.maxWait with wfail := none }

/-- The state after a command that began in `s` and left the device in `t`: the queue is not the command's to change. -/
def State.after (s t : State) : State := { t.settled with pending := s.pending }

/-- A command that acts where `on` holds, and finds nothing to do elsewhere. -/
def State.acting (s : State) (on : Bool) (g : State → State) : Host.Outcome State Fault Refusal :=
  .next (s.after (if on then g s else s))

/-- A command that acts in every state of the device. -/
def State.always (s : State) (g : State → State) : Host.Outcome State Fault Refusal := .next (s.after (g s))

/-- Block `b` serves: the device is awake and the block is not in block reset (R30). -/
def State.serves (s : State) (b : Nat) : Bool := s.awake && !s.blockOff b

/-- Engine `e` serves. -/
def State.engServes (s : State) (e : EngId) : Bool :=
  match e with
  | .rake _ => s.serves 11
  | .gateway => s.serves 18

/-- A write of `w` to address `a` by `q`; `aux` carries what a command register's act finds outside the registers. -/
def State.regCmd (s : State) (q : Sender) (a : Nat) (w : Word) (aux : Nat := 0) : Host.Outcome State Fault Refusal :=
  s.acting s.awake fun s => s.busWriteAux q.req a w aux

/-- A write of a command register with its key. -/
def State.keyCmd (s : State) (q : Sender) (a key v : Nat) (aux : Nat := 0) : Host.Outcome State Fault Refusal :=
  s.regCmd q a (cmdWord key v) aux

/-- A read of address `a` by `q`, whose data go to the reader. -/
def State.readCmd (s : State) (q : Sender) (a : Nat) : Host.Outcome State Fault Refusal :=
  s.acting s.awake fun s =>
    let r := s.busRead q.req a
    (r.2.2.inbound q.req 0).emit (.readData r.1 r.2.1)

/-- The nanoseconds words of the full time values: working clock, tracker 0, tracker 1 (R12). -/
def fullTimeReg (c : Nat) : Nat := if c = 0 then Reg.TIM_WC_TIME_NS else Reg.TIM_DOM_TIME_NS (c - 1)

/-- Address `a` lies in a window of the address map (R31). -/
def mappedAddr (a : Nat) : Bool :=
  regSpace a || (treeBase ≤ a && a < treeEnd) || (pantryBase ≤ a && a < pantryTop) || (popBase ≤ a && a < popEnd) ||
    (dramBase ≤ a && a < dramEnd)

/-- UNMAPPED_ACCESS: a write of a word, or a read, at an address in no window. -/
def State.unmappedCmd (s : State) (q : Sender) (a : Nat) (w : Option Word) : Host.Outcome State Fault Refusal :=
  if mappedAddr a then s.always id
  else
    match w with
    | some v => s.regCmd q a v
    | none => s.readCmd q a

/-- MSIX_UNMASK: vector `v` is unmasked, or configuration space writes the enable and the function mask. -/
def State.msixCmd (s : State) (v : Option (Fin 64)) (enable mask : Bool) : State :=
  match v with
  | some k => s.msixUnmask k
  | none => s.msixControl enable mask

/-- PWR_CMD with target `t`, at the levels `pins` of WAKE_IN. -/
def State.pwrCmdOf (s : State) (q : Sender) (t : Nat) (pins : BitVec 4) : Host.Outcome State Fault Refusal :=
  s.keyCmd q Reg.PWR_CMD 0x5A1E t (wakeAux pins.toNat)

/-- CLOCK_LOSS: with SD_REFCLK[0] goes the lane of the pair link (R157, R503). -/
def State.clockLossCmd (s : State) (c : Nat) : State :=
  if c = 1 then ((s.clockLoss 1).notify 0x2C1 0x0A).pairLoss true else s.clockLoss c

/-- TC10_WAKE_DETECT on port 12 + `p`: in a sleep state it wakes the device, and during a sleep entry it counts as R80
says (R80, R81, R171). -/
def State.tc10WakeCmd (s : State) (p : Nat) : State :=
  if s.pwr.porst then s else (s.tc10Detect (12 + p)).wakeConfirm (0x2C + p)

/-- MAC_MDIO_CMD with GO. -/
def mdioGo (op : Nat) (c45 : Bool) (prtad devad data : Nat) : Word := fldSet (mdioWord op c45 prtad devad data) 31 1 1

/-- Threshold of a rate source (R473), and none for the other sources. -/
def State.rateThr (s : State) (src : Nat) : Option Nat :=
  if 0x081 ≤ src && src < 0x0E0 && src % 4 = 1 then some (s.rf (.MAC_LINK_CFG_ERR_THR ((src - 0x081) / 4)))
  else if 0x1E0 ≤ src && src < 0x200 then some (s.rf (.GWE_CH_CFG_ERR_THR (src - 0x1E0)))
  else if 0x1C2 ≤ src && src ≤ 0x1C5 then some (s.rf .CPH_RATE_CFG_PAN_THR)
  else
    match src with
    | 0x103 => some (s.rf .RAK_RATE_CFG_MALF_THR)
    | 0x104 => some (s.rf .RAK_RATE_CFG_DEPTH_THR)
    | 0x105 => some (s.rf .RAK_RATE_CFG_EXEC_THR)
    | 0x121 => some (s.rf .FWL_RATE_CFG_FULL_THR)
    | 0x122 => some (s.rf .FWL_RATE_CFG_NOSESS_THR)
    | 0x143 => some (s.rf .SWC_RATE_CFG_HDROP_THR)
    | 0x145 => some (s.rf .SWC_RATE_CFG_LEARN_THR)
    | 0x182 => some (s.rf .STM_RATE_CFG_RED_THR)
    | 0x183 => some (s.rf .STM_RATE_CFG_ROGUE_THR)
    | 0x1C1 => some (s.rf .CPH_RATE_CFG_ICV_THR)
    | 0x1CB => some (s.rf .CPH_RATE_CFG_AUTH_THR)
    | _ => none

/-- R366: the 1 ms window of Pan `p`'s failures ends. The Pan is isolated when its count alone exceeds PAN_THR: a Pan whose
window has ended counts with what it had then, and another with its present count. -/
def State.panWindow (s : State) (p : Nat) : State :=
  let thr := s.rf .CPH_RATE_CFG_PAN_THR
  let ended (q : Nat) : Option Nat := if (spGet (fun _ => none) s.cph.winEnd p).isSome then none else spGet (fun _ => none) s.cph.winEnd q
  let count (q : Nat) : Nat := (ended q).getD (s.panFails q)
  let round := (List.range 4).foldl (fun m q => spSet (fun _ => none) m q (if q = p then some (s.panFails p) else ended q)) []
  let alone := s.on .CPH_CFG_ICV_ISOLATE && thr ≠ 0 && s.panIn p && thr < s.panFails p &&
    (List.range 4).all (fun q => q = p || !s.panIn q || count q ≤ thr)
  let s := (s.cipher fun x => { x with winEnd := if round.length = 4 then [] else round }).rateWindow (0x1C2 + p) thr
  if alone then s.panOut p else s

/-- RATE_WINDOW_EXPIRY of source `src`; the level of 0x124 is the stash's occupancy (R255, R473). -/
def State.windowEnd (s : State) (src : Nat) : State :=
  if src = 0x124 then
    let s := s.flushUp
    if s.rf .FWL_RATE_CFG_STASH_THR = 0 || s.sessStash ≤ s.rf .FWL_RATE_CFG_STASH_THR then s.lower 0x124 else s
  else
    if 0x1C2 ≤ src && src ≤ 0x1C5 then s.panWindow (src - 0x1C2)
    else match s.rateThr src with
    | some t => s.rateWindow src t
    | none => s

/-- The copy in transmission on port `e` has read its cells; whether one holds an uncorrectable error (R259). -/
def State.readCopy (s : State) (e : Nat) : Bool × State :=
  match s.onWire e with
  | none => (false, s)
  | some c =>
    match s.frame c.fid with
    | some f => if f.ended then s.cellsRead (f.cells.take (s.copyCells c)) else (false, s)
    | none => (false, s)

/-- R259: the copy on port `e` has an uncorrectable error. One to an internal port is discarded and counted in
ECC_DISCARD; its frame has turned bad, and R278 handles every copy of it that is left. -/
def State.cellLost (s : State) (e : Nat) : State :=
  match s.onWire e with
  | none => s
  | some c => (if e < 24 then s else ((s.setWire e none).cinc (Ctr.swc 7)).releaseCopy c).killFrame c.fid

/-- A copy that has been read leaves on port `e` (R258). -/
def State.deliver (s : State) (e : Nat) (bufs : List Nat) : State :=
  if e < 24 then s.txEnd e
  else
    match e with
    | 24 => s.ccxEnd
    | 26 => s.decap
    | 27 => s.strongRecord
    | 28 => s.recirculate
    | _ => s.rxDeliver e bufs

/-- TRANSMIT_END on port `e` (R258): a block in block reset has its copies dropped at its boundary (R30). `bufs` are the
buffers that the next receive descriptors name, and `collisions` those that the copy met on a 10BASE-T1S segment
(R175). -/
def State.transmitEnd (s : State) (e : Nat) (bufs : List Nat) (collisions : Nat) : State :=
  if (s.onWire e).any s.copyDown then s.dropWire e
  else
    let s := if 20 ≤ e && e < 24 then s.cadd (Ctr.mac e 26) collisions else s
    let r := s.readCopy e
    if r.1 then r.2.cellLost e else r.2.deliver e bufs

/-- RECIRCULATION_PASS: the copy on port 28 is delivered to the Rakes as any copy to an internal port is, read whole
(R259); while port 28's sender is held it waits (R274). -/
def State.recircCmd (s : State) : State := if s.fwdEn && s.held 28 then s else s.transmitEnd 28 [] 0

/-- TIM_DOM_CFG[d] written with its present fields and REFRESH. -/
def State.refreshCmd (s : State) (q : Sender) (d : Nat) : Host.Outcome State Fault Refusal :=
  s.regCmd q (Reg.TIM_DOM_CFG d) (s.rword (Reg.TIM_DOM_CFG d) ||| 0x20000000)

/-- STEP_BOUNDARY: a step that is applied writes a marker (R440). -/
def State.boundaryCmd (s : State) : State :=
  let t := s.stepBoundary
  if t.tim.steps ≠ s.tim.steps then t.stgStep else t

/-- TRAVEL_COUNT: a counter update closes distance incidents and may wake the device (R81, R344, R446). -/
def State.travelCmd (s : State) (a b : Bool) : State :=
  let t := s.travelSample a b
  if t.d48 = s.d48 then t else (if t.awake then t.incTravel else t).travelWake

/-- CAPTURE_EDGE: an entry recorded is a trigger source of the Strongroom (R443). -/
def State.captureCmd (s : State) (k : Nat) (rise : Bool) : State :=
  let n (s : State) : Nat := (spGet (fun _ => []) s.tim.capt k).length
  let t := s.captureEdge k rise
  if n s < n t then t.stgTrigger (8 + k) 0 (t.rf (.TIM_CAPT_CFG_BASE k)) (t.baseValue (t.rf (.TIM_CAPT_CFG_BASE k))) else t

/-- HATCH_POP: a read of `k` lines by the host at the pop port of Hatch `h` (R428, R433). -/
def State.hatchPopCmd (s : State) (h k tag : Nat) : State :=
  let r := (s.cinc (Ctr.brg 0)).hatPop h k
  r.2.2.answer tag r.1 (popBase + 4096 * h) r.2.1

/-- R465: message `i` to the firmware waits for the end of the restart that runs. -/
def State.inputWait (s : State) (i : FwInput) : State := s.complex fun x => { x with inputs := x.inputs ++ [i] }

/-- The firmware takes message `i`. -/
def State.inputTake (s : State) (i : FwInput) : State :=
  match i with
  | .hello via addr nonce eph credential sigOk => s.mgtHello via addr nonce eph credential sigOk
  | .finish k via addr ok => s.mgtFinish k via addr ok
  | .cert via addr off => s.certReq via addr off
  | .request k via addr seq tagOk reqId opcode params => s.mgtRequest k via addr seq tagOk reqId opcode params
  | .close k via addr seq tagOk => s.mgtClose k via addr seq tagOk false
  | .pairHello h => s.pairHello h
  | .pairProof ok => s.pairProof ok
  | .pairHealth ok counter health => s.healthTake ok counter health
  | .pairTime ok counter trk0 trk1 wc back => s.timeTake ok counter trk0 trk1 wc back
  | .crate ok counter seq frag last body => s.crateFragment ok counter seq frag last body

/-- A management message reaches the firmware over transport `via`; in a restart one that came as a frame waits in its queue,
and one of the mailbox in its Hatch (R465). -/
def State.mgtTakes (s : State) (via : Nat) (i : FwInput) : State :=
  if s.on .TOP_STATE_CCX_RESTART then if via ≠ viaMbox && s.mgtOpen via then s.inputWait i else s
  else (s.mgtTake via).inputTake i

/-- A pair frame reaches the firmware; in a restart it waits (R465). -/
def State.pairTakes (s : State) (i : FwInput) : State :=
  if s.pairUnit && s.on .TOP_STATE_CCX_RESTART then s.inputWait i else s.inputTake i

/-- CCX_DONE: the firmware has resynchronised, answers the requests without a completion mark and takes the messages that have
waited (R461, R462, R465). -/
def State.ccxDoneCmd (s : State) : State :=
  let t := s.ccxDone
  if s.on .TOP_STATE_CCX_RESTART && !t.on .TOP_STATE_CCX_RESTART then
    ((t.mgtRestarted).complex fun x => { x with inputs := [] }).each t.ccx.inputs State.inputTake
  else t

end Sys2Proof.Machine
end

