-- ==== Sys2Proof/Machine/CmdReg.lean ====
section
/-!
DEFINITION. Meanings of the commands of register accesses, resets and interrupts (R6 to R35).
-/
namespace Sys2Proof.Machine

/-- REGISTER_WRITE (R6): A write to a register that has no row of its own takes effect field by field under its access
types. -/
def execRegisterWrite (q : Sender) (a : Nat) (w : Word) (s : State) : Host.Outcome State Fault Refusal :=
  s.regCmd q (a) w

/-- RC_READ (R6): A read of an RC field returns its value and then clears it, keeping events of the same cycle under
R7. -/
def execRcRead (q : Sender) (a : Nat) (s : State) : Host.Outcome State Fault Refusal :=
  s.readCmd q (a)

/-- COUNTER_LOW_READ (R10): A read of the low word of a 64-bit counter latches the high word for that requester. -/
def execCounterLowRead (q : Sender) (a : Nat) (s : State) : Host.Outcome State Fault Refusal :=
  s.readCmd q (a)

/-- FULL_TIME_READ (R12): A read of the nanoseconds word of a full time value latches the other two words for that
requester. -/
def execFullTimeRead (q : Sender) (c : Fin 3) (s : State) : Host.Outcome State Fault Refusal :=
  s.readCmd q (fullTimeReg c)

/-- UNMAPPED_ACCESS (R31): An access to an address in no window reads 0 or is ignored, and source 0x000 reports kind
0x06. -/
def execUnmappedAccess (q : Sender) (a : Nat) (w : Option Word) (s : State) : Host.Outcome State Fault Refusal :=
  s.unmappedCmd q a w

/-- CHIP_RESET (R27): A CHIP_RESET fault reaction or command resets everything outside the always-on domain, after
placing DRAM in self-refresh. -/
def execChipReset (src : Fin 768) (s : State) : Host.Outcome State Fault Refusal :=
  s.acting s.awake fun s => s.chipReset (some src)

/-- COLD_RESET (R27): PORST_N low, a supply failure or an exit from SLEEP-D resets everything but fuses and the
retained always-on state. -/
def execColdReset (cause : Fin 3) (s : State) : Host.Outcome State Fault Refusal :=
  s.always fun s => s.coldCmd cause

/-- BLOCK_RESET (R30): A block reset drops traffic at the block boundary and returns it to reset values, or is
promoted to a chip reset under R29. -/
def execBlockReset (b : Fin 23) (src : Fin 768) (s : State) : Host.Outcome State Fault Refusal :=
  s.acting s.awake fun s => s.blockOrChip b src

/-- BLOCK_RESET_COMPLETE (R30): A block in block reset returns to its reset values within 10 µs and serves again. -/
def execBlockResetComplete (b : Fin 23) (s : State) : Host.Outcome State Fault Refusal :=
  s.acting s.awake fun s => s.blockServe b

/-- TEST_PORT_RESET (R27): TRST_N resets the JTAG test access port only. A debug challenge stands (DESIGN CHOICE, log entry
138). -/
def execTestPortReset (s : State) : Host.Outcome State Fault Refusal :=
  s.always id

/-- RESET_CMD_CHIP_RESET (R35): TOP_RESET_CMD action 0x1 with the right key causes a chip reset. -/
def execResetCmdChipReset (q : Sender) (s : State) : Host.Outcome State Fault Refusal :=
  s.keyCmd q (Reg.TOP_RESET_CMD) 0xC6A5 1

/-- RESET_CMD_BLOCK_RESET (R35): TOP_RESET_CMD action 0x2 with the right key resets the named block, or is refused for
a block without block reset. -/
def execResetCmdBlockReset (q : Sender) (b : Fin 32) (s : State) : Host.Outcome State Fault Refusal :=
  s.keyCmd q (Reg.TOP_RESET_CMD) 0xC6A5 (b * 256 + 2)

/-- INT_EOI (R34): A write of TOP_INT_EOI re-evaluates lines and sends an MSI-X message for each active line so
written. -/
def execIntEoi (q : Sender) (m : Word) (s : State) : Host.Outcome State Fault Refusal :=
  s.regCmd q (Reg.TOP_INT_EOI) m

/-- MSIX_UNMASK (R34): Unmasking a vector or the function sends the messages held in pending bits. -/
def execMsixUnmask (v : Option (Fin 64)) (enable mask : Bool) (s : State) : Host.Outcome State Fault Refusal :=
  s.acting (s.serves 20) fun s => s.msixCmd v enable mask

end Sys2Proof.Machine
end

