-- ==== Sys2Proof/Machine/CmdPwr.lean ====
section
/-!
DEFINITION. Meanings of the commands of power, wake and monitors (R47 to R95).
-/
namespace Sys2Proof.Machine

/-- COLD_RESET_RELEASE (R47): The release of cold reset samples the straps into TOP_STRAP and starts the start-up
sequence. -/
def execColdResetRelease (boot : Fin 4) (pairEn pairSide pcie safe : Bool)
    (s : State) : Host.Outcome State Fault Refusal :=
  s.always fun s => s.release boot pairEn pairSide pcie safe

/-- TEMPERATURE_SAMPLE (R94): Every 100 µs the sensor updates PWR_TEMP.TEMP and drives the warning source and the
forced shutdown of R74. -/
def execTemperatureSample (v : BitVec 12) (s : State) : Host.Outcome State Fault Refusal :=
  s.acting s.powered fun s => s.tempSample v.toNat

/-- PMBUS_TIMEOUT (R64): A transaction stretched beyond 25 ms is abandoned and reported as a timeout. -/
def execPmbusTimeout (s : State) : Host.Outcome State Fault Refusal :=
  s.acting (s.supplied && !s.pwr.porst) fun s => s.pmbTimeout

/-- POWER_LOSS (R77): Loss of VDD_AON or VDDIO_AON takes the device to OFF. -/
def execPowerLoss (s : State) : Host.Outcome State Fault Refusal :=
  s.always fun s => s.powerLoss

/-- PWR_CMD_SLEEP_D (R79): PWR_CMD target SLEEP-D, unless refused under R78, starts sleep entry towards SLEEP-D. -/
def execPwrCmdSleepD (q : Sender) (pins : BitVec 4) (s : State) : Host.Outcome State Fault Refusal :=
  s.pwrCmdOf q 1 pins

/-- PWR_CMD_SLEEP_R (R79): PWR_CMD target SLEEP-R, unless refused under R78, starts sleep entry towards SLEEP-R with a
Larder checkpoint. -/
def execPwrCmdSleepR (q : Sender) (pins : BitVec 4) (s : State) : Host.Outcome State Fault Refusal :=
  s.pwrCmdOf q 2 pins

/-- PWR_CMD_STANDBY (R77): PWR_CMD target STANDBY moves an ACTIVE unit to STANDBY with FWD_EN = 0. -/
def execPwrCmdStandby (q : Sender) (pins : BitVec 4) (s : State) : Host.Outcome State Fault Refusal :=
  s.pwrCmdOf q 3 pins

/-- PWR_CMD_ACTIVE (R78): PWR_CMD target ACTIVE moves a committed, leased or unpaired unit from STANDBY to ACTIVE, or
is refused with a code. -/
def execPwrCmdActive (q : Sender) (pins : BitVec 4) (s : State) : Host.Outcome State Fault Refusal :=
  s.pwrCmdOf q 4 pins

/-- SLEEP_ENTRY_STEP (R79): Each timed step of sleep entry completes: checkpoint and self-refresh, unit stop and
commit point, down sequence steps, and INH. -/
def execSleepEntryStep (s : State) : Host.Outcome State Fault Refusal :=
  s.acting s.powered fun s => s.entryStep

/-- WAKE_CONFIRMED (R81): An enabled wake source whose condition holds for its filter time wakes the device and
records PWR_WAKE_CAUSE. -/
def execWakeConfirmed (c : Fin 66) (s : State) : Host.Outcome State Fault Refusal :=
  s.always fun s => s.wakeConfirm c

/-- WAKE_TIMER_EXPIRY (R81): PWR_WAKE_TIMER milliseconds after the sleep state was reached, the timer wake source is
confirmed. -/
def execWakeTimerExpiry (s : State) : Host.Outcome State Fault Refusal :=
  s.always fun s => s.wakeTimer

/-- PGOOD_WAIT_DONE (R86): A wake sequence step whose PGOOD bits are all high waits DELAY and then takes the next
step. -/
def execPgoodWaitDone (s : State) : Host.Outcome State Fault Refusal :=
  s.always fun s => s.pgoodDone

/-- PGOOD_TIMEOUT (R87): A PGOOD wait that times out lowers the raised steps, returns to sleep and schedules a retry.
-/
def execPgoodTimeout (s : State) : Host.Outcome State Fault Refusal :=
  s.always fun s => s.pgoodTimeout

/-- SEQUENCE_RETRY (R87): 100 ms after a failed wake sequence, the device retries, up to 3 attempts per wake. -/
def execSequenceRetry (s : State) : Host.Outcome State Fault Refusal :=
  s.always fun s => s.seqRetry

/-- START_TABLE_STEP (R91): After each step's spacing, the next step of the start table starts its units. -/
def execStartTableStep (s : State) : Host.Outcome State Fault Refusal :=
  s.always fun s => s.tableStep

/-- INTERNAL_READY (R95): The wake from SLEEP-R completes with every unit started, the complex and configuration
restored and STANDBY reached. -/
def execInternalReady (tagOk ddrLate : Bool) (s : State) : Host.Outcome State Fault Refusal :=
  s.always fun s => s.internalReady tagOk ddrLate

/-- PGOOD_LOSS (R88): A PGOOD bit of a raised step going low in STANDBY or ACTIVE makes source 0x019 report kind 0x0B.
-/
def execPgoodLoss (n : Fin 8) (s : State) : Host.Outcome State Fault Refusal :=
  s.acting s.supplied fun s => s.pgoodLoss n

/-- PGOOD_RECOVERY (R88): A PGOOD bit of a raised step that went low in STANDBY or ACTIVE returns high, and the level
source 0x019 clears its ACTIVE with a CLEAR message. -/
def execPgoodRecovery (n : Fin 8) (s : State) : Host.Outcome State Fault Refusal :=
  s.acting s.supplied fun s => s.pgoodBack n

/-- PMBUS_ALERT (R89): PMB_ALERT_N low makes the device read STATUS_WORD of the enabled devices, record the first non-
zero one and send CLEAR_FAULTS. -/
def execPmbusAlert (words : List Word) (s : State) : Host.Outcome State Fault Refusal :=
  s.acting (s.supplied && !s.pwr.porst) fun s => s.pmbAlert words

/-- PWR_SEQ_CFG_WRITE (R91): A write of NSTART triggers the start table check, setting TABLE_BAD and applying the
default table when it fails. -/
def execPwrSeqCfgWrite (q : Sender) (w : Word) (s : State) : Host.Outcome State Fault Refusal :=
  s.regCmd q (Reg.PWR_SEQ_CFG) w

/-- VOLTAGE_MONITOR_EVENT (R92): A rail crossing a warning threshold for 2 µs sets its PWR_MON_STATUS bit, or below
its reset threshold causes a cold reset. -/
def execVoltageMonitorEvent (r : Fin 8) (level : Fin 3) (s : State) : Host.Outcome State Fault Refusal :=
  s.acting (s.railOn r) fun s => s.voltEvent r level

/-- CLOCK_LOSS (R93): A clock out of ±5 % for 10 µs, or an unlocked PLL, is reported and takes its consequence. -/
def execClockLoss (c : Fin 20) (s : State) : Host.Outcome State Fault Refusal :=
  s.acting s.clocksWatched fun s => s.clockLossCmd c

/-- CLOCK_RECOVERY (R157): A reference back within ±5 % for 1 ms releases the reset or the DOWN state that its loss
caused. -/
def execClockRecovery (c : Fin 20) (s : State) : Host.Outcome State Fault Refusal :=
  s.acting s.clocksWatched fun s => s.clockBack c

/-- MR4_TEMPERATURE_REPORT (R483): The DRAM port reads MR4 and adjusts its refresh rate, setting or clearing the level
source 0x2A3 as the reported temperature leaves or re-enters the DRAM's normal range. -/
def execMr4TemperatureReport (rate : Nat) (hot : Bool) (s : State) : Host.Outcome State Fault Refusal :=
  s.acting s.awake fun s => s.mr4Report rate hot

end Sys2Proof.Machine
end

