-- ==== Sys2Proof/Machine/CmdBoot.lean ====
section
/-!
DEFINITION. Meanings of the commands of start, images and updates (R96 to R130).
-/
namespace Sys2Proof.Machine

/-- BOOT_START (R99): From release, the device confirms clocks, runs the ROM, reads fuses, seeds the DRBG, reads the
control record and headers and selects a slot. -/
def execBootStart (comp1 comp2 : Option Nat) (trngBad : Nat) (fuseBad readA readB sigA sigB : Bool)
    (s : State) : Host.Outcome State Fault Refusal :=
  s.acting s.awake fun s => s.bootStart comp1 comp2 trngBad fuseBad readA readB sigA sigB

/-- PASS1_COMPLETE (R117): Pass 1 ends with the image hash compared with PAYLOAD_HASH, and pass 2 begins or the slot
fails. -/
def execPass1Complete (answers inTime hashOk : Bool) (s : State) : Host.Outcome State Fault Refusal :=
  s.acting s.awake fun s => s.pass1Done (answers && inTime) hashOk

/-- DRAM_TRAINING_DONE (R113): DRAM training completes, or fails after 15 ms with code 0xC, and waiting DRAM MEM_LOADs
proceed. -/
def execDramTrainingDone (ok inTime : Bool) (s : State) : Host.Outcome State Fault Refusal :=
  s.acting s.awake fun s => s.trained (ok && inTime)

/-- IMAGE_COMMIT (R122): At the end of pass 2 the image commits: LK fields lock, bank A is active, versions and boot
time are recorded. -/
def execImageCommit (readOk hashOk : Bool) (s : State) : Host.Outcome State Fault Refusal :=
  s.acting s.awake fun s => s.imageCommit readOk hashOk

/-- RESUME_RETAG_DONE (R125): The re-tagging of the resume region under a new slot 255 key completes and
PWR_STATUS.BUSY clears. -/
def execResumeRetagDone (s : State) : Host.Outcome State Fault Refusal :=
  s.acting s.awake fun s => s.retagDone

/-- STAGE_CHUNK_SUBMIT (R119): A write of BOOT_STAGE_LEN submits a chunk of a PCIe-supplied image or capsule, or sets
ORDER_ERR. -/
def execStageChunkSubmit (q : Sender) (w : Word) (s : State) : Host.Outcome State Fault Refusal :=
  s.regCmd q (Reg.BOOT_STAGE_LEN) w

/-- STAGE_CHUNK_TAKEN (R119): The device takes a submitted chunk and READY returns to 1. -/
def execStageChunkTaken (inOrder keyOk sigOk : Bool) (s : State) : Host.Outcome State Fault Refusal :=
  s.acting s.awake fun s => s.chunkTaken inOrder (keyOk && sigOk)

/-- PCIE_IMAGE_TIMEOUT (R121): No chunk within 10 s of a pass start or 1 s after a chunk fails the PCIe source with
code 0xF. -/
def execPcieImageTimeout (s : State) : Host.Outcome State Fault Refusal :=
  s.acting s.awake fun s => s.pcieTimeout

/-- BEGIN_IMAGE (R127): BOOT_UPDATE_CMD BEGIN_IMAGE erases the inactive slot to receive an image capsule. -/
def execBeginImage (q : Sender) (s : State) : Host.Outcome State Fault Refusal :=
  s.keyCmd q (Reg.BOOT_UPDATE_CMD) 0x3C91 1

/-- BEGIN_RUNTIME (R128): BOOT_UPDATE_CMD BEGIN_RUNTIME receives a run-time capsule into the DRAM staging region. -/
def execBeginRuntime (q : Sender) (s : State) : Host.Outcome State Fault Refusal :=
  s.keyCmd q (Reg.BOOT_UPDATE_CMD) 0x3C91 2

/-- UPDATE_ERASE_DONE (R127): The erase of the inactive slot completes and the update enters RECEIVING. -/
def execUpdateEraseDone (s : State) : Host.Outcome State Fault Refusal :=
  s.acting s.awake fun s => s.eraseDone

/-- BOOT_UPDATE_END (R127): BOOT_UPDATE_CMD END starts verification of the staged capsule. -/
def execBootUpdateEnd (q : Sender) (s : State) : Host.Outcome State Fault Refusal :=
  s.keyCmd q (Reg.BOOT_UPDATE_CMD) 0x3C91 3

/-- UPDATE_VERIFY_DONE (R128): Verification ends with STATE STAGED, or FAILED with its code. -/
def execUpdateVerifyDone (readOk hashOk keyOk sigOk : Bool) (s : State) : Host.Outcome State Fault Refusal :=
  s.acting s.awake fun s => s.verifyDone readOk hashOk (keyOk && sigOk)

/-- BOOT_UPDATE_COMMIT (R127): COMMIT writes the control record for a staged image, or starts applying a staged run-
time capsule. -/
def execBootUpdateCommit (q : Sender) (tries : Fin 8) (s : State) : Host.Outcome State Fault Refusal :=
  s.keyCmd q (Reg.BOOT_UPDATE_CMD) 0x3C91 (tries * 256 + 4)

/-- RUNTIME_APPLY_DONE (R128): Application of a run-time capsule completes, or stops at a refused entry with code 0xA
and the resume region voided. -/
def execRuntimeApplyDone (refused : Option Nat) (s : State) : Host.Outcome State Fault Refusal :=
  s.acting s.awake fun s => s.applyDone refused

/-- BOOT_UPDATE_CONFIRM (R127): CONFIRM clears TRIAL of the running slot and raises the anti-rollback floor. -/
def execBootUpdateConfirm (q : Sender) (s : State) : Host.Outcome State Fault Refusal :=
  s.keyCmd q (Reg.BOOT_UPDATE_CMD) 0x3C91 5

/-- BOOT_UPDATE_CANCEL (R129): CANCEL abandons an update, returning STATE to IDLE with code CANCELLED. -/
def execBootUpdateCancel (q : Sender) (s : State) : Host.Outcome State Fault Refusal :=
  s.keyCmd q (Reg.BOOT_UPDATE_CMD) 0x3C91 6

/-- FLASH_TIMEOUT (R130): A flash erase or program that does not complete in time during an update reports source
0x026. -/
def execFlashTimeout (s : State) : Host.Outcome State Fault Refusal :=
  s.acting s.awake fun s => s.flashTimeout

end Sys2Proof.Machine
end

