-- ==== Sys2Proof/Machine/CmdSec.lean ====
section
/-!
DEFINITION. Meanings of the commands of security (R131 to R155).
-/
namespace Sys2Proof.Machine

/-- LIFECYCLE_CMD (R136): A write of SEC_LIFECYCLE_CMD makes an allowed lifecycle change by blowing a fuse bit, or is
refused. -/
def execLifecycleCmd (q : Sender) (target : Fin 4) (s : State) : Host.Outcome State Fault Refusal :=
  s.keyCmd q (Reg.SEC_LIFECYCLE_CMD) 0x9E27 target

/-- FUSE_WRITE_DONE (R137): The lifecycle fuse write completes within 5 ms, taking effect at the next cold reset. -/
def execFuseWriteDone (s : State) : Host.Outcome State Fault Refusal :=
  s.acting s.awake fun s => s.fuseDone

/-- SEC_ZEROIZE (R154): A write of SEC_ZEROIZE clears all key slots, KEKs, the identity key and the DRBG state within
20 µs. -/
def execSecZeroize (q : Sender) (s : State) : Host.Outcome State Fault Refusal :=
  s.keyCmd q (Reg.SEC_ZEROIZE) 0x0D1E 1

/-- DEBUG_CHALLENGE_READ (R151): A read of SEC_DEBUG_CHAL[0] draws a fresh 32-byte challenge. -/
def execDebugChallengeRead (q : Sender) (s : State) : Host.Outcome State Fault Refusal :=
  s.readCmd q (Reg.SEC_DEBUG_CHAL 0)

/-- DEBUG_TOKEN_CHECK (R153): SEC_DEBUG_CMD CHECK verifies the token and unlocks debug, or voids the challenge and
refuses challenges for 1 s. -/
def execDebugTokenCheck (q : Sender) (keyOk sigOk : Bool) (s : State) : Host.Outcome State Fault Refusal :=
  s.keyCmd q (Reg.SEC_DEBUG_CMD) 0xDB61 1 (b2n (keyOk && sigOk))

/-- CHALLENGE_EXPIRY (R151): A debug challenge is void 60 s after it was drawn. -/
def execChallengeExpiry (s : State) : Host.Outcome State Fault Refusal :=
  s.acting s.awake fun s => s.chalExpire

/-- CHALLENGE_REFUSAL_END (R152): 1 s after a failed token the device again draws challenges. -/
def execChallengeRefusalEnd (s : State) : Host.Outcome State Fault Refusal :=
  s.acting s.awake fun s => s.chalOpen

/-- TRNG_HEALTH_FAIL (R150): A health test failure after commit halts the DRBG and refuses random output. -/
def execTrngHealthFail (s : State) : Host.Outcome State Fault Refusal :=
  s.acting s.awake fun s => s.trngFail

/-- DRBG_RESTART (R150): After 3 consecutive passing tests the DRBG restarts and DRBG_HALT clears. -/
def execDrbgRestart (s : State) : Host.Outcome State Fault Refusal :=
  s.acting s.awake fun s => s.drbgRestart.pairStart

/-- DRBG_RESEED (R149): After 65,536 generate requests or 100 ms the DRBG reseeds. -/
def execDrbgReseed (s : State) : Host.Outcome State Fault Refusal :=
  s.acting s.awake fun s => s.drbgReseed

/-- KEY_SLOT_WRITE (R146): A slot is filled by boot, capsule or firmware, or refused when locked or in use. -/
def execKeySlotWrite (k : Fin 256) (alg : Fin 16) (usage : BitVec 8) (lock drawn : Bool)
    (s : State) : Host.Outcome State Fault Refusal :=
  s.acting s.awake fun s => s.keySlotWrite k alg usage.toNat lock drawn

end Sys2Proof.Machine
end

