-- ==== Sys2Proof/Machine/CmdPort.lean ====
section
/-!
DEFINITION. Meanings of the commands of the ports (R156 to R175, R275, R473).
-/
namespace Sys2Proof.Machine

/-- PORT_CFG_WRITE (R161): A write of MAC_PORT_CFG changing ENABLE or MODE takes the port to DISABLED and on to DOWN
under a valid mode. -/
def execPortCfgWrite (q : Sender) (n : Fin 24) (w : Word) (s : State) : Host.Outcome State Fault Refusal :=
  s.regCmd q (Reg.MAC_PORT_CFG n) w

/-- LINK_SIGNAL_DETECT (R160): A signal detected or PHY training begun takes a DOWN port to TRAINING. -/
def execLinkSignalDetect (n : Fin 24) (s : State) : Host.Outcome State Fault Refusal :=
  s.acting s.awake fun s => s.signalDetect n

/-- LINK_TRAINING_DONE (R160): Lock, auto-negotiation, PHY training and the polled link bit take the port to
UP_PENDING. -/
def execLinkTrainingDone (n : Fin 24) (speed : Fin 8) (lpPause : Bool)
    (s : State) : Host.Outcome State Fault Refusal :=
  s.acting s.awake fun s => s.trainingDone n speed lpPause

/-- UP_FILTER_EXPIRY (R160): UP_PENDING held for UP_FILTER ms takes the port to UP and starts its hold-off. -/
def execUpFilterExpiry (n : Fin 24) (s : State) : Host.Outcome State Fault Refusal :=
  s.acting s.awake fun s => s.upFilter n

/-- LINK_LOSS (R161): A loss of an UP_PENDING condition returns a training port to DOWN at once, or starts the
DN_FILTER in UP. -/
def execLinkLoss (n : Fin 24) (localF remoteF : Bool) (s : State) : Host.Outcome State Fault Refusal :=
  s.acting s.awake fun s => s.linkLoss n localF remoteF

/-- LINK_LOSS_FILTER_EXPIRY (R161): A loss lasting DN_FILTER × 10 µs takes an UP port to DOWN. -/
def execLinkLossFilterExpiry (n : Fin 24) (s : State) : Host.Outcome State Fault Refusal :=
  s.acting s.awake fun s => s.lossFilter n

/-- LINK_DOWN_FLUSH_DONE (R279): The queue flush of a port that left UP ends and FLUSH_DONE is set. -/
def execLinkDownFlushDone (n : Fin 24) (s : State) : Host.Outcome State Fault Refusal :=
  s.acting s.awake fun s => s.flushDone n

/-- HOLDOFF_EXPIRY (R280): A port in UP for HOLDOFF ms with its flush ended has its egress enabled again. -/
def execHoldoffExpiry (n : Fin 24) (s : State) : Host.Outcome State Fault Refusal :=
  s.acting s.awake fun s => s.holdoffDone n

/-- PFC_FRAME_RECEIVED (R165): A received PFC frame pauses each honoured priority for its quanta and counts the others
as ignored. -/
def execPfcFrameReceived (n : Fin 24) (vec : BitVec 8) (quanta : List Nat)
    (s : State) : Host.Outcome State Fault Refusal :=
  s.acting s.awake fun s => s.pfcReceived n vec.toNat quanta

/-- PAUSE_FRAME_RECEIVED (R166): A received PAUSE frame pauses every unprotected class, or is only counted when PFC is
enabled. -/
def execPauseFrameReceived (n : Fin 24) (quanta : BitVec 16) (s : State) : Host.Outcome State Fault Refusal :=
  s.acting s.awake fun s => s.pauseReceived n quanta.toNat

/-- PAUSE_TIMER_EXPIRY (R165): A received pause ends when its quanta have elapsed. -/
def execPauseTimerExpiry (n : Fin 24) (c : Fin 8) (s : State) : Host.Outcome State Fault Refusal :=
  s.acting s.awake fun s => s.setPause n c 0

/-- PREEMPT_VERIFY_TIMER (R168): Every VERIFY_TIME ms the port sends a verify frame, and after 3 unanswered attempts
verification fails. -/
def execPreemptVerifyTimer (n : Fin 24) (s : State) : Host.Outcome State Fault Refusal :=
  s.acting s.awake fun s => s.verifyTimer n

/-- PREEMPT_VERIFY_RESPONSE (R168): A response to a verify frame makes VERIFY_STATUS read succeeded and preemption
active. -/
def execPreemptVerifyResponse (n : Fin 24) (s : State) : Host.Outcome State Fault Refusal :=
  s.acting s.awake fun s => s.verifyResponse n

/-- SQI_UPDATE (R169): Every 1 ms in UP the PHY updates PHY_STATUS.SQI. -/
def execSqiUpdate (p : Fin 12) (sqi : Fin 8) (s : State) : Host.Outcome State Fault Refusal :=
  s.acting s.awake fun s => s.sqiUpdate (12 + p) sqi

/-- PLCA_BEACON_CONFLICT (R170): A coordinator that receives a beacon it did not send sets CONFLICT and reports kind
0x06. -/
def execPlcaBeaconConflict (p : Fin 4) (s : State) : Host.Outcome State Fault Refusal :=
  s.acting s.awake fun s => s.plcaConflict (20 + p)

/-- TC10_SLEEP_ACK (R171): The partner's acknowledgement of a sleep request takes the port to SLEEP. -/
def execTc10SleepAck (p : Fin 12) (s : State) : Host.Outcome State Fault Refusal :=
  s.acting s.awake fun s => s.tc10Asleep (12 + p) true

/-- TC10_SLEEP_TIMEOUT (R171): No acknowledgement within 0.8 ms takes the port silent into SLEEP with TC10_NOACK set.
-/
def execTc10SleepTimeout (p : Fin 12) (s : State) : Host.Outcome State Fault Refusal :=
  s.acting s.awake fun s => s.tc10Asleep (12 + p) false

/-- TC10_CMD_SLEEP (R171): PHY_TC10_CMD action 1 sends a sleep request on a port in UP. -/
def execTc10CmdSleep (q : Sender) (p : Fin 12) (s : State) : Host.Outcome State Fault Refusal :=
  s.regCmd q (Reg.PHY_TC10_CMD (12 + p)) 1

/-- TC10_CMD_WAKE (R171): PHY_TC10_CMD action 2 wakes a port in SLEEP. -/
def execTc10CmdWake (q : Sender) (p : Fin 12) (s : State) : Host.Outcome State Fault Refusal :=
  s.regCmd q (Reg.PHY_TC10_CMD (12 + p)) 2

/-- TC10_WAKE_DETECT (R171): A wake-up detected on a sleeping port takes it to TRAINING, forwards the wake when
configured, or wakes the device. -/
def execTc10WakeDetect (p : Fin 12) (s : State) : Host.Outcome State Fault Refusal :=
  s.always fun s => s.tc10WakeCmd p

/-- MDIO_ADDRESS (R172): MAC_MDIO_CMD GO with OP Clause 45 address sends an address frame. -/
def execMdioAddress (q : Sender) (prtad devad : Fin 32) (addr : BitVec 16)
    (s : State) : Host.Outcome State Fault Refusal :=
  s.regCmd q (Reg.MAC_MDIO_CMD) (mdioGo 0 true prtad devad addr.toNat)

/-- MDIO_WRITE (R172): MAC_MDIO_CMD GO with OP write sends a write frame. -/
def execMdioWrite (q : Sender) (c45 : Bool) (prtad devad : Fin 32) (data : BitVec 16)
    (s : State) : Host.Outcome State Fault Refusal :=
  s.regCmd q (Reg.MAC_MDIO_CMD) (mdioGo 1 c45 prtad devad data.toNat)

/-- MDIO_READ (R172): MAC_MDIO_CMD GO with OP read sends a read frame. -/
def execMdioRead (q : Sender) (c45 : Bool) (prtad devad : Fin 32) (s : State) : Host.Outcome State Fault Refusal :=
  s.regCmd q (Reg.MAC_MDIO_CMD) (mdioGo 3 c45 prtad devad 0)

/-- MDIO_READ_INCREMENT (R172): MAC_MDIO_CMD GO with OP Clause 45 read with address increment sends that read frame.
-/
def execMdioReadIncrement (q : Sender) (prtad devad : Fin 32) (s : State) : Host.Outcome State Fault Refusal :=
  s.regCmd q (Reg.MAC_MDIO_CMD) (mdioGo 2 true prtad devad 0)

/-- MDIO_FRAME_DONE (R172): An MDIO frame ends, clearing BUSY and leaving read data valid, and a waiting command
starts. -/
def execMdioFrameDone (data : BitVec 16) (s : State) : Host.Outcome State Fault Refusal :=
  s.acting s.awake fun s => s.mdioDone data.toNat

/-- MDIO_POLL (R173): Every 1 ms the master reads the polled link register of each enabled external PHY. -/
def execMdioPoll (s : State) : Host.Outcome State Fault Refusal :=
  s.acting s.awake fun s => s.mdioPoll

/-- EXT_PHY_INTERRUPT (R173): EXT_PHY_INT_N falling sets EXT_PHY and makes the master read the link register within
100 µs. -/
def execExtPhyInterrupt (n : Fin 4) (s : State) : Host.Outcome State Fault Refusal :=
  s.acting s.awake fun s => s.extPhyInt n

/-- RATE_WINDOW_EXPIRY (R473): At the end of each 1 ms window a rate source whose count did not exceed its threshold
clears its level. -/
def execRateWindowExpiry (src : Fin 768) (s : State) : Host.Outcome State Fault Refusal :=
  s.acting s.awake fun s => s.windowEnd src

/-- PFC_FRAME_SEND (R275): After a change of XOFF, the MAC sends a PFC or PAUSE frame after the frame in transmission.
-/
def execPfcFrameSend (n : Fin 24) (s : State) : Host.Outcome State Fault Refusal :=
  s.acting s.awake fun s => s.pfcSend n

/-- PAUSE_REPEAT_TIMER (R275): While a class stays in XOFF, the PFC or PAUSE frame is repeated every QUANTA × 256 bit
times. -/
def execPauseRepeatTimer (n : Fin 24) (s : State) : Host.Outcome State Fault Refusal :=
  s.acting s.awake fun s => s.pauseRepeat n

end Sys2Proof.Machine
end

