-- ==== Sys2Proof/Machine/CmdFrame.lean ====
section
/-!
DEFINITION. Meanings of the commands of the frame pipeline (R15 to R26, R176 to R283).
-/
namespace Sys2Proof.Machine

/-- FRAME_ARRIVAL (R16): A frame's SFD enters a port, is timestamped, and its bytes start to be written to a Rake
window and Cellar cells. -/
def execFrameArrival (n : Fin 24) (s : State) : Host.Outcome State Fault Refusal :=
  s.acting s.awake fun s => s.frameArrival n

/-- CELL_ARRIVAL (R270): Each arriving cell of a frame is charged to MIN, the shared pool, headroom or the protected
reserve, or the frame is dropped at ingress. -/
def execCellArrival (fid : Nat) (b : List Byte) (s : State) : Host.Outcome State Fault Refusal :=
  s.acting s.awake fun s => s.cellArrival fid b

/-- FRAME_END (R278): A frame ends on the wire with its FCS verdict and late length check; a bad frame's copies are
removed or stomped. -/
def execFrameEnd (fid : Nat) (fcsOk : Bool) (rx : RxEnd) (s : State) : Host.Outcome State Fault Refusal :=
  s.acting s.awake fun s => s.frameEnd fid fcsOk rx.phyErr rx.frags rx.asmErr

/-- ICV_VERIFIED (R358): A verification job ends: the frame enters stage 3 after the second replay check, or its cells
are freed on ICV failure. `ok`: the Pan computes the ICV rightly; `err`: what a faulty Pan changes in the decrypted bytes
(R365). -/
def execIcvVerified (fid : Nat) (ok : Bool) (err : List Byte) (s : State) : Host.Outcome State Fault Refusal :=
  s.acting s.awake fun s => s.icvVerified fid ok err

/-- RAKE_DISPATCH (R177): A ready frame is given to a free Rake, which takes the outer Ethernet header and starts the
program at its entry. -/
def execRakeDispatch (s : State) : Host.Outcome State Fault Refusal :=
  s.acting s.awake fun s => s.dispatch

/-- RAKE_STALL_END (R17): A Rake stalled on a window byte resumes when the byte arrives or the frame ends. -/
def execRakeStallEnd (r : Fin 32) (s : State) : Host.Outcome State Fault Refusal :=
  s.acting s.awake fun s => s.stallEnd r

/-- KEY_RECORD_WRITTEN (R182): A finished key record runs stages 5–8: stream identification, tree walk, session
lookup, meter, gate and FRER. -/
def execKeyRecordWritten (r : Fin 32) (s : State) : Host.Outcome State Fault Refusal :=
  s.acting s.awake fun s => s.keyWritten r

/-- SESSION_CREATION_WRITE (R248): The creation unit writes a held creation into the session table. -/
def execSessionCreationWrite (s : State) : Host.Outcome State Fault Refusal :=
  s.acting s.awake fun s => s.sessWriteHeld

/-- FORWARDING_DECISION (R264): In arrival order per port, stage 9 fixes VLAN, destination set and zone pruning and
stage 10 enqueues each copy. -/
def execForwardingDecision (p : Fin 30) (s : State) : Host.Outcome State Fault Refusal :=
  s.acting s.awake fun s => s.forwarding p

/-- RECIRCULATION_PASS (R195): A frame re-entering from port 28 is parsed again with its IN_PORT, USER and epoch kept.
-/
def execRecirculationPass (s : State) : Host.Outcome State Fault Refusal :=
  s.acting s.awake fun s => s.recircCmd

/-- LEARNING_REQUEST (R265): After the frame ends, the learning unit inserts or refreshes the source address entry and
may send a learning copy. -/
def execLearningRequest (s : State) : Host.Outcome State Fault Refusal :=
  s.acting s.awake fun s => s.learnNext

/-- TRANSMISSION_SELECTION (R309): When a port can start a frame, it takes the eligible strict-priority class or the
DWRR turn and begins transmission. -/
def execTransmissionSelection (e : Fin 30) (s : State) : Host.Outcome State Fault Refusal :=
  s.acting s.awake fun s => s.selection e

/-- MACSEC_EGRESS_DISPATCH (R360): An egress job is dispatched for a copy to a secured port, rechecked against its
gate and given the next PN. -/
def execMacsecEgressDispatch (e : Fin 24) (s : State) : Host.Outcome State Fault Refusal :=
  s.acting s.awake fun s => s.egressDispatch e

/-- TRANSMIT_END (R258): A copy's transmission or delivery completes and it releases its descriptor and cells. -/
def execTransmitEnd (e : Fin 30) (tx : TxEnd)
    (s : State) : Host.Outcome State Fault Refusal :=
  s.acting s.awake fun s => s.transmitEnd e tx.bufs tx.collisions

/-- FIRMWARE_FRAME_SEND (R21): The firmware writes a frame of its own (PTP, MKA, management reply or other) into port
24, where it enters the switch at stage 3 and is timestamped under R22. -/
def execFirmwareFrameSend (c : Fin 8) (b : List Byte) (oneStep : Bool)
    (s : State) : Host.Outcome State Fault Refusal :=
  s.acting (s.awake && !s.on .TOP_STATE_CCX_RESTART) fun s => s.firmwareSend c b oneStep

end Sys2Proof.Machine
end

