-- ==== Sys2Proof/Machine/CmdIsa.lean ====
section
/-!
DEFINITION. Meanings of the commands of the Rake instruction set (R202 to R220).
-/
namespace Sys2Proof.Machine

/-- ADD (R206): rd := ra + b, setting Z, N and C. -/
def execAdd (e : EngId) (s : State) : Host.Outcome State Fault Refusal :=
  s.acting (s.engServes e) fun s => s.isaAlu e 0x01 true addC

/-- SUB (R206): rd := ra − b, setting Z, N and the borrow. -/
def execSub (e : EngId) (s : State) : Host.Outcome State Fault Refusal :=
  s.acting (s.engServes e) fun s => s.isaAlu e 0x02 true subC

/-- AND (R206): rd := ra AND b. -/
def execAnd (e : EngId) (s : State) : Host.Outcome State Fault Refusal :=
  s.acting (s.engServes e) fun s => s.isaAlu e 0x03 true (fun a b => (a &&& b, false))

/-- OR (R206): rd := ra OR b. -/
def execOr (e : EngId) (s : State) : Host.Outcome State Fault Refusal :=
  s.acting (s.engServes e) fun s => s.isaAlu e 0x04 true (fun a b => (a ||| b, false))

/-- XOR (R206): rd := ra XOR b. -/
def execXor (e : EngId) (s : State) : Host.Outcome State Fault Refusal :=
  s.acting (s.engServes e) fun s => s.isaAlu e 0x05 true (fun a b => (a ^^^ b, false))

/-- SHL (R206): rd := ra shifted left by b[4:0]. -/
def execShl (e : EngId) (s : State) : Host.Outcome State Fault Refusal :=
  s.acting (s.engServes e) fun s => s.isaAlu e 0x06 true (fun a b => (a <<< (b.toNat % 32), false))

/-- SHR (R206): rd := ra shifted right logically by b[4:0]. -/
def execShr (e : EngId) (s : State) : Host.Outcome State Fault Refusal :=
  s.acting (s.engServes e) fun s => s.isaAlu e 0x07 true (fun a b => (a >>> (b.toNat % 32), false))

/-- MOV (R206): rd := b. -/
def execMov (e : EngId) (s : State) : Host.Outcome State Fault Refusal :=
  s.acting (s.engServes e) fun s => s.isaMov e

/-- EXT (R206): rd := a bit field of ra of IMM[5:0] bits from bit X. -/
def execExt (e : EngId) (s : State) : Host.Outcome State Fault Refusal :=
  s.acting (s.engServes e) fun s => s.isaExt e

/-- CMP (R204): Sets the flags from ra − b. -/
def execCmp (e : EngId) (s : State) : Host.Outcome State Fault Refusal :=
  s.acting (s.engServes e) fun s => s.isaAlu e 0x0A false subC

/-- TST (R204): Sets Z and N from ra AND b. -/
def execTst (e : EngId) (s : State) : Host.Outcome State Fault Refusal :=
  s.acting (s.engServes e) fun s => s.isaAlu e 0x0B false (fun a b => (a &&& b, false))

/-- RDS (R208): rd := the special register that X names in the profile. -/
def execRds (e : EngId) (s : State) : Host.Outcome State Fault Refusal :=
  s.acting (s.engServes e) fun s => s.isaRds e

/-- BR (R207): Branches to IMM[13:0] when condition CX holds. -/
def execBr (e : EngId) (s : State) : Host.Outcome State Fault Refusal :=
  s.acting (s.engServes e) fun s => s.isaBr e

/-- CALL (R215): Pushes the next address and branches to IMM[13:0]. -/
def execCall (e : EngId) (s : State) : Host.Outcome State Fault Refusal :=
  s.acting (s.engServes e) fun s => s.isaCall e

/-- RET (R215): Pops the return stack and branches there. -/
def execRet (e : EngId) (s : State) : Host.Outcome State Fault Refusal :=
  s.acting (s.engServes e) fun s => s.isaRet e

/-- BRX (R206): Branches to IMM[13:0] + W[RA] when W[RA] ≤ X. -/
def execBrx (e : EngId) (s : State) : Host.Outcome State Fault Refusal :=
  s.acting (s.engServes e) fun s => s.isaBrx e

/-- END (R216): Ends the parser pass normally, or ends a gateway event with the write-back of R218. -/
def execEndProg (e : EngId) (s : State) : Host.Outcome State Fault Refusal :=
  s.acting (s.engServes e) fun s => s.isaEnd e

/-- NOP (R206): Does nothing. -/
def execNop (e : EngId) (s : State) : Host.Outcome State Fault Refusal :=
  s.acting (s.engServes e) fun s => s.isaNop e

/-- LD (R209): Loads 1, 2 or 4 bytes from a space, setting V when out of range and stalling on a window byte not yet
arrived. -/
def execLd (e : EngId) (s : State) : Host.Outcome State Fault Refusal :=
  s.acting (s.engServes e) fun s => s.isaLd e

/-- ST (R210): Stores the low bytes of W[RB] to an allowed space. -/
def execSt (e : EngId) (s : State) : Host.Outcome State Fault Refusal :=
  s.acting (s.engServes e) fun s => s.isaSt e

/-- SETCUR (R206): Sets CUR absolutely or relatively and clears L2POS. -/
def execSetcur (e : EngId) (s : State) : Host.Outcome State Fault Refusal :=
  s.acting (s.engServes e) fun s => s.isaSetcur e

/-- HDR (R212): Takes a listed header with its checks and fills its key record fields, or stops the pass. -/
def execHdr (e : EngId) (s : State) : Host.Outcome State Fault Refusal :=
  s.acting (s.engServes e) fun s => s.isaHdr e

/-- MALF (R216): Ends the parser pass MALFORMED with code 0xB–0xD. -/
def execMalf (e : EngId) (s : State) : Host.Outcome State Fault Refusal :=
  s.acting (s.engServes e) fun s => s.isaMalf e

/-- RECIRC (R216): Marks the frame for another pass, naming a parser entry when I = 1. -/
def execRecirc (e : EngId) (s : State) : Host.Outcome State Fault Refusal :=
  s.acting (s.engServes e) fun s => s.isaRecirc e

/-- LKP (R217): Looks up the key under the mask in the channel's filter table and returns the first result. -/
def execLkp (e : EngId) (s : State) : Host.Outcome State Fault Refusal :=
  s.acting (s.engServes e) fun s => s.isaLkp e

/-- AUTH (R217): Calls the CAN authentication service to verify or generate and waits for its result. -/
def execAuth (e : EngId) (s : State) : Host.Outcome State Fault Refusal :=
  s.acting (s.engServes e) fun s => s.isaAuth e

/-- SEND (R217): Copies the output buffer to a channel queue, port 26 or a Hatch and returns accepted or refused. -/
def execSend (e : EngId) (s : State) : Host.Outcome State Fault Refusal :=
  s.acting (s.engServes e) fun s => s.isaSend e

/-- OLEN (R206): Sets the output length. -/
def execOlen (e : EngId) (s : State) : Host.Outcome State Fault Refusal :=
  s.acting (s.engServes e) fun s => s.isaOlen e

end Sys2Proof.Machine
end

