-- ==== Sys2Proof/Machine/CmdCls.lean ====
section
/-!
DEFINITION. Meanings of the commands of classification, sessions and the FDB (R224 to R268, R522).
-/
namespace Sys2Proof.Machine

/-- EPOCH_SWAP (R241): CLS_EPOCH_CMD SWAP makes the other bank active and increments EPOCH, or is refused with a code.
-/
def execEpochSwap (q : Sender) (s : State) : Host.Outcome State Fault Refusal :=
  s.keyCmd q (Reg.CLS_EPOCH_CMD) 0xE90C 1

/-- SWAP_SETTLED (R241): The reference count of the old bank becomes final and SWAP_PENDING reads 0. -/
def execSwapSettled (s : State) : Host.Outcome State Fault Refusal :=
  s.acting s.awake fun s => s.swapSettled

/-- TREE_DATA_HI_WRITE (R243): A write of CLS_TREE_DATA_HI writes the 64-bit word at WORD under R242 and advances WORD
with AUTO_INC. -/
def execTreeDataHiWrite (q : Sender) (w : Word) (s : State) : Host.Outcome State Fault Refusal :=
  s.regCmd q (Reg.CLS_TREE_DATA_HI) w

/-- TREE_DATA_LO_READ (R243): A read of CLS_TREE_DATA_LO reads the word at WORD and latches its high half. -/
def execTreeDataLoRead (q : Sender) (s : State) : Host.Outcome State Fault Refusal :=
  s.readCmd q (Reg.CLS_TREE_DATA_LO)

/-- TREE_DIRECT_WRITE (R227): A direct high-half write writes the held low half and the high half to tree memory in
one step. -/
def execTreeDirectWrite (q : Sender) (i : Fin 262144) (hi : Bool) (w : Word)
    (s : State) : Host.Outcome State Fault Refusal :=
  s.regCmd q (treeBase + 8 * i + 4 * b2n hi) w

/-- TREE_DIRECT_READ (R227): A direct low-half read reads the stored word and latches its high half. -/
def execTreeDirectRead (q : Sender) (i : Fin 262144) (hi : Bool) (s : State) : Host.Outcome State Fault Refusal :=
  s.readCmd q (treeBase + 8 * i + 4 * b2n hi)

/-- SESSION_AGEING_SCAN (R251): Every SCAN seconds the firmware removes timed-out non-static entries with conditional
DELETEs. -/
def execSessionAgeingScan (s : State) : Host.Outcome State Fault Refusal :=
  s.acting (s.awake && !s.on .TOP_STATE_CCX_RESTART) fun s => s.sessScan

/-- STASH_MOVE (R249): The device moves a stash entry into the ways by cuckoo displacement. -/
def execStashMove (i : Fin 256) (s : State) : Host.Outcome State Fault Refusal :=
  s.acting s.awake fun s => s.stashMove (stashBase + i)

/-- FWL_LOOKUP (R522): FWL_CMD LOOKUP finds the entry of FWL_CMD_DATA. -/
def execFwlLookup (q : Sender) (s : State) : Host.Outcome State Fault Refusal :=
  s.keyCmd q (Reg.FWL_CMD) 0x5E55 1

/-- FWL_READ (R522): FWL_CMD READ returns the entry at INDEX. -/
def execFwlRead (q : Sender) (s : State) : Host.Outcome State Fault Refusal :=
  s.keyCmd q (Reg.FWL_CMD) 0x5E55 2

/-- FWL_INSERT (R522): FWL_CMD INSERT places a canonical entry with VALID = 1 under R248. -/
def execFwlInsert (q : Sender) (s : State) : Host.Outcome State Fault Refusal :=
  s.keyCmd q (Reg.FWL_CMD) 0x5E55 3

/-- FWL_DELETE (R252): FWL_CMD DELETE removes the entry only when its key and LAST are unchanged. -/
def execFwlDelete (q : Sender) (s : State) : Host.Outcome State Fault Refusal :=
  s.keyCmd q (Reg.FWL_CMD) 0x5E55 4

/-- FWL_FLUSH (R522): FWL_CMD FLUSH starts a walk removing non-static or all entries. -/
def execFwlFlush (q : Sender) (all : Bool) (s : State) : Host.Outcome State Fault Refusal :=
  s.keyCmd q (Reg.FWL_CMD) 0x5E55 (5 + 8 * b2n all)

/-- FWL_FLUSH_DONE (R522): The session flush walk completes within 65.8 µs and displacement resumes. -/
def execFwlFlushDone (s : State) : Host.Outcome State Fault Refusal :=
  s.acting s.awake fun s => s.fwlFlushDone

/-- FDB_AGEING_SCAN (R266): Every PERIOD seconds the FDB scan increments AGE and removes dynamic entries above LIMIT.
-/
def execFdbAgeingScan (s : State) : Host.Outcome State Fault Refusal :=
  s.acting s.awake fun s => s.fdbScan

/-- FDB_LOOKUP (R268): SWC_FDB_CMD LOOKUP finds the entry by MAC and VID. -/
def execFdbLookup (q : Sender) (s : State) : Host.Outcome State Fault Refusal :=
  s.keyCmd q (Reg.SWC_FDB_CMD) 0xFD8C 1

/-- FDB_READ (R268): SWC_FDB_CMD READ returns the entry at INDEX. -/
def execFdbRead (q : Sender) (s : State) : Host.Outcome State Fault Refusal :=
  s.keyCmd q (Reg.SWC_FDB_CMD) 0xFD8C 2

/-- FDB_INSERT (R268): SWC_FDB_CMD INSERT places an entry in the lowest free way, or reports full. -/
def execFdbInsert (q : Sender) (s : State) : Host.Outcome State Fault Refusal :=
  s.keyCmd q (Reg.SWC_FDB_CMD) 0xFD8C 3

/-- FDB_DELETE (R268): SWC_FDB_CMD DELETE removes the entry by MAC and VID. -/
def execFdbDelete (q : Sender) (s : State) : Host.Outcome State Fault Refusal :=
  s.keyCmd q (Reg.SWC_FDB_CMD) 0xFD8C 4

/-- FDB_FLUSH (R281): SWC_FDB_CMD FLUSH walks the table removing the dynamic entries of PORT, or all with ALL. -/
def execFdbFlush (q : Sender) (port : Fin 32) (all : Bool) (s : State) : Host.Outcome State Fault Refusal :=
  s.keyCmd q (Reg.SWC_FDB_CMD) 0xFD8C (5 + 8 * b2n all + 16 * port)

/-- FDB_FLUSH_DONE (R281): An FDB flush walk ends after 16,384 cycles. -/
def execFdbFlushDone (s : State) : Host.Outcome State Fault Refusal :=
  s.acting s.awake fun s => s.fdbWalkDone

end Sys2Proof.Machine
end

