-- ==== Sys2Proof/Machine/CmdStm.lean ====
section
/-!
DEFINITION. Meanings of the commands of streams and shapers (R287 to R316).
-/
namespace Sys2Proof.Machine

/-- METER_REFILL_TICK (R294): Every 64 ns each meter adds CIR and EIR to its buckets up to their bursts. -/
def execMeterRefillTick (s : State) : Host.Outcome State Fault Refusal :=
  s.acting s.awake fun s => s.meterRefill

/-- SHAPER_CREDIT_TICK (R305): Every 64 ns each shaper changes its credit by its TBS or CBS rule. -/
def execShaperCreditTick (s : State) : Host.Outcome State Fault Refusal :=
  s.acting s.awake fun s => s.creditTicks

/-- FRER_RECOVERY_RESET (R299): RESET_MS without a passed frame sets TAKE_ANY and counts a reset. -/
def execFrerRecoveryReset (f : Fin 1024) (s : State) : Host.Outcome State Fault Refusal :=
  s.acting s.awake fun s => s.frerReset f

/-- STM_TABLE_READ (R315): STM_IND_CMD read copies a table entry into STM_IND_DATA. -/
def execStmTableRead (q : Sender) (s : State) : Host.Outcome State Fault Refusal :=
  s.keyCmd q (Reg.STM_IND_CMD) 0x57E4 1

/-- STM_TABLE_WRITE (R315): STM_IND_CMD write writes a table entry or refuses it. -/
def execStmTableWrite (q : Sender) (s : State) : Host.Outcome State Fault Refusal :=
  s.keyCmd q (Reg.STM_IND_CMD) 0x57E4 2

/-- STM_TABLE_READ_CLEAR (R315): STM_IND_CMD read and clear copies and clears a counter entry in one step. -/
def execStmTableReadClear (q : Sender) (s : State) : Host.Outcome State Fault Refusal :=
  s.keyCmd q (Reg.STM_IND_CMD) 0x57E4 3

end Sys2Proof.Machine
end

