-- ==== Sys2Proof/Machine/CmdTim.lean ====
section
/-!
DEFINITION. Meanings of the commands of time, gates, triggers, captures and travel (R317 to R350).
-/
namespace Sys2Proof.Machine

/-- TRACKER_RATE_WRITE (R318): A write of TIM_DOM_RATE sets the tracker's rate from the next tick and renews its
health. -/
def execTrackerRateWrite (q : Sender) (d : Fin 2) (w : Word) (s : State) : Host.Outcome State Fault Refusal :=
  s.regCmd q (Reg.TIM_DOM_RATE d) w

/-- TRACKER_ADJUST (R318): A write of TIM_DOM_ADJ_HI steps the tracker by the signed value and renews its health. -/
def execTrackerAdjust (q : Sender) (d : Fin 2) (w : Word) (s : State) : Host.Outcome State Fault Refusal :=
  s.regCmd q (Reg.TIM_DOM_ADJ_HI d) w

/-- TRACKER_REFRESH (R318): TIM_DOM_CFG.REFRESH renews the health of an enabled tracker. -/
def execTrackerRefresh (q : Sender) (d : Fin 2) (s : State) : Host.Outcome State Fault Refusal :=
  s.refreshCmd q d

/-- TRACKER_HEALTH_TIMEOUT (R318): An enabled tracker without renewal for TIMEOUT ms becomes unhealthy and source
0x062 + d is active. -/
def execTrackerHealthTimeout (d : Fin 2) (s : State) : Host.Outcome State Fault Refusal :=
  s.acting s.awake fun s => s.healthTimeout d

/-- WORKING_CLOCK_UPDATE (R320): Every 1 µs the working clock procedure acquires, locks, changes tracker or enters
HOLDOVER or DISCONT. -/
def execWorkingClockUpdate (s : State) : Host.Outcome State Fault Refusal :=
  s.acting s.awake fun s => s.wcUpdate

/-- WC_CFG_WRITE (R322): A write of TIM_WC_CFG sets slew parameters and changes SOURCE only to a healthy tracker
within WIN. -/
def execWcCfgWrite (q : Sender) (w : Word) (s : State) : Host.Outcome State Fault Refusal :=
  s.regCmd q (Reg.TIM_WC_CFG) w

/-- STEP (R323): TIM_WC_CMD STEP fixes a step boundary or is refused with a code. -/
def execStep (q : Sender) (d : Fin 2) (s : State) : Host.Outcome State Fault Refusal :=
  s.keyCmd q (Reg.TIM_WC_CMD) 0x71AE (1 + 256 * d)

/-- CANCEL_STEP (R323): TIM_WC_CMD CANCEL_STEP abandons a pending step. -/
def execCancelStep (q : Sender) (s : State) : Host.Outcome State Fault Refusal :=
  s.keyCmd q (Reg.TIM_WC_CMD) 0x71AE 2

/-- STEP_BOUNDARY (R323): At the step boundary the working clock takes the tracker's time and restarts lists and
triggers, or the step is abandoned. -/
def execStepBoundary (s : State) : Host.Outcome State Fault Refusal :=
  s.acting s.awake fun s => s.boundaryCmd

/-- TXTS_READ (R326): A read of TIM_TXTS[0] latches and removes the head transmit timestamp record. -/
def execTxtsRead (q : Sender) (s : State) : Host.Outcome State Fault Refusal :=
  s.readCmd q (Reg.TIM_TXTS0)

/-- CONFIG_CHANGE (R333): GAT_CMD CONFIG_CHANGE copies the administrative configuration and fixes the change time, or
is refused. -/
def execConfigChange (q : Sender) (i : Fin 96) (s : State) : Host.Outcome State Fault Refusal :=
  s.keyCmd q (Reg.GAT_CMD i) 0x6A7E 1

/-- CONFIG_COPY_DONE (R333): The copy to the pending configuration completes within 2.1 µs. -/
def execConfigCopyDone (i : Fin 96) (s : State) : Host.Outcome State Fault Refusal :=
  s.acting s.awake fun s => s.configCopyDone i

/-- GATE_CANCEL (R334): GAT_CMD CANCEL discards a pending change. -/
def execGateCancel (q : Sender) (i : Fin 96) (s : State) : Host.Outcome State Fault Refusal :=
  s.keyCmd q (Reg.GAT_CMD i) 0x6A7E 2

/-- CONFIG_CHANGE_TIME (R333): At the change time the pending configuration becomes operational and entry 0 begins. -/
def execConfigChangeTime (i : Fin 96) (s : State) : Host.Outcome State Fault Refusal :=
  s.acting s.awake fun s => s.configChangeTime i

/-- GATE_ENTRY_START (R332): An entry's start time arrives and its gate states govern the list. -/
def execGateEntryStart (i : Fin 96) (s : State) : Host.Outcome State Fault Refusal :=
  s.acting s.awake fun s => s.gateEntryStart i

/-- GATE_LIST_ENABLE_WRITE (R331): A write of GAT_ADMIN_CFG.ENABLE = 0 opens every gate and discards a pending change
at once. -/
def execGateListEnableWrite (q : Sender) (i : Fin 96) (w : Word) (s : State) : Host.Outcome State Fault Refusal :=
  s.regCmd q (Reg.GAT_ADMIN_CFG i) w

/-- TRAVEL_COUNT (R340): An ODO edge adds a count to the accumulator, updating D48 or the reverse debt, or is a
sequence error. -/
def execTravelCount (a b : Bool) (s : State) : Host.Outcome State Fault Refusal :=
  s.always fun s => s.travelCmd a b

/-- TRIGGER_ENABLE (R346): Enabling a trigger arms it, re-phasing a periodic one and firing a due once trigger LATE.
-/
def execTriggerEnable (q : Sender) (k : Fin 8) (w : Word) (s : State) : Host.Outcome State Fault Refusal :=
  s.regCmd q (Reg.TIM_TRIG_CFG k) w

/-- TRIGGER_DUE (R345): A trigger falls due, sets FIRED and drives its pulse, or counts a missed edge. -/
def execTriggerDue (k : Fin 8) (s : State) : Host.Outcome State Fault Refusal :=
  s.acting s.awake fun s => s.trigDueNow k

/-- TRIGGER_PULSE_END (R345): WIDTH ns after the last due moment, TRIG returns to its inactive level. -/
def execTriggerPulseEnd (k : Fin 8) (s : State) : Host.Outcome State Fault Refusal :=
  s.acting s.awake fun s => s.trigPulseEnd k

/-- CAPTURE_EDGE (R348): A selected edge on CAPT records time and distance in the capture FIFO, or is lost when full.
-/
def execCaptureEdge (k : Fin 8) (rise : Bool) (s : State) : Host.Outcome State Fault Refusal :=
  s.acting s.awake fun s => s.captureCmd k rise

/-- CAPTURE_READ (R348): A read of TIM_CAPT_TIME_LO latches and removes the head capture entry. -/
def execCaptureRead (q : Sender) (k : Fin 8) (s : State) : Host.Outcome State Fault Refusal :=
  s.readCmd q (Reg.TIM_CAPT_TIME_LO k)

end Sys2Proof.Machine
end

