-- ==== Sys2Proof/Machine/CmdCph.lean ====
section
/-!
DEFINITION. Meanings of the commands of the cipher engine (R351 to R374).
-/
namespace Sys2Proof.Machine

/-- SLUICE_DISPATCH (R353): The Sluice gives a waiting job to a free Pan, suspending a lower-class job when none is
free. -/
def execSluiceDispatch (s : State) : Host.Outcome State Fault Refusal :=
  s.acting s.awake fun s => s.sluice

/-- PAN_JOB_COMPLETE (R352): A Pan finishes a job and becomes free for the next. -/
def execPanJobComplete (p : Fin 4) (s : State) : Host.Outcome State Fault Refusal :=
  s.acting s.awake fun s => s.panComplete p

/-- KNOWN_ANSWER_TEST (R367): Every KAT_MS the Sluice runs a known-answer test on each in-service Pan and removes a
failing Pan. -/
def execKnownAnswerTest (bad : BitVec 4) (s : State) : Host.Outcome State Fault Refusal :=
  s.acting s.awake fun s => s.knownAnswer bad.toNat

/-- PAN_RETURN (R367): CPH_PAN_CMD RETURN tests a Pan and returns it to service when it passes. -/
def execPanReturn (q : Sender) (m bad : BitVec 4) (s : State) : Host.Outcome State Fault Refusal :=
  s.keyCmd q (Reg.CPH_PAN_CMD) 0xCA9E m.toNat bad.toNat

/-- CPH_TABLE_READ (R373): CPH_IND_CMD read copies a table entry into CPH_IND_DATA. -/
def execCphTableRead (q : Sender) (s : State) : Host.Outcome State Fault Refusal :=
  s.keyCmd q (Reg.CPH_IND_CMD) 0xC1D7 1

/-- CPH_TABLE_WRITE (R373): CPH_IND_CMD write writes a table entry or refuses it. -/
def execCphTableWrite (q : Sender) (s : State) : Host.Outcome State Fault Refusal :=
  s.keyCmd q (Reg.CPH_IND_CMD) 0xC1D7 2

/-- CPH_TABLE_READ_CLEAR (R373): CPH_IND_CMD read and clear copies and clears a counter entry. -/
def execCphTableReadClear (q : Sender) (s : State) : Host.Outcome State Fault Refusal :=
  s.keyCmd q (Reg.CPH_IND_CMD) 0xC1D7 3

/-- CPH_TABLE_RESTORE (R364): CPH_IND_CMD restore writes an entry adding PN_MARGIN or FRESH_MARGIN. -/
def execCphTableRestore (q : Sender) (s : State) : Host.Outcome State Fault Refusal :=
  s.keyCmd q (Reg.CPH_IND_CMD) 0xC1D7 4

/-- REKEY_REQ_CLEAR (R373): Clearing a bit of CPH_REKEY_REQ also clears REKEY_REQ of the SA. -/
def execRekeyReqClear (q : Sender) (i : Fin 32) (m : Word) (s : State) : Host.Outcome State Fault Refusal :=
  s.regCmd q (Reg.CPH_REKEY_REQ i) m

end Sys2Proof.Machine
end

