-- ==== Sys2Proof/Machine/CmdGwe.lean ====
section
/-!
DEFINITION. Meanings of the commands of the gateway engine (R375 to R402).
-/
namespace Sys2Proof.Machine

/-- CHANNEL_RX (R391): A channel controller receives a message and posts an RX event, or loses it when the FIFO is
full. `m`: TIME is the stamp of its first edge; DATA of a LIN channel is the whole response with its checksum. -/
def execChannelRx (c : Fin 32) (m : Machine.Msg) (e : Machine.CanErr)
    (s : State) : Host.Outcome State Fault Refusal :=
  s.acting (s.serves 18) fun s => s.channelRx c m e

/-- CHANNEL_TX_START (R396): The next queued message starts on the bus, or is discarded as TX_INVALID. -/
def execChannelTxStart (c : Fin 32) (s : State) : Host.Outcome State Fault Refusal :=
  s.acting (s.serves 18) fun s => s.txStart c

/-- CHANNEL_TX_DONE (R391): A message leaves the bus and, with TXC_EN, posts a TX_DONE event. -/
def execChannelTxDone (c : Fin 32) (ok : Bool) (e : Machine.CanErr) (s : State) : Host.Outcome State Fault Refusal :=
  s.acting (s.serves 18) fun s => s.txDone c ok e

/-- BUS_OFF_RECOVERY (R378): After 128 occurrences of 11 recessive bits a bus-off channel recovers. -/
def execBusOffRecovery (c : Fin 16) (s : State) : Host.Outcome State Fault Refusal :=
  s.acting (s.serves 18) fun s => s.busOffEnd c

/-- LIN_SLOT_START (R379): At each schedule slot the commander sends break, sync and identifier and any loaded
response. -/
def execLinSlotStart (k : Fin 8) (s : State) : Host.Outcome State Fault Refusal :=
  s.acting (s.serves 18) fun s => s.linSlot (16 + k)

/-- LIN_HEADER_RECEIVED (R379): A responder answers a header with a loaded response or receives the response. -/
def execLinHeaderReceived (k : Fin 8) (h : LinHead) (s : State) : Host.Outcome State Fault Refusal :=
  s.acting (s.serves 18) fun s => s.linHeader (16 + k) h

/-- LIN_RESPONSE_TIMEOUT (R380): No byte within 126 bit times after the header gives a NO_RESPONSE. -/
def execLinResponseTimeout (k : Fin 8) (s : State) : Host.Outcome State Fault Refusal :=
  s.acting (s.serves 18) fun s => s.linTimeout (16 + k)

/-- LIN_IDLE_SLEEP (R382): 4 s of LIN bus idle with IDLE_SLEEP puts the channel in SLEEP. -/
def execLinIdleSleep (k : Fin 8) (s : State) : Host.Outcome State Fault Refusal :=
  s.acting (s.serves 18) fun s => s.linIdle (16 + k)

/-- SERIAL_MESSAGE_END (R381): An idle of IDLE_CHARS, a flag or an address character ends a serial message. -/
def execSerialMessageEnd (k : Fin 8) (s : State) : Host.Outcome State Fault Refusal :=
  s.acting (s.serves 18) fun s => s.serialEnd (24 + k)

/-- CHANNEL_RECOVER (R378): GWE_CMD RECOVER starts bus-off recovery of a CAN channel. -/
def execChannelRecover (q : Sender) (c : Fin 64) (s : State) : Host.Outcome State Fault Refusal :=
  s.keyCmd q (Reg.GWE_CMD) 0x6E4C (1 + 256 * c)

/-- CHANNEL_SLEEP (R384): GWE_CMD SLEEP sends go-to-sleep on LIN or completes the CAN frame and puts the channel in
SLEEP. -/
def execChannelSleep (q : Sender) (c : Fin 64) (s : State) : Host.Outcome State Fault Refusal :=
  s.keyCmd q (Reg.GWE_CMD) 0x6E4C (2 + 256 * c)

/-- CHANNEL_WAKE (R384): GWE_CMD WAKE wakes the channel, with a dominant pulse on LIN. -/
def execChannelWake (q : Sender) (c : Fin 64) (s : State) : Host.Outcome State Fault Refusal :=
  s.keyCmd q (Reg.GWE_CMD) 0x6E4C (3 + 256 * c)

/-- CHANNEL_FLUSH_TX (R382): GWE_CMD FLUSH_TX flushes the channel's transmit queue. -/
def execChannelFlushTx (q : Sender) (c : Fin 64) (s : State) : Host.Outcome State Fault Refusal :=
  s.keyCmd q (Reg.GWE_CMD) 0x6E4C (4 + 256 * c)

/-- CHANNEL_WAKE_DETECT (R384): A wake pattern on a sleeping channel posts a BUS event and returns it to ACTIVE or
LISTEN. -/
def execChannelWakeDetect (c : Fin 32) (s : State) : Host.Outcome State Fault Refusal :=
  s.acting (s.serves 18) fun s => s.chWakeDetect c

/-- LIN_SCHEDULE_RESUME (R384): 100 ms after a LIN wake the commander resumes its schedule at entry 0. -/
def execLinScheduleResume (k : Fin 8) (s : State) : Host.Outcome State Fault Refusal :=
  s.acting (s.serves 18) fun s => s.linResume (16 + k)

/-- GATEWAY_SLICE (R393): The engine takes the next channel's head event, loads its context, runs its program and
writes back. -/
def execGatewaySlice (run : Bool) (s : State) : Host.Outcome State Fault Refusal :=
  s.acting (s.serves 18) fun s => s.slice run

/-- GATEWAY_TIMER (R391): TIMER_US elapsed posts a TIMER event to the channel, or counts TIMER_LOST. -/
def execGatewayTimer (c : Fin 64) (s : State) : Host.Outcome State Fault Refusal :=
  s.acting (s.serves 18) fun s => s.gweTimer c

/-- CONTEXT_WRITE (R387): A write to a channel context is taken, ignored or refused by its byte range and VALID. -/
def execContextWrite (q : Sender) (c : Fin 64) (o : Fin 128) (w : Word)
    (s : State) : Host.Outcome State Fault Refusal :=
  s.regCmd q (pantryBase + 512 * c + 4 * o) w

/-- PANTRY_DATA_WRITE (R388): A write of GWE_PANTRY_DATA writes the Pantry word at WORD and advances WORD. -/
def execPantryDataWrite (q : Sender) (w : Word) (s : State) : Host.Outcome State Fault Refusal :=
  s.regCmd q (Reg.GWE_PANTRY_DATA) w

/-- PANTRY_DATA_READ (R388): A read of GWE_PANTRY_DATA returns the word at WORD and advances WORD. -/
def execPantryDataRead (q : Sender) (s : State) : Host.Outcome State Fault Refusal :=
  s.readCmd q (Reg.GWE_PANTRY_DATA)

/-- DECAPSULATION (R399): A frame leaving on port 26 is matched to a decapsulation entry and split into NET events. -/
def execDecapsulation (s : State) : Host.Outcome State Fault Refusal :=
  s.acting (s.serves 18) fun s => s.decap

end Sys2Proof.Machine
end

