-- ==== Sys2Proof/Machine/CmdHost.lean ====
section
/-!
DEFINITION. Meanings of the commands of the host bridge and the Hatches (R403 to R434).
-/
namespace Sys2Proof.Machine

/-- PCIE_RESET (R404): PERST_N, hot reset, link down or FLR resets configuration space and rings and ends transmit
frames in fetch. -/
def execPcieReset (down : Bool) (s : State) : Host.Outcome State Fault Refusal :=
  s.acting s.awake fun s => s.pcieReset down

/-- PCIE_LINK_UP (R403): The PCIe link trains and comes up. -/
def execPcieLinkUp (speed width mps : Nat) (host : HostSetup) (s : State) : Host.Outcome State Fault Refusal :=
  s.acting (s.serves 20) fun s => s.pcieUp speed width mps host

/-- INBOUND_READ (R411): An inbound read is completed with data, zero, CA or poison, possibly starting a prefetch. -/
def execInboundRead (bar off n tag : Nat) (whole answers : Bool) (s : State) : Host.Outcome State Fault Refusal :=
  s.acting (s.serves 20) fun s => s.inboundRead bar off n tag whole answers

/-- INBOUND_READ_TIMEOUT (R411): No answer from the internal target within 20 µs completes the read with CA. -/
def execInboundReadTimeout (tag : Nat) (s : State) : Host.Outcome State Fault Refusal :=
  s.acting (s.serves 20) fun s => s.inboundTimeout tag

/-- INBOUND_WRITE (R412): An inbound posted write takes effect or is logged as failed in the error log. -/
def execInboundWrite (bar off reqId : Nat) (b : List Byte) (whole : Bool) (aux : Nat)
    (s : State) : Host.Outcome State Fault Refusal :=
  s.acting (s.serves 20) fun s => s.inboundWrite bar off reqId b whole aux

/-- POISONED_TLP (R412): A TLP received poisoned or with an ECRC error is discarded, logged and reported. -/
def execPoisonedTlp (bar off n reqId : Nat) (s : State) : Host.Outcome State Fault Refusal :=
  s.acting (s.serves 20) fun s => s.poisoned bar off n reqId

/-- WINDOW_CFG_WRITE (R407): A write of BRG_WIN_CFG enables a valid window or is refused. -/
def execWindowCfgWrite (q : Sender) (k : Fin 16) (w : Word) (s : State) : Host.Outcome State Fault Refusal :=
  s.regCmd q (Reg.BRG_WIN_CFG k) w

/-- PREFETCH_FILL_DONE (R409): Prefetched data arrives in a buffer. -/
def execPrefetchFillDone (i : Fin 16) (s : State) : Host.Outcome State Fault Refusal :=
  s.acting (s.serves 20) fun s => s.pfFill i

/-- PREFETCH_EXPIRY (R409): A prefetch buffer is discarded 2 µs after its data arrived. -/
def execPrefetchExpiry (i : Fin 16) (s : State) : Host.Outcome State Fault Refusal :=
  s.acting (s.serves 20) fun s => s.pfExpire i

/-- RING_TAIL_WRITE (R415): A write of BRG_RING_TAIL makes more descriptors available to the device. -/
def execRingTailWrite (q : Sender) (r : Fin 32) (w : Word) (s : State) : Host.Outcome State Fault Refusal :=
  s.regCmd q (Reg.BRG_RING_TAIL r) w

/-- RING_CFG_WRITE (R415): A write of BRG_RING_CFG enables or stops a ring, clearing HALTED on re-enable. -/
def execRingCfgWrite (q : Sender) (r : Fin 32) (w : Word) (s : State) : Host.Outcome State Fault Refusal :=
  s.regCmd q (Reg.BRG_RING_CFG r) w

/-- TX_RING_FETCH (R417): A transmit ring fetches descriptors and buffers and enters the frame at port 25. -/
def execTxRingFetch (r : Fin 16) (s : State) : Host.Outcome State Fault Refusal :=
  s.acting (s.serves 20) fun s => s.ringFetch r

/-- DMA_READ_COMPLETION (R417): Data of an outbound read returns and the frame or descriptor proceeds. -/
def execDmaReadCompletion (r : Fin 16) (b : List Byte) (s : State) : Host.Outcome State Fault Refusal :=
  s.acting (s.serves 20) fun s => s.ringData r b

/-- DMA_READ_TIMEOUT (R416): A descriptor or data read that errs or times out after 10 ms halts the ring with
READ_ERR. -/
def execDmaReadTimeout (r : Fin 32) (s : State) : Host.Outcome State Fault Refusal :=
  s.acting (s.serves 20) fun s => s.ringTimeout r

/-- RX_RING_DELIVERY (R418): A copy leaving on port 25 is written with its metadata to a receive ring or a Hatch, or
dropped. -/
def execRxRingDelivery (ana : Bool) (bufs : List Nat) (s : State) : Host.Outcome State Fault Refusal :=
  s.acting (s.serves 20) fun s => s.rxDeliver (if ana then 29 else 25) bufs

/-- COALESCE_TIMER_EXPIRY (R419): COAL_US after an unsignalled completion the ring sends one MSI-X message. -/
def execCoalesceTimerExpiry (r : Fin 32) (s : State) : Host.Outcome State Fault Refusal :=
  s.acting (s.serves 20) fun s => s.coalesce r

/-- DMA_WRITE_FAILURE (R420): A failed outbound write halts the ring and records the first affected descriptor. -/
def execDmaWriteFailure (r : Fin 32) (first : BitVec 16) (s : State) : Host.Outcome State Fault Refusal :=
  s.acting (s.serves 20) fun s => s.ringWriteFail r first.toNat

/-- HATCH_PUSH (R429): A write of HAT_PUSH adds a word to the message being pushed, or breaks it. -/
def execHatchPush (q : Sender) (h : Fin 64) (w : Word) (s : State) : Host.Outcome State Fault Refusal :=
  s.regCmd q (Reg.HAT_PUSH h) w

/-- HATCH_PUSH_END (R429): A write of HAT_PUSH_END ends the message and passes it to its consumer or discards it. -/
def execHatchPushEnd (q : Sender) (h : Fin 64) (s : State) : Host.Outcome State Fault Refusal :=
  s.regCmd q (Reg.HAT_PUSH_END h) 0

/-- HATCH_POP (R428): A read of a pop port takes whole lines from the head, returning empty lines when it runs empty.
-/
def execHatchPop (h : Fin 64) (k tag : Nat) (s : State) : Host.Outcome State Fault Refusal :=
  s.acting (s.serves 19) fun s => s.hatchPopCmd h k tag

/-- HATCH_LINE_MOVE (R426): Lines move from the tail to the head directly or through DRAM in blocks of 16. -/
def execHatchLineMove (h : Fin 64) (s : State) : Host.Outcome State Fault Refusal :=
  s.acting (s.serves 19) fun s => s.hatMove h

/-- HATCH_FLUSH (R430): HAT_CTRL FLUSH discards the Hatch contents, keeping SEQ and setting OVF. -/
def execHatchFlush (q : Sender) (h : Fin 64) (s : State) : Host.Outcome State Fault Refusal :=
  s.regCmd q (Reg.HAT_CTRL h) 2

/-- HATCH_ARM (R431): HAT_CTRL ARM sets ARMED and sends a message at once when the condition holds. -/
def execHatchArm (q : Sender) (h : Fin 64) (s : State) : Host.Outcome State Fault Refusal :=
  s.regCmd q (Reg.HAT_CTRL h) 1

/-- HATCH_CFG_WRITE (R430): A write of HAT_CFG with EN = 0 discards the Hatch contents. -/
def execHatchCfgWrite (q : Sender) (h : Fin 64) (w : Word) (s : State) : Host.Outcome State Fault Refusal :=
  s.regCmd q (Reg.HAT_CFG h) w

end Sys2Proof.Machine
end

