-- ==== Sys2Proof/Machine/CmdStg.lean ====
section
/-!
DEFINITION. Meanings of the commands of the Strongroom (R435 to R451).
-/
namespace Sys2Proof.Machine

/-- STRONGROOM_RECORD (R438): A copy on port 27 is encrypted and written as a record, moving the writer to the next
unfrozen segment when full. -/
def execStrongroomRecord (s : State) : Host.Outcome State Fault Refusal :=
  s.acting (s.serves 21) fun s => s.strongRecord

/-- STG_TRIGGER (R444): STG_CMD TRIGGER opens an incident and writes a marker. -/
def execStgTrigger (q : Sender) (reason : BitVec 8) (s : State) : Host.Outcome State Fault Refusal :=
  s.keyCmd q (Reg.STG_CMD) 0x57C8 (1 + 256 * reason.toNat)

/-- INCIDENT_POST_EXPIRY (R446): The end of the post window closes an OPEN incident. -/
def execIncidentPostExpiry (i : Fin 8) (s : State) : Host.Outcome State Fault Refusal :=
  s.acting (s.serves 21) fun s => s.incPost i

/-- INCIDENT_LIMIT_EXPIRY (R446): LIMIT seconds after a distance trigger the incident closes with LIMIT. -/
def execIncidentLimitExpiry (i : Fin 8) (s : State) : Host.Outcome State Fault Refusal :=
  s.acting (s.serves 21) fun s => s.incLimit i

/-- INCIDENT_RELEASE (R447): STG_CMD RELEASE frees a closed incident and its segments. -/
def execIncidentRelease (q : Sender) (i : Fin 8) (s : State) : Host.Outcome State Fault Refusal :=
  s.keyCmd q (Reg.STG_CMD) 0x57C8 (2 + 32 * i)

/-- INCIDENT_EXPORT (R448): STG_CMD EXPORT starts replay of a closed incident at port 27. -/
def execIncidentExport (q : Sender) (i : Fin 8) (s : State) : Host.Outcome State Fault Refusal :=
  s.keyCmd q (Reg.STG_CMD) 0x57C8 (3 + 32 * i)

/-- EXPORT_FRAME (R448): Replay sends the next export frame when port 27 is not held. -/
def execExportFrame (s : State) : Host.Outcome State Fault Refusal :=
  s.acting (s.serves 21) fun s => s.exportFrame

/-- STOP_EXPORT (R448): STG_CMD STOP_EXPORT ends an export without a LAST frame. -/
def execStopExport (q : Sender) (s : State) : Host.Outcome State Fault Refusal :=
  s.keyCmd q (Reg.STG_CMD) 0x57C8 4

/-- CLEAR_RING (R450): STG_CMD CLEAR_RING frees every incident and segment. -/
def execClearRing (q : Sender) (s : State) : Host.Outcome State Fault Refusal :=
  s.keyCmd q (Reg.STG_CMD) 0x57C8 5

end Sys2Proof.Machine
end

