-- ==== Sys2Proof/Machine/CmdCcx.lean ====
section
/-!
DEFINITION. Meanings of the commands of the control complex and the fault collector (R452 to R484).
-/
namespace Sys2Proof.Machine

/-- LOCKSTEP_MISMATCH (R456): Both rails report differ in a group and the complex restarts or escalates. -/
def execLockstepMismatch (g : Fin 16) (s : State) : Host.Outcome State Fault Refusal :=
  s.acting s.awake fun s => s.lockstep g

/-- RAIL_DISAGREEMENT (R456): The rails disagree or give an invalid code, and an out-of-schedule checkpoint starts. -/
def execRailDisagreement (g : Fin 16) (s : State) : Host.Outcome State Fault Refusal :=
  s.acting s.awake fun s => s.railDiffer g

/-- COMPARATOR_TEST (R457): Every 100 ms the comparator runs 16 injections and reports a failed test. -/
def execComparatorTest (fail : Option Nat) (s : State) : Host.Outcome State Fault Refusal :=
  s.acting s.awake fun s => s.compTest fail

/-- CHECKPOINT_NOTICE (R459): 50 µs before a checkpoint the firmware is signalled to park. -/
def execCheckpointNotice (s : State) : Host.Outcome State Fault Refusal :=
  s.acting s.awake fun s => s.ckptNotice

/-- CHECKPOINT (R459): At the due moment the state is copied and signatures compared, making the buffer current or
restarting. -/
def execCheckpoint (parked agree : Bool) (s : State) : Host.Outcome State Fault Refusal :=
  s.acting s.awake fun s => s.checkpoint parked agree

/-- CCX_RESTART (R461): The complex halts, restores from the current checkpoint and resumes at its resume point. -/
def execCcxRestart (tcm bad : Bool) (fail : Option Nat) (s : State) : Host.Outcome State Fault Refusal :=
  s.acting s.awake fun s => s.ccxRestart tcm bad fail

/-- CCX_DONE (R461): The firmware ends resynchronisation and CCX_RESTART clears. -/
def execCcxDone (s : State) : Host.Outcome State Fault Refusal :=
  s.acting s.awake fun s => s.ccxDoneCmd

/-- RESTART_TIMEOUT (R461): CCX_RESTART still 1 after 1 ms causes a chip reset. -/
def execRestartTimeout (s : State) : Host.Outcome State Fault Refusal :=
  s.acting s.awake fun s => s.restartLate

/-- FAULT_MESSAGE (R472): The collector accepts a fault message, updates the record and takes the reactions. -/
def execFaultMessage (b : Fin 24) (bad : Bool) (s : State) : Host.Outcome State Fault Refusal :=
  s.acting s.powered fun s => s.faultMessage b bad

/-- DUAL_RAIL_CHANGE (R470): A dual-rail pair changes code and the collector updates ACTIVE and takes the reactions.
-/
def execDualRailChange (src : Fin 768) (bad : Bool) (s : State) : Host.Outcome State Fault Refusal :=
  s.acting s.powered fun s => s.railSample src bad

/-- PENDING_CLEAR (R475): Writing 1 to PENDING clears it while ACTIVE = 0. -/
def execPendingClear (q : Sender) (src : Fin 768) (s : State) : Host.Outcome State Fault Refusal :=
  s.regCmd q (Reg.FLT_SRC_STATUS src) 0x40000000

/-- FLT_CLEAR (R475): A write of FLT_CLEAR clears COUNT, LAST or PENDING for one source or all. -/
def execFltClear (q : Sender) (v : BitVec 16) (s : State) : Host.Outcome State Fault Refusal :=
  s.keyCmd q (Reg.FLT_CLEAR) 0xF1C3 v.toNat

/-- FAULT_PIN_TIMER_EXPIRY (R480): The minimum-width timer ends and FAULT_N is released or held. -/
def execFaultPinTimerExpiry (s : State) : Host.Outcome State Fault Refusal :=
  s.acting s.powered fun s => s.pinTimer

/-- FAULT_PIN_RELEASE (R481): FLT_PIN_CMD RELEASE releases FAULT_N, holds the release or is refused. -/
def execFaultPinRelease (q : Sender) (s : State) : Host.Outcome State Fault Refusal :=
  s.keyCmd q (Reg.FLT_PIN_CMD) 0xF17A 1

end Sys2Proof.Machine
end

