-- ==== Sys2Proof/Machine/CmdPair.lean ====
section
/-!
DEFINITION. Meanings of the commands of paired operation (R485 to R505).
-/
namespace Sys2Proof.Machine

/-- REFEREE_POLL (R489): A verified POLL updates the holder and, naming this side, is answered with STATUS. -/
def execRefereePoll (ok : Bool) (pairId counter : Nat) (side : Fin 3) (body : PollBody)
    (s : State) : Host.Outcome State Fault Refusal :=
  s.acting s.awake fun s => s.refereePoll ok pairId counter side body

/-- REFEREE_GRANT (R490): An accepted GRANT renews the lease or starts a take-over. -/
def execRefereeGrant (ok : Bool) (pairId counter : Nat) (side : Fin 2) (term leaseMs echo : Nat)
    (s : State) : Host.Outcome State Fault Refusal :=
  s.acting s.awake fun s => s.refereeGrant ok pairId counter side term leaseMs echo

/-- LEASE_EXPIRY (R486): A lease ending without renewal sets FWD_EN = 0 and the standby role. -/
def execLeaseExpiry (s : State) : Host.Outcome State Fault Refusal :=
  s.acting s.awake fun s => s.leaseExpiry

/-- RELINQUISH (R486): PAIR_CMD RELINQUISH ends the lease at once. -/
def execRelinquish (q : Sender) (s : State) : Host.Outcome State Fault Refusal :=
  s.keyCmd q (Reg.PAIR_CMD) 0x9A1F 1

/-- SELFTEST_NOW (R498): PAIR_CMD SELFTEST starts a standby self-test. -/
def execSelftestNow (q : Sender) (bad : BitVec 4) (s : State) : Host.Outcome State Fault Refusal :=
  s.keyCmd q (Reg.PAIR_CMD) 0x9A1F 2 bad.toNat

/-- PAIR_LINK_BLOCK_LOCK (R491): The pair lane reaching block lock starts the identity exchange with a HELLO. -/
def execPairLinkBlockLock (s : State) : Host.Outcome State Fault Refusal :=
  s.acting s.awake fun s => s.pairLock

/-- PAIR_HELLO (R491): A received HELLO is answered with a PROOF, or shows a side conflict. -/
def execPairHello (h : Machine.PairPeer) (s : State) : Host.Outcome State Fault Refusal :=
  s.acting s.awake fun s => s.pairTakes (.pairHello h)

/-- PAIR_PROOF (R491): A received PROOF is verified and the pair keys derived, bringing the link up. -/
def execPairProof (ok : Bool) (s : State) : Host.Outcome State Fault Refusal :=
  s.acting s.awake fun s => s.pairTakes (.pairProof ok)

/-- PAIR_LINK_LOSS (R492): Loss of block lock or 5 ms without a verified pair frame takes the pair link down. -/
def execPairLinkLoss (lane : Bool) (s : State) : Host.Outcome State Fault Refusal :=
  s.acting s.awake fun s => s.pairLoss lane

/-- PAIR_HEALTH_SEND (R492): Every 1 ms while the link is up the unit sends HEALTH. -/
def execPairHealthSend (s : State) : Host.Outcome State Fault Refusal :=
  s.acting s.awake fun s => s.healthSend

/-- PAIR_HEALTH_RECEIVED (R492): A verified HEALTH frame arrives from the partner. -/
def execPairHealthReceived (ok : Bool) (counter : Nat) (health : Byte)
    (s : State) : Host.Outcome State Fault Refusal :=
  s.acting s.awake fun s => s.pairTakes (.pairHealth ok counter health.toNat)

/-- PAIR_TIME_SEND (R494): Every 31.25 ms the active sends a TIME frame with its clocks. -/
def execPairTimeSend (s : State) : Host.Outcome State Fault Refusal :=
  s.acting s.awake fun s => s.timeSend

/-- PAIR_TIME_RECEIVED (R494): The standby answers a TIME frame and steers its trackers. -/
def execPairTimeReceived (ok : Bool) (counter : Nat) (trk0 trk1 wc : BitVec 64) (back : Nat)
    (s : State) : Host.Outcome State Fault Refusal :=
  s.acting s.awake fun s => s.pairTakes (.pairTime ok counter trk0 trk1 wc back)

/-- CRATE_SEND (R495): Every CRATE_MS the active snapshots its state and sends a crate. -/
def execCrateSend (sweep : Word) (s : State) : Host.Outcome State Fault Refusal :=
  s.acting s.awake fun s => s.crateSend sweep.toNat

/-- CRATE_FRAGMENT (R496): A crate fragment is staged, discarding the crate on any gap or failure. -/
def execCrateFragment (ok : Bool) (counter seq frag : Nat) (last : Bool) (body : List Byte)
    (s : State) : Host.Outcome State Fault Refusal :=
  s.acting s.awake fun s => s.pairTakes (.crate ok counter seq frag last body)

/-- CRATE_APPLIED (R496): A complete crate is applied within 600 µs and its receipt time recorded. -/
def execCrateApplied (s : State) : Host.Outcome State Fault Refusal :=
  s.acting s.awake fun s => s.crateApplied

/-- STANDBY_SELFTEST (R498): Every SELFTEST × 100 ms the standby tests its Pans, a Cellar bank and its ports. -/
def execStandbySelftest (bad : BitVec 4) (s : State) : Host.Outcome State Fault Refusal :=
  s.acting s.awake fun s => s.testPeriod bad.toNat

/-- SELFTEST_BANK_FREE (R498): Every cell of the withdrawn bank is free and its write and read-back test begins. -/
def execSelftestBankFree (s : State) : Host.Outcome State Fault Refusal :=
  s.acting s.awake fun s => s.testBank

/-- SELFTEST_DONE (R498): The self-test ends, returning the bank and setting or clearing SELFTEST_OK. -/
def execSelftestDone (cellsOk : Bool) (s : State) : Host.Outcome State Fault Refusal :=
  s.acting s.awake fun s => s.testDone cellsOk

/-- TAKEOVER_COMPLETE (R501): The gap ends with FWD_EN = 1, the active role and ACTIVE. -/
def execTakeoverComplete (s : State) : Host.Outcome State Fault Refusal :=
  s.acting s.awake fun s => s.takeDone

end Sys2Proof.Machine
end

