-- ==== Sys2Proof/Machine/CmdMgt.lean ====
section
/-!
DEFINITION. Meanings of the commands of management (R506 to R520).
-/
namespace Sys2Proof.Machine

/-- MGT_HELLO (R510): A HELLO with a credential is answered with a signed HELLO_REPLY or a refusal. -/
def execMgtHello (via : Fin 4) (addr : Nat) (nonce eph credential : List Byte) (sigOk : Bool)
    (s : State) : Host.Outcome State Fault Refusal :=
  s.acting (s.serves 22) fun s => s.mgtTakes via (.hello via addr nonce eph credential sigOk)

/-- MGT_FINISH (R510): A verified FINISH brings the session up with its privileges. -/
def execMgtFinish (k : Fin 8) (via : Fin 4) (addr : Nat) (ok : Bool) (s : State) : Host.Outcome State Fault Refusal :=
  s.acting (s.serves 22) fun s => s.mgtTakes via (.finish k via addr ok)

/-- FINISH_TIMEOUT (R511): No FINISH within 2 s discards the half-open session. -/
def execFinishTimeout (k : Fin 8) (s : State) : Host.Outcome State Fault Refusal :=
  s.acting (s.serves 22) fun s => s.finishTimeout k

/-- CERT_REQ (R510): A CERT_REQ returns a piece of the device certificate. -/
def execCertReq (via : Fin 4) (addr : Nat) (off : BitVec 16) (s : State) : Host.Outcome State Fault Refusal :=
  s.acting (s.serves 22) fun s => s.mgtTakes via (.cert via addr off.toNat)

/-- MGT_REQUEST (R512): A REQUEST is verified, checked for replay and queued, or answered from a kept response. -/
def execMgtRequest (k : Fin 8) (via : Fin 4) (addr : Nat) (seq : Nat) (tagOk : Bool) (reqId opcode : BitVec 16) (params : List Byte)
    (s : State) : Host.Outcome State Fault Refusal :=
  s.acting (s.serves 22) fun s => s.mgtTakes via (.request k via addr seq tagOk reqId.toNat opcode.toNat params)

/-- MGT_CLOSE (R519): A CLOSE ends the session and clears its keys. -/
def execMgtClose (k : Fin 8) (via : Fin 4) (addr : Nat) (seq : Nat) (tagOk fromDevice : Bool)
    (s : State) : Host.Outcome State Fault Refusal :=
  s.acting (s.serves 22) fun s =>
    if fromDevice then s.mgtClose k via addr seq tagOk true
    else s.mgtTakes via (.close k via addr seq tagOk)

/-- SESSION_IDLE_TIMEOUT (R519): IDLE_S seconds without an accepted message end the session. -/
def execSessionIdleTimeout (k : Fin 8) (s : State) : Host.Outcome State Fault Refusal :=
  s.acting (s.serves 22) fun s => s.mgtIdle k

/-- GET_INFO (R515): Returns identity, revision, UID, image, firmware and state. -/
def execGetInfo (s : State) : Host.Outcome State Fault Refusal :=
  s.acting (s.serves 22) fun s => s.getInfo

/-- REG_READ (R515): Returns COUNT register words from ADDR. -/
def execRegRead (s : State) : Host.Outcome State Fault Refusal :=
  s.acting (s.serves 22) fun s => s.regReadReq

/-- REG_WRITE (R516): Applies register writes in order, stopping at the first that does not take effect. -/
def execRegWrite (s : State) : Host.Outcome State Fault Refusal :=
  s.acting (s.serves 22) fun s => s.regWriteReq

/-- REG_MODIFY (R516): Applies masked register modifications in order, as REG_WRITE. -/
def execRegModify (s : State) : Host.Outcome State Fault Refusal :=
  s.acting (s.serves 22) fun s => s.regModifyReq

/-- CNT_READ (R515): Returns COUNT 64-bit counters. -/
def execCntRead (s : State) : Host.Outcome State Fault Refusal :=
  s.acting (s.serves 22) fun s => s.cntRead

/-- FAULT_CLEAR (R515): Writes the given value to FLT_CLEAR. -/
def execFaultClear (s : State) : Host.Outcome State Fault Refusal :=
  s.acting (s.serves 22) fun s => s.faultClear

/-- UPDATE_BEGIN (R517): Makes the session the update owner and begins an image or run-time update. -/
def execUpdateBegin (s : State) : Host.Outcome State Fault Refusal :=
  s.acting (s.serves 22) fun s => s.updBeginReq

/-- UPDATE_CHUNK (R517): Takes the next in-order chunk and passes staging chunks to BOOT. -/
def execUpdateChunk (s : State) : Host.Outcome State Fault Refusal :=
  s.acting (s.serves 22) fun s => s.updChunkReq

/-- UPDATE_END (R517): Passes the last chunk and runs END. -/
def execUpdateEnd (late : Bool) (s : State) : Host.Outcome State Fault Refusal :=
  s.acting (s.serves 22) fun s => s.updEndReq late

/-- UPDATE_COMMIT (R515): Runs COMMIT with the given trial count. -/
def execUpdateCommit (s : State) : Host.Outcome State Fault Refusal :=
  s.acting (s.serves 22) fun s => s.updCommitReq

/-- UPDATE_CONFIRM (R515): Runs CONFIRM. -/
def execUpdateConfirm (s : State) : Host.Outcome State Fault Refusal :=
  s.acting (s.serves 22) fun s => s.updConfirmReq

/-- UPDATE_CANCEL (R515): Runs CANCEL. -/
def execUpdateCancel (s : State) : Host.Outcome State Fault Refusal :=
  s.acting (s.serves 22) fun s => s.updCancelReq

/-- UPDATE_STATUS (R515): Returns BOOT_UPDATE_STATUS and BOOT_CTRL_REC. -/
def execUpdateStatus (s : State) : Host.Outcome State Fault Refusal :=
  s.acting (s.serves 22) fun s => s.updStatusReq

/-- RULESET_SWAP (R515): Requests a rule-set swap and returns CLS_EPOCH_STATUS once settled. -/
def execRulesetSwap (late : Bool) (s : State) : Host.Outcome State Fault Refusal :=
  s.acting (s.serves 22) fun s => s.rulesetSwap late

/-- TIME_GET (R515): Returns TIM_STATUS and the three clocks. -/
def execTimeGet (s : State) : Host.Outcome State Fault Refusal :=
  s.acting (s.serves 22) fun s => s.timeGet

/-- TIME_STEP (R515): Requests a working-clock STEP and returns STEP_CODE. -/
def execTimeStep (s : State) : Host.Outcome State Fault Refusal :=
  s.acting (s.serves 22) fun s => s.timeStepReq

/-- TIME_SOURCE (R515): Writes SOURCE of TIM_WC_CFG under R322. -/
def execTimeSource (s : State) : Host.Outcome State Fault Refusal :=
  s.acting (s.serves 22) fun s => s.timeSourceReq

/-- GATE_CHANGE (R515): Runs CONFIG_CHANGE on a list and returns its change time. -/
def execGateChange (late : Bool) (s : State) : Host.Outcome State Fault Refusal :=
  s.acting (s.serves 22) fun s => s.gateChangeReq late

/-- ATTEST (R141): Returns a quote signed with the identity key, or NOT_AVAILABLE. -/
def execAttest (s : State) : Host.Outcome State Fault Refusal :=
  s.acting (s.serves 22) fun s => s.attest

/-- PAIR_STATUS (R515): Returns the pair status, term, lease left and crate age. -/
def execPairStatus (s : State) : Host.Outcome State Fault Refusal :=
  s.acting (s.serves 22) fun s => s.pairStatusReq

/-- PAIR_RELINQUISH (R515): Writes PAIR_CMD action 1. -/
def execPairRelinquish (s : State) : Host.Outcome State Fault Refusal :=
  s.acting (s.serves 22) fun s => s.pairRelinquishReq

/-- PAIR_SELFTEST (R515): Writes PAIR_CMD action 2. -/
def execPairSelftest (bad : BitVec 4) (s : State) : Host.Outcome State Fault Refusal :=
  s.acting (s.serves 22) fun s => s.pairSelftestReq bad.toNat

/-- ZEROIZE (R515): Sends its response and then writes SEC_ZEROIZE. -/
def execZeroize (s : State) : Host.Outcome State Fault Refusal :=
  s.acting (s.serves 22) fun s => s.zeroizeReq

/-- POWER (R515): Writes PWR_CMD with the target and returns the refusal code. -/
def execPower (s : State) : Host.Outcome State Fault Refusal :=
  s.acting (s.serves 22) fun s => s.powerReq

/-- RESET (R515): Sends its response and then causes a chip reset. -/
def execReset (s : State) : Host.Outcome State Fault Refusal :=
  s.acting (s.serves 22) fun s => s.resetReq

end Sys2Proof.Machine
end

