-- ==== Sys2Proof/Machine/Dispatch.lean ====
section
/-!
DEFINITION. The meaning of each command.
-/
namespace Sys2Proof.Machine

/-- The effect of a command on everything but the queue. -/
def exec (i : Instr) (s : State) : Host.Outcome State Fault Refusal :=
  match i with
  -- register accesses, resets and interrupts (R6 to R35)
  | .registerWrite q a w => Sys2Proof.Machine.execRegisterWrite q a w s
  | .rcRead q a => Sys2Proof.Machine.execRcRead q a s
  | .counterLowRead q a => Sys2Proof.Machine.execCounterLowRead q a s
  | .fullTimeRead q c => Sys2Proof.Machine.execFullTimeRead q c s
  | .unmappedAccess q a w => Sys2Proof.Machine.execUnmappedAccess q a w s
  | .chipReset src => Sys2Proof.Machine.execChipReset src s
  | .coldReset cause => Sys2Proof.Machine.execColdReset cause s
  | .blockReset b src => Sys2Proof.Machine.execBlockReset b src s
  | .blockResetComplete b => Sys2Proof.Machine.execBlockResetComplete b s
  | .testPortReset => Sys2Proof.Machine.execTestPortReset s
  | .resetCmdChipReset q => Sys2Proof.Machine.execResetCmdChipReset q s
  | .resetCmdBlockReset q b => Sys2Proof.Machine.execResetCmdBlockReset q b s
  | .intEoi q m => Sys2Proof.Machine.execIntEoi q m s
  | .msixUnmask v enable mask => Sys2Proof.Machine.execMsixUnmask v enable mask s
  -- power, wake and monitors (R47 to R95)
  | .coldResetRelease boot pairEn pairSide pcie safe => Sys2Proof.Machine.execColdResetRelease boot pairEn pairSide pcie safe s
  | .temperatureSample v => Sys2Proof.Machine.execTemperatureSample v s
  | .pmbusTimeout => Sys2Proof.Machine.execPmbusTimeout s
  | .powerLoss => Sys2Proof.Machine.execPowerLoss s
  | .pwrCmdSleepD q pins => Sys2Proof.Machine.execPwrCmdSleepD q pins s
  | .pwrCmdSleepR q pins => Sys2Proof.Machine.execPwrCmdSleepR q pins s
  | .pwrCmdStandby q pins => Sys2Proof.Machine.execPwrCmdStandby q pins s
  | .pwrCmdActive q pins => Sys2Proof.Machine.execPwrCmdActive q pins s
  | .sleepEntryStep => Sys2Proof.Machine.execSleepEntryStep s
  | .wakeConfirmed c => Sys2Proof.Machine.execWakeConfirmed c s
  | .wakeTimerExpiry => Sys2Proof.Machine.execWakeTimerExpiry s
  | .pgoodWaitDone => Sys2Proof.Machine.execPgoodWaitDone s
  | .pgoodTimeout => Sys2Proof.Machine.execPgoodTimeout s
  | .sequenceRetry => Sys2Proof.Machine.execSequenceRetry s
  | .startTableStep => Sys2Proof.Machine.execStartTableStep s
  | .internalReady tagOk ddrLate => Sys2Proof.Machine.execInternalReady tagOk ddrLate s
  | .pgoodLoss n => Sys2Proof.Machine.execPgoodLoss n s
  | .pgoodRecovery n => Sys2Proof.Machine.execPgoodRecovery n s
  | .pmbusAlert words => Sys2Proof.Machine.execPmbusAlert words s
  | .pwrSeqCfgWrite q w => Sys2Proof.Machine.execPwrSeqCfgWrite q w s
  | .voltageMonitorEvent r level => Sys2Proof.Machine.execVoltageMonitorEvent r level s
  | .clockLoss c => Sys2Proof.Machine.execClockLoss c s
  | .clockRecovery c => Sys2Proof.Machine.execClockRecovery c s
  | .mr4TemperatureReport rate hot => Sys2Proof.Machine.execMr4TemperatureReport rate hot s
  -- start, images and updates (R96 to R130)
  | .bootStart comp1 comp2 trngBad fuseBad readA readB sigA sigB => Sys2Proof.Machine.execBootStart comp1 comp2 trngBad fuseBad readA readB sigA sigB s
  | .pass1Complete answers inTime hashOk => Sys2Proof.Machine.execPass1Complete answers inTime hashOk s
  | .dramTrainingDone ok inTime => Sys2Proof.Machine.execDramTrainingDone ok inTime s
  | .imageCommit readOk hashOk => Sys2Proof.Machine.execImageCommit readOk hashOk s
  | .resumeRetagDone => Sys2Proof.Machine.execResumeRetagDone s
  | .stageChunkSubmit q w => Sys2Proof.Machine.execStageChunkSubmit q w s
  | .stageChunkTaken inOrder keyOk sigOk => Sys2Proof.Machine.execStageChunkTaken inOrder keyOk sigOk s
  | .pcieImageTimeout => Sys2Proof.Machine.execPcieImageTimeout s
  | .beginImage q => Sys2Proof.Machine.execBeginImage q s
  | .beginRuntime q => Sys2Proof.Machine.execBeginRuntime q s
  | .updateEraseDone => Sys2Proof.Machine.execUpdateEraseDone s
  | .bootUpdateEnd q => Sys2Proof.Machine.execBootUpdateEnd q s
  | .updateVerifyDone readOk hashOk keyOk sigOk => Sys2Proof.Machine.execUpdateVerifyDone readOk hashOk keyOk sigOk s
  | .bootUpdateCommit q tries => Sys2Proof.Machine.execBootUpdateCommit q tries s
  | .runtimeApplyDone refused => Sys2Proof.Machine.execRuntimeApplyDone refused s
  | .bootUpdateConfirm q => Sys2Proof.Machine.execBootUpdateConfirm q s
  | .bootUpdateCancel q => Sys2Proof.Machine.execBootUpdateCancel q s
  | .flashTimeout => Sys2Proof.Machine.execFlashTimeout s
  -- security (R131 to R155)
  | .lifecycleCmd q target => Sys2Proof.Machine.execLifecycleCmd q target s
  | .fuseWriteDone => Sys2Proof.Machine.execFuseWriteDone s
  | .secZeroize q => Sys2Proof.Machine.execSecZeroize q s
  | .debugChallengeRead q => Sys2Proof.Machine.execDebugChallengeRead q s
  | .debugTokenCheck q keyOk sigOk => Sys2Proof.Machine.execDebugTokenCheck q keyOk sigOk s
  | .challengeExpiry => Sys2Proof.Machine.execChallengeExpiry s
  | .challengeRefusalEnd => Sys2Proof.Machine.execChallengeRefusalEnd s
  | .trngHealthFail => Sys2Proof.Machine.execTrngHealthFail s
  | .drbgRestart => Sys2Proof.Machine.execDrbgRestart s
  | .drbgReseed => Sys2Proof.Machine.execDrbgReseed s
  | .keySlotWrite k alg usage lock drawn => Sys2Proof.Machine.execKeySlotWrite k alg usage lock drawn s
  -- the ports (R156 to R175, R275, R473)
  | .portCfgWrite q n w => Sys2Proof.Machine.execPortCfgWrite q n w s
  | .linkSignalDetect n => Sys2Proof.Machine.execLinkSignalDetect n s
  | .linkTrainingDone n speed lpPause => Sys2Proof.Machine.execLinkTrainingDone n speed lpPause s
  | .upFilterExpiry n => Sys2Proof.Machine.execUpFilterExpiry n s
  | .linkLoss n localF remoteF => Sys2Proof.Machine.execLinkLoss n localF remoteF s
  | .linkLossFilterExpiry n => Sys2Proof.Machine.execLinkLossFilterExpiry n s
  | .linkDownFlushDone n => Sys2Proof.Machine.execLinkDownFlushDone n s
  | .holdoffExpiry n => Sys2Proof.Machine.execHoldoffExpiry n s
  | .pfcFrameReceived n vec quanta => Sys2Proof.Machine.execPfcFrameReceived n vec quanta s
  | .pauseFrameReceived n quanta => Sys2Proof.Machine.execPauseFrameReceived n quanta s
  | .pauseTimerExpiry n c => Sys2Proof.Machine.execPauseTimerExpiry n c s
  | .preemptVerifyTimer n => Sys2Proof.Machine.execPreemptVerifyTimer n s
  | .preemptVerifyResponse n => Sys2Proof.Machine.execPreemptVerifyResponse n s
  | .sqiUpdate p sqi => Sys2Proof.Machine.execSqiUpdate p sqi s
  | .plcaBeaconConflict p => Sys2Proof.Machine.execPlcaBeaconConflict p s
  | .tc10SleepAck p => Sys2Proof.Machine.execTc10SleepAck p s
  | .tc10SleepTimeout p => Sys2Proof.Machine.execTc10SleepTimeout p s
  | .tc10CmdSleep q p => Sys2Proof.Machine.execTc10CmdSleep q p s
  | .tc10CmdWake q p => Sys2Proof.Machine.execTc10CmdWake q p s
  | .tc10WakeDetect p => Sys2Proof.Machine.execTc10WakeDetect p s
  | .mdioAddress q prtad devad addr => Sys2Proof.Machine.execMdioAddress q prtad devad addr s
  | .mdioWrite q c45 prtad devad data => Sys2Proof.Machine.execMdioWrite q c45 prtad devad data s
  | .mdioRead q c45 prtad devad => Sys2Proof.Machine.execMdioRead q c45 prtad devad s
  | .mdioReadIncrement q prtad devad => Sys2Proof.Machine.execMdioReadIncrement q prtad devad s
  | .mdioFrameDone data => Sys2Proof.Machine.execMdioFrameDone data s
  | .mdioPoll => Sys2Proof.Machine.execMdioPoll s
  | .extPhyInterrupt n => Sys2Proof.Machine.execExtPhyInterrupt n s
  | .rateWindowExpiry src => Sys2Proof.Machine.execRateWindowExpiry src s
  | .pfcFrameSend n => Sys2Proof.Machine.execPfcFrameSend n s
  | .pauseRepeatTimer n => Sys2Proof.Machine.execPauseRepeatTimer n s
  -- the frame pipeline (R15 to R26, R176 to R283)
  | .frameArrival n => Sys2Proof.Machine.execFrameArrival n s
  | .cellArrival fid b => Sys2Proof.Machine.execCellArrival fid b s
  | .frameEnd fid fcsOk rx => Sys2Proof.Machine.execFrameEnd fid fcsOk rx s
  | .icvVerified fid ok plain => Sys2Proof.Machine.execIcvVerified fid ok plain s
  | .rakeDispatch => Sys2Proof.Machine.execRakeDispatch s
  | .rakeStallEnd r => Sys2Proof.Machine.execRakeStallEnd r s
  | .keyRecordWritten r => Sys2Proof.Machine.execKeyRecordWritten r s
  | .sessionCreationWrite => Sys2Proof.Machine.execSessionCreationWrite s
  | .forwardingDecision p => Sys2Proof.Machine.execForwardingDecision p s
  | .recirculationPass => Sys2Proof.Machine.execRecirculationPass s
  | .learningRequest => Sys2Proof.Machine.execLearningRequest s
  | .transmissionSelection e => Sys2Proof.Machine.execTransmissionSelection e s
  | .macsecEgressDispatch e => Sys2Proof.Machine.execMacsecEgressDispatch e s
  | .transmitEnd e tx => Sys2Proof.Machine.execTransmitEnd e tx s
  | .firmwareFrameSend c b oneStep => Sys2Proof.Machine.execFirmwareFrameSend c b oneStep s
  -- the Rake instruction set (R202 to R220)
  | .add e => Sys2Proof.Machine.execAdd e s
  | .sub e => Sys2Proof.Machine.execSub e s
  | .and e => Sys2Proof.Machine.execAnd e s
  | .or e => Sys2Proof.Machine.execOr e s
  | .xor e => Sys2Proof.Machine.execXor e s
  | .shl e => Sys2Proof.Machine.execShl e s
  | .shr e => Sys2Proof.Machine.execShr e s
  | .mov e => Sys2Proof.Machine.execMov e s
  | .ext e => Sys2Proof.Machine.execExt e s
  | .cmp e => Sys2Proof.Machine.execCmp e s
  | .tst e => Sys2Proof.Machine.execTst e s
  | .rds e => Sys2Proof.Machine.execRds e s
  | .br e => Sys2Proof.Machine.execBr e s
  | .call e => Sys2Proof.Machine.execCall e s
  | .ret e => Sys2Proof.Machine.execRet e s
  | .brx e => Sys2Proof.Machine.execBrx e s
  | .endProg e => Sys2Proof.Machine.execEndProg e s
  | .nop e => Sys2Proof.Machine.execNop e s
  | .ld e => Sys2Proof.Machine.execLd e s
  | .st e => Sys2Proof.Machine.execSt e s
  | .setcur e => Sys2Proof.Machine.execSetcur e s
  | .hdr e => Sys2Proof.Machine.execHdr e s
  | .malf e => Sys2Proof.Machine.execMalf e s
  | .recirc e => Sys2Proof.Machine.execRecirc e s
  | .lkp e => Sys2Proof.Machine.execLkp e s
  | .auth e => Sys2Proof.Machine.execAuth e s
  | .send e => Sys2Proof.Machine.execSend e s
  | .olen e => Sys2Proof.Machine.execOlen e s
  -- classification, sessions and the FDB (R224 to R268, R522)
  | .epochSwap q => Sys2Proof.Machine.execEpochSwap q s
  | .swapSettled => Sys2Proof.Machine.execSwapSettled s
  | .treeDataHiWrite q w => Sys2Proof.Machine.execTreeDataHiWrite q w s
  | .treeDataLoRead q => Sys2Proof.Machine.execTreeDataLoRead q s
  | .treeDirectWrite q k hi w => Sys2Proof.Machine.execTreeDirectWrite q k hi w s
  | .treeDirectRead q k hi => Sys2Proof.Machine.execTreeDirectRead q k hi s
  | .sessionAgeingScan => Sys2Proof.Machine.execSessionAgeingScan s
  | .stashMove k => Sys2Proof.Machine.execStashMove k s
  | .fwlLookup q => Sys2Proof.Machine.execFwlLookup q s
  | .fwlRead q => Sys2Proof.Machine.execFwlRead q s
  | .fwlInsert q => Sys2Proof.Machine.execFwlInsert q s
  | .fwlDelete q => Sys2Proof.Machine.execFwlDelete q s
  | .fwlFlush q all => Sys2Proof.Machine.execFwlFlush q all s
  | .fwlFlushDone => Sys2Proof.Machine.execFwlFlushDone s
  | .fdbAgeingScan => Sys2Proof.Machine.execFdbAgeingScan s
  | .fdbLookup q => Sys2Proof.Machine.execFdbLookup q s
  | .fdbRead q => Sys2Proof.Machine.execFdbRead q s
  | .fdbInsert q => Sys2Proof.Machine.execFdbInsert q s
  | .fdbDelete q => Sys2Proof.Machine.execFdbDelete q s
  | .fdbFlush q port all => Sys2Proof.Machine.execFdbFlush q port all s
  | .fdbFlushDone => Sys2Proof.Machine.execFdbFlushDone s
  -- streams and shapers (R287 to R316)
  | .meterRefillTick => Sys2Proof.Machine.execMeterRefillTick s
  | .shaperCreditTick => Sys2Proof.Machine.execShaperCreditTick s
  | .frerRecoveryReset f => Sys2Proof.Machine.execFrerRecoveryReset f s
  | .stmTableRead q => Sys2Proof.Machine.execStmTableRead q s
  | .stmTableWrite q => Sys2Proof.Machine.execStmTableWrite q s
  | .stmTableReadClear q => Sys2Proof.Machine.execStmTableReadClear q s
  -- time, gates, triggers, captures and travel (R317 to R350)
  | .trackerRateWrite q d w => Sys2Proof.Machine.execTrackerRateWrite q d w s
  | .trackerAdjust q d w => Sys2Proof.Machine.execTrackerAdjust q d w s
  | .trackerRefresh q d => Sys2Proof.Machine.execTrackerRefresh q d s
  | .trackerHealthTimeout d => Sys2Proof.Machine.execTrackerHealthTimeout d s
  | .workingClockUpdate => Sys2Proof.Machine.execWorkingClockUpdate s
  | .wcCfgWrite q w => Sys2Proof.Machine.execWcCfgWrite q w s
  | .step q d => Sys2Proof.Machine.execStep q d s
  | .cancelStep q => Sys2Proof.Machine.execCancelStep q s
  | .stepBoundary => Sys2Proof.Machine.execStepBoundary s
  | .txtsRead q => Sys2Proof.Machine.execTxtsRead q s
  | .configChange q k => Sys2Proof.Machine.execConfigChange q k s
  | .configCopyDone k => Sys2Proof.Machine.execConfigCopyDone k s
  | .gateCancel q k => Sys2Proof.Machine.execGateCancel q k s
  | .configChangeTime k => Sys2Proof.Machine.execConfigChangeTime k s
  | .gateEntryStart k => Sys2Proof.Machine.execGateEntryStart k s
  | .gateListEnableWrite q k w => Sys2Proof.Machine.execGateListEnableWrite q k w s
  | .travelCount a b => Sys2Proof.Machine.execTravelCount a b s
  | .triggerEnable q k w => Sys2Proof.Machine.execTriggerEnable q k w s
  | .triggerDue k => Sys2Proof.Machine.execTriggerDue k s
  | .triggerPulseEnd k => Sys2Proof.Machine.execTriggerPulseEnd k s
  | .captureEdge k rise => Sys2Proof.Machine.execCaptureEdge k rise s
  | .captureRead q k => Sys2Proof.Machine.execCaptureRead q k s
  -- the cipher engine (R351 to R374)
  | .sluiceDispatch => Sys2Proof.Machine.execSluiceDispatch s
  | .panJobComplete p => Sys2Proof.Machine.execPanJobComplete p s
  | .knownAnswerTest bad => Sys2Proof.Machine.execKnownAnswerTest bad s
  | .panReturn q m bad => Sys2Proof.Machine.execPanReturn q m bad s
  | .cphTableRead q => Sys2Proof.Machine.execCphTableRead q s
  | .cphTableWrite q => Sys2Proof.Machine.execCphTableWrite q s
  | .cphTableReadClear q => Sys2Proof.Machine.execCphTableReadClear q s
  | .cphTableRestore q => Sys2Proof.Machine.execCphTableRestore q s
  | .rekeyReqClear q k m => Sys2Proof.Machine.execRekeyReqClear q k m s
  -- the gateway engine (R375 to R402)
  | .channelRx c m e => Sys2Proof.Machine.execChannelRx c m e s
  | .channelTxStart c => Sys2Proof.Machine.execChannelTxStart c s
  | .channelTxDone c ok e => Sys2Proof.Machine.execChannelTxDone c ok e s
  | .busOffRecovery c => Sys2Proof.Machine.execBusOffRecovery c s
  | .linSlotStart k => Sys2Proof.Machine.execLinSlotStart k s
  | .linHeaderReceived k h => Sys2Proof.Machine.execLinHeaderReceived k h s
  | .linResponseTimeout k => Sys2Proof.Machine.execLinResponseTimeout k s
  | .linIdleSleep k => Sys2Proof.Machine.execLinIdleSleep k s
  | .serialMessageEnd k => Sys2Proof.Machine.execSerialMessageEnd k s
  | .channelRecover q c => Sys2Proof.Machine.execChannelRecover q c s
  | .channelSleep q c => Sys2Proof.Machine.execChannelSleep q c s
  | .channelWake q c => Sys2Proof.Machine.execChannelWake q c s
  | .channelFlushTx q c => Sys2Proof.Machine.execChannelFlushTx q c s
  | .channelWakeDetect c => Sys2Proof.Machine.execChannelWakeDetect c s
  | .linScheduleResume k => Sys2Proof.Machine.execLinScheduleResume k s
  | .gatewaySlice run => Sys2Proof.Machine.execGatewaySlice run s
  | .gatewayTimer c => Sys2Proof.Machine.execGatewayTimer c s
  | .contextWrite q c o w => Sys2Proof.Machine.execContextWrite q c o w s
  | .pantryDataWrite q w => Sys2Proof.Machine.execPantryDataWrite q w s
  | .pantryDataRead q => Sys2Proof.Machine.execPantryDataRead q s
  | .decapsulation => Sys2Proof.Machine.execDecapsulation s
  -- the host bridge and the Hatches (R403 to R434)
  | .pcieReset down => Sys2Proof.Machine.execPcieReset down s
  | .pcieLinkUp speed width mps host => Sys2Proof.Machine.execPcieLinkUp speed width mps host s
  | .inboundRead bar off n tag whole answers => Sys2Proof.Machine.execInboundRead bar off n tag whole answers s
  | .inboundReadTimeout tag => Sys2Proof.Machine.execInboundReadTimeout tag s
  | .inboundWrite bar off reqId b whole aux => Sys2Proof.Machine.execInboundWrite bar off reqId b whole aux s
  | .poisonedTlp bar off n reqId => Sys2Proof.Machine.execPoisonedTlp bar off n reqId s
  | .windowCfgWrite q k w => Sys2Proof.Machine.execWindowCfgWrite q k w s
  | .prefetchFillDone k => Sys2Proof.Machine.execPrefetchFillDone k s
  | .prefetchExpiry k => Sys2Proof.Machine.execPrefetchExpiry k s
  | .ringTailWrite q r w => Sys2Proof.Machine.execRingTailWrite q r w s
  | .ringCfgWrite q r w => Sys2Proof.Machine.execRingCfgWrite q r w s
  | .txRingFetch r => Sys2Proof.Machine.execTxRingFetch r s
  | .dmaReadCompletion r b => Sys2Proof.Machine.execDmaReadCompletion r b s
  | .dmaReadTimeout r => Sys2Proof.Machine.execDmaReadTimeout r s
  | .rxRingDelivery ana bufs => Sys2Proof.Machine.execRxRingDelivery ana bufs s
  | .coalesceTimerExpiry r => Sys2Proof.Machine.execCoalesceTimerExpiry r s
  | .dmaWriteFailure r first => Sys2Proof.Machine.execDmaWriteFailure r first s
  | .hatchPush q h w => Sys2Proof.Machine.execHatchPush q h w s
  | .hatchPushEnd q h => Sys2Proof.Machine.execHatchPushEnd q h s
  | .hatchPop h k tag => Sys2Proof.Machine.execHatchPop h k tag s
  | .hatchLineMove h => Sys2Proof.Machine.execHatchLineMove h s
  | .hatchFlush q h => Sys2Proof.Machine.execHatchFlush q h s
  | .hatchArm q h => Sys2Proof.Machine.execHatchArm q h s
  | .hatchCfgWrite q h w => Sys2Proof.Machine.execHatchCfgWrite q h w s
  -- the Strongroom (R435 to R451)
  | .strongroomRecord => Sys2Proof.Machine.execStrongroomRecord s
  | .stgTrigger q reason => Sys2Proof.Machine.execStgTrigger q reason s
  | .incidentPostExpiry k => Sys2Proof.Machine.execIncidentPostExpiry k s
  | .incidentLimitExpiry k => Sys2Proof.Machine.execIncidentLimitExpiry k s
  | .incidentRelease q k => Sys2Proof.Machine.execIncidentRelease q k s
  | .incidentExport q k => Sys2Proof.Machine.execIncidentExport q k s
  | .exportFrame => Sys2Proof.Machine.execExportFrame s
  | .stopExport q => Sys2Proof.Machine.execStopExport q s
  | .clearRing q => Sys2Proof.Machine.execClearRing q s
  -- the control complex and the fault collector (R452 to R484)
  | .lockstepMismatch g => Sys2Proof.Machine.execLockstepMismatch g s
  | .railDisagreement g => Sys2Proof.Machine.execRailDisagreement g s
  | .comparatorTest fail => Sys2Proof.Machine.execComparatorTest fail s
  | .checkpointNotice => Sys2Proof.Machine.execCheckpointNotice s
  | .checkpoint parked agree => Sys2Proof.Machine.execCheckpoint parked agree s
  | .ccxRestart tcm bad fail => Sys2Proof.Machine.execCcxRestart tcm bad fail s
  | .ccxDone => Sys2Proof.Machine.execCcxDone s
  | .restartTimeout => Sys2Proof.Machine.execRestartTimeout s
  | .faultMessage b bad => Sys2Proof.Machine.execFaultMessage b bad s
  | .dualRailChange src bad => Sys2Proof.Machine.execDualRailChange src bad s
  | .pendingClear q src => Sys2Proof.Machine.execPendingClear q src s
  | .fltClear q v => Sys2Proof.Machine.execFltClear q v s
  | .faultPinTimerExpiry => Sys2Proof.Machine.execFaultPinTimerExpiry s
  | .faultPinRelease q => Sys2Proof.Machine.execFaultPinRelease q s
  -- paired operation (R485 to R505)
  | .refereePoll ok pairId counter side body => Sys2Proof.Machine.execRefereePoll ok pairId counter side body s
  | .refereeGrant ok pairId counter side term leaseMs echo => Sys2Proof.Machine.execRefereeGrant ok pairId counter side term leaseMs echo s
  | .leaseExpiry => Sys2Proof.Machine.execLeaseExpiry s
  | .relinquish q => Sys2Proof.Machine.execRelinquish q s
  | .selftestNow q bad => Sys2Proof.Machine.execSelftestNow q bad s
  | .pairLinkBlockLock => Sys2Proof.Machine.execPairLinkBlockLock s
  | .pairHello h => Sys2Proof.Machine.execPairHello h s
  | .pairProof ok => Sys2Proof.Machine.execPairProof ok s
  | .pairLinkLoss lane => Sys2Proof.Machine.execPairLinkLoss lane s
  | .pairHealthSend => Sys2Proof.Machine.execPairHealthSend s
  | .pairHealthReceived ok counter health => Sys2Proof.Machine.execPairHealthReceived ok counter health s
  | .pairTimeSend => Sys2Proof.Machine.execPairTimeSend s
  | .pairTimeReceived ok counter trk0 trk1 wc back => Sys2Proof.Machine.execPairTimeReceived ok counter trk0 trk1 wc back s
  | .crateSend sweep => Sys2Proof.Machine.execCrateSend sweep s
  | .crateFragment ok counter seq frag last body => Sys2Proof.Machine.execCrateFragment ok counter seq frag last body s
  | .crateApplied => Sys2Proof.Machine.execCrateApplied s
  | .standbySelftest bad => Sys2Proof.Machine.execStandbySelftest bad s
  | .selftestBankFree => Sys2Proof.Machine.execSelftestBankFree s
  | .selftestDone cellsOk => Sys2Proof.Machine.execSelftestDone cellsOk s
  | .takeoverComplete => Sys2Proof.Machine.execTakeoverComplete s
  -- management (R506 to R520)
  | .mgtHello via addr nonce eph credential sigOk => Sys2Proof.Machine.execMgtHello via addr nonce eph credential sigOk s
  | .mgtFinish k via addr ok => Sys2Proof.Machine.execMgtFinish k via addr ok s
  | .finishTimeout k => Sys2Proof.Machine.execFinishTimeout k s
  | .certReq via addr off => Sys2Proof.Machine.execCertReq via addr off s
  | .mgtRequest k via addr seq tagOk reqId opcode params => Sys2Proof.Machine.execMgtRequest k via addr seq tagOk reqId opcode params s
  | .mgtClose k via addr seq tagOk fromDevice => Sys2Proof.Machine.execMgtClose k via addr seq tagOk fromDevice s
  | .sessionIdleTimeout k => Sys2Proof.Machine.execSessionIdleTimeout k s
  | .getInfo => Sys2Proof.Machine.execGetInfo s
  | .regRead => Sys2Proof.Machine.execRegRead s
  | .regWrite => Sys2Proof.Machine.execRegWrite s
  | .regModify => Sys2Proof.Machine.execRegModify s
  | .cntRead => Sys2Proof.Machine.execCntRead s
  | .faultClear => Sys2Proof.Machine.execFaultClear s
  | .updateBegin => Sys2Proof.Machine.execUpdateBegin s
  | .updateChunk => Sys2Proof.Machine.execUpdateChunk s
  | .updateEnd late => Sys2Proof.Machine.execUpdateEnd late s
  | .updateCommit => Sys2Proof.Machine.execUpdateCommit s
  | .updateConfirm => Sys2Proof.Machine.execUpdateConfirm s
  | .updateCancel => Sys2Proof.Machine.execUpdateCancel s
  | .updateStatus => Sys2Proof.Machine.execUpdateStatus s
  | .rulesetSwap late => Sys2Proof.Machine.execRulesetSwap late s
  | .timeGet => Sys2Proof.Machine.execTimeGet s
  | .timeStep => Sys2Proof.Machine.execTimeStep s
  | .timeSource => Sys2Proof.Machine.execTimeSource s
  | .gateChange late => Sys2Proof.Machine.execGateChange late s
  | .attest => Sys2Proof.Machine.execAttest s
  | .pairStatus => Sys2Proof.Machine.execPairStatus s
  | .pairRelinquish => Sys2Proof.Machine.execPairRelinquish s
  | .pairSelftest bad => Sys2Proof.Machine.execPairSelftest bad s
  | .zeroize => Sys2Proof.Machine.execZeroize s
  | .power => Sys2Proof.Machine.execPower s
  | .reset => Sys2Proof.Machine.execReset s

end Sys2Proof.Machine
end

