-- ==== Sys2Proof/Machine/Step.lean ====
section
/-!
DEFINITION. One step: the command at the front of the queue runs; on an empty queue one 2 ns tick passes.
-/
namespace Sys2Proof.Machine

/-- The passing of one 2 ns tick of the time domain, two cycles of the core clock (R16, R26): while the device is awake its
clocks advance (R317). -/
def State.idle (s : State) : State :=
  s.after (if s.awake then s.tick else s.quietTick)

/-- One step. Commands have an order and no cycle of their own: where a hardware event and a clear fall in one cycle,
R7's outcome is the run that queues the clear first (DESIGN CHOICE, log entry 92). -/
def step (s : State) : Host.Outcome State Fault Refusal :=
  match s.pending with
  | [] => .next s.idle
  | c :: rest => exec c { s with pending := rest }

/-- `s` with the command that a word spells at the front of its queue. -/
def State.withFetchWord (s : State) (nbits w : Nat) : State :=
  match decodeTableWord nbits w with
  | some c => { s with pending := c :: s.pending }
  | none => s

end Sys2Proof.Machine
end

