-- ==== Sys2Proof/WellFormed.lean ====
section
/-!
DEFINITION. Which commands are well formed: the operands whose Lean type is wider than what the spec gives them lie in
their ranges. A command that is not well formed stands for nothing that the outside world can do.
-/
namespace Sys2Proof

/-- An internal address has 40 bits (R31). -/
def addr40 (a : Nat) : Bool := decide (a < 2 ^ 40)

/-- The host reaches register space through the 8 MiB of BAR0 (R32); the others reach all of it (R31). -/
def reachable (q : Sender) (a : Nat) : Bool := addr40 a && (q != .host || decide (a < 8 * 2 ^ 20))

/-- A gate list: 0 to 23 of the egress ports, 32 to 95 of the ingress stream gates (R330). -/
def gateList (i : Fin 96) : Bool := decide (i.val < 24) || decide (32 ≤ i.val)

/-- A host address has 64 bits (R415). -/
def addr64 (a : Nat) : Bool := decide (a < 2 ^ 64)

/-- An access of 1 to 4,096 bytes that lies inside BAR0, BAR2 or BAR4 (R32). -/
def inBar (bar off n : Nat) : Bool :=
  decide (1 ≤ n ∧ n ≤ 4096) && ((bar == 0 && decide (off + n ≤ 8 * 2 ^ 20)) || (bar == 2 && decide (off + n ≤ 2 ^ 30)) ||
    (bar == 4 && decide (off + n ≤ 8 * 2 ^ 10)))

/-- The fields of a message record have the widths of R389. -/
def Msg.ok (m : Machine.Msg) : Bool :=
  decide (m.channel < 256 ∧ m.format ≤ 6 ∧ m.flags < 256 ∧ m.id < 2 ^ 32 ∧ m.sdt < 256 ∧ m.vcid < 256 ∧ m.kind < 256 ∧ m.status < 256 ∧
    m.af < 2 ^ 32 ∧ m.time < 2 ^ 64 ∧ m.data.length ≤ 2048)

/-- The end of a frame for a CAN controller names an error as LEC does (R378). -/
def CanErr.ok (e : Machine.CanErr) : Bool := decide (e.lec < 7)

/-- What a HELLO names (R491): a UID, a side, a PAIR_ID, identifiers of 128 bits, a chain of 384 bits,
a nonce of 256 bits and the two coordinates of a P-384 point. -/
def PairPeer.ok (h : Machine.PairPeer) : Bool :=
  decide (h.uid < 2 ^ 128 ∧ h.side < 2 ∧ h.pairId < 2 ^ 32 ∧ h.image < 2 ^ 128 ∧ h.chain < 2 ^ 384 ∧ h.nonce.length = 32 ∧ h.eph.length = 96)

/-- Whether a command is well formed. -/
def Instr.wellFormed (i : Instr) : Bool :=
  match i with
  | .registerWrite q a _ => reachable q a
  | .rcRead q a => reachable q a
  | .counterLowRead q a => reachable q a
  | .fullTimeRead _ _ => true
  | .unmappedAccess q a _ => reachable q a
  | .chipReset _ => true
  | .coldReset _ => true
  | .blockReset _ _ => true
  | .blockResetComplete _ => true
  | .testPortReset => true
  | .resetCmdChipReset _ => true
  | .resetCmdBlockReset _ _ => true
  | .intEoi _ _ => true
  | .msixUnmask _ _ _ => true
  | .coldResetRelease _ _ _ _ _ => true
  | .temperatureSample _ => true
  | .pmbusTimeout => true
  | .powerLoss => true
  | .pwrCmdSleepD _ _ => true
  | .pwrCmdSleepR _ _ => true
  | .pwrCmdStandby _ _ => true
  | .pwrCmdActive _ _ => true
  | .sleepEntryStep => true
  | .wakeConfirmed _ => true
  | .wakeTimerExpiry => true
  | .pgoodWaitDone => true
  | .pgoodTimeout => true
  | .sequenceRetry => true
  | .startTableStep => true
  | .internalReady _ _ => true
  | .pgoodLoss _ => true
  | .pgoodRecovery _ => true
  | .pmbusAlert words => words.length == 8 && words.all (fun w => decide (w.toNat < 65536))
  | .pwrSeqCfgWrite _ _ => true
  | .voltageMonitorEvent _ _ => true
  | .clockLoss _ => true
  | .clockRecovery _ => true
  | .mr4TemperatureReport rate _ => decide (rate < 256)
  | .bootStart comp1 comp2 _ _ _ _ _ _ => comp1.all (fun i => decide (i < 64)) && comp2.all (fun i => decide (i < 64))
  | .pass1Complete _ _ _ => true
  | .dramTrainingDone _ _ => true
  | .imageCommit _ _ => true
  | .resumeRetagDone => true
  | .stageChunkSubmit _ _ => true
  | .stageChunkTaken _ _ _ => true
  | .pcieImageTimeout => true
  | .beginImage _ => true
  | .beginRuntime _ => true
  | .updateEraseDone => true
  | .bootUpdateEnd _ => true
  | .updateVerifyDone _ _ _ _ => true
  | .bootUpdateCommit _ _ => true
  | .runtimeApplyDone _ => true
  | .bootUpdateConfirm _ => true
  | .bootUpdateCancel _ => true
  | .flashTimeout => true
  | .lifecycleCmd _ _ => true
  | .fuseWriteDone => true
  | .secZeroize _ => true
  | .debugChallengeRead _ => true
  | .debugTokenCheck _ _ _ => true
  | .challengeExpiry => true
  | .challengeRefusalEnd => true
  | .trngHealthFail => true
  | .drbgRestart => true
  | .drbgReseed => true
  | .keySlotWrite _ _ _ _ _ => true
  | .portCfgWrite _ _ _ => true
  | .linkSignalDetect _ => true
  | .linkTrainingDone _ _ _ => true
  | .upFilterExpiry _ => true
  | .linkLoss _ _ _ => true
  | .linkLossFilterExpiry _ => true
  | .linkDownFlushDone _ => true
  | .holdoffExpiry _ => true
  | .pfcFrameReceived _ _ quanta => quanta.length == 8 && quanta.all (fun v => decide (v < 65536))
  | .pauseFrameReceived _ _ => true
  | .pauseTimerExpiry _ _ => true
  | .preemptVerifyTimer _ => true
  | .preemptVerifyResponse _ => true
  | .sqiUpdate _ _ => true
  | .plcaBeaconConflict _ => true
  | .tc10SleepAck _ => true
  | .tc10SleepTimeout _ => true
  | .tc10CmdSleep _ _ => true
  | .tc10CmdWake _ _ => true
  | .tc10WakeDetect _ => true
  | .mdioAddress _ _ _ _ => true
  | .mdioWrite _ _ _ _ _ => true
  | .mdioRead _ _ _ _ => true
  | .mdioReadIncrement _ _ _ => true
  | .mdioFrameDone _ => true
  | .mdioPoll => true
  | .extPhyInterrupt _ => true
  | .rateWindowExpiry _ => true
  | .pfcFrameSend _ => true
  | .pauseRepeatTimer _ => true
  | .frameArrival _ => true
  | .cellArrival _ b => decide (1 ≤ b.length ∧ b.length ≤ 256)
  | .frameEnd _ _ _ => true
  | .icvVerified _ _ err => decide (err.length ≤ 10240)
  | .rakeDispatch => true
  | .rakeStallEnd _ => true
  | .keyRecordWritten _ => true
  | .sessionCreationWrite => true
  | .forwardingDecision _ => true
  | .recirculationPass => true
  | .learningRequest => true
  | .transmissionSelection _ => true
  | .macsecEgressDispatch _ => true
  | .transmitEnd _ tx => tx.bufs.all addr64
  | .firmwareFrameSend _ b _ => decide (14 ≤ b.length ∧ b.length ≤ 10236)
  | .add _ => true
  | .sub _ => true
  | .and _ => true
  | .or _ => true
  | .xor _ => true
  | .shl _ => true
  | .shr _ => true
  | .mov _ => true
  | .ext _ => true
  | .cmp _ => true
  | .tst _ => true
  | .rds _ => true
  | .br _ => true
  | .call _ => true
  | .ret _ => true
  | .brx _ => true
  | .endProg _ => true
  | .nop _ => true
  | .ld _ => true
  | .st _ => true
  | .setcur _ => true
  | .hdr _ => true
  | .malf _ => true
  | .recirc _ => true
  | .lkp _ => true
  | .auth _ => true
  | .send _ => true
  | .olen _ => true
  | .epochSwap _ => true
  | .swapSettled => true
  | .treeDataHiWrite _ _ => true
  | .treeDataLoRead _ => true
  | .treeDirectWrite q _ _ _ => q != .host
  | .treeDirectRead q _ _ => q != .host
  | .sessionAgeingScan => true
  | .stashMove _ => true
  | .fwlLookup _ => true
  | .fwlRead _ => true
  | .fwlInsert _ => true
  | .fwlDelete _ => true
  | .fwlFlush _ _ => true
  | .fwlFlushDone => true
  | .fdbAgeingScan => true
  | .fdbLookup _ => true
  | .fdbRead _ => true
  | .fdbInsert _ => true
  | .fdbDelete _ => true
  | .fdbFlush _ _ _ => true
  | .fdbFlushDone => true
  | .meterRefillTick => true
  | .shaperCreditTick => true
  | .frerRecoveryReset _ => true
  | .stmTableRead _ => true
  | .stmTableWrite _ => true
  | .stmTableReadClear _ => true
  | .trackerRateWrite _ _ _ => true
  | .trackerAdjust _ _ _ => true
  | .trackerRefresh _ _ => true
  | .trackerHealthTimeout _ => true
  | .workingClockUpdate => true
  | .wcCfgWrite _ _ => true
  | .step _ _ => true
  | .cancelStep _ => true
  | .stepBoundary => true
  | .txtsRead _ => true
  | .configChange _ i => gateList i
  | .configCopyDone i => gateList i
  | .gateCancel _ i => gateList i
  | .configChangeTime i => gateList i
  | .gateEntryStart i => gateList i
  | .gateListEnableWrite _ i _ => gateList i
  | .travelCount _ _ => true
  | .triggerEnable _ _ _ => true
  | .triggerDue _ => true
  | .triggerPulseEnd _ => true
  | .captureEdge _ _ => true
  | .captureRead _ _ => true
  | .sluiceDispatch => true
  | .panJobComplete _ => true
  | .knownAnswerTest _ => true
  | .panReturn _ _ _ => true
  | .cphTableRead _ => true
  | .cphTableWrite _ => true
  | .cphTableReadClear _ => true
  | .cphTableRestore _ => true
  | .rekeyReqClear _ _ _ => true
  | .channelRx _ m e => Msg.ok m && CanErr.ok e
  | .channelTxStart _ => true
  | .channelTxDone _ _ e => CanErr.ok e
  | .busOffRecovery _ => true
  | .linSlotStart _ => true
  | .linHeaderReceived _ h => decide (h.time < 2 ^ 64)
  | .linResponseTimeout _ => true
  | .linIdleSleep _ => true
  | .serialMessageEnd _ => true
  | .channelRecover _ _ => true
  | .channelSleep _ _ => true
  | .channelWake _ _ => true
  | .channelFlushTx _ _ => true
  | .channelWakeDetect _ => true
  | .linScheduleResume _ => true
  | .gatewaySlice _ => true
  | .gatewayTimer _ => true
  | .contextWrite q _ _ _ => q != .host
  | .pantryDataWrite _ _ => true
  | .pantryDataRead _ => true
  | .decapsulation => true
  | .pcieReset _ => true
  | .pcieLinkUp speed width mps host =>
      decide (1 ≤ speed ∧ speed ≤ 4) && [1, 2, 4].contains width && [128, 256, 512].contains mps &&
      [128, 256, 512, 1024, 2048, 4096].contains host.mrrs
  | .inboundRead bar off n tag _ _ => inBar bar off n && decide (tag < 256)
  | .inboundReadTimeout tag => decide (tag < 256)
  | .inboundWrite bar off reqId b _ _ => inBar bar off b.length && decide (reqId < 65536)
  | .poisonedTlp bar off n reqId => inBar bar off n && decide (reqId < 65536)
  | .windowCfgWrite _ _ _ => true
  | .prefetchFillDone _ => true
  | .prefetchExpiry _ => true
  | .ringTailWrite _ _ _ => true
  | .ringCfgWrite _ _ _ => true
  | .txRingFetch _ => true
  | .dmaReadCompletion _ b => decide (b.length ≤ 10236)
  | .dmaReadTimeout _ => true
  | .rxRingDelivery _ bufs => bufs.all addr64
  | .coalesceTimerExpiry _ => true
  | .dmaWriteFailure _ _ => true
  | .hatchPush _ _ _ => true
  | .hatchPushEnd _ _ => true
  | .hatchPop _ k tag => decide (1 ≤ k ∧ k ≤ 64) && decide (tag < 256)
  | .hatchLineMove _ => true
  | .hatchFlush _ _ => true
  | .hatchArm _ _ => true
  | .hatchCfgWrite _ _ _ => true
  | .strongroomRecord => true
  | .stgTrigger _ _ => true
  | .incidentPostExpiry _ => true
  | .incidentLimitExpiry _ => true
  | .incidentRelease _ _ => true
  | .incidentExport _ _ => true
  | .exportFrame => true
  | .stopExport _ => true
  | .clearRing _ => true
  | .lockstepMismatch _ => true
  | .railDisagreement _ => true
  | .comparatorTest fail => fail.all (fun i => decide (i < 64))
  | .checkpointNotice => true
  | .checkpoint _ _ => true
  | .ccxRestart _ _ fail => fail.all (fun i => decide (i < 64))
  | .ccxDone => true
  | .restartTimeout => true
  | .faultMessage _ _ => true
  | .dualRailChange _ _ => true
  | .pendingClear _ _ => true
  | .fltClear _ _ => true
  | .faultPinTimerExpiry => true
  | .faultPinRelease _ => true
  | .refereePoll _ pairId counter _ body =>
      decide (pairId < 2 ^ 32) && decide (counter < 2 ^ 64) && decide (body.holder < 256 ∧ body.term < 2 ^ 32 ∧ body.leaseMs < 65536)
  | .refereeGrant _ pairId counter _ term leaseMs echo =>
      decide (pairId < 2 ^ 32) && decide (counter < 2 ^ 64) && decide (term < 2 ^ 32) && decide (leaseMs < 2 ^ 32) &&
      decide (echo < 2 ^ 64)
  | .leaseExpiry => true
  | .relinquish _ => true
  | .selftestNow _ _ => true
  | .pairLinkBlockLock => true
  | .pairHello h => PairPeer.ok h
  | .pairProof _ => true
  | .pairLinkLoss _ => true
  | .pairHealthSend => true
  | .pairHealthReceived _ counter _ => decide (counter < 2 ^ 64)
  | .pairTimeSend => true
  | .pairTimeReceived _ counter _ _ _ _ => decide (counter < 2 ^ 64)
  | .crateSend _ => true
  | .crateFragment _ counter seq frag _ body =>
      decide (counter < 2 ^ 64) && decide (seq < 2 ^ 32) && decide (frag < 65536) && decide (body.length ≤ 8192)
  | .crateApplied => true
  | .standbySelftest _ => true
  | .selftestBankFree => true
  | .selftestDone _ => true
  | .takeoverComplete => true
  | .mgtHello _ _ nonce eph credential _ => decide (nonce.length + eph.length + credential.length < 65536)
  | .mgtFinish _ _ _ _ => true
  | .finishTimeout _ => true
  | .certReq _ _ _ => true
  | .mgtRequest _ _ _ seq _ _ _ params => decide (seq < 2 ^ 64) && decide (params.length ≤ 16384)
  | .mgtClose _ _ _ seq _ _ => decide (seq < 2 ^ 64)
  | .sessionIdleTimeout _ => true
  | .getInfo => true
  | .regRead => true
  | .regWrite => true
  | .regModify => true
  | .cntRead => true
  | .faultClear => true
  | .updateBegin => true
  | .updateChunk => true
  | .updateEnd _ => true
  | .updateCommit => true
  | .updateConfirm => true
  | .updateCancel => true
  | .updateStatus => true
  | .rulesetSwap _ => true
  | .timeGet => true
  | .timeStep => true
  | .timeSource => true
  | .gateChange _ => true
  | .attest => true
  | .pairStatus => true
  | .pairRelinquish => true
  | .pairSelftest _ => true
  | .zeroize => true
  | .power => true
  | .reset => true

end Sys2Proof
end

