-- ==== Sys2Proof/Safety.lean ====
section
/-!
DEFINITION. What the claims about the machine are stated in: when a register access reaches its register, the invariant
that every step keeps, and the canonical form of the memories.
-/
namespace Sys2Proof.Machine

/-! Register accesses. -/

/-- A write of address `a` by `q` reaches its register: the device is awake, the requester may write there (R101, R132)
and the block that holds the address is not in block reset (R30). -/
def State.reaches (s : State) (q : Sender) (a : Nat) : Prop :=
  s.awake = true ∧ s.mayWrite q.req a = true ∧ s.ownerOff a = false

/-- A read of address `a` by `q` is answered by what holds the address (R30, R132). -/
def State.readable (s : State) (q : Sender) (a : Nat) : Prop :=
  s.awake = true ∧ s.mayRead q.req a = true ∧ s.ownerOff a = false

/-- The word that a write of `w` makes of the register at `a` under the access types of its fields (R6, R8). -/
def State.written (s : State) (a : Nat) (w : Word) : Word :=
  match regRowAt a with
  | some r => (r.next s.committed (s.rword a) w).1
  | none => s.rword a

/-- A write of `w` to the register at `a` changes no LK field after commit (R8). -/
def State.lockKept (s : State) (a : Nat) (w : Word) : Bool :=
  match regRowAt a with
  | some r => !(r.next s.committed (s.rword a) w).2
  | none => true

/-- The register at `a` does more when it is written than store the word that its access types make. -/
def actsOnWrite (a : Nat) : Bool := (caseAt (State.reset.writeCases .ccx 0 0 0) a).isSome

/-- The register at `a` does more when it is read than show its fields. -/
def actsOnRead (a : Nat) : Bool := (caseAt (State.reset.readCases .ccx 0) a).isSome

/-- `a` is the low word of a counter's pair, or of a reserved pair, in register space (R9, R10). -/
def counterLow (a : Nat) : Bool :=
  regSpace a && a % 8 = 0 && (regRowAt a).isNone && (a < gatWin || 0x87000 ≤ a) && !actsOnRead a

/-- What a write of address `a` by `q` leaves when its effect leaves `e`: a write that did not take effect is logged (R412),
and the lines follow. -/
def State.did (s : State) (q : Sender) (a : Nat) (e : State) : State := s.after (e.logBy q.req a)

/-- What a read by `q` leaves that answers word `w` and whose effect leaves `e`; one by the host counts (R433). -/
def State.told (s : State) (q : Sender) (w : Word) (e : State) : State :=
  s.after ((e.inbound q.req 0).emit (.readData false w))

/-- The registers of block `b` that `p` names are as they were. -/
def sameRegs (s t : State) (p : Nat → Bool) : Prop := ∀ a, p a = true → t.rword a = s.rword a

/-! Programs of the Rake instruction set. -/

/-- Engine `e` serves, and the instance `g` on it is about to execute the word `x`, whose opcode is `op`. -/
def State.runs (s : State) (e : EngId) (op : Nat) (g : Eng) (x : IWord) : Prop :=
  s.engServes e = true ∧ s.eng e = some g ∧ g.status = .run ∧ decodeI (s.fetchWord e g.pc) = x ∧ x.op = op

/-- The word at `pc` is within the program, intact and legal, and `n` executed instructions leave one more (R200, R206, R215,
R219). -/
def State.fetchable (s : State) (e : EngId) (pc n : Nat) : Prop :=
  pc < s.progLen e ∧ n < isaLimit e ∧ s.fetchEcc e pc = (false, s) ∧ opLegal e (decodeI (s.fetchWord e pc)).op = true

/-! The management service. -/

/-- The management service is about to execute request `r` (R514, R515): MGT serves, the firmware runs, `r` is the oldest
accepted request, its opcode is that of command `op`, and its session held the privilege that `op` needs. -/
def State.asked (s : State) (op : Nat) (r : MgtReq) : Prop :=
  s.serves 22 = true ∧ s.committed = true ∧ s.on .TOP_STATE_CCX_RESTART = false ∧ s.mgt.queue.head? = some r ∧ r.opcode = op ∧
  ∃ b, mgtPriv op = some b ∧ bitAt r.priv b = true

/-! The invariant. -/

/-- TOP_INT_STATUS.LINE shows the present level of each of the 23 interrupt lines (R33, R34). -/
def State.linesShown (s : State) : Prop := s.rf .TOP_INT_STATUS_LINE = s.lineMask

/-- RAK_WAIT.MAX_WAIT is no lower than the number of ready frames that wait for a Rake. -/
def State.waitShown (s : State) : Prop := min 65535 s.rakeWait ≤ s.rf .RAK_WAIT_MAX_WAIT

/-- Every due moment of a trigger has reached the Strongroom and the gateway (R347, R443). -/
def State.dueServed (s : State) : Prop := s.tim.fresh = []

/-- Nothing is left for what follows a command to do: no due moment of a trigger, no frame of a held sender (R274), no
verification job that waits to be requested (R355). -/
def State.quiet (s : State) : Prop := s.dueServed ∧ s.cel.hold = [] ∧ s.cph.backlog = []

/-- What holds between any two commands. -/
def State.Inv (s : State) : Prop := s.linesShown ∧ s.waitShown ∧ s.dueServed

/-! The memories. -/

/-- A memory is in canonical form: addresses rise strictly, and no entry equals what an unlisted address reads as. -/
def Memory.wf {α : Type} [DecidableEq α] (unlisted : Nat → α) (m : Sparse α) : Bool := spWf unlisted m

/-- The addressed memories of the device are in canonical form: DRAM, Pantry, tree memory, the program store and the
registers. -/
def State.memoriesWf (s : State) : Bool :=
  Memory.wf (fun _ => none) s.dram.cells && Memory.wf (fun _ => (0 : Byte)) s.gwe.pantry &&
  Memory.wf (fun _ => (0 : BitVec 64)) s.cls.tree && Memory.wf (fun _ => (0 : BitVec 64)) s.rak.store &&
  Memory.wf resetWord s.regs

end Sys2Proof.Machine
end

