-- ==== Sys2Proof/Certificates/Slice0/Obligations.lean ====
section
/-!
DEFINITION. The claims about the machine.
-/

open Sys2Proof Sys2Proof.Machine

/-- For every command and state: when the command is at the front of the queue of waiting commands, a step is exec
of that command on the state whose queue is the rest. -/
def Obligations.StepRunsFrontCommand : Prop :=
  ∀ (c : Instr) (l : List Instr) (s : State), s.pending = c :: l → step s = exec c { s with pending := l }

/-- With no command waiting, a step answers a next state with no command waiting: in an awake device the clocks take
one 2 ns tick, and in a device that is held in reset or asleep only two cycles of the core clock pass and, in OFF, the
banks that ramp are down. That time
passes in this way is the model's choice (log entry 2): the opcode table has no row for a tick. -/
def Obligations.EmptyQueuePassesTick : Prop :=
  ∀ s : State, s.pending = [] →
    (s.awake = true → step s = .next (s.after s.tick)) ∧
    (s.awake = false → let e : State := { s with cycles := s.cycles + 2, pwr := { s.pwr with ramp := if s.pwr.off then 0 else s.pwr.ramp } }
      step s = .next (s.after e)) ∧
    ∃ t, step s = .next t ∧ t.pending = []

/-- For every command and every state, exec answers a next state (never a fault and never a refusal), the queue of
waiting commands is as it was, TOP_INT_STATUS.LINE shows the present level of every interrupt line,
RAK_WAIT.MAX_WAIT is no lower than the number of ready frames, and no due moment of a trigger is left unserved. -/
def Obligations.EveryCommandCompletes : Prop :=
  ∀ (c : Instr) (s : State), ∃ t, exec c s = .next t ∧ t.pending = s.pending ∧ t.Inv

/-- In every state that meets the invariant (TOP_INT_STATUS.LINE shows the present level of each of the 23 interrupt
lines; RAK_WAIT.MAX_WAIT is no lower than the number of frames that wait for a Rake; every due moment of a trigger
has reached the Strongroom and the gateway), if a step answers a next state, that state meets the invariant,
whatever command ran and also when the queue was empty. -/
def Obligations.InvariantKeptByEveryStep : Prop :=
  ∀ s t : State, s.Inv → step s = .next t → t.Inv

/-- State.reset meets the invariant that every step keeps, its memories and registers are in canonical form, and no
command waits. -/
def Obligations.ResetMeetsInvariant : Prop :=
  State.reset.Inv ∧ State.reset.memoriesWf = true ∧ State.reset.pending = []

/-- After reset every register reads the word formed by the Reset columns of its fields (TOP_ID reads vendor 0x7A5
and part 0x8425, TOP_RESET_CAUSE.COLD is 1, TOP_STATE.COMMITTED is 0), every 64-bit counter reads 0, every queue is
empty, each of the 16 Cellar banks has 3,072 free cells and 65,536 descriptors are free. Registers and memories to
which the spec gives no reset value hold those of log entry 1. -/
def Obligations.ResetLeavesStatedValues : Prop :=
  (∀ a r, regRowAt a = some r → State.reset.rword a = BitVec.ofNat 32 (r.resetAt a)) ∧
  State.reset.rf .TOP_ID_VENDOR = 0x7A5 ∧ State.reset.rf .TOP_ID_PART = 0x8425 ∧
  State.reset.rf .TOP_RESET_CAUSE_COLD = 1 ∧ State.reset.committed = false ∧
  (∀ a, State.reset.cget a = 0) ∧ (∀ q, State.reset.queue q = []) ∧
  State.reset.cel.bankFree = List.replicate 16 3072 ∧ State.reset.cel.descFree = 65536

/-- Every statement about a command's result names the state e that its effect leaves, and the next state is
(s.after e): the levels of the interrupt lines and their messages (R34), the largest number of waiting frames
(RAK_WAIT.MAX_WAIT), and the queue, which stays that of s. When in e no trigger has fallen due, no held sender of
ports 24 to 28 has a frame to send and no verification job waits to be requested, (s.after e) has every register of e but TOP_INT_STATUS and RAK_WAIT, and every counter, latch, clock, memory, table, queue of frames
and unit of e. -/
def Obligations.AfterCommandFrame : Prop :=
  ∀ s e : State, e.quiet →
    sameRegs e (s.after e) (fun a => a != Reg.TOP_INT_STATUS && a != Reg.RAK_WAIT) ∧
    (s.after e).pending = s.pending ∧ (s.after e).ctr = e.ctr ∧ (s.after e).latch = e.latch ∧
    (s.after e).cycles = e.cycles ∧ (s.after e).draws = e.draws ∧ (s.after e).flt = e.flt ∧ (s.after e).pwr = e.pwr ∧
    (s.after e).cel = e.cel ∧ (s.after e).mac = e.mac ∧ (s.after e).frames = e.frames ∧ (s.after e).nextFid = e.nextFid ∧
    (s.after e).rak = e.rak ∧ (s.after e).ecc = e.ecc ∧ (s.after e).cls = e.cls ∧ (s.after e).stm = e.stm ∧
    (s.after e).tim = e.tim ∧ (s.after e).gat = e.gat ∧ (s.after e).cph = e.cph ∧ (s.after e).sec = e.sec ∧
    (s.after e).dram = e.dram ∧ (s.after e).stg = e.stg ∧ (s.after e).hat = e.hat ∧ (s.after e).brg = e.brg ∧
    (s.after e).gwe = e.gwe ∧ (s.after e).boot = e.boot ∧ (s.after e).ccx = e.ccx ∧ (s.after e).pair = e.pair ∧
    (s.after e).mgt = e.mgt ∧ (s.after e).blockRst = e.blockRst

/-- After bytes are written from an address of DRAM or of the Pantry, each of those addresses reads the byte written
there and every other address reads as before; a word of tree memory reads the value written modulo 2^64, and the
other words as before; a register reads the word written, and the other registers as before. -/
def Obligations.MemoriesReadAsWritten : Prop :=
  (∀ (s : State) (a : Nat) (l : List Byte), (∀ (i : Nat) (h : i < l.length), (s.dramPuts a l).dramGet (a + i) = l[i]) ∧
    ∀ c, c < a ∨ a + l.length ≤ c → (s.dramPuts a l).dramGet c = s.dramGet c) ∧
  (∀ (s : State) (a : Nat) (l : List Byte), (∀ (i : Nat) (h : i < l.length), (s.pantryPuts a l).pantryByte (a + i) = l[i]) ∧
    ∀ c, c < a ∨ a + l.length ≤ c → (s.pantryPuts a l).pantryByte c = s.pantryByte c) ∧
  (∀ (s : State) (w v j : Nat), (s.treePut w v).treeWord j = if j = w then v % 2 ^ 64 else s.treeWord j) ∧
  (∀ (s : State) (a b : Nat) (w : Word), (s.wword b w).rword a = if a = b then w else s.rword a)

/-- Writing registers, DRAM bytes, Pantry bytes, tree words and output-buffer bytes, loading the program store from
an image, and the loss of the DRAM contents each leave the memory in canonical form (addresses rise strictly, and no
entry equals what an unlisted address reads as) when it was so before; and two memories in canonical form that read
the same at every address are equal. -/
def Obligations.MemoriesKeepCanonicalForm : Prop :=
  (∀ (s : State) (a : Nat) (w : Word), Memory.wf resetWord s.regs = true → Memory.wf resetWord (s.wword a w).regs = true) ∧
  (∀ (s : State) (a : Nat) (l : List Byte), Memory.wf (fun _ => none) s.dram.cells = true →
    Memory.wf (fun _ => none) (s.dramPuts a l).dram.cells = true) ∧
  (∀ s : State, Memory.wf (fun _ => none) s.dramLose.dram.cells = true) ∧
  (∀ (s : State) (a : Nat) (l : List Byte), Memory.wf (fun _ => 0) s.gwe.pantry = true →
    Memory.wf (fun _ => 0) (s.pantryPuts a l).gwe.pantry = true) ∧
  (∀ (s : State) (w v : Nat), Memory.wf (fun _ => 0) s.cls.tree = true → Memory.wf (fun _ => 0) (s.treePut w v).cls.tree = true) ∧
  (∀ (s : State) (a : Nat) (l : List Byte), Memory.wf (fun _ => 0) s.gwe.obuf = true →
    Memory.wf (fun _ => 0) (s.putOut a l).gwe.obuf = true) ∧
  (∀ (s : State) (p : List Byte), Memory.wf (fun _ => 0) s.rak.store = true → Memory.wf (fun _ => 0) (s.applyProg p).2.rak.store = true) ∧
  (∀ (m n : Sparse Byte), Memory.wf (fun _ => 0) m = true → Memory.wf (fun _ => 0) n = true →
    (∀ a, spGet (fun _ => 0) m a = spGet (fun _ => 0) n a) → m = n)

/-- A REGISTER_WRITE that reaches a register without an act of its own completes and stores the word of its access
types, with nothing else changed but the log and lines of s.did: a field of type RW or WO takes the value written,
RO and RC keep theirs, W1C clears and W1S sets the bits written 1, and an LK field takes the value written before
image commit and keeps its own after it. A write that carries in an LK field, after commit, a value other than the
one it holds is reported by source 0x022 as kind 0x0D and is a write that did not take effect (logged by s.did),
while its other fields take effect; a write whose every LK field carries its held value reports nothing. -/
def Obligations.RegisterWriteByAccessType : Prop :=
  (∀ (s : State) (q : Sender) (a : Nat) (w : Word), s.reaches q a → regSpace a = true → a % 4 = 0 →
    (regRowAt a).isSome = true → actsOnWrite a = false →
    exec (.registerWrite q a w) s =
      .next (s.did q a ((if s.lockKept a w then (s.begun q.req) else (s.begun q.req).refuse 0x022 0x0D).wword a (s.written a w)))) ∧
  (∀ (s : State) (a : Nat) (w : Word) (r : RegRow) (f : FieldRow), regRowAt a = some r → f ∈ r.fields →
    fldGet (s.written a w) f.lo f.width =
      match f.acc with
      | .rw | .wo => fldGet w f.lo f.width
      | .ro | .rc => fldGet (s.rword a) f.lo f.width
      | .w1c => fldGet (s.rword a &&& ~~~w) f.lo f.width
      | .w1s => fldGet (s.rword a ||| w) f.lo f.width
      | .lk => if s.committed then fldGet (s.rword a) f.lo f.width else fldGet w f.lo f.width) ∧
  (∀ (s : State) (a : Nat) (w : Word) (r : RegRow), regRowAt a = some r →
    (s.lockKept a w = false ↔ s.committed = true ∧
      ∃ f ∈ r.fields, f.acc = .lk ∧ fldGet w f.lo f.width ≠ fldGet (s.rword a) f.lo f.width)) ∧
  (∀ s : State, (s.refuse 0x022 0x0D).slot 0x022 = some (Slot.event (s.slot 0x022) 0x0D (Config.free s.draws) s.now) ∧
    (s.refuse 0x022 0x0D).wfail = some 0x0D)

/-- An RC_READ of a register that has a field of type RC, by a requester that may read it while its block serves,
completes: the data are the word that the register shows with its WO fields at 0, and every RC field is 0
afterwards, with every other field, register and unit as it was. -/
def Obligations.RegisterReadShowsFields : Prop :=
  ∀ (s : State) (q : Sender) (a : Nat) (r : RegRow), s.readable q a → regRowAt a = some r → r.maskOf .rc ≠ 0 →
    exec (.rcRead q a) s =
      .next (s.told q (s.regShow a &&& ~~~(r.maskOf .wo)) (s.wword a (s.rword a &&& ~~~(r.maskOf .rc)))) ∧
    (∀ f ∈ r.fields, f.acc = .rc → fldGet ((s.wword a (s.rword a &&& ~~~(r.maskOf .rc))).rword a) f.lo f.width = 0) ∧
    (∀ f ∈ r.fields, f.acc ≠ .rc →
      fldGet ((s.wword a (s.rword a &&& ~~~(r.maskOf .rc))).rword a) f.lo f.width = fldGet (s.rword a) f.lo f.width)

/-- A COUNTER_LOW_READ of the low word of a 64-bit counter, by a requester that may read it while its block serves,
completes with the low 32 bits as data and latches the high 32 bits for that requester; a read of the high word
answers what that requester has latched, which is 0 before its first low-word read; a latch of one requester leaves
those of the others as they were; and a counter that gains n holds the sum modulo 2^64 (it wraps and does not
saturate) while every other counter keeps its value. -/
def Obligations.CounterReadLatchesPerRequester : Prop :=
  (∀ (s : State) (q : Sender) (a : Nat), s.readable q a → counterLow a = true →
    exec (.counterLowRead q a) s =
      .next (s.told q (BitVec.ofNat 32 (s.cget a)) (s.setLatch q.req (a + 4) (BitVec.ofNat 32 (s.cget a / 2 ^ 32))))) ∧
  (∀ (s : State) (q : Sender) (a : Nat), s.readable q (a + 4) → counterLow a = true → s.gatEntry (a + 4) = none →
    regRowAt (a + 4) = none → regSpace (a + 4) = true → actsOnRead (a + 4) = false →
    exec (.counterLowRead q (a + 4)) s = .next (s.told q (s.latched q.req (a + 4)) s)) ∧
  (∀ (q : Requester) (a : Nat), State.reset.latched q a = 0) ∧
  (∀ (s : State) (p q : Requester) (a b : Nat) (w : Word), (s.setLatch p a w).latched q b = if q = p ∧ b = a then w else s.latched q b) ∧
  (∀ (s : State) (a b n : Nat), (s.cadd a n).cget b = if b = a then (s.cget a + n) % 2 ^ 64 else s.cget b)

/-- A FULL_TIME_READ of the working clock (c = 0) or of tracker c - 1, by a requester that may read it while TIM
serves, completes with the nanoseconds within the second as data, and latches for that requester the low 32 bits of
the seconds at the next word and, at the word after, the high 16 bits of the seconds below the 16-bit fraction of a
nanosecond, all three of the same instant; nothing else changes. -/
def Obligations.FullTimeReadLatchesOtherWords : Prop :=
  ∀ (s : State) (q : Sender) (c : Fin 3), s.readable q (fullTimeReg c) →
    let t := s.clock c
    exec (.fullTimeRead q c) s =
      .next (s.told q (BitVec.ofNat 32 (t / nsUnit % 1000000000))
        ((s.setLatch q.req (fullTimeReg c + 4) (BitVec.ofNat 32 (t / nsUnit / 1000000000 % 2 ^ 48 % 2 ^ 32))).setLatch q.req
          (fullTimeReg c + 8) (BitVec.ofNat 32 (t % nsUnit / 2 ^ 24 * 65536 + t / nsUnit / 1000000000 % 2 ^ 48 / 2 ^ 32))))

/-- An UNMAPPED_ACCESS at an address in no window of the address map completes: a read (by a requester whose reads
are not limited) answers 0, a write changes no register and no memory, and in both cases the pending slot of source
0x000 takes an event of kind 0x06 with the address; the write, which did not take effect, is logged. -/
def Obligations.UnmappedAccessIgnoredAndReported : Prop :=
  (∀ (s : State) (q : Sender) (a : Nat), mappedAddr a = false → s.awake = true → s.mayRead q.req a = true →
    exec (.unmappedAccess q a none) s = .next (s.told q 0 (s.unmapped a))) ∧
  (∀ (s : State) (q : Sender) (a : Nat) (w : Word), mappedAddr a = false → s.awake = true →
    exec (.unmappedAccess q a (some w)) s = .next (s.did q a ((s.begun q.req).unmapped a))) ∧
  (∀ (s : State) (a : Nat), (s.unmapped a).slot 0x000 = some (Slot.event (s.slot 0x000) 0x06 (a % 2 ^ 32) s.now) ∧
    (s.unmapped a).regs = s.regs ∧ (s.unmapped a).dram = s.dram ∧ (s.unmapped a).gwe = s.gwe ∧ (s.unmapped a).cls = s.cls ∧
    (s.unmapped a).wfail = some 0x06)

/-- A REGISTER_WRITE of a mapped address that its requester may not write completes with no register or memory
changed: source 0x02A takes an event of kind 0x0D, and the write is logged as one that did not take effect. Before
commit, host software and the debug port write only BOOT_STAGE_LEN, BOOT_STAGE_BUF, SEC_ZEROIZE and the debug
mailbox. There, and everywhere after commit, host software writes a block only with its bit of SEC_ACCESS.HOST_WR,
TOP_RESET_CMD only with HOST_RESET besides and PWR_CMD only with HOST_PWR besides, but SEC_ZEROIZE, SEC_DEBUG_TOKEN
and SEC_DEBUG_CMD always; a locked debug port writes only SEC_DEBUG_TOKEN, SEC_DEBUG_CMD and SEC_LIFECYCLE_CMD; the control complex
writes every register. A read by a locked debug port outside the debug mailbox answers 0, is not reported and
changes nothing. -/
def Obligations.BlockedAccessIgnoredAndReported : Prop :=
  (∀ (s : State) (q : Sender) (a : Nat) (w : Word), s.awake = true → mappedAddr a = true → s.mayWrite q.req a = false →
    exec (.registerWrite q a w) s = .next (s.did q a (s.begun q.req).secBlocked)) ∧
  (∀ s : State, s.secBlocked.slot 0x02A = some (Slot.event (s.slot 0x02A) 0x0D (Config.free s.draws) s.now) ∧
    s.secBlocked.wfail = some 0x0D ∧ s.secBlocked.regs = s.regs ∧ s.secBlocked.dram = s.dram ∧ s.secBlocked.gwe = s.gwe ∧
    s.secBlocked.cls = s.cls ∧ s.secBlocked.sec = s.sec) ∧
  (∀ (s : State) (a : Nat), s.mayWrite .ccx a = true) ∧
  (∀ (s : State) (a : Nat), s.committed = false → earlyWrite a = false → s.mayWrite .host a = false) ∧
  (∀ (s : State) (a b : Nat), (s.committed = true ∨ earlyWrite a = true) → a ≠ Reg.SEC_ZEROIZE → a ≠ Reg.SEC_DEBUG_CMD →
    (a < Reg.SEC_DEBUG_TOKEN 0 ∨ Reg.SEC_DEBUG_TOKEN 62 ≤ a) → ownerOf a = some b →
    (s.mayWrite .host a = true ↔ bitAt (s.rf .SEC_ACCESS_HOST_WR) b = true ∧
      (a = Reg.TOP_RESET_CMD → s.on .SEC_ACCESS_HOST_RESET = true) ∧ (a = Reg.PWR_CMD → s.on .SEC_ACCESS_HOST_PWR = true))) ∧
  (∀ (s : State) (a : Nat),
    (a = Reg.SEC_ZEROIZE ∨ a = Reg.SEC_DEBUG_CMD ∨ (Reg.SEC_DEBUG_TOKEN 0 ≤ a ∧ a < Reg.SEC_DEBUG_TOKEN 62)) →
    s.mayWrite .host a = true) ∧
  (∀ (s : State) (a : Nat), s.debugOpen = false → s.mayWrite .debug a = mailboxWrite a) ∧
  (∀ (s : State) (a : Nat), s.debugOpen = true → s.mayWrite .debug a = (s.committed || earlyWrite a)) ∧
  (∀ (s : State) (a : Nat), s.awake = true → s.debugOpen = false → mailboxReg a = false →
    exec (.rcRead .debug a) s = .next (s.told .debug 0 s))

/-- While the block that holds an address is in block reset, a read of the address by a requester that may read it
answers 0 and changes nothing, and a write of a mapped address by a requester that may write it changes no register
and no memory: source 0x264 takes an event of kind 0x06 (no other rule names a source, R412) and the write is logged
as one that did not take effect. -/
def Obligations.BlockInResetReadsZeroIgnoresWrites : Prop :=
  (∀ (s : State) (q : Sender) (a : Nat), s.awake = true → s.mayRead q.req a = true → s.ownerOff a = true →
    exec (.rcRead q a) s = .next (s.told q 0 s)) ∧
  (∀ (s : State) (q : Sender) (a : Nat) (w : Word), s.awake = true → mappedAddr a = true → s.mayWrite q.req a = true →
    s.ownerOff a = true → exec (.registerWrite q a w) s = .next (s.did q a ((s.begun q.req).refuse 0x264 0x06))) ∧
  (∀ s : State, (s.refuse 0x264 0x06).slot 0x264 = some (Slot.event (s.slot 0x264) 0x06 (Config.free s.draws) s.now) ∧
    (s.refuse 0x264 0x06).regs = s.regs ∧ (s.refuse 0x264 0x06).dram = s.dram ∧ (s.refuse 0x264 0x06).gwe = s.gwe ∧
    (s.refuse 0x264 0x06).cls = s.cls ∧ (s.refuse 0x264 0x06).wfail = some 0x06)

/-- A REGISTER_WRITE that reaches one of the 17 command registers with a key in bits 31:16 other than its own
(TOP_RESET_CMD 0xC6A5, PWR_CMD 0x5A1E, BOOT_UPDATE_CMD 0x3C91, SEC_LIFECYCLE_CMD 0x9E27, SEC_ZEROIZE 0x0D1E,
SEC_DEBUG_CMD 0xDB61, FLT_PIN_CMD 0xF17A, FLT_CLEAR 0xF1C3, PAIR_CMD 0x9A1F, TIM_WC_CMD 0x71AE, CLS_EPOCH_CMD
0xE90C, FWL_CMD 0x5E55, SWC_FDB_CMD 0xFD8C, STM_IND_CMD 0x57E4, CPH_IND_CMD 0xC1D7, GWE_CMD 0x6E4C, STG_CMD 0x57C8)
completes without the command's effect: source 0x000 takes an event of kind 0x06, and the write is logged as one
that did not take effect. -/
def Obligations.WrongKeyIgnoredAndReported : Prop :=
  ∀ (s : State) (q : Sender) (a key : Nat) (w : Word),
    (a, key) ∈ [(Reg.TOP_RESET_CMD, 0xC6A5), (Reg.PWR_CMD, 0x5A1E), (Reg.BOOT_UPDATE_CMD, 0x3C91), (Reg.SEC_LIFECYCLE_CMD, 0x9E27),
      (Reg.SEC_ZEROIZE, 0x0D1E), (Reg.SEC_DEBUG_CMD, 0xDB61), (Reg.FLT_PIN_CMD, 0xF17A), (Reg.FLT_CLEAR, 0xF1C3),
      (Reg.PAIR_CMD, 0x9A1F), (Reg.TIM_WC_CMD, 0x71AE), (Reg.CLS_EPOCH_CMD, 0xE90C), (Reg.FWL_CMD, 0x5E55),
      (Reg.SWC_FDB_CMD, 0xFD8C), (Reg.STM_IND_CMD, 0x57E4), (Reg.CPH_IND_CMD, 0xC1D7), (Reg.GWE_CMD, 0x6E4C), (Reg.STG_CMD, 0x57C8)] →
    s.reaches q a → fldGet w 16 16 ≠ key →
    exec (.registerWrite q a w) s = .next (s.did q a ((s.begun q.req).refuse 0x000 0x06)) ∧
    (s.refuse 0x000 0x06).slot 0x000 = some (Slot.event (s.slot 0x000) 0x06 (Config.free s.draws) s.now)

/-- A CHIP_RESET by fault source src in an awake device, and TOP_RESET_CMD action 0x1 with its key, complete with a
chip reset. Every register outside the always-on domain and the retained records reads its reset value but for the
status bits that go on in SEC_STATUS, PAIR_STATUS and TOP_STATE; TOP_STRAP, the fuses and the flash keep theirs; no
frame is left and the Cellar, Hatches, gateway and management are at reset. The Strongroom closes its open incidents and
ends an export first, which FWD_EN does. DRAM is placed in self-refresh when it was up, and keeps its contents; after a chip reset by a DRAM port source (0x2A0 to 0x2A6) its contents are lost
instead and it is not in self-refresh: every byte is then a free value of that loss. TOP_RESET_CAUSE names the fault
source or the command. The management command RESET, as the oldest request of a session with the privilege ADMIN and
without parameters, is answered OK and then writes TOP_RESET_CMD action 0x1. -/
def Obligations.ChipResetScope : Prop :=
  (∀ (s : State) (src : Fin 768), s.awake = true → exec (.chipReset src) s = .next (s.after (s.chipReset (some src)))) ∧
  (∀ (s : State) (q : Sender), s.reaches q Reg.TOP_RESET_CMD →
    exec (.resetCmdChipReset q) s = .next (s.did q Reg.TOP_RESET_CMD ((s.begun q.req).chipReset none))) ∧
  (∀ (s : State) (c : Option Nat), let e := s.chipReset c
    (∀ a, chipKept a = false → a ≠ Reg.TOP_STATE → a ≠ Reg.SEC_STATUS → a ≠ Reg.PAIR_STATUS → e.rword a = resetWord a) ∧
    e.rword Reg.TOP_STRAP = s.rword Reg.TOP_STRAP ∧ e.committed = false ∧ e.rf .TOP_STATE_PWR_STATE = 3 ∧
    e.frames = [] ∧ e.cel = State.reset.cel ∧ e.hat = [] ∧ e.gwe = State.reset.gwe ∧ e.mgt = State.reset.mgt ∧
    e.sec.fuse = s.sec.fuse ∧ e.boot.flashA = s.boot.flashA ∧ e.boot.flashB = s.boot.flashB) ∧
  (∀ (s : State) (c : Option Nat), (∀ src, c = some src → dramSource src = false) → let e := s.chipReset c
    e.dram.cells = s.stgFwdOff.dram.cells ∧ e.dram.epoch = s.dram.epoch ∧ e.dram.selfRefresh = (s.dram.up || s.dram.selfRefresh) ∧
    (s.incsIn 1 = [] → s.stg.exp = none → e.dram.cells = s.dram.cells)) ∧
  (∀ (s : State) (src : Nat), dramSource src = true → (s.chipReset (some src)).dram.selfRefresh = false ∧
    ∀ a, (s.chipReset (some src)).dramGet a = Config.dramByte s.draws a) ∧
  (∀ (s : State) (src : Nat), src < 1024 → (s.chipReset (some src)).rf .TOP_RESET_CAUSE_CHIP_FAULT = 1 ∧
    (s.chipReset (some src)).rf .TOP_RESET_CAUSE_FAULT_SRC = src) ∧
  (∀ s : State, (s.chipReset none).rf .TOP_RESET_CAUSE_CHIP_CMD = 1) ∧
  (∀ (s : State) (r : MgtReq), s.asked 0x0082 r → r.params.length = 0 →
    exec .reset s = .next (s.after ((s.mgtReply 0 0 []).fwWrite Reg.TOP_RESET_CMD (cmdWord 0xC6A5 1)).2))

/-- COLD_RESET by PORST_N (cause 0) or a supply failure (cause 1), and the internal one that ends SLEEP-D (cause 2,
once every rail is up), complete, outside OFF, with a cold reset (in OFF they leave the device as it was): TOP_RESET_CAUSE marks its cause alone, the device is held in
reset, no frame is left, the DRAM contents are lost and, with no fuse write in progress, the fuses are as they were;
after causes 0 and 1 every other register reads its reset value and the travel counter is 0, after cause 2 the
travel counter goes on. POWER_LOSS leaves the power state OFF, held in reset, with the fuses, and every bank of a device
that was not in OFF ramps.
COLD_RESET_RELEASE of a held device records the five straps in TOP_STRAP and the state STANDBY, and begins the start
table. TEST_PORT_RESET leaves the device as it was. In OFF and in reset the outputs take the OFF and the Reset column,
OFF first; an output of a ramping bank is at high impedance or at its Reset-column level, and no legacy TXD ball of
one is low. -/
def Obligations.ColdResetReleaseAndPowerLoss : Prop :=
  (∀ (s : State) (c : Fin 3), s.pwr.off = false → c ≠ 2 → exec (.coldReset c) s = .next (s.after (s.coldReset c))) ∧
  (∀ (s : State) (c : Fin 3), s.pwr.off = true → exec (.coldReset c) s = .next (s.after s)) ∧
  (∀ s : State, s.pwr.off = false → s.pwr.wake = .coldReset → exec (.coldReset 2) s = .next (s.after (s.coldReset 2))) ∧
  (∀ (s : State) (c : Nat), let e := s.coldReset c
    e.pwr.porst = true ∧ e.frames = [] ∧ e.dram.cells = [] ∧ e.rf .TOP_RESET_CAUSE_COLD = b2n (c = 0) ∧
    e.rf .TOP_RESET_CAUSE_SUPPLY = b2n (c = 1) ∧ e.rf .TOP_RESET_CAUSE_WAKE_D = b2n (c = 2) ∧
    (s.sec.blowing = none → e.sec.fuse = s.sec.fuse) ∧ (c = 2 → e.tim.odo = s.tim.odo) ∧ (c ≠ 2 → e.tim.odo = 0) ∧
    (c ≠ 2 → ∀ a, a ≠ Reg.TOP_RESET_CAUSE → e.rword a = resetWord a)) ∧
  (∀ s : State, let e := s.powerLoss
    exec .powerLoss s = .next (s.after e) ∧ e.rf .TOP_STATE_PWR_STATE = pwrOff ∧ e.pwr.off = true ∧ (s.pwr.off = false → e.pwr.ramp = 127) ∧
    e.rf .PWR_STATUS_STATE = pwrOff ∧ e.pwr.porst = true ∧ (s.sec.blowing = none → e.sec.fuse = s.sec.fuse)) ∧
  (∀ (s : State) (boot : Fin 4) (pairEn pairSide pcie safe : Bool), s.pwr.porst = true → let e := s.release boot pairEn pairSide pcie safe
    exec (.coldResetRelease boot pairEn pairSide pcie safe) s = .next (s.after e) ∧ e.pwr.porst = false ∧ e.pwr.wake = .start 0 ∧
    e.rf .TOP_STRAP_BOOT_MODE = boot ∧ e.rf .TOP_STRAP_PAIR_EN = b2n pairEn ∧ e.rf .TOP_STRAP_PAIR_SIDE = b2n pairSide ∧
    e.rf .TOP_STRAP_PCIE_EN = b2n pcie ∧ e.rf .TOP_STRAP_XSPI_SAFE = b2n safe ∧ e.rf .TOP_STATE_PWR_STATE = pwrStandby) ∧
  (∀ s : State, exec .testPortReset s = .next (s.after s)) ∧
  (∀ s : State, (s.pwr.off = true → s.pinColumn = .off) ∧ (s.pwr.off = false → s.pwr.porst = true → s.pinColumn = .coldReset) ∧
    (s.pwr.off = false → s.pwr.porst = false → s.resetHeld = true → s.pinColumn = .chipReset)) ∧
  (∀ (s : State) (p : Pin), bitAt s.pwr.ramp p.bank = true →
    (s.pin p = .highZ ∨ s.pin p = s.pinReset true p) ∧ (p.legacyTxd = true → s.pin p ≠ .low)) ∧
  (∀ (s : State) (p : Pin), bitAt s.pwr.ramp p.bank = false →
    (s.pinColumn = .off → s.pin p = pinOff p) ∧ (s.pinColumn = .coldReset → s.pin p = s.pinReset true p))

/-- In an awake device a BLOCK_RESET reaction by source src completes. For a block other than GWE (18), HAT (19),
BRG (20), STG (21) and MGT (22) it performs a chip reset with TOP_RESET_CAUSE.CHIP_FAULT 1 and FAULT_SRC src. For
one of the five that is not in block reset it puts that block in block reset and no other block, and one that is in
block reset stays as it is: its registers and
counters read their reset values, a debug challenge is void, and the Hatches (HAT), the management sessions (MGT), the rings and MSI-X state
(BRG), the Strongroom's streams (STG) and the gateway but for the Pantry (GWE) are at reset. BLOCK_RESET_COMPLETE
for a block in block reset completes with the block serving and its registers at reset values, but for the status of
GWE's virtual channels, which follows the contexts that the Pantry has kept. TOP_RESET_CMD action
0x2 with its key completes with the same block reset for the five blocks; for another block it is refused with an
event of kind 0x08 on source 0x000 and the registers stay as they were. -/
def Obligations.BlockResetScope : Prop :=
  (∀ (s : State) (b : Fin 23) (src : Fin 768), s.awake = true → hasBlockReset b = false → let e := s.chipReset (some src)
    exec (.blockReset b src) s = .next (s.after e) ∧ e.rf .TOP_RESET_CAUSE_CHIP_FAULT = 1 ∧ e.rf .TOP_RESET_CAUSE_FAULT_SRC = src) ∧
  (∀ (s : State) (b : Fin 23) (src : Fin 768), s.awake = true → hasBlockReset b = true →
    exec (.blockReset b src) s = .next (s.after (s.blockReset b))) ∧
  (∀ b, hasBlockReset b = true ↔ b = 18 ∨ b = 19 ∨ b = 20 ∨ b = 21 ∨ b = 22) ∧
  (∀ (s : State) (b : Nat), hasBlockReset b = true → s.blockOff b = false → let e := s.blockReset b
    e.blockRst = s.blockRst ||| 2 ^ b ∧ e.sec.chal = false ∧ (∀ a, inBlock b a = true → e.rword a = resetWord a ∧ e.cget a = 0) ∧
    (b = 18 → e.gwe = { State.reset.gwe with pantry := s.gwe.pantry }) ∧ (b = 19 → e.hat = []) ∧
    (b = 20 → e.brg = State.reset.brg ∧ e.irq = State.reset.irq) ∧ (b = 21 → e.stg = State.reset.stg) ∧
    (b = 22 → e.mgt = State.reset.mgt)) ∧
  (∀ (s : State) (b : Nat), s.blockOff b = true → s.blockReset b = s) ∧
  (∀ (s : State) (b : Fin 23), s.awake = true → s.blockOff b = true → hasBlockReset b = true → let e := s.blockServe b
    exec (.blockResetComplete b) s = .next (s.after e) ∧ e.blockRst = s.blockRst ^^^ 2 ^ (b : Nat) ∧
    ∀ a, inBlock b a = true → (∀ c, 32 ≤ c → c < 64 → a ≠ Reg.GWE_CH_STATUS c) → e.rword a = resetWord a) ∧
  (∀ (s : State) (q : Sender) (b : Fin 32), s.reaches q Reg.TOP_RESET_CMD → hasBlockReset b = true →
    exec (.resetCmdBlockReset q b) s = .next (s.did q Reg.TOP_RESET_CMD ((s.begun q.req).blockReset b))) ∧
  (∀ (s : State) (q : Sender) (b : Fin 32), s.reaches q Reg.TOP_RESET_CMD → hasBlockReset b = false →
    let e := (s.begun q.req).refuse 0x000 0x08
    exec (.resetCmdBlockReset q b) s = .next (s.did q Reg.TOP_RESET_CMD e) ∧ e.regs = s.regs ∧
    e.slot 0x000 = some (Slot.event (s.slot 0x000) 0x08 (Config.free s.draws) s.now))

/-- In every state in which TOP_INT_STATUS.LINE shows the present levels (the invariant of every step), INT_N is
asserted exactly when some block b of the 23 has its line active and TOP_INT_ROUTE[b].PIN_EN is 1. -/
def Obligations.InterruptPinLevel : Prop :=
  ∀ s : State, s.linesShown → (s.intN = true ↔ ∃ b, b < 23 ∧ s.line b = true ∧ s.rf (.TOP_INT_ROUTE_PIN_EN b) = 1)

/-- A write of TOP_INT_EOI that reaches the register completes, and when it names one line b whose level is shown,
the line is active and MSIX_EN is 1 it sends that line's message on VECTOR once; when the line is inactive, or went
active in this same core cycle and so has sent its message already, it sends none. A message while MSI-X is disabled changes nothing; one that the function mask or the vector mask holds back
sets the vector's pending bit and sends nothing; otherwise exactly one message leaves. MSIX_UNMASK completes while
the bridge serves: on a vector it clears the vector's mask, and the message held in its pending bit is sent and the
bit cleared when MSI-X is enabled and the function mask is clear; else the pending bit stays. -/
def Obligations.InterruptMessages : Prop :=
  (∀ (s : State) (q : Sender) (m : Word), s.reaches q Reg.TOP_INT_EOI →
    exec (.intEoi q m) s = .next (s.did q Reg.TOP_INT_EOI ((s.begun q.req).intEoi m.toNat))) ∧
  (∀ (s : State) (b : Nat), b < 23 → s.linesShown → s.line b = true → s.on (.TOP_INT_ROUTE_MSIX_EN b) = true → s.lineRose b ≠ some s.cycles →
    (s.intEoi (2 ^ b)).out = ((s.msix (s.rf (.TOP_INT_ROUTE_VECTOR b))).out) ∧
    (s.intEoi (2 ^ b)).irq = (s.msix (s.rf (.TOP_INT_ROUTE_VECTOR b))).irq) ∧
  (∀ (s : State) (b : Nat), b < 23 → s.linesShown → (s.line b = false ∨ s.lineRose b = some s.cycles) → (s.intEoi (2 ^ b)).out = s.out ∧ (s.intEoi (2 ^ b)).irq = s.irq) ∧
  (∀ (s : State) (v : Nat), (s.irq.msixEnable = false → s.msix v = s) ∧
    (s.irq.msixEnable = true → (s.irq.funcMask || s.vecMasked v) = true →
      s.msix v = { s with irq := { s.irq with pba := s.irq.pba ||| 2 ^ v } }) ∧
    (s.irq.msixEnable = true → (s.irq.funcMask || s.vecMasked v) = false → s.msix v = { s with out := .msix v :: s.out })) ∧
  (∀ (s : State) (enable mask : Bool), s.serves 20 = true →
    exec (.msixUnmask none enable mask) s = .next (s.after (s.msixControl enable mask))) ∧
  (∀ (s : State) (v : Fin 64) (enable mask : Bool), s.serves 20 = true → let e := s.msixUnmask v
    exec (.msixUnmask (some v) enable mask) s = .next (s.after e) ∧ e.vecMasked v = false ∧
    (bitAt s.irq.pba v = true → s.irq.msixEnable = true → s.irq.funcMask = false →
      e.irq.pba = s.irq.pba - 2 ^ (v : Nat) ∧ e.out = .msix v :: s.out) ∧
    (bitAt s.irq.pba v = false ∨ s.irq.msixEnable = false ∨ s.irq.funcMask = true →
      e.irq.pba = s.irq.pba ∧ e.out = s.out))

/-- A PWR_CMD write with its key and target 1 to 4 (SLEEP-D, SLEEP-R, STANDBY, ACTIVE) that reaches the register
completes. With u the state that has the sampled WAKE_IN levels: code 1 when an enabled wake source is active or a
wake is pending; else 2 when PAIR_ROLE is 0b11; else 3 when the target is ACTIVE and the image is not committed;
else 4 when the target is ACTIVE and the unit is paired without a lease; else 5 when a transition is in progress
(for a sleep target also while the complex restarts, the model's reading of log entry 3). When a code applies,
PWR_STATUS.REFUSE takes it and nothing else of u changes. When none applies, a sleep target sets PWR_STATUS.BUSY,
clears PWR_WAKE_CAUSE.FIRST and begins sleep entry at its first step with the state to return to; STANDBY and ACTIVE
change the power state and FWD_EN follows it, and outside ACTIVE the triggers' outputs go to their inactive level. A
WAKE_IN is active at a high level with MODE 0 and at a low level with MODE 1. The management command POWER, as the
oldest request of a session with the privilege ADMIN and one parameter, is BAD_PARAM for a target outside 1 to 4. With
u the state that has sampled WAKE_IN anew, a target that R78 refuses is answered REFUSED with its code after PWR_CMD
was written, a sleep target is answered OK before PWR_CMD is written, and another after it. -/
def Obligations.PowerCommandRefusal : Prop :=
  (∀ (s : State) (q : Sender) (pins : BitVec 4), s.reaches q Reg.PWR_CMD →
    let u := (s.begun q.req).power fun p => { p with wakeIn := pins.toNat }
    exec (.pwrCmdSleepD q pins) s = .next (s.did q Reg.PWR_CMD (u.pwrCmd 1)) ∧
    exec (.pwrCmdSleepR q pins) s = .next (s.did q Reg.PWR_CMD (u.pwrCmd 2)) ∧
    exec (.pwrCmdStandby q pins) s = .next (s.did q Reg.PWR_CMD (u.pwrCmd 3)) ∧
    exec (.pwrCmdActive q pins) s = .next (s.did q Reg.PWR_CMD (u.pwrCmd 4))) ∧
  (∀ (u : State) (t : Nat), 1 ≤ t → t ≤ 4 →
    let c1 := u.wakeActive || u.pwr.wakePending
    let c2 := decide (u.rf .TOP_STATE_PAIR_ROLE = 3)
    let c3 := decide (t = 4) && !u.committed
    let c4 := decide (t = 4) && u.paired && !u.on .TOP_STATE_LEASE
    let c5 := u.inTransition || (decide (t ≤ 2) && u.on .TOP_STATE_CCX_RESTART)
    (c1 = true → u.pwrCmd t = u.wf .PWR_STATUS_REFUSE 1) ∧
    (c1 = false → c2 = true → u.pwrCmd t = u.wf .PWR_STATUS_REFUSE 2) ∧
    (c1 = false → c2 = false → c3 = true → u.pwrCmd t = u.wf .PWR_STATUS_REFUSE 3) ∧
    (c1 = false → c2 = false → c3 = false → c4 = true → u.pwrCmd t = u.wf .PWR_STATUS_REFUSE 4) ∧
    (c1 = false → c2 = false → c3 = false → c4 = false → c5 = true → u.pwrCmd t = u.wf .PWR_STATUS_REFUSE 5) ∧
    (c1 = false → c2 = false → c3 = false → c4 = false → c5 = false →
      (t ≤ 2 → (u.pwrCmd t).on .PWR_STATUS_BUSY = true ∧ (u.pwrCmd t).rf .PWR_WAKE_CAUSE_FIRST = 0 ∧
        (u.pwrCmd t).pwr = { u.pwr with entry := some ⟨t, u.rf .TOP_STATE_PWR_STATE, .stopAdmission, false, false⟩, distDone := false }) ∧
      (3 ≤ t → u.rf .TOP_STATE_PWR_STATE ≠ t →
        let v := ((u.wf .TOP_STATE_PREV_PWR (u.rf .TOP_STATE_PWR_STATE)).wf .TOP_STATE_PWR_STATE t).wf .PWR_STATUS_STATE t
        (t = 4 → u.pwrCmd t = v.setForward true) ∧ (t = 3 → u.pwrCmd t = v.trigRelease.setForward false)))) ∧
  (∀ u : State, u.wakeActive = true ↔ ∃ n, n < 4 ∧ bitAt (u.rf .PWR_WAKE_EN_WAKE_IN) n = true ∧
    (u.rf (.PWR_WAKE_IN_CFG_MODE n) = 0 ∧ bitAt u.pwr.wakeIn n = true ∨ u.rf (.PWR_WAKE_IN_CFG_MODE n) = 1 ∧ bitAt u.pwr.wakeIn n = false)) ∧
  (∀ (s : State) (r : MgtReq), s.asked 0x0081 r → r.params.length = 1 → let t := le r.params 0 1
    let u := s.wakeSample 0
    let cmd (v : State) : State := (v.fwWrite Reg.PWR_CMD (cmdWord 0x5A1E t) (wakeAux u.pwr.wakeIn)).2
    ((t = 0 ∨ 5 ≤ t) → exec .power s = .next (s.after (s.mgtReply 3 0 []))) ∧
    (1 ≤ t → t ≤ 4 → u.pwrRefusal t ≠ 0 → exec .power s = .next (s.after ((cmd u).mgtReply 4 (u.pwrRefusal t) []))) ∧
    ((t = 1 ∨ t = 2) → u.pwrRefusal t = 0 → exec .power s = .next (s.after (cmd (u.mgtReply 0 0 [])))) ∧
    ((t = 3 ∨ t = 4) → u.pwrRefusal t = 0 → exec .power s = .next (s.after ((cmd u).mgtReply 0 0 []))))

/-- SLEEP_ENTRY_STEP in a device that is neither in cold reset nor asleep completes. Each step of an entry begins in
STANDBY, to which the device goes first where it is in another state. At the checkpoint step an entry to SLEEP-R of a
device with a committed image asks for a checkpoint out of schedule, and waits for it and for the end of a restart; any
other entry, and that one once the checkpoint is taken, puts the DRAM in self-refresh when it was up. At the unit stop
every unit is stopped, the entry passes its commit point, and the next step is the highest down step of the target, or
the sleep state when there is none; the units then serve no command. A down step i drives its PWR_EN bits high and marks
it down, the banks that the target switches off ramp, and the next is the next lower one. At the last step, with no wake
held, the device is in the target sleep state: TOP_STATE.PWR_STATE is the target, the entry has ended and INH has the
level of the target. -/
def Obligations.SleepEntrySteps : Prop :=
  (∀ s : State, s.powered = true → exec .sleepEntryStep s = .next (s.after s.entryStep)) ∧
  (∀ s : State, (s.powerTo pwrStandby).rf .TOP_STATE_PWR_STATE = pwrStandby ∧
    (s.rf .TOP_STATE_PWR_STATE = pwrStandby → s.powerTo pwrStandby = s)) ∧
  (∀ (s : State) (e : SleepEntry), s.pwr.entry = some e → let t := s.entryStep
    let u := s.powerTo pwrStandby
    (e.step = .stopAdmission → t = (u.updStop false).setEntry fun x => { x with step := .checkpoint }) ∧
    (e.step = .checkpoint → e.target = pwrSleepR → u.committed = true →
      t = (u.complex fun x => { x with unscheduled := true }).setEntry fun x => { x with step := .awaitCheckpoint }) ∧
    (e.step = .awaitCheckpoint → (u.ccx.unscheduled || u.on .TOP_STATE_CCX_RESTART) = true → t = u) ∧
    ((e.step = .checkpoint ∧ (e.target ≠ pwrSleepR ∨ u.committed = false)) ∨
      (e.step = .awaitCheckpoint ∧ u.ccx.unscheduled = false ∧ u.on .TOP_STATE_CCX_RESTART = false) →
      t.dram.selfRefresh = u.dram.up ∧ t.dram.up = false ∧ t.pwr.entry = u.pwr.entry.map (fun x => { x with step := .stopUnits })) ∧
    (e.step = .stopUnits → t = ((u.mgtEndAll.power fun p => { p with started := 0 }).setEntry fun x =>
      { x with step := u.entryAfter e.target 8, committed := true })) ∧
    (∀ i, e.step = .lower i → t.pwr.pwrEn = u.pwr.pwrEn ||| u.rf (.PWR_SEQ_EN_MASK i) ∧
      t.pwr.downSteps = u.pwr.downSteps ||| 2 ^ i ∧ t.pwr.ramp = u.banksOff e.target ∧
      t.pwr.entry = u.pwr.entry.map (fun x => { x with step := u.entryAfter e.target i })) ∧
    (e.step = .reachSleep → e.wakeHeld = false → e.target < 8 → t.rf .TOP_STATE_PWR_STATE = e.target ∧
      t.pwr.asleep = e.target ∧ t.pwr.entry = none ∧ t.pwr.inh = u.inhIn e.target ∧ t.pwr.ramp = 0 ∧
      (e.target ≠ 0 → t.awake = false))) ∧
  (∀ (s : State) (e : SleepEntry), s.pwr.entry = some e → e.committed = true → s.awake = false)

/-- These complete, and the state after each is given by its effect. In a sleep state with no wake under way,
WAKE_CONFIRMED of an enabled source c, and WAKE_TIMER_EXPIRY with the timer enabled as source 0x40, record c in
PWR_WAKE_CAUSE.FIRST, which held none, and the travel count in PWR_WAKE_D48, drive INH and raise the lowest down step:
its PWR_EN bits go low, its banks ramp and its PGOOD wait begins; with no step down every rail is up. In a wake under way
another source sets MORE; during a sleep entry a source before the commit point abandons the entry, and one after it is
held with EARLY; in STANDBY and ACTIVE nothing happens. PGOOD_WAIT_DONE on step i marks it up, sends OPERATION 0x80 to its
devices and raises the next down step above i, or, with none, goes on to the internal cold reset from SLEEP-D and to the
start table from SLEEP-R. PGOOD_TIMEOUT of a step with a TIMEOUT takes the raised steps back down, sets SEQ_FAIL, counts
SEQ_FAILS, returns INH to its sleep level and leaves a retry before the third failure and sleep after it.
SEQUENCE_RETRY begins another attempt. START_TABLE_STEP with no hold adds the units of the next step to those started,
and with a hold starts none. INTERNAL_READY, once every unit has started, leaves the device in STANDBY with the wake
ended, the failed attempts reported, the DRAM out of self-refresh and the complex running from the Larder; without a
resume region, or without DRAM, the resume fails with code 0xE and the boot of the flash follows, and tags that do not
verify fail it with code 0x8. -/
def Obligations.WakeSequence : Prop :=
  let up (s e : State) (l : List Nat) : Prop := match l with
    | i :: _ => e.pwr.wake = .pgood i ∧ e.pwr.pwrEn = s.pwr.pwrEn &&& (255 - s.rf (.PWR_SEQ_EN_MASK i)) ∧ e.pwr.ramp = s.banksOff s.pwr.asleep
    | [] => e.pwr.wake = (if s.pwr.asleep = 1 then .coldReset else .start 0) ∧ e.pwr.pwrEn = s.pwr.pwrEn ∧ e.pwr.ramp = 0
  let woken (s e : State) (c : Nat) : Prop := e.rf .PWR_WAKE_CAUSE_FIRST = c ∧
    e.rword (Reg.PWR_WAKE_D48 0) = BitVec.ofNat 32 s.d48 ∧ e.rword (Reg.PWR_WAKE_D48 1) = BitVec.ofNat 32 (s.d48 / 2 ^ 32) ∧
    e.rf .PWR_STATUS_SEQ_FAILS = 0 ∧ e.pwr.inh = true ∧ e.pwr.wakePending = true ∧ up s e (s.downSet s.pwr.asleep)
  (∀ (s : State) (c : Fin 66), s.pwr.porst = false → s.wakeEnabled c = true → s.pwr.entry = none → s.pwr.asleep ≠ 0 →
    s.pwr.wake = .none → s.rf .PWR_WAKE_CAUSE_FIRST = 0 → ∃ e : State, exec (.wakeConfirmed c) s = .next (s.after e) ∧ woken s e c) ∧
  (∀ s : State, s.pwr.porst = false → s.on .PWR_WAKE_EN_TIMER = true → s.pwr.entry = none → s.pwr.asleep ≠ 0 →
    s.pwr.wake = .none → s.rf .PWR_WAKE_CAUSE_FIRST = 0 → ∃ e : State, exec .wakeTimerExpiry s = .next (s.after e) ∧ woken s e 0x40) ∧
  (∀ (s : State) (c : Fin 66), s.pwr.porst = false → s.wakeEnabled c = true → s.pwr.entry = none →
    (s.pwr.asleep = 0 → exec (.wakeConfirmed c) s = .next (s.after s)) ∧
    (s.pwr.asleep ≠ 0 → s.pwr.wake ≠ .none → s.rf .PWR_WAKE_CAUSE_FIRST ≠ 0 → s.rf .PWR_WAKE_CAUSE_FIRST ≠ c →
      exec (.wakeConfirmed c) s = .next (s.after (s.wf .PWR_WAKE_CAUSE_MORE 1)))) ∧
  (∀ (s : State) (c : Fin 66) (x : SleepEntry), s.pwr.porst = false → s.wakeEnabled c = true → s.pwr.entry = some x →
    (x.committed = false → exec (.wakeConfirmed c) s = .next (s.after ((s.wakeRecord c).entryAbandon x))) ∧
    (x.committed = true → ∃ e : State, exec (.wakeConfirmed c) s = .next (s.after e) ∧ e.rf .PWR_WAKE_CAUSE_EARLY = 1 ∧
      e.pwr = { s.pwr with wakePending := true, entry := some { x with wakeHeld := true } })) ∧
  (∀ (s : State) (x : SleepEntry), let e := s.entryAbandon x
    e.pwr.entry = none ∧ e.dram.selfRefresh = false ∧ e.dram.up = (s.dram.up || s.dram.selfRefresh) ∧
    (x.fromState = pwrStandby → e.rf .TOP_STATE_PWR_STATE = pwrStandby)) ∧
  (∀ (s : State) (i : Nat), s.pwr.wake = .pgood i → let e := s.pgoodDone
    exec .pgoodWaitDone s = .next (s.after e) ∧ e.regs = s.regs ∧ e.out = (s.pmbOperation i 0x80).out ∧
    e.pwr.downSteps = (if bitAt s.pwr.downSteps i then s.pwr.downSteps - 2 ^ i else s.pwr.downSteps) ∧
    e.pwr.pgood = s.pwr.pgood ||| s.rf (.PWR_SEQ_PG_MASK i) ∧ up s e ((s.downSet s.pwr.asleep).filter (fun j => i < j))) ∧
  (∀ (s : State) (i : Nat), s.pwr.wake = .pgood i → s.rf (.PWR_SEQ_TIMEOUT i) ≠ 0 → let e := s.pgoodTimeout
    let l := ((s.downSet s.pwr.asleep).filter (fun j => j ≤ i)).reverse
    exec .pgoodTimeout s = .next (s.after e) ∧ e.rf .PWR_STATUS_SEQ_FAIL = 1 ∧
    e.rf .PWR_STATUS_SEQ_FAILS = (s.rf .PWR_STATUS_SEQ_FAILS + 1) % 4 ∧
    e.pwr.pwrEn = l.foldl (fun m j => m ||| s.rf (.PWR_SEQ_EN_MASK j)) s.pwr.pwrEn ∧
    e.pwr.downSteps = l.foldl (fun m j => m ||| 2 ^ j) s.pwr.downSteps ∧ e.pwr.ramp = 0 ∧
    e.pwr.wake = (if s.rf .PWR_STATUS_SEQ_FAILS + 1 < 3 then .retry else .none) ∧
    e.pwr.wakePending = decide (s.rf .PWR_STATUS_SEQ_FAILS + 1 < 3) ∧ e.pwr.inh = s.inhIn s.pwr.asleep ∧
    e.pwr.unreported = s.pwr.unreported + 1) ∧
  (∀ (s : State) (i : Nat), s.pwr.wake = .pgood i → s.rf (.PWR_SEQ_TIMEOUT i) = 0 → exec .pgoodTimeout s = .next (s.after s)) ∧
  (∀ s : State, s.pwr.wake = .retry → let e := s.seqRetry
    exec .sequenceRetry s = .next (s.after e) ∧ e.regs = s.regs ∧ e.pwr.inh = true ∧ up s e (s.downSet s.pwr.asleep)) ∧
  (∀ (s : State) (k : Nat), s.pwr.wake = .start k → s.pwr.tempHold = false → s.pwr.clockHold = false →
    s.on .PWR_MON_STATUS_PLL = false → s.pwr.porst = false → let e := s.tableStep
    exec .startTableStep s = .next (s.after e) ∧ e = s.power fun p => { p with
      started := ((stepHead (s.startList.drop k)).filter (fun x => x.unit ≠ 0)).foldl (fun m x => m ||| 2 ^ x.unit) s.pwr.started,
      wake := if ((s.startList.drop k).drop (stepHead (s.startList.drop k)).length).isEmpty then
          (if s.pwr.asleep = 0 then .none else .restore)
        else .start (k + (stepHead (s.startList.drop k)).length) }) ∧
  (∀ s : State, (s.pwr.tempHold = true ∨ s.pwr.clockHold = true ∨ s.on .PWR_MON_STATUS_PLL = true ∨ s.pwr.porst = true) →
    exec .startTableStep s = .next (s.after s)) ∧
  (∀ (s : State) (tagOk ddrLate : Bool), s.pwr.wake = .restore → let u := s.wokenUp ddrLate
    exec (.internalReady tagOk ddrLate) s = .next (s.after (u.resume tagOk)) ∧
    u.rf .TOP_STATE_PWR_STATE = pwrStandby ∧ u.pwr.wake = .none ∧ u.pwr.asleep = 0 ∧ u.pwr.wakePending = false ∧
    u.pwr.unreported = 0 ∧ u.dram.up = s.dram.cfg.isSome ∧ u.dram.selfRefresh = false ∧
    u.ccx.live = s.ccx.buf0.getD s.ccx.live ∧ u.ccx.text = some Config.fwVersion ∧ u.boot.stage = .resume) ∧
  (∀ (s : State) (tagOk ddrLate : Bool), s.pwr.wake = .restore → (s.boot.parts = [] ∨ s.dram.cfg = none) →
    ∃ e : State, exec (.internalReady tagOk ddrLate) s = .next (s.after e) ∧ e = (s.wokenUp ddrLate).resumeFail 0xE ∧
      e.rf .BOOT_STATUS_RESUME_CODE = 0xE ∧ e.rf .TOP_STATE_PWR_STATE = pwrStandby ∧ e.boot.stage = .start) ∧
  (∀ (s : State) (ddrLate : Bool), s.pwr.wake = .restore → s.boot.parts ≠ [] → s.dram.cfg.isSome = true → let u := s.wokenUp ddrLate
    exec (.internalReady false ddrLate) s = .next (s.after ((u.resumeUse u.boot.parts.length).2.resumeFail 0x8))) ∧
  (∀ (s : State) (tagOk ddrLate : Bool), s.pwr.wake ≠ .restore → exec (.internalReady tagOk ddrLate) s = .next (s.after s))

/-- A write of PWR_SEQ_CFG that reaches the register and changes no locked field completes with the check of the
start table that NSTART gives. A table is valid exactly when it has 1 to 64 entries, each of the codes 0x01 to 0x1E
stands in it once (and no entry names a code above), every step sums to at most 2.0 A (40 units of 0.05 A) and every
step but the last is followed by a spacing of 20 us or more. NSTART = 0 clears TABLE_BAD and the default table
applies; a valid table clears TABLE_BAD and applies; an invalid one sets TABLE_BAD, source 0x01A takes an event of
kind 0x08, and the default table applies: the codes 0x01 to 0x1E, one per step at 20 us. After a cold reset the
default table applies, and so it does where a later write has made the entries in force invalid. -/
def Obligations.StartTableCheck : Prop :=
  (∀ (s : State) (q : Sender) (w : Word), s.reaches q Reg.PWR_SEQ_CFG → s.lockKept Reg.PWR_SEQ_CFG w = true →
    exec (.pwrSeqCfgWrite q w) s = .next (s.did q Reg.PWR_SEQ_CFG ((s.begun q.req).seqCfg (s.written Reg.PWR_SEQ_CFG w)))) ∧
  (∀ l : List StartEnt, tableValid l = true ↔ 1 ≤ l.length ∧ l.length ≤ 64 ∧ (∀ x ∈ l, x.unit ≤ 30) ∧
    (∀ c, c < 30 → (l.filter (fun x => x.unit = c + 1)).length = 1) ∧ stepsOk 64 l = true) ∧
  (∀ (n : Nat) (x : StartEnt) (l : List StartEnt), stepsOk (n + 1) (x :: l) = true ↔
    ((stepHead (x :: l)).map (fun e => unitStep e.unit)).sum ≤ 40 ∧
    ((x :: l).drop (stepHead (x :: l)).length = [] ∨ ∃ y, (stepHead (x :: l)).getLast? = some y ∧ 20 ≤ y.spacing) ∧
    stepsOk n ((x :: l).drop (stepHead (x :: l)).length) = true) ∧
  (∀ (s : State) (w : Word), fldGet w 8 7 = 0 →
    (s.seqCfg w).rf .PWR_SEQ_CFG_TABLE_BAD = 0 ∧ (s.seqCfg w).startList = defaultTable) ∧
  (∀ (s : State) (w : Word), 0 < fldGet w 8 7 → tableValid (s.startTable (fldGet w 8 7)) = true →
    (s.seqCfg w).rf .PWR_SEQ_CFG_TABLE_BAD = 0 ∧ (s.seqCfg w).startList = s.startTable (fldGet w 8 7)) ∧
  (∀ (s : State) (w : Word), 0 < fldGet w 8 7 → tableValid (s.startTable (fldGet w 8 7)) = false →
    (s.seqCfg w).rf .PWR_SEQ_CFG_TABLE_BAD = 1 ∧ (s.seqCfg w).startList = defaultTable ∧
    (s.seqCfg w).slot 0x01A = some (Slot.event (s.slot 0x01A) 0x08 (Config.free s.draws) s.now)) ∧
  defaultTable = (List.range 30).map (fun k => ⟨false, 20, k + 1⟩) ∧
  (∀ (s : State) (c : Nat), (s.coldReset c).startList = defaultTable) ∧
  (∀ s : State, tableValid (s.startTable (s.rf .PWR_SEQ_CFG_NSTART)) = false → s.startList = defaultTable)

/-- Each of these completes where what it concerns is watched. TEMPERATURE_SAMPLE, in a device that is neither in cold
reset nor asleep, stores TEMP; in the range below the forced shutdown, the level 0x015 is up from WARN_HI on and down
below WARN_CLR, and a hold in reset ends. VOLTAGE_MONITOR_EVENT of a rail that is on, below the reset
threshold, is a cold reset by a supply failure; otherwise the rail's bit in PWR_MON_STATUS follows and source 0x010
is driven active exactly while a bit is set. Where the clock monitors are armed, CLOCK_LOSS of the PCIe reference sets its bit and raises 0x013, of a
SerDes PLL or lane reports kind 0x0A, of the others acts by R93; CLOCK_RECOVERY of the PCIe reference clears its bit
and lowers 0x013. While VDDIO_AON is powered, PGOOD_LOSS on an input of a raised step raises 0x019, and PGOOD_RECOVERY
that leaves no such input low lowers it, outside cold reset and sleep; outside cold reset, PMBUS_TIMEOUT reports kind 0x05 on 0x017. PMBUS_ALERT with a first non-zero status word, none
recorded, records its address and word in PWR_PMB_STATUS and reports kind 0x0B on 0x01B. MR4_TEMPERATURE_REPORT of a
DRAM that is up stores the refresh rate and drives the level 0x2A3. -/
def Obligations.MonitorsAndBoardEvents : Prop :=
  (∀ (s : State) (v : BitVec 12), s.powered = true → let e := s.tempSample v.toNat
    exec (.temperatureSample v) s = .next (s.after e) ∧
    (sextNat 12 v.toNat < 480 → e.rf .PWR_TEMP_TEMP = v.toNat ∧ e.pwr.tempHold = false ∧
      (sextNat 12 v.toNat ≥ 4 * (s.rf .PWR_TEMP_WARN_HI : Int) → e.level 0x015 = true) ∧
      (sextNat 12 v.toNat < 4 * (s.rf .PWR_TEMP_WARN_HI : Int) → sextNat 12 v.toNat < 4 * (s.rf .PWR_TEMP_WARN_CLR : Int) →
        e.level 0x015 = false))) ∧
  (∀ (s : State) (r : Fin 8) (level : Fin 3), s.railOn r = true → let e := s.voltEvent r level
    (level = 2 → exec (.voltageMonitorEvent r level) s = .next (s.after (s.coldReset 1))) ∧
    (level ≠ 2 → exec (.voltageMonitorEvent r level) s = .next (s.after e) ∧
      e.rf .PWR_MON_STATUS_VOLT = maskSet (s.rf .PWR_MON_STATUS_VOLT) r (decide (level = 1)) % 256 ∧
      spGet (fun _ => false) e.flt.rails 0x010 = decide (e.rf .PWR_MON_STATUS_VOLT ≠ 0))) ∧
  (∀ (s : State) (c : Fin 20), s.clocksWatched = true → let e := s.clockLossCmd c
    exec (.clockLoss c) s = .next (s.after e) ∧
    (c = 3 → e.level 0x013 = true) ∧ (c = 4 → e = (s.wf .PWR_MON_STATUS_PLL 1).forced 0x014) ∧
    (c = 5 → e.slot 0x0EC = some (Slot.event (s.slot 0x0EC) 0x0A (Config.free s.draws) s.now)) ∧
    (∀ l : Fin 12, (c : Nat) = 8 + l → e.slot (0x0E0 + l) = some (Slot.event (s.slot (0x0E0 + l)) 0x0A (Config.free s.draws) s.now))) ∧
  (∀ (s : State) (c : Fin 20), s.clocksWatched = true → let e := s.clockBack c
    exec (.clockRecovery c) s = .next (s.after e) ∧
    (c = 3 → e.level 0x013 = false ∧ e.rf .PWR_MON_STATUS_CLK = maskSet (s.rf .PWR_MON_STATUS_CLK) 3 false % 16) ∧
    (c = 4 → e.rf .PWR_MON_STATUS_PLL = 0)) ∧
  (∀ (s : State) (n : Fin 8), s.supplied = true → let e := s.pgoodLoss n
    exec (.pgoodLoss n) s = .next (s.after e) ∧ e.pwr.pgood = maskSet s.pwr.pgood n false ∧ e.regs = s.regs ∧
    (s.powered = true → s.raisedSteps.any (fun i => bitAt (s.rf (.PWR_SEQ_PG_MASK i)) n) = true → e.level 0x019 = true)) ∧
  (∀ (s : State) (n : Fin 8), s.supplied = true → let e := s.pgoodBack n
    exec (.pgoodRecovery n) s = .next (s.after e) ∧ e.pwr.pgood = maskSet s.pwr.pgood n true ∧ e.regs = s.regs ∧
    (s.powered = true → e.pgoodLow = false → e.level 0x019 = false)) ∧
  (∀ s : State, s.supplied = true → s.pwr.porst = false → let e := s.pmbTimeout
    exec .pmbusTimeout s = .next (s.after e) ∧
    e.slot 0x017 = some (Slot.event (s.slot 0x017) 0x05 (Config.free s.draws) s.now)) ∧
  (∀ (s : State) (words : List Word), s.supplied = true → s.pwr.porst = false → let e := s.pmbAlert words
    exec (.pmbusAlert words) s = .next (s.after e) ∧
    ∀ d, ((List.range 8).filter (fun d => s.on (.PWR_PMB_DEV_EN d))).find? (fun d => fldGet (words[d]?.getD 0) 0 16 ≠ 0) = some d →
      s.on .PWR_PMB_STATUS_VALID = false → e.rf .PWR_PMB_STATUS_VALID = 1 ∧
      e.rf .PWR_PMB_STATUS_ADDR = s.rf (.PWR_PMB_DEV_ADDR d) ∧
      e.rf .PWR_PMB_STATUS_STATUS_WORD = fldGet (words[d]?.getD 0) 0 16 ∧
      (e.slot 0x01B).map (·.lastKind) = some 0x0B) ∧
  (∀ (s : State) (rate : Nat) (hot : Bool), s.awake = true → s.dram.up = true → s.dram.selfRefresh = false → let e := s.mr4Report rate hot
    exec (.mr4TemperatureReport rate hot) s = .next (s.after e) ∧ e.dram.refresh = rate ∧ e.level 0x2A3 = hot)

/-- A BOOT_UPDATE_CMD write that reaches the register completes. While the complex restarts, BUSY is 1 or nothing is
committed, every action only sets REFUSED. Otherwise: BEGIN_IMAGE in IDLE, COMMITTED or FAILED, when the running
image is not from PCIe, erases the inactive slot with STATE ERASING (1) and BUSY, READY 1 and NEXT 0; from PCIe it
is refused. BEGIN_RUNTIME with DRAM up and a staging region opens a run-time capsule in RECEIVING (2), and without a
staging region it is refused. END in RECEIVING with no chunk waiting gives VERIFYING (3) and BUSY. COMMIT of a
staged image (4) records PREF the inactive slot, TRIAL 1 and TRIES from the command, 0 taken as 3, and gives
COMMITTED (6); of a staged run-time capsule it gives APPLYING (5) and BUSY. CONFIRM of a running slot on trial clears TRIAL, of
another it leaves the record; it raises the floor to BOOT_VERSION.RUN when that is higher. CANCEL gives IDLE (0) with
code CANCELLED (0xE) and BUSY 0. The management commands UPDATE_BEGIN, UPDATE_COMMIT, UPDATE_CONFIRM and UPDATE_CANCEL,
as the oldest request with their privilege, complete by that register write with OK, or REFUSED with its code; while
another session's update is in progress every update command gets BUSY. In which states a new update may begin, and
CANCEL outside an update, are the model's readings (log entry 4). -/
def Obligations.UpdateCommands : Prop :=
  (∀ (s : State) (q : Sender), s.reaches q Reg.BOOT_UPDATE_CMD → let u := (s.begun q.req)
    exec (.beginImage q) s = .next (s.did q Reg.BOOT_UPDATE_CMD u.beginImage) ∧
    exec (.beginRuntime q) s = .next (s.did q Reg.BOOT_UPDATE_CMD u.beginRuntime) ∧
    exec (.bootUpdateEnd q) s = .next (s.did q Reg.BOOT_UPDATE_CMD u.updEnd) ∧
    (∀ n, exec (.bootUpdateCommit q n) s = .next (s.did q Reg.BOOT_UPDATE_CMD (u.updCommit n))) ∧
    exec (.bootUpdateConfirm q) s = .next (s.did q Reg.BOOT_UPDATE_CMD u.updConfirm) ∧
    exec (.bootUpdateCancel q) s = .next (s.did q Reg.BOOT_UPDATE_CMD u.updCancel)) ∧
  (∀ (u : State) (n : Nat), (u.on .TOP_STATE_CCX_RESTART || u.on .BOOT_UPDATE_STATUS_BUSY || !u.committed) = true →
    let r := u.wf .BOOT_UPDATE_STATUS_REFUSED 1
    u.beginImage = r ∧ u.beginRuntime = r ∧ u.updEnd = r ∧ u.updCommit n = r ∧ u.updConfirm = r ∧ u.updCancel = r) ∧
  (∀ (u : State), (u.on .TOP_STATE_CCX_RESTART || u.on .BOOT_UPDATE_STATUS_BUSY || !u.committed) = false →
    (u.updState = 0 ∨ u.updState = 6 ∨ u.updState = 7 →
      (u.boot.slot = 2 → u.beginImage = u.wf .BOOT_UPDATE_STATUS_REFUSED 1) ∧
      (u.boot.slot ≠ 2 → u.beginImage.updState = 1 ∧ u.beginImage.on .BOOT_UPDATE_STATUS_BUSY = true ∧ u.beginImage.slotB = [] ∧
        u.beginImage.on .BOOT_STAGE_STATUS_READY = true ∧ u.beginImage.rf .BOOT_STAGE_STATUS_NEXT = 0 ∧
        u.beginImage.boot.upd = some ⟨false, 0⟩) ∧
      (u.stagingRegion.2 = 0 → u.beginRuntime = u.wf .BOOT_UPDATE_STATUS_REFUSED 1) ∧
      (u.dram.up = true → 0 < u.stagingRegion.2 → u.beginRuntime.updState = 2 ∧ u.beginRuntime.on .BOOT_UPDATE_STATUS_BUSY = false ∧
        u.beginRuntime.boot.upd = some ⟨true, 0⟩)) ∧
    (u.updState = 2 → u.boot.chunk = none → u.updEnd.updState = 3 ∧ u.updEnd.on .BOOT_UPDATE_STATUS_BUSY = true) ∧
    (∀ (n len : Nat), u.updState = 4 → u.boot.upd = some ⟨false, len⟩ → (u.updCommit n).updState = 6 ∧
      (u.updCommit n).boot.pref = 1 - u.boot.slot ∧ (u.updCommit n).boot.trial = true ∧
      (u.updCommit n).boot.tries = (if n = 0 then 3 else n)) ∧
    (∀ (n len : Nat), u.updState = 4 → u.boot.upd = some ⟨true, len⟩ → (u.updCommit n).updState = 5 ∧
      (u.updCommit n).on .BOOT_UPDATE_STATUS_BUSY = true) ∧
    (u.updConfirm.sec.floor = max u.sec.floor (u.rf .BOOT_VERSION_RUN) ∧
      (u.onTrial = true → u.updConfirm.boot.trial = false ∧ u.updConfirm.on .BOOT_STATUS_TRIAL = false) ∧
      (u.onTrial = false → u.updConfirm.boot = u.boot ∧ u.updConfirm.regs = u.regs)) ∧
    (u.updCancel.updState = 0 ∧ u.updCancel.rf .BOOT_UPDATE_STATUS_CODE = 0xE ∧ u.updCancel.on .BOOT_UPDATE_STATUS_BUSY = false)) ∧
  (∀ (s : State) (r : MgtReq) (late : Bool) (n : Nat), s.ownerBusy = true → s.mgt.owner ≠ some r.session → r.params.length = n →
    ∀ e ∈ ([(.updateBegin, 0x0030, 1), (.updateChunk, 0x0031, 5), (.updateEnd late, 0x0032, 0), (.updateCommit, 0x0033, 1), (.updateConfirm, 0x0034, 0),
      (.updateCancel, 0x0035, 0)] : List (Instr × Nat × Nat)), n = e.2.2 → s.asked e.2.1 r →
    exec e.1 s = .next (s.after ((s.cinc (Ctr.mgt 6)).mgtReply 5 0 []))) ∧
  (∀ (s : State) (r : MgtReq), s.asked 0x0030 r → r.params.length = 1 → (s.ownerBusy = false ∨ s.mgt.owner = some r.session) → let k := le r.params 0 1
    (2 ≤ k → exec .updateBegin s = .next (s.after (s.mgtReply 3 0 []))) ∧
    (k = 1 → (s.dram.up = false ∨ s.stagingRegion.2 = 0) → exec .updateBegin s = .next (s.after (s.mgtReply 8 0 []))) ∧
    ((k = 0 ∨ k = 1 ∧ s.dram.up = true ∧ 0 < s.stagingRegion.2) → let u := s.fwUpdate (1 + k) 0
      (u.1 = true → exec .updateBegin s = .next (s.after (u.2.mgtReply 4 (u.2.rf .BOOT_UPDATE_STATUS_CODE) []))) ∧
      (u.1 = false → exec .updateBegin s = .next (s.after
        ((u.2.manage fun m => { m with owner := if r.session < 8 then some r.session else none, hold := [], total := 0 }).mgtReply 0 0 []))))) ∧
  (∀ (s : State) (r : MgtReq) (action tries : Nat), (s.ownerBusy = false ∨ s.mgt.owner = some r.session) → let u := s.fwUpdate action tries
    let t := if u.1 then u.2.mgtReply 4 (u.2.rf .BOOT_UPDATE_STATUS_CODE) [] else u.2.mgtReply 0 0 []
    (s.asked 0x0033 r → r.params.length = 1 → (8 ≤ le r.params 0 1 → exec .updateCommit s = .next (s.after (s.mgtReply 3 0 []))) ∧
      (action = 4 → tries = le r.params 0 1 → tries < 8 → exec .updateCommit s = .next (s.after t))) ∧
    (s.asked 0x0034 r → r.params.length = 0 → action = 5 → tries = 0 → exec .updateConfirm s = .next (s.after t)) ∧
    (s.asked 0x0035 r → r.params.length = 0 → action = 6 → tries = 0 → exec .updateCancel s = .next (s.after t)))

/-- A write of BOOT_STAGE_LEN that reaches the register completes: with a transfer open, READY 1, a length of at
most 32,768 bytes (0 stands for 32,768), the chunks before it multiples of 4 bytes and room left, READY falls and
the chunk waits; otherwise ORDER_ERR is set, source 0x264 reports kind 0x06 (no other rule names a source, R412) and no chunk
waits. In an awake device these complete: STAGE_CHUNK_TAKEN
of a chunk out of order gives READY 1 and ORDER_ERR, with NEXT and all that was received as before; of one in order in
RECEIVING it gives READY 1, NEXT grown by the chunk, the update's length grown, and for an image capsule the chunk's
bytes appended to the inactive slot; UPDATE_ERASE_DONE in ERASING gives RECEIVING and BUSY 0; UPDATE_VERIFY_DONE in
VERIFYING gives STAGED (4) when every check passes, else FAILED (7) with the code of the first failed one and an
event of kind 0x0E on 0x023; RUNTIME_APPLY_DONE of a run-time capsule in APPLYING gives COMMITTED (6), or at a
refused entry FAILED with code 0xA and the resume region voided; FLASH_TIMEOUT of an image capsule's erase reports an
event of kind 0x05 on 0x026 (STATE FAILED with code 0x1 is the model's choice, log entry 100). The management commands
UPDATE_CHUNK and UPDATE_END, as the oldest request with their privilege and of the owner, complete: a chunk out of order
gets ORDER, one that finds 32,768 bytes held and the staging buffer taken gets BUSY, else it is held, passed to BOOT in
32,768s and answered OK; UPDATE_END passes the rest, ends the update and is answered when it has been verified, a late
one with TIMEOUT. -/
def Obligations.UpdateProgress : Prop :=
  (∀ (s : State) (q : Sender) (w : Word), s.reaches q Reg.BOOT_STAGE_LEN →
    exec (.stageChunkSubmit q w) s = .next (s.did q Reg.BOOT_STAGE_LEN ((s.begun q.req).chunkSubmit (fldGet w 0 16)))) ∧
  (∀ (u : State) (v : Nat), let n := if v = 0 then 32768 else v
    (((u.updState = 2 ∨ u.rf .BOOT_STAGE_STATUS_PASS ≠ 0) ∧ u.on .BOOT_STAGE_STATUS_READY = true ∧ n ≤ 32768 ∧
      u.rf .BOOT_STAGE_STATUS_NEXT % 4 = 0 ∧ u.stageRoom n = true) →
      (u.chunkSubmit v).on .BOOT_STAGE_STATUS_READY = false ∧ (u.chunkSubmit v).boot.chunk = some n) ∧
    (¬ ((u.updState = 2 ∨ u.rf .BOOT_STAGE_STATUS_PASS ≠ 0) ∧ u.on .BOOT_STAGE_STATUS_READY = true ∧ n ≤ 32768 ∧
      u.rf .BOOT_STAGE_STATUS_NEXT % 4 = 0 ∧ u.stageRoom n = true) → u.chunkSubmit v = (u.wf .BOOT_STAGE_STATUS_ORDER_ERR 1).refuse 0x264 0x06)) ∧
  (∀ (s : State) (n : Nat) (keyOk sigOk : Bool), s.awake = true → s.boot.chunk = some n → let e := s.chunkTaken false (keyOk && sigOk)
    exec (.stageChunkTaken false keyOk sigOk) s = .next (s.after e) ∧ e.on .BOOT_STAGE_STATUS_READY = true ∧
      e.on .BOOT_STAGE_STATUS_ORDER_ERR = true ∧ e.rf .BOOT_STAGE_STATUS_NEXT = s.rf .BOOT_STAGE_STATUS_NEXT ∧
      e.boot = { s.boot with chunk := none }) ∧
  (∀ (s : State) (keyOk sigOk : Bool) (n len : Nat), s.awake = true → s.boot.chunk = some n → s.updState = 2 →
    s.boot.upd = some ⟨false, len⟩ → let e := s.chunkTaken true (keyOk && sigOk)
    exec (.stageChunkTaken true keyOk sigOk) s = .next (s.after e) ∧
      e.on .BOOT_STAGE_STATUS_READY = true ∧ e.rf .BOOT_STAGE_STATUS_NEXT = (s.rf .BOOT_STAGE_STATUS_NEXT + n) % 2 ^ 24 ∧
      e.boot.chunk = none ∧ e.boot.upd = some ⟨false, len + n⟩ ∧ e.slotB = s.slotB ++ s.stageBytes n) ∧
  (∀ s : State, s.awake = true → s.updState = 1 → exec .updateEraseDone s = .next (s.after s.eraseDone) ∧
    s.eraseDone.updState = 2 ∧ s.eraseDone.on .BOOT_UPDATE_STATUS_BUSY = false) ∧
  (∀ (s : State) (readOk hashOk keyOk sigOk : Bool) (u : Upd), s.awake = true → s.updState = 3 → s.boot.upd = some u →
    let c := s.verifyCode u readOk hashOk (keyOk && sigOk)
    let e := s.verifyDone readOk hashOk (keyOk && sigOk)
    exec (.updateVerifyDone readOk hashOk keyOk sigOk) s = .next (s.after e) ∧
    e.on .BOOT_UPDATE_STATUS_BUSY = false ∧ e.rf .BOOT_UPDATE_STATUS_CODE = c % 16 ∧
    (c = 0 → e.updState = 4 ∧ e.boot.upd = some u) ∧
    (c ≠ 0 → e.updState = 7 ∧ e.boot.upd = none ∧
      e.slot 0x023 = some (Slot.event (s.slot 0x023) 0x0E (Config.free s.draws) s.now))) ∧
  (∀ (s : State) (len : Nat) (refused : Option Nat), s.awake = true → s.updState = 5 → s.boot.upd = some ⟨true, len⟩ →
    let e := s.applyDone refused
    let r := s.applyUpTo (s.capsule ⟨true, len⟩) refused
    exec (.runtimeApplyDone refused) s = .next (s.after e) ∧ (r.1 = 0 → e.updState = 6) ∧
    (r.1 ≠ 0 → e.updState = 7 ∧ e.rf .BOOT_UPDATE_STATUS_CODE = 0xA ∧ e.boot.parts = [] ∧ e.boot.partialRun = true)) ∧
  (∀ (s : State) (len : Nat), s.awake = true → s.updState = 1 → s.boot.upd = some ⟨false, len⟩ → let e := s.flashTimeout
    exec .flashTimeout s = .next (s.after e) ∧ e.updState = 7 ∧ e.rf .BOOT_UPDATE_STATUS_CODE = 1 ∧
    e.slot 0x026 = some (Slot.event (s.slot 0x026) 0x05 (Config.free s.draws) s.now)) ∧
  (∀ (s : State) (r : MgtReq), s.asked 0x0031 r → 5 ≤ r.params.length → r.params.length ≤ 1028 → (s.ownerBusy = false ∨ s.mgt.owner = some r.session) →
    let run (t : State) : Prop := exec .updateChunk s = .next (s.after t)
    ((s.mgt.owner ≠ some r.session ∨ s.updState ≠ 1 ∧ s.updState ≠ 2) → run (s.mgtReply 4 (s.rf .BOOT_UPDATE_STATUS_CODE) [])) ∧
    (s.mgt.owner = some r.session → (s.updState = 1 ∨ s.updState = 2) →
      (le r.params 0 4 ≠ s.mgt.total → run (s.mgtReply 7 0 [])) ∧
      (le r.params 0 4 = s.mgt.total → 32768 ≤ s.mgt.hold.length → s.stageTakes = false → run ((s.cinc (Ctr.mgt 6)).mgtReply 5 0 [])) ∧
      (le r.params 0 4 = s.mgt.total → (s.mgt.hold.length < 32768 ∨ s.stageTakes = true) →
        let p := if s.mgt.hold.length < 32768 then (true, s) else s.stagePush
        let t := p.2.manage fun m => { m with hold := m.hold ++ r.params.drop 4, total := m.total + (r.params.length - 4) }
        (p.1 = false → run (p.2.mgtReply 4 (p.2.rf .BOOT_UPDATE_STATUS_CODE) [])) ∧
        (p.1 = true → (t.mgt.hold.length < 32768 ∨ t.stageTakes = false) → run (t.mgtReply 0 0 [])) ∧
        (p.1 = true → 32768 ≤ t.mgt.hold.length → t.stageTakes = true →
          run (if t.stagePush.1 then t.stagePush.2.mgtReply 0 0 [] else t.stagePush.2.mgtReply 4 (t.stagePush.2.rf .BOOT_UPDATE_STATUS_CODE) []))))) ∧
  (∀ (s : State) (r : MgtReq) (late : Bool), s.asked 0x0032 r → r.params.length = 0 → (s.ownerBusy = false ∨ s.mgt.owner = some r.session) →
    let run (t : State) : Prop := exec (.updateEnd late) s = .next (s.after t)
    let wait (t : State) : State := if late then t.mgtReply 9 0 [] else t
    (s.mgt.begun = true → s.updState = 3 → run (wait s)) ∧
    (s.mgt.begun = true → s.updState ≠ 3 → run (s.mgtReply 0 (s.rf .BOOT_UPDATE_STATUS_CODE) [])) ∧
    (s.mgt.begun = false → (s.updState = 1 ∨ s.updState = 2 ∧ s.boot.chunk.isSome = true) → run (wait s)) ∧
    (s.mgt.begun = false → s.updState = 2 → s.boot.chunk = none → s.mgt.hold ≠ [] → let p := s.stagePush
      run (if p.1 then wait p.2 else p.2.mgtReply 4 (p.2.rf .BOOT_UPDATE_STATUS_CODE) [])) ∧
    (s.mgt.begun = false → s.updState ≠ 1 → (s.updState = 2 → s.boot.chunk = none ∧ s.mgt.hold = []) → let u := s.fwUpdate 3 0
      run (if u.1 then u.2.mgtReply 4 (u.2.rf .BOOT_UPDATE_STATUS_CODE) [] else wait (u.2.setBegun true))))

/-- In an awake device each of these completes. BOOT_START at the start stage with the start table done and no hold:
two failed companion start-up tests report kind 0x13 on 0x051 each and end in the failed phase, in which no source
loads; a fourth failed health test ends in it too, with the PCIe source where BOOT_MODE allows it; else the DRBG is seeded, the per-boot values are drawn, the keys are derived and BOOT_PHASE is 2: with
BOOT_MODE PCIe alone the PCIe source opens, otherwise the control record and both headers are read and, with no trial, the
preferred slot, the other and, where allowed, PCIe are tried in this order. PASS1_COMPLETE in pass 1 of a flash source
fails it with code 0x1 on a read time-out and 0x8 on a wrong hash, else pass 2 begins and reads the slot again.
DRAM_TRAINING_DONE in pass 2 with a DRAM section and no result yet: success brings the port up and pass 2 goes on; failure
reports kind 0x08 on 0x2A2 and fails the source with code 0xC. IMAGE_COMMIT at the end of pass 2 fails the source with
0xA (a block has refused a write of the image with kind 0x08), 0x1, 0xB, 0xC or 0xD in that order, or commits: the mark sets COMMITTED, BOOT_PHASE 5 and SOURCE, and records the security
version and the header, before the blocks act on it. RESUME_RETAG_DONE clears BUSY where the DRBG runs.
PCIE_IMAGE_TIMEOUT of a PCIe source with no chunk waiting fails it with code 0xF. -/
def Obligations.BootSequence : Prop :=
  (∀ (s : State) (comp1 comp2 : Option Nat) (trngBad : Nat) (fuseBad readA readB sigA sigB : Bool), s.awake = true →
    s.boot.stage = .start → s.pwr.wake = .none → s.pwr.tempHold = false → s.pwr.clockHold = false →
    let run (t : State) : Prop := exec (.bootStart comp1 comp2 trngBad fuseBad readA readB sigA sigB) s = .next (s.after t)
    let bad (t : State) (i : Nat) : State := ((t.wf .CCX_TEST_STATUS_LAST_INJ i).wf .CCX_INT_TEST_FAIL 1).notify 0x051 0x13
    let one := (s.wf .TOP_STATE_BOOT_PHASE 1).complex fun x => { x with text := some Config.fwVersion }
    let ready := (one.wf .CCX_TEST_STATUS_START_PASS 1).reseed.hashKeyDraw.deriveKeys.wf .TOP_STATE_BOOT_PHASE 2
    (∀ i j, comp1 = some i → comp2 = some j → run (bad (bad one i) j).bootDead) ∧
    (comp1 = none → fuseBad = false → 4 ≤ trngBad →
      run (((one.wf .CCX_TEST_STATUS_START_PASS 1).each (List.range 4) fun t _ => t.notify 0x028 0x0E).bootFailed)) ∧
    (comp1 = none → fuseBad = false → trngBad = 0 → ready.bootMode = 2 → run (ready.nextSource [3])) ∧
    (comp1 = none → fuseBad = false → trngBad = 0 → ready.bootMode ≠ 2 →
      let code (b : List Byte) (read sig : Bool) : Nat := if read then ready.hdrCode (flashTake b 352) false sig else 0x1
      let read := (((ready.recRead (readA || readB)).flashRead ready.romMode 0 352).flashRead ready.romMode 1 352).booting fun b =>
        { b with hdrA := code b.flashA readA sigA, hdrB := code b.flashB readB sigB }
      read.boot.trial = false → run (read.nextSource ([read.boot.pref + 1, 2 - read.boot.pref] ++ (if read.bootMode = 1 then [3] else []))))) ∧
  (∀ u : State, u.bootDead.rf .TOP_STATE_BOOT_PHASE = 0xF ∧ u.bootDead.boot.stage = .failed ∧ u.bootDead.boot.load = none ∧
    u.bootDead.slot 0x021 = some (Slot.event (u.slot 0x021) 0x0E (Config.free u.draws) u.now) ∧
    u.bootFailed = if u.bootMode = 0 then u.bootDead else u.bootDead.pcieOpen .failed) ∧
  (∀ (s : State) (answers inTime hashOk : Bool) (l : Load), s.awake = true → s.boot.load = some l → s.boot.stage = .pass1 →
    l.source ≠ 3 → let run (t : State) : Prop := exec (.pass1Complete answers inTime hashOk) s = .next (s.after t)
    ((answers && inTime) = false → run (s.sourceFail 0x1)) ∧ ((answers && inTime) = true → hashOk = false → run (s.sourceFail 0x8)) ∧
    ((answers && inTime) = true → hashOk = true → ∀ x, sections l.bytes = some x → structureOk l.bytes x true = true →
      run (State.pass2Go (((s.wf .TOP_STATE_BOOT_PHASE 3).booting fun b => { b with stage := .pass2, sealed0 := s.cph.tab, train := none }).collector
        (fun x => { x with misfit := false }) |>.flashRead (slotMode l.bytes) (l.source - 1) (le l.bytes 8 4))))) ∧
  (∀ (s : State) (ok inTime : Bool), s.awake = true → s.boot.stage = .pass2 → s.dram.cfg.isSome = true → s.boot.train = none →
    let t := s.refreshEntry s.dram.selfRefresh
    exec (.dramTrainingDone ok inTime) s = .next (s.after
      (if ok && inTime then State.pass2Go { t with dram := { t.dram with up := true, selfRefresh := false }, boot := { t.boot with train := some true } }
      else ((s.notify 0x2A2 0x08).booting fun b => { b with train := some false }).sourceFail 0xC))) ∧
  (∀ (s : State) (readOk hashOk : Bool) (l : Load) (x : List Section), s.awake = true → s.boot.load = some l →
    s.boot.stage = .pass2 → sections l.bytes = some x → x ≠ [] → x.length ≤ l.pos → le l.bytes 8 4 ≤ l.bytes.length →
    (s.dram.cfg.isSome = true → s.boot.train.isSome = true) →
    let run (t : State) : Prop := exec (.imageCommit readOk hashOk) s = .next (s.after t)
    (s.flt.misfit = true → run (s.sourceFail 0xA)) ∧ (s.flt.misfit = false →
    (readOk = false → run (s.sourceFail 0x1)) ∧ (readOk = true → hashOk = false → run (s.sourceFail 0xB)) ∧
    (readOk = true → hashOk = true → s.paired = true → s.dram.cfg = none → run (s.sourceFail 0xC)) ∧
    (readOk = true → hashOk = true → (s.paired = false ∨ s.dram.cfg.isSome = true) →
      (s.certBroken l.bytes = true → run (s.sourceFail 0xD)) ∧
      (s.certBroken l.bytes = false → run ((s.commitMark l.source l.bytes).commitStart l.source l.bytes))))) ∧
  (∀ (s : State) (src : Nat) (img : List Byte), src < 8 → (s.commitMark src img).committed = true ∧
    (s.commitMark src img).rf .TOP_STATE_BOOT_PHASE = 5 ∧ (s.commitMark src img).rf .BOOT_STATUS_SOURCE = src ∧
    (s.commitMark src img).rf .BOOT_VERSION_RUN = le img 24 4 % 256 ∧
    (s.commitMark src img).rf .SEC_STATUS_CERT = b2n (imgFlag img 1) ∧
    (s.commitMark src img).boot.stage = .committed ∧ (s.commitMark src img).boot.header = img.take 352 ∧
    (s.commitMark src img).boot.chain = List.replicate 48 0) ∧
  (∀ s : State, s.awake = true → s.boot.retag = true → s.on .SEC_STATUS_DRBG_HALT = false →
    exec .resumeRetagDone s = .next (s.after s.retagDone) ∧ s.retagDone.on .PWR_STATUS_BUSY = false ∧ s.retagDone.boot.retag = false) ∧
  (∀ (s : State) (l : Load), s.awake = true → s.boot.load = some l → l.source = 3 → s.boot.chunk = none →
    s.boot.stage = .pass1 ∨ s.boot.stage = .pass2 → exec .pcieImageTimeout s = .next (s.after (s.sourceFail 0xF)))

/-- A write of SEC_ZEROIZE with its key that reaches the register (from the complex or from the host, whatever
SEC_ACCESS holds) completes with zeroization: none of the 256 key slots is valid and no slot holds key material, the
KEKs and the identity key are gone, the DRBG has just been reseeded, SEC_STATUS.ZEROIZED is 1 and source 0x02F
takes an event; every management session has ended. The management command ZEROIZE, as the oldest request with its
privilege, answers OK first and then writes SEC_ZEROIZE. -/
def Obligations.ZeroizationClears : Prop :=
  (∀ (s : State) (q : Sender), s.reaches q Reg.SEC_ZEROIZE →
    exec (.secZeroize q) s = .next (s.did q Reg.SEC_ZEROIZE (s.begun q.req).zeroize)) ∧
  (∀ (s : State), s.zeroize.sec.mat = [] ∧ s.zeroize.sec.unitKek = none ∧ s.zeroize.sec.classKek = none ∧ s.zeroize.sec.ident = none ∧
    s.zeroize.sec.requests = 0 ∧ s.zeroize.on .SEC_STATUS_ZEROIZED = true ∧ (s.zeroize.slot 0x02F).map (·.lastKind) = some 0x0D ∧
    (∀ k, k < 256 → s.zeroize.slotValid k = false) ∧ ∀ k, k < 8 → s.zeroize.mgtSess k = none) ∧
  (∀ s : State, s.mayWrite .host Reg.SEC_ZEROIZE = true ∧ s.mayWrite .ccx Reg.SEC_ZEROIZE = true) ∧
  (∀ (s : State) (r : MgtReq), s.asked 0x0080 r → r.params.length = 0 →
    exec .zeroize s = .next (s.after ((s.mgtReply 0 0 []).fwWrite Reg.SEC_ZEROIZE (cmdWord 0x0D1E 1)).2))

/-- SEC_DEBUG_CMD CHECK with its key that reaches the register completes with the token check. When the token, the
signer's key or the signature fails: the challenge is void (its words read 0), SEC_STATUS.DEBUG and the debug level
are as before, source 0x02D takes an event of kind 0x0D, and a read of SEC_DEBUG_CHAL[0] then answers 0 and draws no
challenge, until CHALLENGE_REFUSAL_END, which comes 1 s after the failure and completes, lets challenges be drawn
again. -/
def Obligations.DebugTokenRefused : Prop :=
  (∀ (s : State) (q : Sender) (keyOk sigOk : Bool), s.reaches q Reg.SEC_DEBUG_CMD →
    exec (.debugTokenCheck q keyOk sigOk) s = .next (s.did q Reg.SEC_DEBUG_CMD ((s.begun q.req).tokenCheck (keyOk && sigOk)))) ∧
  (∀ (s : State) (sigOk : Bool), (s.tokenOk && sigOk) = false → let e := s.tokenCheck sigOk
    e.sec.chal = false ∧ (∀ n, n < 8 → e.rword (Reg.SEC_DEBUG_CHAL n) = 0) ∧ e.rf .SEC_STATUS_DEBUG = s.rf .SEC_STATUS_DEBUG ∧
    e.sec.level = s.sec.level ∧ e.slot 0x02D = some (Slot.event (s.slot 0x02D) 0x0D (Config.free s.draws) s.now) ∧
    e.chalRead = (0, e)) ∧
  (∀ s : State, s.awake = true → exec .challengeRefusalEnd s = .next (s.after s.chalOpen) ∧ s.chalOpen.sec.chalShut = false ∧
    (s.on .SEC_STATUS_DRBG_HALT = false → s.chalOpen.chalRead.2.sec.chal = true))

/-- SEC_LIFECYCLE_CMD with its key that reaches the register completes: an allowed change asked by the complex or
the debug mailbox starts its fuse write (after zeroization for RETURNED), any other leaves the fuses and is reported
as kind 0x0D on 0x02A. In an awake device these complete: FUSE_WRITE_DONE blows the target's fuse bit and leaves the
lifecycle until the next cold reset; KEY_SLOT_WRITE, while no restart runs, of a slot 0 to 254 that is not locked and not in use makes it
valid with its algorithm, usage and lock, no KEK and a key that is agreed or drawn, and of one locked or in use changes
no slot and reports kind 0x0D on 0x02B (in a restart the firmware, which agrees the keys, is paused and writes none); CHALLENGE_EXPIRY voids the challenge; TRNG_HEALTH_FAIL of a committed device sets DRBG_HALT and
reports kind 0x0E on 0x028; DRBG_RESTART clears DRBG_HALT and reseeds; DRBG_RESEED of a running DRBG takes a fresh seed. A read
of SEC_DEBUG_CHAL[0] while challenges are not shut and the DRBG runs answers a fresh random word and a challenge
stands. The management command ATTEST, as the oldest request with its privilege, answers a quote of 208 bytes and 24 words
of signature, or NOT_AVAILABLE in RETURNED, zeroized, without an identity key or with a halted DRBG. -/
def Obligations.LifecycleKeysAndRandom : Prop :=
  (∀ (s : State) (q : Sender) (t : Fin 4), s.reaches q Reg.SEC_LIFECYCLE_CMD → let e := (s.begun q.req).lifecycle q.req t
    exec (.lifecycleCmd q t) s = .next (s.did q Reg.SEC_LIFECYCLE_CMD e) ∧
    (q = .host ∨ s.lifeAllowed t = false → e.regs = s.regs ∧ e.sec = s.sec ∧
      e.slot 0x02A = some (Slot.event (s.slot 0x02A) 0x0D (Config.free s.draws) s.now)) ∧
    (q ≠ .host → s.lifeAllowed t = true → e.sec.blowing = some (t : Nat) ∧ e.sec.fuse = s.sec.fuse ∧
      (t = 3 → e.sec.mat = [] ∧ e.sec.unitKek = none ∧ e.sec.classKek = none))) ∧
  (∀ (s : State) (t : Nat), s.awake = true → s.sec.blowing = some t → let e := s.fuseDone
    exec .fuseWriteDone s = .next (s.after e) ∧
    e.sec.fuse = s.sec.fuse ||| 2 ^ (t - 1) ∧ e.sec.blowing = none ∧ e.sec.life = s.sec.life ∧ e.regs = s.regs) ∧
  (∀ (s : State) (k : Fin 256) (alg : Fin 16) (usage : BitVec 8) (lock drawn : Bool), s.awake = true → s.on .TOP_STATE_CCX_RESTART = false → k ≠ 255 →
    (drawn = false ∨ s.on .SEC_STATUS_DRBG_HALT = false) → let e := s.keySlotWrite k alg usage.toNat lock drawn
    exec (.keySlotWrite k alg usage lock drawn) s = .next (s.after e) ∧
    (s.slotLocked k = false → e.slotValid k = true ∧ e.rf (.SEC_KEY_ATTR_USAGE k) = usage.toNat ∧
      e.rf (.SEC_KEY_ATTR_ALG k) = (alg : Nat) % 4 ∧ e.on (.SEC_KEY_ATTR_LOCK k) = lock ∧ e.on (.SEC_KEY_ATTR_KEK k) = false ∧
      spGet (fun _ => 0) e.sec.mat k = Config.free (if drawn then s.generateKey.1 else s.draws)) ∧
    (s.slotLocked k = true → e.regs = s.regs ∧ e.sec.mat = s.sec.mat ∧ (e.slot 0x02B).map (·.lastKind) = some 0x0D)) ∧
  (∀ (s : State) (k : Fin 256) (alg : Fin 16) (usage : BitVec 8) (lock drawn : Bool), s.on .TOP_STATE_CCX_RESTART = true →
    exec (.keySlotWrite k alg usage lock drawn) s = .next (s.after s)) ∧
  (∀ s : State, s.awake = true → s.sec.chal = true → exec .challengeExpiry s = .next (s.after s.chalExpire) ∧
    s.chalExpire.sec.chal = false) ∧
  (∀ s : State, s.awake = true → s.committed = true → exec .trngHealthFail s = .next (s.after s.trngFail) ∧
    s.trngFail.on .SEC_STATUS_DRBG_HALT = true ∧
    s.trngFail.slot 0x028 = some (Slot.event (s.slot 0x028) 0x0E (Config.free s.draws) s.now)) ∧
  (∀ s : State, s.awake = true → s.on .SEC_STATUS_DRBG_HALT = true →
    exec .drbgRestart s = .next (s.after s.drbgRestart.pairStart) ∧
    s.drbgRestart.on .SEC_STATUS_DRBG_HALT = false ∧ s.drbgRestart.sec.seed = s.draws ∧ s.drbgRestart.sec.requests = 0) ∧
  (∀ s : State, s.awake = true → s.on .SEC_STATUS_DRBG_HALT = false → exec .drbgReseed s = .next (s.after s.drbgReseed) ∧
    s.drbgReseed.sec.seed = s.draws ∧ s.drbgReseed.sec.requests = 0 ∧ s.drbgReseed.draws = s.draws + 1) ∧
  (∀ (s : State) (q : Sender), s.readable q (Reg.SEC_DEBUG_CHAL 0) → s.sec.chalShut = false → s.on .SEC_STATUS_DRBG_HALT = false →
    let e := s.chalRead.2
    exec (.debugChallengeRead q) s = .next (s.told q (Config.random s.generate.2.draws) e) ∧ e.sec.chal = true ∧
    e.draws = s.generate.2.draws + 8) ∧
  (∀ (s : State) (r : MgtReq), s.asked 0x0060 r → r.params.length = 32 →
    ((s.sec.life = 3 ∨ s.on .SEC_STATUS_ZEROIZED = true ∨ s.sec.ident = none ∨ s.on .SEC_STATUS_DRBG_HALT = true) →
      exec .attest s = .next (s.after (s.mgtReply 8 0 []))) ∧
    (∀ id, s.sec.life ≠ 3 → s.on .SEC_STATUS_ZEROIZED = false → s.sec.ident = some id → s.on .SEC_STATUS_DRBG_HALT = false →
      exec .attest s = .next (s.after (s.generate.2.mgtReply 0 0
        (wordsOf 76 (s.quoteHead r.params ++ (List.range 96).map (Config.ecSign id (hash48 (s.quoteHead r.params)) s.generate.1)))))))

/-- A write of MAC_PORT_CFG[n] that reaches the register and changes no locked field completes; with a mode the port
does not have, or MAX_FRAME outside 64 to 10,240, it is refused by source 0x083 + 4n and the registers stay. In an
awake device these complete for every port n: a signal takes a DOWN port with its reference to TRAINING; training
done takes a TRAINING port of 4 or above to UP_PENDING at its speed of R521; UP_FILTER_EXPIRY with the conditions of
UP_PENDING takes it to UP with CHANGE and LINK_UP set; a loss in UP only starts the filter and leaves the port UP, and in TRAINING or
UP_PENDING takes the port to DOWN at once; LINK_LOSS_FILTER_EXPIRY of an UP port with a loss under way takes it to
DOWN, leaving UP; LINK_DOWN_FLUSH_DONE ends the flush and sets FLUSH_DONE; HOLDOFF_EXPIRY of a port in UP marks its
hold-off done. -/
def Obligations.LinkStates : Prop :=
  (∀ (s : State) (q : Sender) (n : Fin 24) (w : Word), s.reaches q (Reg.MAC_PORT_CFG n) → s.lockKept (Reg.MAC_PORT_CFG n) w = true →
    let v := s.written (Reg.MAC_PORT_CFG n) w
    exec (.portCfgWrite q n w) s = .next (s.did q (Reg.MAC_PORT_CFG n) ((s.begun q.req).portCfg n v)) ∧
    (modeOk n (fldGet v 0 4) = false ∨ fldGet v 14 14 < 64 ∨ 10240 < fldGet v 14 14 →
      ((s.begun q.req).portCfg n v).regs = s.regs ∧ ((s.begun q.req).portCfg n v).slot (0x083 + 4 * n) =
        some (Slot.event (s.slot (0x083 + 4 * n)) 0x08 (Config.free s.draws) s.now))) ∧
  (∀ (s : State) (n : Fin 24), s.awake = true → s.linkState n = 1 → s.refDown n = false → ∃ e : State,
    exec (.linkSignalDetect n) s = .next (s.after e) ∧ e.linkState n = 2) ∧
  (∀ (s : State) (n : Fin 24) (speed : Fin 8) (lpPause : Bool), s.awake = true → s.linkState n = 2 → ∃ e : State,
    exec (.linkTrainingDone n speed lpPause) s = .next (s.after e) ∧ (4 ≤ (n : Nat) → e.linkState n = 3)) ∧
  (∀ (s : State) (n : Fin 24), s.awake = true → s.linkState n = 3 → s.linkOk n = true → ∃ e : State,
    exec (.upFilterExpiry n) s = .next (s.after e) ∧ e.linkState n = 4 ∧ e.rf (.MAC_LINK_STATUS_CHANGE n) = 1 ∧
    e.rf (.MAC_INT_LINK_UP n) = 1) ∧
  (∀ (s : State) (n : Fin 24) (localF remoteF : Bool), s.awake = true → ∃ e : State,
    exec (.linkLoss n localF remoteF) s = .next (s.after e) ∧
    (s.linkState n = 4 → e.linkState n = 4 ∧ e.mac.losing = maskSet s.mac.losing n true) ∧
    (s.linkState n = 2 ∨ s.linkState n = 3 → e.linkState n = 1)) ∧
  (∀ (s : State) (n : Fin 24), s.awake = true → s.portUp n = true → bitAt s.mac.losing n = true →
    exec (.linkLossFilterExpiry n) s = .next (s.after (s.linkTo n 1))) ∧
  (∀ (s : State) (n : Fin 24), s.awake = true → spGet (fun _ => false) s.cel.flushing n = true → ∃ e : State,
    exec (.linkDownFlushDone n) s = .next (s.after e) ∧ e.rf .SWC_INT_FLUSH_DONE = 1 ∧
    spGet (fun _ => false) e.cel.flushing n = false) ∧
  (∀ (s : State) (n : Fin 24), s.awake = true → s.portUp n = true → ∃ e : State,
    exec (.holdoffExpiry n) s = .next (s.after e) ∧ e.regs = s.regs ∧ spGet (fun _ => false) e.cel.holdDone n = true)

/-- In an awake device these complete. PFC_FRAME_RECEIVED on a port in UP counts the frame, and with PFC_RX_EN gives
each priority of the vector that the mask honours, and that is not protected, a pause of its quanta; the others are
counted as ignored. PAUSE_FRAME_RECEIVED on a port in UP counts the frame, and pauses the classes that are not
protected when PAUSE_RX_EN is set and PFC_RX_EN is not. PAUSE_TIMER_EXPIRY ends the pause of one class.
PFC_FRAME_SEND with a frame due, the port in UP, forwarding on and nothing in transmission sends the present XOFF
state; PAUSE_REPEAT_TIMER repeats it while a class is in XOFF. PREEMPT_VERIFY_TIMER sends a verify frame with
VERIFY_STATUS 2 while fewer than 3 attempts were made, and after 3 gives VERIFY_STATUS 4 with PREEMPT_FAIL;
PREEMPT_VERIFY_RESPONSE gives VERIFY_STATUS 3. RATE_WINDOW_EXPIRY of a rate source whose count did not exceed its
threshold, or whose threshold is 0, leaves its level down, and a new window counts from 0; with ICV_ISOLATE the
window of a Pan's source is also compared with the other Pans' (State.panWindow). -/
def Obligations.PauseAndPreemption : Prop :=
  (∀ (s : State) (n : Fin 24) (vec : BitVec 8) (quanta : List Nat), s.awake = true → s.portUp n = true →
    let u := s.cinc (Ctr.mac n 10)
    exec (.pfcFrameReceived n vec quanta) s = .next (s.after
      (if s.on (.MAC_FC_CFG_PFC_RX_EN n) then u.each ((List.range 8).filter (bitAt vec.toNat)) (fun t p =>
        if bitAt (t.rf (.MAC_FC_CFG_PFC_RX_MASK n)) p && !t.isProt n p then t.setPause n p ((quanta[p]?).getD 0 % 65536)
        else t.cinc (Ctr.mac n 11)) else u))) ∧
  (∀ (s : State) (n : Fin 24) (quanta : BitVec 16), s.awake = true → s.portUp n = true → ∃ e : State,
    exec (.pauseFrameReceived n quanta) s = .next (s.after e) ∧ e.cget (Ctr.mac n 9) = (s.cget (Ctr.mac n 9) + 1) % 2 ^ 64 ∧
    e.regs = s.regs ∧ ∀ c, c < 8 →
      (s.on (.MAC_FC_CFG_PAUSE_RX_EN n) = true → s.on (.MAC_FC_CFG_PFC_RX_EN n) = false → s.isProt n c = false →
        spGet (fun _ => 0) e.mac.pause (n * 8 + c) = quanta.toNat) ∧
      (s.on (.MAC_FC_CFG_PAUSE_RX_EN n) = false ∨ s.on (.MAC_FC_CFG_PFC_RX_EN n) = true ∨ s.isProt n c = true →
        spGet (fun _ => 0) e.mac.pause (n * 8 + c) = spGet (fun _ => 0) s.mac.pause (n * 8 + c))) ∧
  (∀ (s : State) (n : Fin 24) (c : Fin 8), s.awake = true → ∃ e : State, exec (.pauseTimerExpiry n c) s = .next (s.after e) ∧
    e.paused n c = false ∧ ∀ k, k ≠ (n : Nat) * 8 + (c : Nat) → spGet (fun _ => 0) e.mac.pause k = spGet (fun _ => 0) s.mac.pause k) ∧
  (∀ (s : State) (n : Fin 24), s.awake = true → spGet (fun _ => false) s.cel.pfcDue n = true → s.portUp n = true →
    s.fwdEn = true → s.onWire n = none → ∃ e : State, exec (.pfcFrameSend n) s = .next (s.after e) ∧ e.regs = s.regs ∧
    spGet (fun _ => false) e.cel.pfcDue n = false ∧ e.out = (s.sendXoff n (spGet (fun _ => 0) s.cel.xoffLeft n)).out ∧
    e.cget (Ctr.port n 7) = (s.sendXoff n (spGet (fun _ => 0) s.cel.xoffLeft n)).cget (Ctr.port n 7)) ∧
  (∀ (s : State) (n : Fin 24), s.awake = true → s.rf .SWC_CFG_QUANTA ≠ 0 → s.rf (.SWC_PORT_STATUS_XOFF_OUT n) ≠ 0 →
    s.portUp n = true → s.fwdEn = true → s.onWire n = none → exec (.pauseRepeatTimer n) s = .next (s.after (s.sendXoff n 0))) ∧
  (∀ (s : State) (n left : Nat), s.rf (.SWC_PORT_FC_MODE n) = 2 → (s.sendXoff n left).out =
    .macControl n true (s.rf (.SWC_PORT_STATUS_XOFF_OUT n) ||| left)
      ((List.range 8).map (fun c => if bitAt (s.rf (.SWC_PORT_STATUS_XOFF_OUT n)) c then s.rf .SWC_CFG_QUANTA else 0)) :: s.out) ∧
  (∀ (s : State) (n : Fin 24), s.awake = true → s.portUp n = true → s.fwdEn = true → s.on (.MAC_PREEMPT_EN n) = true →
    s.on (.MAC_PREEMPT_VERIFY_DIS n) = false → s.rf (.MAC_PREEMPT_VERIFY_STATUS n) = 1 ∨ s.rf (.MAC_PREEMPT_VERIFY_STATUS n) = 2 →
    ∃ e : State, exec (.preemptVerifyTimer n) s = .next (s.after e) ∧
    (spGet (fun _ => 0) s.mac.tries n < 3 → e.rf (.MAC_PREEMPT_VERIFY_STATUS n) = 2 ∧ e.out = .verify n false :: s.out ∧
      spGet (fun _ => 0) e.mac.tries n = spGet (fun _ => 0) s.mac.tries n + 1) ∧
    (3 ≤ spGet (fun _ => 0) s.mac.tries n → e.rf (.MAC_PREEMPT_VERIFY_STATUS n) = 4 ∧ e.rf (.MAC_INT_PREEMPT_FAIL n) = 1)) ∧
  (∀ (s : State) (n : Fin 24), s.awake = true → s.portUp n = true → s.rf (.MAC_PREEMPT_VERIFY_STATUS n) = 2 → ∃ e : State,
    exec (.preemptVerifyResponse n) s = .next (s.after e) ∧ e.rf (.MAC_PREEMPT_VERIFY_STATUS n) = 3) ∧
  (∀ (s : State) (p : Fin 4), s.awake = true → s.on .CPH_CFG_ICV_ISOLATE = true →
    exec (.rateWindowExpiry (Fin.ofNat 768 (0x1C2 + p))) s = .next (s.after (s.panWindow p))) ∧
  (∀ (s : State) (src : Fin 768) (t : Nat), s.awake = true → (src : Nat) ≠ 0x124 → s.rateThr src = some t →
    (src : Nat) < 0x1C2 ∨ 0x1C5 < (src : Nat) ∨ s.on .CPH_CFG_ICV_ISOLATE = false → ∃ e : State,
    exec (.rateWindowExpiry src) s = .next (s.after e) ∧ e.regs = s.regs ∧ spGet (fun _ => 0) e.flt.rate src = 0 ∧
    (t = 0 ∨ spGet (fun _ => 0) s.flt.rate src ≤ t → e.level src = false) ∧
    (t ≠ 0 → t < spGet (fun _ => 0) s.flt.rate src → e.level src = s.level src))

/-- In an awake device these complete. SQI_UPDATE on a port in UP writes SQI. PLCA_BEACON_CONFLICT at a node with EN
and ID 0 sets CONFLICT and reports kind 0x06 on source 0x083 + 4p. TC10 commands that reach PHY_TC10_CMD: action 1
on a port in UP sends the sleep request, and on any other port changes no register; action 2 on a port in SLEEP
sends the wake-up and takes the port to TRAINING, to DOWN while its reference is lost, and on any other port changes
no register. The partner's acknowledgement, or 0.8 ms without one, takes the requesting port from UP to SLEEP, the
second with TC10_NOACK. A wake-up detected on a port in SLEEP of a device in STANDBY or ACTIVE takes it to TRAINING. The four MDIO commands: with BUSY
= 0 and the wire free the commanded frame goes out with BUSY set; with BUSY = 1 only LOST is set. MDIO_FRAME_DONE
clears BUSY, leaves read data valid, and starts what waits. MDIO_POLL and EXT_PHY_INTERRUPT queue the read of each
enabled port, the second setting EXT_PHY. -/
def Obligations.PhyAndMdio : Prop :=
  (∀ (s : State) (p : Fin 12) (sqi : Fin 8), s.awake = true → s.portUp (12 + p) = true → ∃ e : State,
    exec (.sqiUpdate p sqi) s = .next (s.after e) ∧ e.rf (.PHY_STATUS_SQI (12 + p)) = sqi) ∧
  (∀ (s : State) (p : Fin 4), s.awake = true → s.on (.PHY_PLCA_EN (20 + p)) = true → s.rf (.PHY_PLCA_NODE_ID (20 + p)) = 0 →
    ∃ e : State, exec (.plcaBeaconConflict p) s = .next (s.after e) ∧ e.rf (.PHY_PLCA_STATUS_CONFLICT (20 + p)) = 1 ∧
    e.slot (0x083 + 4 * (20 + p)) = some (Slot.event (s.slot (0x083 + 4 * (20 + p))) 0x06 (Config.free s.draws) s.now)) ∧
  (∀ (s : State) (q : Sender) (p : Fin 12), s.reaches q (Reg.PHY_TC10_CMD (12 + p)) → ∃ e f : State,
    exec (.tc10CmdSleep q p) s = .next (s.did q (Reg.PHY_TC10_CMD (12 + p)) e) ∧
    (s.portUp (12 + p) = true → e.out = .tc10Sleep (12 + p) :: s.out ∧ e.rf (.PHY_STATUS_TC10_STATE (12 + p)) = 1) ∧
    (s.portUp (12 + p) = false → e.regs = s.regs ∧ e.out = s.out) ∧
    exec (.tc10CmdWake q p) s = .next (s.did q (Reg.PHY_TC10_CMD (12 + p)) f) ∧
    (s.linkState (12 + p) = 5 → f = ((s.begun q.req).emit (.tc10Wake (12 + p))).tc10Training (12 + p)) ∧
    (s.linkState (12 + p) ≠ 5 → f.regs = s.regs ∧ f.out = s.out)) ∧
  (∀ (s : State) (p : Fin 12), let e := s.tc10Training (12 + p)
    (s.refDown (12 + p) = false → e.linkState (12 + p) = 2 ∧ e.rf (.PHY_STATUS_TC10_STATE (12 + p)) = 3) ∧
    (s.refDown (12 + p) = true → e.linkState (12 + p) = 1)) ∧
  (∀ (s : State) (p : Fin 12), s.awake = true → s.portUp (12 + p) = true → s.rf (.PHY_STATUS_TC10_STATE (12 + p)) = 1 →
    let e := (s.linkTo (12 + p) 5).wf (.PHY_STATUS_TC10_STATE (12 + p)) 2
    exec (.tc10SleepAck p) s = .next (s.after e) ∧
    exec (.tc10SleepTimeout p) s = .next (s.after (e.wf (.PHY_STATUS_TC10_NOACK (12 + p)) 1))) ∧
  (∀ (s : State) (p : Fin 12), s.awake = true → s.linkState (12 + p) = 5 → s.refDown (12 + p) = false → ∃ e : State,
    exec (.tc10WakeDetect p) s = .next (s.after e) ∧ e.linkState (12 + p) = 2) ∧
  (∀ (s : State) (q : Sender) (c45 : Bool) (prtad devad : Fin 32) (data : BitVec 16), s.reaches q Reg.MAC_MDIO_CMD →
    ∃ t : Nat → Bool → BitVec 16 → State,
    exec (.mdioAddress q prtad devad data) s = .next (s.did q Reg.MAC_MDIO_CMD (t 0 true data)) ∧
    exec (.mdioWrite q c45 prtad devad data) s = .next (s.did q Reg.MAC_MDIO_CMD (t 1 c45 data)) ∧
    exec (.mdioRead q c45 prtad devad) s = .next (s.did q Reg.MAC_MDIO_CMD (t 3 c45 0)) ∧
    exec (.mdioReadIncrement q prtad devad) s = .next (s.did q Reg.MAC_MDIO_CMD (t 2 true 0)) ∧
    (∀ (op : Nat) (c : Bool) (d : BitVec 16), op < 4 → s.on .MAC_MDIO_CMD_BUSY = false → s.mac.mdio = none → s.mac.mdioWait = [] →
      (t op c d).on .MAC_MDIO_CMD_BUSY = true ∧ (t op c d).out = .mdio op c prtad devad d.toNat :: s.out) ∧
    (∀ (op : Nat) (c : Bool) (d : BitVec 16), s.on .MAC_MDIO_CMD_BUSY = true →
      t op c d = (s.begun q.req).wf .MAC_MDIO_DATA_LOST 1)) ∧
  (∀ (s : State) (w : Word) (data : BitVec 16), s.awake = true → s.mac.mdio = some (.cmd w) → ∃ e : State,
    exec (.mdioFrameDone data) s = .next (s.after e.mdioNext) ∧ e.mac.mdio = none ∧ e.on .MAC_MDIO_CMD_BUSY = false ∧
    (2 ≤ fldGet w 28 2 → e.rf .MAC_MDIO_DATA_DATA = data.toNat ∧ e.on .MAC_MDIO_DATA_VALID = true)) ∧
  (∀ (s : State), s.awake = true → exec .mdioPoll s = .next (s.after (s.each (List.range 4) State.mdioPollPort))) ∧
  (∀ (s : State) (n : Fin 4), s.awake = true → ∃ e : State,
    exec (.extPhyInterrupt n) s = .next (s.after (e.mdioPollPort n)) ∧ e.rf (.MAC_INT_EXT_PHY n) = 1)

/-- In an awake device these complete. FRAME_ARRIVAL on a port in UP makes a frame of the next number, entered at
that port with no bytes and not ended; it is discarded from the start when FWD_EN = 0; no register changes.
CELL_ARRIVAL of an unended frame of an external port writes at most 256 bytes. The receive error counter of an ended
frame is RX_PHY_ERR, then RX_FCS_ERR, then RX_RUNT below 64 bytes, then RX_OVERSIZE above MAX_FRAME, the first that
applies, or none. FRAME_END with an error counts it and removes the frame's copies; without one it counts the frame
and its octets in RX_FRAMES_OK and RX_OCTETS_OK and marks it ended; then a failed frame-length check is MALF_LATE.
ICV_VERIFIED of a finished job that no earlier frame of its SA waits before, its SA entry intact: where the Pan computes it
wrongly or the ICV over the frame differs, it counts against the SA and the Pan and kills the frame; a good one that fails
the second replay check counts as late and kills it; a good one that passes makes the frame ready for dispatch, as its
decrypted bytes, in the class that they show. A frame whose fragments do
not assemble counts RX_ASSEMBLY_ERR instead. FIRMWARE_FRAME_SEND while the firmware runs enters a whole frame on port 24
in its class, or keeps it behind those that are held while the port's back-pressure holds. -/
def Obligations.FrameReception : Prop :=
  (∀ (s : State) (n : Fin 24), s.awake = true → s.portUp n = true → ∃ (f : Frame) (e : State),
    exec (.frameArrival n) s = .next (s.after e) ∧ e.frame s.nextFid = some f ∧ e.nextFid = s.nextFid + 1 ∧ e.regs = s.regs ∧
    f.inPort = n ∧ f.bytes = [] ∧ f.ended = false ∧ f.dropped = !s.fwdEn ∧ f.rxDist = s.d48 ∧
    (s.rf (.TIM_PORT_CFG_RX_LAT n) = 0 → f.rxWc = s.tim.wc % clkMod) ∧
    ∀ k, k ≠ s.nextFid → e.frame k = s.frame k) ∧
  (∀ (s : State) (fid : Nat) (b : List Byte) (f : Frame), s.awake = true → s.frame fid = some f → f.ended = false → f.inPort < 24 →
    exec (.cellArrival fid b) s = .next (s.after (s.writeBytes fid (b.take 256)))) ∧
  (∀ (s : State) (n len : Nat) (fcsOk phyErr : Bool),
    (phyErr = true → s.rxError n len fcsOk phyErr = some 8) ∧
    (phyErr = false → fcsOk = false → s.rxError n len fcsOk phyErr = some 5) ∧
    (phyErr = false → fcsOk = true → len + 4 < 64 → s.rxError n len fcsOk phyErr = some 6) ∧
    (phyErr = false → fcsOk = true → 64 ≤ len + 4 → s.rf (.MAC_PORT_CFG_MAX_FRAME n) < len + 4 → s.rxError n len fcsOk phyErr = some 7) ∧
    (phyErr = false → fcsOk = true → 64 ≤ len + 4 → len + 4 ≤ s.rf (.MAC_PORT_CFG_MAX_FRAME n) → s.rxError n len fcsOk phyErr = none)) ∧
  (∀ (s : State) (fid : Nat) (fcsOk phyErr frags : Bool) (f : Frame), s.awake = true → s.frame fid = some f → f.ended = false →
    let run (asm : Bool) (t : State) : Prop := exec (.frameEnd fid fcsOk ⟨phyErr, frags, asm⟩) s = .next (s.after t)
    (f.inPort < 20 → ∃ u : State, run true (u.killFrame fid) ∧ u.frame fid = some { f with ended := true, bad := true } ∧
      u.cget (Ctr.mac f.inPort 12) = (s.cget (Ctr.mac f.inPort 12) + 1) % 2 ^ 64) ∧
    (∀ i, s.rxError f.inPort f.bytes.length fcsOk phyErr = some i → ∃ u : State, run false (u.killFrame fid) ∧
      u.frame fid = some { f with ended := true, bad := true } ∧
      u.cget (Ctr.mac f.inPort i) = (s.cget (Ctr.mac f.inPort i) + 1) % 2 ^ 64) ∧
    (s.rxError f.inPort f.bytes.length fcsOk phyErr = none → be16 f.bytes 12 ≠ 0x8808 → f.dropped = false → ∃ u : State,
      u.frame fid = some { f with ended := true } ∧ u.regs = s.regs ∧
      u.cget (Ctr.mac f.inPort 1) = (s.cget (Ctr.mac f.inPort 1) + 1) % 2 ^ 64 ∧
      u.cget (Ctr.mac f.inPort 0) = (s.cget (Ctr.mac f.inPort 0) + f.bytes.length + 4) % 2 ^ 64 ∧
      (f.stage = .verify → run false (u.macsecReceive fid)) ∧
      (f.stage ≠ .verify → ∀ c, lenVerdict f.checks f.bytes.length = some c → run false (u.lateFail fid c)) ∧
      (f.stage ≠ .verify → f.stage ≠ .measure → lenVerdict f.checks f.bytes.length = none → run false (u.settle fid)) ∧
      (f.stage = .measure → lenVerdict f.checks f.bytes.length = none → run false ((u.finish8 fid).settle fid)))) ∧
  (∀ (s : State) (fid : Nat) (ok : Bool) (err : List Byte) (f : Frame) (p : Fin 4) (t : SecTag) (j : SecJob), s.awake = true →
    s.frame fid = some f → f.stage = .verify → s.verifyOlder f = false →
    s.cph.verdicts.find? (fun v => v.1 = fid) = some (fid, (p : Nat)) → (∀ k : Fin 4, ∀ x, s.panJob k = some x → x.work ≠ .ingress fid) →
    f.secJob = some j → secTag f.bytes = some t → s.eccAt .cph (2 * 1024 + j.sa) = 0 →
    let u := s.cipher fun x => { x with verdicts := x.verdicts.erase (fid, (p : Nat)) }
    let o := j.open t f.bytes
    (ok = false ∨ o.1 = false →
      exec (.icvVerified fid ok err) s = .next (s.after (((u.cinc (Ctr.sa j.sa 2)).icvFail p).killFrame fid))) ∧
    (ok = true → o.1 = true → s.replayLate f.inPort j.sa f.secPn = true →
      exec (.icvVerified fid ok err) s = .next (s.after ((u.cinc (Ctr.sa j.sa 3)).killFrame fid))) ∧
    (ok = true → o.1 = true → s.replayLate f.inPort j.sa f.secPn = false → ∃ (v : State) (g : Frame),
      exec (.icvVerified fid ok err) s = .next (s.after (v.ptpReceive fid)) ∧ v.frame fid = some g ∧ g.stage = .ready ∧
      v.cget (Ctr.sa j.sa 0) = (s.cget (Ctr.sa j.sa 0) + 1) % 2 ^ 64 ∧
      g.bytes = f.bytes.take 12 ++ faulty o.2.1 err ∧ g.cls = s.pcpClass f.inPort (s.vlanOf f.inPort g.bytes).2)) ∧
  (∀ (s : State) (c : Fin 8) (b : List Byte) (oneStep : Bool), s.awake = true → s.on .TOP_STATE_CCX_RESTART = false →
    let v := { s with ccx := { s.ccx with mkaSent := s.ccx.mkaSent + b2n ((b.drop 12).take 2 == [0x88, 0x8E]) } }
    let u := (v.newFrame 24 c oneStep).2
    (s.heldFrames 24 = [] → s.mayEnter 24 c b.length = true → exec (.firmwareFrameSend c b oneStep) s =
      .next (s.after (((u.writeBytes s.nextFid b).modFrame s.nextFid (fun f => { f with ended := true })).settle s.nextFid))) ∧
    (s.heldFrames 24 ≠ [] ∨ s.mayEnter 24 c b.length = false → ∃ e : State, exec (.firmwareFrameSend c b oneStep) s = .next (s.after e) ∧
      e.heldFrames 24 = s.heldFrames 24 ++ [((c : Nat), b, oneStep)] ∧ e.frames = s.frames ∧ e.regs = s.regs ∧ e.ctr = s.ctr) ∧
    ∃ f : Frame, u.frame s.nextFid = some f ∧ f.inPort = 24 ∧ f.cls = c ∧ f.oneStep = oneStep)

/-- The frame that dispatch takes is ready and, by the half-range comparison of R14 over frames within half the range of
each other, no ready frame has an earlier stage 1 timestamp, or the same one and a lower entry port; it goes to the first free Rake after the one assigned last. In an awake device these complete.
RAKE_DISPATCH with a ready frame, a free Rake and an intact entry table entry starts the program at its entry with
the outer Ethernet header taken. RAKE_STALL_END of a Rake whose byte is there runs its instruction.
KEY_RECORD_WRITTEN of an ended Rake frees it, counts frame, cycles and stalls, and passes the key record on.
SESSION_CREATION_WRITE writes the oldest held creation that finds room and counts it. FORWARDING_DECISION takes
stage 9 of the oldest frame of its entry port, once stages 5 to 8 have run for it. RECIRCULATION_PASS with
port 28 not held and the copy's cells readable puts the frame that leaves on port 28 back to stage 3 with the bytes of that copy, one more pass and the
entry its mark names, keeping its input port, order and epoch, and its past pass for the copies that still wait. LEARNING_REQUEST takes the oldest request whose frame has ended. -/
def Obligations.PipelineStages : Prop :=
  (∀ (s : State) (fid : Nat) (f : Frame), s.nextReady = some (fid, f) → (fid, some f) ∈ s.frames ∧ f.dispatchable = true ∧
    ∀ lo : Nat, let age (g : Frame) : Nat := (g.rxTime + 2 ^ 64 - lo) % 2 ^ 64
      lo < 2 ^ 64 → (∀ k g, (k, some g) ∈ s.frames → g.dispatchable = true → g.rxTime < 2 ^ 64 ∧ age g < 2 ^ 63) →
      ∀ k g, (k, some g) ∈ s.frames → g.dispatchable = true → age f < age g ∨ age f = age g ∧ f.entryPort ≤ g.entryPort) ∧
  (∀ (s : State) (r : Fin 32), s.freeRake = some r → s.eng (.rake r) = none ∧ ∃ i, i < 32 ∧ r = Fin.ofNat 32 (s.rak.last + 1 + i) ∧
    ∀ j, j < i → (s.eng (.rake (Fin.ofNat 32 (s.rak.last + 1 + j)))).isSome = true) ∧
  (∀ (s : State) (fid : Nat) (f : Frame) (r : Fin 32) (g : Eng) (len start : Nat), s.awake = true → s.nextReady = some (fid, f) →
    s.freeRake = some r →
    let u := { s.setFrame fid (some { f with stage := .parsing r.val }) with rak := { s.rak with last := r.val } }
    hdrOuter (u.hdrCtx (Eng.start fid f)) (Eng.start fid f) = .took g len → s.eccAt .entry (s.entryOf f) = 0 →
    spGet (fun _ => none) s.rak.entries (s.entryOf f) = some start →
    exec .rakeDispatch s = .next (s.after (u.isaReady (.rake r) { g with pc := start }))) ∧
  (∀ (s : State) (r : Fin 32) (g : Eng) (need : Nat), s.awake = true → s.eng (.rake r) = some g → g.status = .stalled need →
    need ≤ (s.frameOf g).1.length ∨ (s.frameOf g).2 = true →
    exec (.rakeStallEnd r) s = .next (s.after ((s.setEng (.rake r) (some { g with
      stall := g.stall + (s.cycles - g.stallAt), cycles := g.cycles + (s.cycles - g.stallAt), status := .run })).isaExec (.rake r)))) ∧
  (∀ (s : State) (r : Fin 32) (g : Eng), s.awake = true → s.eng (.rake r) = some g → g.status = .ended → ∃ u : State,
    exec (.keyRecordWritten r) s = .next (s.after (u.keyRecord r g.fid g.key g.outcome g.checks
      (match g.outcome with | .normal => g.recirc | _ => none) g.key.user |>.settle g.fid)) ∧ u.eng (.rake r) = none ∧
    u.cget (Ctr.rak 0) = (s.cget (Ctr.rak 0) + 1) % 2 ^ 64 ∧ u.cget (Ctr.rak 1) = (s.cget (Ctr.rak 1) + g.cycles) % 2 ^ 64 ∧
    u.cget (Ctr.rak 2) = (s.cget (Ctr.rak 2) + g.stall) % 2 ^ 64 ∧ u.frames = s.frames ∧
    u.rf .RAK_MAX_CYCLES_CYCLES = max (s.rf .RAK_MAX_CYCLES_CYCLES) (min g.cycles 0xFFFFFF)) ∧
  (∀ (s : State) (x : Sess) (rest : List Sess) (i : Nat), s.awake = true → s.flushUp.cls.held = x :: rest →
    let u := { s.flushUp with cls := { s.flushUp.cls with held := rest } }.sessProbe x.key
    u.sessFind x.key = none → u.sessFreeBut [] x.key = some i →
    exec .sessionCreationWrite s = .next (s.after ((u.sessPut i (some x)).cinc (Ctr.fwl 2)))) ∧
  (∀ (s : State) (p : Fin 30) (fid : Nat) (f : Frame), s.awake = true → s.oldest p = some (fid, f) → f.stage = .decide →
    exec (.forwardingDecision p) s = .next (s.after (s.decide9 fid f))) ∧
  (∀ (s : State) (c : Copy) (f : Frame), s.awake = true → s.onWire 28 = some c → c.port = 28 → s.held 28 = false →
    let r := s.readCopy 28
    r.1 = false → r.2.onWire 28 = some c → r.2.frame c.fid = some f → r.2.fwdEn = true → r.2.held 28 = false →
    exec .recirculationPass s = .next (s.after ((r.2.setWire 28 none).setFrame c.fid (some { f with
      bytes := r.2.leaving c, past := f.past ++ [⟨f.bytes, f.passes, f.key, f.verdict, f.epoch⟩], refs := f.refs - 1, ownDesc := true, passes := f.passes + 1, stage := .ready, entry := f.verdict.recirc.join })))) ∧
  (∀ (s : State) (r : LearnReq), s.awake = true →
    s.cel.learn.find? s.learnReady = some r → r.copy = false → r.learn = true →
    exec .learningRequest s = .next (s.after (((s.walksUp.cellar fun x => { x with learn := x.learn.erase r }).learnApply r).settle r.fid)))

/-- Selection among classes takes the highest eligible strict-priority class and changes nothing else when it does;
with no eligible class it takes none. In an awake device these complete. TRANSMISSION_SELECTION on an internal port
whose wire is free gives the selected class its begin. MACSEC_EGRESS_DISPATCH of the oldest egress job of its port:
with no Pan in service it is refused; a job of a class paused meanwhile is withdrawn; where the gate check, now with no
guard, fails, the job is withdrawn before it takes a PN and GUARD_MISS is counted; where the SA cannot be used the copy is
dropped and DISCARD of the SA counted; else a Pan takes the job with the SA's next PN, which then counts on, and the copy
begins, or waits beside its queue until its wire is free. TRANSMIT_END first reads the copy's cells: an uncorrectable one
makes the whole frame bad, its begun copies stomped and the others removed. Else an ended,
unprotected, store-and-forward copy on an external port leaves padded to 60 bytes and is counted and released; on port 24
it goes to the firmware with its metadata; a copy whose consumer's block is in reset is dropped at the boundary; on ports
25 to 29 the copy goes to its consumer. -/
def Obligations.EgressStages : Prop :=
  (∀ (s : State) (e p k : Nat) (cs : List Nat), k ∈ cs → bitAt (s.rf (.SCH_PORT_CFG_SP e)) k = true → s.eligible e k = true →
    cs.Pairwise (· < ·) → (∀ j ∈ cs, k < j → ¬ (bitAt (s.rf (.SCH_PORT_CFG_SP e)) j = true ∧ s.eligible e j = true)) →
    s.choose e p cs = (some k, s)) ∧
  (∀ (s : State) (e p : Nat) (cs : List Nat), (∀ j ∈ cs, s.eligible e j = false) → s.choose e p cs = (none, s)) ∧
  (∀ (s : State) (e : Fin 30) (k : Nat) (t : State), s.awake = true → 24 ≤ (e : Nat) → s.onWire e = none → s.preemptedOn e = none →
    s.stagedReady e = none → s.egressJob e 0 = false → s.choose e 0 (List.range 8) = (some k, t) →
    exec (.transmissionSelection e) s = .next (s.after (t.selected e k))) ∧
  (∀ (s : State) (e : Fin 24) (fid k : Nat) (c : Copy) (rest : List Copy) (f : Frame), s.awake = true →
    s.cph.waiting.find? (fun j => j.cls = 0) = some (.egress e fid k) → s.queue (e * 8 + k) = c :: rest → c.fid = fid →
    s.frame fid = some f →
    let run (t : State) : Prop := exec (.macsecEgressDispatch e) s = .next (s.after t)
    let j := JobOf.egress e fid k
    let t := s.txRead e
    let a := t.txSa e
    let r := t.txSaOk a
    (s.anyPan = false → run ((((s.jobDrop j).setQueue (e * 8 + k) rest).cinc (Ctr.secy e 5)).releaseCopy c)) ∧
    (s.anyPan = true → s.paused e k = true ∨ s.egressOn e = false ∨ s.fwdEn = false → run (s.jobDrop j)) ∧
    (s.anyPan = true → s.paused e k = false → s.egressOn e = true → s.fwdEn = true →
      (s.gateSpan e k (s.copyTime c) = false → run ((s.jobDrop j).cinc (Ctr.secy e 4))) ∧
      (s.gateSpan e k (s.copyTime c) = true → t.protects c = false → run (t.jobDrop j)) ∧
      (s.gateSpan e k (s.copyTime c) = true → t.protects c = true →
        (r.1 = false → run ((((r.2.jobDrop j).setQueue (e * 8 + k) rest).cinc (Ctr.sa a 4)).releaseCopy c)) ∧
        ∀ p u, r.1 = true → r.2.panFor j = (some p, u) →
          let v := u.takePn e a
          let x := u.txJob e a v.1
          let w := v.2.panStart p j (some (u.saSlot a)) x.iv
          let d := { c with macsec := some x }
          (w.wireFor e k = true → run ((w.ctlClear e).beginCopy d f)) ∧
          (w.wireFor e k = false → run ((w.takeHead d).setStaged e (w.part e k) (some d)))))) ∧
  (∀ (s : State) (e a : Nat), (s.takePn e a).1 = s.saNext a) ∧
  (∀ (s : State) (e : Fin 24) (c : Copy) (f : Frame) (bufs : List Nat) (collisions : Nat), s.awake = true → s.onWire e = some c →
    s.frame c.fid = some f → f.ended = true → c.port = e → c.cut = false → c.macsec = none →
    let t := if 20 ≤ (e : Nat) then s.cadd (Ctr.mac e 26) collisions else s
    let r := t.readCopy e
    let m := r.2.macRead e (24 + e) (r.2.leaving c ++ List.replicate (60 - (r.2.leaving c).length) 0)
    (r.1 = false → exec (.transmitEnd (e.castAdd 6) ⟨bufs, collisions⟩) s =
      .next (s.after ((((m.2.setWire e none).emit (.frame e m.1 false)).txCount e m.1).releaseCopy c))) ∧
    (r.1 = true → exec (.transmitEnd (e.castAdd 6) ⟨bufs, collisions⟩) s = .next (s.after (r.2.killFrame c.fid)))) ∧
  (∀ (s : State) (c : Copy) (f : Frame) (bufs : List Nat) (n : Nat), s.awake = true → s.onWire 24 = some c → c.port = 24 → s.frame c.fid = some f →
    let r := s.readCopy 24
    let b := r.2.leaving c
    let u := { r.2 with ccx := { r.2.ccx with scratch := (b ++ r.2.ccx.scratch).take 180224 } }
    r.1 = false → exec (.transmitEnd 24 ⟨bufs, n⟩) s = .next (s.after
      (((u.setWire 24 none).emit (.toFirmware (metaRecord c (f.at c.pass) b.length) b)).releaseCopy c))) ∧
  (∀ (s : State) (e : Fin 30) (c : Copy) (bufs : List Nat) (n : Nat), s.awake = true → s.onWire e = some c → s.copyDown c = true →
    exec (.transmitEnd e ⟨bufs, n⟩) s = .next (s.after ((s.setWire e none).dropAtBoundary c))) ∧
  (∀ (s : State) (e : Fin 30) (bufs : List Nat) (n : Nat), s.awake = true → 25 ≤ (e : Nat) → (s.onWire e).any s.copyDown = false →
    let r := s.readCopy e
    let run (t : State) : Prop := exec (.transmitEnd e ⟨bufs, n⟩) s = .next (s.after t)
    (r.1 = false → ((e = 25 ∨ e = 29) → run (r.2.rxDeliver e bufs)) ∧ (e = 26 → run r.2.decap) ∧ (e = 27 → run r.2.strongRecord) ∧
      (e = 28 → run r.2.recirculate)) ∧
    (r.1 = true → run (r.2.cellLost e)))

/-- On a serving engine whose instance is about to execute it, each of these completes with the second operand b as
IMM or W[RB]: ADD, SUB, AND, OR, XOR, SHL and SHR write rd modulo 2^32; ADD and SUB set Z, N and C, the others Z and
N with C clear; CMP and TST write no register and set flags from ra − b and from ra AND b; MOV and EXT (a field of 1
to 32 bits) write rd and leave the flags; RDS writes the special register that X names; NOP writes nothing; SETCUR
sets CUR modulo 2^16 and clears L2POS; OLEN of 0 to 2,176 sets the output length. EXT with another length, RDS of
another X and a larger OLEN are execution fault 3. After each, the next word is reached: the program counter is one
more, one instruction and the stated cycles are counted, and nothing else of the machine changes, where that word is
in the program, intact and legal and the limit is not reached. -/
def Obligations.RakeArithmetic : Prop :=
  (∀ (s : State) (e : EngId) (g : Eng) (x : IWord),
    let a := g.reg x.ra
    let b := g.opB x
    let alu (r : Word) (c : Bool) : Host.Outcome State Fault Refusal := .next (s.after (s.isaNext e ((g.flags r c).setReg x.rd r) 1))
    (s.runs e 0x01 g x → exec (.add e) s = alu (a + b) (decide (2 ^ 32 ≤ a.toNat + b.toNat))) ∧
    (s.runs e 0x02 g x → exec (.sub e) s = alu (a - b) (decide (a.toNat < b.toNat))) ∧
    (s.runs e 0x03 g x → exec (.and e) s = alu (a &&& b) false) ∧
    (s.runs e 0x04 g x → exec (.or e) s = alu (a ||| b) false) ∧
    (s.runs e 0x05 g x → exec (.xor e) s = alu (a ^^^ b) false) ∧
    (s.runs e 0x06 g x → exec (.shl e) s = alu (a <<< (b.toNat % 32)) false) ∧
    (s.runs e 0x07 g x → exec (.shr e) s = alu (a >>> (b.toNat % 32)) false) ∧
    (s.runs e 0x08 g x → exec (.mov e) s = .next (s.after (s.isaNext e (g.setReg x.rd b) 1))) ∧
    (s.runs e 0x09 g x → 1 ≤ x.imm.toNat % 64 → x.imm.toNat % 64 ≤ 32 → exec (.ext e) s = .next (s.after
      (s.isaNext e (g.setReg x.rd ((a >>> (x.x % 32)) &&& BitVec.ofNat 32 (2 ^ (x.imm.toNat % 64) - 1))) 1))) ∧
    (s.runs e 0x09 g x → x.imm.toNat % 64 = 0 ∨ 32 < x.imm.toNat % 64 → exec (.ext e) s = .next (s.after (s.isaFault e g 3))) ∧
    (s.runs e 0x0A g x → exec (.cmp e) s = .next (s.after (s.isaNext e (g.flags (a - b) (decide (a.toNat < b.toNat))) 1))) ∧
    (s.runs e 0x0B g x → exec (.tst e) s = .next (s.after (s.isaNext e (g.flags (a &&& b) false) 1))) ∧
    (s.runs e 0x0C g x → ∀ v, s.special e g x.x = some v → exec (.rds e) s = .next (s.after
      (s.isaNext e (g.setReg x.rd (BitVec.ofNat 32 v)) 1))) ∧
    (s.runs e 0x0C g x → s.special e g x.x = none → exec (.rds e) s = .next (s.after (s.isaFault e g 3))) ∧
    (s.runs e 0x15 g x → exec (.nop e) s = .next (s.after (s.isaNext e g 1))) ∧
    (s.runs e 0x24 g x → exec (.setcur e) s = .next (s.after (s.isaNext e
      { g with cur := (if x.cr then g.cur + b.toNat else b.toNat) % 65536, l2pos := false } 1))) ∧
    (s.runs e 0x3B g x → ∀ v, s.gwe.event = some v →
      (b.toNat ≤ 2176 → exec (.olen e) s =
        .next (s.after ((s.gway fun y => { y with event := some { v with olen := b.toNat } }).isaNext e g 1))) ∧
      (2176 < b.toNat → exec (.olen e) s = .next (s.after (s.isaFault e g 3))))) ∧
  (∀ (g : Eng) (r : Word) (c : Bool), (g.flags r c).z = decide (r = 0) ∧ (g.flags r c).n = r.msb ∧ (g.flags r c).c = c ∧
    (g.flags r c).v = g.v ∧ (g.flags r c).w = g.w ∧ (g.flags r c).pc = g.pc) ∧
  (∀ (g : Eng) (i j : Nat) (v : Word), g.w.length = 16 → i < 16 → (g.setReg i v).reg j = if j = i then v else g.reg j) ∧
  (∀ (g : Eng) (x : IWord), (x.i = true → g.opB x = x.imm) ∧ (x.i = false → g.opB x = g.reg x.rb)) ∧
  (∀ (s : State) (e : EngId) (g : Eng) (n : Nat), s.fetchable e (g.pc + 1) (g.icount + 1) → s.isaNext e g n =
    s.setEng e (some { g with pc := g.pc + 1, icount := g.icount + 1, cycles := g.cycles + n, status := .run }))

/-- On a serving engine whose instance is about to execute it, BR with a condition of CX 0 to 8 and IMM below 2^14
branches to IMM in 2 cycles when the condition holds and goes on in 1 cycle when it does not; the condition is
always, Z = 1, Z = 0, N = 1, N = 0, C = 1, C = 0, V = 1, V = 0 in the order of CX; with CX 9 to 15 it is execution
fault 3. Beside it: CALL with room pushes the next address and branches in 2 cycles, with 4 entries it is execution
fault 5; RET pops and branches, with none it is fault 5; BRX branches to IMM + W[RA] when W[RA] ≤ X. An IMM of 2^14
or more is fault 3 in each that takes one. -/
def Obligations.RakeBranchConditions : Prop :=
  (∀ (s : State) (e : EngId) (g : Eng) (x : IWord), s.runs e 0x10 g x → x.imm.toNat < 2 ^ 14 →
    (∀ holds : Bool, ([(0, true), (1, g.z), (2, !g.z), (3, g.n), (4, !g.n), (5, g.c), (6, !g.c), (7, g.v), (8, !g.v)] : List (Nat × Bool)).find?
        (fun y => y.1 = x.cx) = some (x.cx, holds) →
      exec (.br e) s = .next (s.after (if holds then s.isaGo e g x.imm.toNat 2 else s.isaGo e g (g.pc + 1) 1))) ∧
    (9 ≤ x.cx → exec (.br e) s = .next (s.after (s.isaFault e g 3)))) ∧
  (∀ (s : State) (e : EngId) (g : Eng) (x : IWord), s.runs e 0x10 g x → 2 ^ 14 ≤ x.imm.toNat →
    exec (.br e) s = .next (s.after (s.isaFault e g 3))) ∧
  (∀ (s : State) (e : EngId) (g : Eng) (x : IWord), s.runs e 0x11 g x →
    (x.imm.toNat < 2 ^ 14 → g.stack.length < 4 → exec (.call e) s = .next (s.after
      (s.isaGo e { g with stack := (g.pc + 1) :: g.stack } x.imm.toNat 2))) ∧
    (x.imm.toNat < 2 ^ 14 → 4 ≤ g.stack.length → exec (.call e) s = .next (s.after (s.isaFault e g 5))) ∧
    (2 ^ 14 ≤ x.imm.toNat → exec (.call e) s = .next (s.after (s.isaFault e g 3)))) ∧
  (∀ (s : State) (e : EngId) (g : Eng) (x : IWord), s.runs e 0x12 g x →
    (∀ p l, g.stack = p :: l → exec (.ret e) s = .next (s.after (s.isaGo e { g with stack := l } p 2))) ∧
    (g.stack = [] → exec (.ret e) s = .next (s.after (s.isaFault e g 5)))) ∧
  (∀ (s : State) (e : EngId) (g : Eng) (x : IWord), s.runs e 0x13 g x →
    (x.imm.toNat < 2 ^ 14 → (g.reg x.ra).toNat ≤ x.x → exec (.brx e) s = .next (s.after
      (s.isaGo e g (x.imm.toNat + (g.reg x.ra).toNat) 2))) ∧
    (x.imm.toNat < 2 ^ 14 → x.x < (g.reg x.ra).toNat → exec (.brx e) s = .next (s.after (s.isaGo e g (g.pc + 1) 1))) ∧
    (2 ^ 14 ≤ x.imm.toNat → exec (.brx e) s = .next (s.after (s.isaFault e g 3)))) ∧
  (∀ (s : State) (e : EngId) (g : Eng) (pc n : Nat), s.fetchable e pc (g.icount + 1) → s.isaGo e g pc n =
    s.setEng e (some { g with pc := pc, icount := g.icount + 1, cycles := g.cycles + n, status := .run }))

/-- On a serving engine whose instance is about to execute it, LD of 1, 2 or 4 bytes completes: inside its space it
writes the zero-extended value to rd and sets V to 0 — the window in network order from the bytes of the frame, the
key record and the context little-endian, and the gateway's frame buffers in network order —; with a byte below 0,
at or beyond the limit of the space, or past the end of an ended frame, it writes 0 and sets V; a window byte below
the limit that has not arrived stalls the Rake. ST completes: a Rake stores to key record bytes 60 to 63, which
makes USER, and the gateway to context bytes 128 to 511 of its event and to its output buffer; any other byte is
execution fault 6. SZ 3, and a space that the profile lacks, are fault 3. -/
def Obligations.RakeLoadsAndStores : Prop :=
  (∀ (s : State) (e : EngId) (g : Eng) (x : IWord) (a : Int), s.runs e 0x20 g x → x.sz < 3 → accAddr e g x = some a →
    (∀ v, s.isaLoad e g x.cx a x.size = .value v → exec (.ld e) s = .next (s.after
      (s.isaNext e ({ g with v := false }.setReg x.rd (BitVec.ofNat 32 v)) 1))) ∧
    (s.isaLoad e g x.cx a x.size = .out → exec (.ld e) s = .next (s.after (s.isaNext e ({ g with v := true }.setReg x.rd 0) 1))) ∧
    (∀ need, s.isaLoad e g x.cx a x.size = .stall need → exec (.ld e) s = .next (s.after
      (s.setEng e (some { g with status := .stalled need, stallAt := s.cycles })))) ∧
    (s.isaLoad e g x.cx a x.size = .bad → exec (.ld e) s = .next (s.after (s.isaFault e g 3)))) ∧
  (∀ (s : State) (r : Fin 32) (g : Eng) (f : Frame) (a : Int) (n : Nat), s.frame g.fid = some f →
    (a < 0 ∨ s.winOf g < a.toNat + n → s.isaLoad (.rake r) g 0 a n = .out) ∧
    (0 ≤ a → a.toNat + n ≤ s.winOf g → a.toNat + n ≤ f.bytes.length → s.isaLoad (.rake r) g 0 a n = .value (fbe f.bytes a.toNat n)) ∧
    (0 ≤ a → a.toNat + n ≤ s.winOf g → f.bytes.length < a.toNat + n → f.ended = true → s.isaLoad (.rake r) g 0 a n = .out) ∧
    (0 ≤ a → a.toNat + n ≤ s.winOf g → f.bytes.length < a.toNat + n → f.ended = false →
      s.isaLoad (.rake r) g 0 a n = .stall (a.toNat + n)) ∧
    (0 ≤ a → a.toNat + n ≤ 64 → s.isaLoad (.rake r) g 1 a n = .value (ofBytesLE ((g.key.bytes.drop a.toNat).take n))) ∧
    (a < 0 ∨ 64 < a.toNat + n → s.isaLoad (.rake r) g 1 a n = .out) ∧
    ∀ sp, 2 ≤ sp → s.isaLoad (.rake r) g sp a n = .bad) ∧
  (∀ (s : State) (g : Eng) (v : GwEvent) (a : Int) (n : Nat), s.gwe.event = some v →
    (0 ≤ a → a.toNat + n ≤ 2176 → s.isaLoad .gateway g 0 a n = .value (fbe v.input a.toNat n) ∧
      s.isaLoad .gateway g 2 a n = .value (ofBytesBE (s.outBytes a.toNat n))) ∧
    (a < 0 ∨ 2176 < a.toNat + n → s.isaLoad .gateway g 0 a n = .out ∧ s.isaLoad .gateway g 2 a n = .out) ∧
    (0 ≤ a → a.toNat + n ≤ 512 → s.isaLoad .gateway g 1 a n = .value (ofBytesLE ((v.ctx.drop a.toNat).take n))) ∧
    (a < 0 ∨ 512 < a.toNat + n → s.isaLoad .gateway g 1 a n = .out) ∧
    ∀ sp, 3 ≤ sp → s.isaLoad .gateway g sp a n = .bad) ∧
  (∀ (s : State) (r : Fin 32) (g : Eng) (x : IWord) (a : Int), s.runs (.rake r) 0x21 g x → x.sz < 3 → accAddr (.rake r) g x = some a →
    (x.cx = 1 → 60 ≤ a → a.toNat + x.size ≤ 64 → exec (.st (.rake r)) s = .next (s.after (s.isaNext (.rake r)
      { g with key := { g.key with user := BitVec.ofNat 32 (ofBytesLE (putBytes (bytesLE 4 g.key.user.toNat) (a.toNat - 60)
        (bytesLE x.size (g.reg x.rb).toNat))) } } 1))) ∧
    (x.cx = 1 → a < 60 ∨ 64 < a.toNat + x.size → exec (.st (.rake r)) s = .next (s.after (s.isaFault (.rake r) g 6))) ∧
    (x.cx = 0 → exec (.st (.rake r)) s = .next (s.after (s.isaFault (.rake r) g 6))) ∧
    (2 ≤ x.cx → exec (.st (.rake r)) s = .next (s.after (s.isaFault (.rake r) g 3)))) ∧
  (∀ (s : State) (g : Eng) (x : IWord) (a : Int) (v : GwEvent), s.runs .gateway 0x21 g x → x.sz < 3 → accAddr .gateway g x = some a →
    s.gwe.event = some v →
    (x.cx = 1 → 128 ≤ a → a.toNat + x.size ≤ 512 → ∃ w : GwEvent, exec (.st .gateway) s = .next (s.after
      ((s.gway fun y => { y with event := some w }).isaNext .gateway g 1)) ∧
      w.ctx = putBytes v.ctx a.toNat (bytesLE x.size (g.reg x.rb).toNat) ∧
      ∀ k, k ∈ w.dirty ↔ k ∈ v.dirty ∨ a.toNat ≤ k ∧ k < a.toNat + x.size) ∧
    (x.cx = 2 → 0 ≤ a → a.toNat + x.size ≤ 2176 → exec (.st .gateway) s = .next (s.after
      ((s.putOut a.toNat (bytesBE x.size (g.reg x.rb).toNat)).isaNext .gateway g 1))) ∧
    (x.cx = 1 → a < 128 ∨ 512 < a.toNat + x.size → exec (.st .gateway) s = .next (s.after (s.isaFault .gateway g 6))) ∧
    (x.cx = 2 → a < 0 ∨ 2176 < a.toNat + x.size → exec (.st .gateway) s = .next (s.after (s.isaFault .gateway g 6))) ∧
    (x.cx = 0 → exec (.st .gateway) s = .next (s.after (s.isaFault .gateway g 6))) ∧
    (3 ≤ x.cx → exec (.st .gateway) s = .next (s.after (s.isaFault .gateway g 3)))) ∧
  (∀ (s : State) (e : EngId) (g : Eng) (x : IWord), x.sz = 3 →
    (s.runs e 0x20 g x → exec (.ld e) s = .next (s.after (s.isaFault e g 3))) ∧
    (s.runs e 0x21 g x → exec (.st e) s = .next (s.after (s.isaFault e g 3))))

/-- On a serving engine whose instance is about to execute it, each completes. HDR of a type up to 18: a step that
takes a header writes SEL to rd, sets Z from DONE and clears N and C, at 2 cycles and one per 16 bytes; one that
takes nothing writes SEL with Z set; a step whose bytes have not arrived stalls; a stop ends the pass with its
outcome; a type above 18 is fault 3. MALF with code 0xB to 0xD ends the pass MALFORMED with it, any other code is
fault 7. RECIRC marks the pass, naming entry IMM[5:0] when I = 1. END of a pass with no length checks left leaves
the key record to be written; END of an event writes W0 to W15 and then the context stores to its context. LKP
writes the first matching result of its filter table, AUTH the result of the service, with a free number of cycles for
the wait (log entry 112: no rule gives it), SEND 0 when the copy is accepted and 1 when it is refused, an uncorrectable
Pantry word that they read being a hard fault; each sets Z when rd is 0 and clears N and C. -/
def Obligations.RakeProgramEndAndServices : Prop :=
  (∀ (s : State) (r : Fin 32) (g : Eng) (x : IWord), s.runs (.rake r) 0x30 g x →
    (18 < x.x % 32 → exec (.hdr (.rake r)) s = .next (s.after (s.isaFault (.rake r) g 3))) ∧
    (x.x % 32 ≤ 18 →
      (∀ g' len, hdrStep (s.hdrCtx g) g (x.x % 32) = .took g' len → exec (.hdr (.rake r)) s = .next (s.after (s.isaNext (.rake r)
        { g'.setReg x.rd (BitVec.ofNat 32 g'.sel) with z := g'.done, n := false, c := false } (2 + (len + 15) / 16)))) ∧
      (∀ g', hdrStep (s.hdrCtx g) g (x.x % 32) = .nothing g' → exec (.hdr (.rake r)) s = .next (s.after (s.isaNext (.rake r)
        { g'.setReg x.rd (BitVec.ofNat 32 g'.sel) with z := true, n := false, c := false } 2))) ∧
      (∀ need, hdrStep (s.hdrCtx g) g (x.x % 32) = .stall need → exec (.hdr (.rake r)) s = .next (s.after
        (s.setEng (.rake r) (some { g with status := .stalled need, stallAt := s.cycles })))) ∧
      ∀ o, hdrStep (s.hdrCtx g) g (x.x % 32) = .stop o → exec (.hdr (.rake r)) s = .next (s.after
        (s.passEnd r { g with icount := g.icount + 1, cycles := g.cycles + 2 } o)))) ∧
  (∀ (h : HdrCtx) (g : Eng) (t : Nat), g.key.frag = true ∨ g.secTag = true ∨ g.done = true ∧ t = 0 → hdrStep h g t = .nothing g) ∧
  (∀ (s : State) (r : Fin 32) (g : Eng) (x : IWord), s.runs (.rake r) 0x31 g x →
    (0xB ≤ x.imm.toNat % 16 → x.imm.toNat % 16 ≤ 0xD → exec (.malf (.rake r)) s = .next (s.after (s.setEng (.rake r) (some
      { g with icount := g.icount + 1, cycles := g.cycles + 1, outcome := .malf (x.imm.toNat % 16), checks := [], status := .ended })))) ∧
    (x.imm.toNat % 16 < 0xB ∨ 0xD < x.imm.toNat % 16 → exec (.malf (.rake r)) s = .next (s.after (s.isaFault (.rake r) g 7)))) ∧
  (∀ (s : State) (e : EngId) (g : Eng) (x : IWord), s.runs e 0x32 g x → exec (.recirc e) s = .next (s.after
    (s.isaNext e { g with recirc := some (if x.i then some (x.imm.toNat % 64) else none) } 1))) ∧
  (∀ (s : State) (r : Fin 32) (g : Eng) (x : IWord), s.runs (.rake r) 0x14 g x → g.checks = [] →
    exec (.endProg (.rake r)) s = .next (s.after (s.setEng (.rake r) (some
      { g with icount := g.icount + 1, cycles := g.cycles + 1, outcome := .normal, status := .ended })))) ∧
  (∀ (s : State) (g : Eng) (x : IWord) (v : GwEvent), s.runs .gateway 0x14 g x → s.gwe.event = some v →
    let g' := { g with icount := g.icount + 1, cycles := g.cycles + 1 }
    exec (.endProg .gateway) s = .next (s.after (s.eventEnd g' v)) ∧
    s.eventEnd g' v = ((s.pantryPuts (512 * v.chan) (g.w.flatMap (fun w => bytesLE 4 w.toNat))).each v.dirty
      (fun s o => s.pantryPuts (512 * v.chan + o) ((v.ctx.drop o).take 1))).sliceEnd g' v) ∧
  (∀ (s : State) (g : Eng) (x : IWord) (v : GwEvent), s.gwe.event = some v →
    let base := ofBytesLE ((v.ctx.drop 76).take 4)
    let count := ofBytesLE ((v.ctx.drop 80).take 2)
    (s.runs .gateway 0x38 g x → count ≤ 256 → base % 16 = 0 → pantryProg ≤ base → base + 16 * count ≤ pantryStage →
      let q := s.pantryCheck (0x1E0 + v.chan) base (16 * count)
      let y := BitVec.ofNat 32 (s.lookup base count (g.reg x.ra).toNat (g.reg x.rb).toNat)
      (q.1 = false → exec (.lkp .gateway) s = .next (s.after (q.2.isaNext .gateway ((g.setReg x.rd y).flagsZ y) 6))) ∧
      (q.1 = true → exec (.lkp .gateway) s = .next (s.after (q.2.isaHard .gateway g)))) ∧
    (s.runs .gateway 0x39 g x →
      let r := s.canAuth v (bitAt x.x 0)
      let y := BitVec.ofNat 32 r.1
      let u := r.2.2.gway fun z => { z with event := some { v with olen := r.2.1 } }
      (r.1 = 3 → exec (.auth .gateway) s = .next (s.after (u.isaNext .gateway ((g.setReg x.rd y).flagsZ y) 4))) ∧
      (r.1 ≠ 3 → exec (.auth .gateway) s = .next (s.after (u.draw.2.isaNext .gateway ((g.setReg x.rd y).flagsZ y) (4 + Config.free u.draws))))) ∧
    (s.runs .gateway 0x3A g x → let q := s.pantryCheck (0x1E0 + v.chan) (0x8000 + 64 * (x.imm.toNat % 64)) 40
      (x.x % 4 = 1 ∨ x.x % 4 = 2 → q.1 = true → exec (.send .gateway) s = .next (s.after (q.2.isaHard .gateway g))) ∧ ∀ r : Bool × State,
      (x.x % 4 = 0 → r = s.sendChannel (x.imm.toNat % 64) (s.outMsg v)) →
      (x.x % 4 = 1 → q.1 = false ∧ r = q.2.sendPort26 v.chan (x.imm.toNat % 64) false (s.outMsg v)) →
      (x.x % 4 = 2 → q.1 = false ∧ r = q.2.sendPort26 v.chan (x.imm.toNat % 64) true (s.outMsg v)) →
      (x.x % 4 = 3 → r = s.sendHatch (x.imm.toNat % 64) (s.outMsg v)) →
      let y : Word := if r.1 then 0 else 1
      exec (.send .gateway) s = .next (s.after (r.2.isaNext .gateway ((g.setReg x.rd y).flagsZ y) 2)))) ∧
  (∀ (g : Eng) (y : Word), (g.flagsZ y).z = decide (y = 0) ∧ (g.flagsZ y).n = false ∧ (g.flagsZ y).c = false) ∧
  (∀ (s : State) (base count key mask r : Nat), s.lookup base count key mask = r → r ≠ 0 → ∃ i, i < count ∧
    s.pantryLE (base + 16 * i + 8) 4 = r ∧
    ((key ^^^ s.pantryLE (base + 16 * i) 4) &&& s.pantryLE (base + 16 * i + 4) 4 &&& mask) = 0 ∧
    ∀ j, j < i → ((key ^^^ s.pantryLE (base + 16 * j) 4) &&& s.pantryLE (base + 16 * j + 4) 4 &&& mask) ≠ 0 ∨
      s.pantryLE (base + 16 * j + 8) 4 = 0)

/-- A swap command that reaches CLS_EPOCH_CMD with its key is accepted when OLD_FREE = 1, BOOT is not applying and
BYPASS = 0: the other bank becomes active, EPOCH counts on modulo 256, OLD_FREE is 0 and SWAP_PENDING 1, and the
swap is counted. Otherwise it is refused with the first code that holds, 1, 2, 3 in this order; the active bank and
EPOCH stay, and source 0x113 reports kind 0x08. SWAP_SETTLED clears SWAP_PENDING, and frees the old bank when no
frame holds its stamp. A write of CLS_TREE_DATA_HI to a word that may be written makes it the high and the held low
half, leaves every other word, and advances WORD with AUTO_INC; a word of a bank in use stays, and the write is
refused. The control complex and the debug port write a low half by holding it, and the word in one step with the
high half; a word that is intact reads its low half, with the high half latched for that requester. The management command
RULESET_SWAP, as the oldest request with its privilege, writes the swap command and is answered with CLS_EPOCH_STATUS once
SWAP_PENDING reads 0, with TIMEOUT when late, or REFUSED with the code. -/
def Obligations.TreeMemoryAndSwap : Prop :=
  (∀ (s : State) (q : Sender), s.reaches q Reg.CLS_EPOCH_CMD → ∃ e : State,
    exec (.epochSwap q) s = .next (s.did q Reg.CLS_EPOCH_CMD e) ∧
    (s.on .CLS_EPOCH_STATUS_OLD_FREE = true → s.rf .BOOT_UPDATE_STATUS_STATE ≠ 5 → s.on .CLS_CFG_BYPASS = false →
      e.rf .CLS_EPOCH_STATUS_ACTIVE = 1 - s.rf .CLS_EPOCH_STATUS_ACTIVE ∧
      e.rf .CLS_EPOCH_STATUS_EPOCH = (s.rf .CLS_EPOCH_STATUS_EPOCH + 1) % 256 ∧ e.on .CLS_EPOCH_STATUS_OLD_FREE = false ∧
      e.on .CLS_EPOCH_STATUS_SWAP_PENDING = true ∧ e.cget (Ctr.cls 10) = (s.cget (Ctr.cls 10) + 1) % 2 ^ 64) ∧
    ∀ code, (s.on .CLS_EPOCH_STATUS_OLD_FREE = false ∧ code = 1) ∨
      (s.on .CLS_EPOCH_STATUS_OLD_FREE = true ∧ s.rf .BOOT_UPDATE_STATUS_STATE = 5 ∧ code = 2) ∨
      (s.on .CLS_EPOCH_STATUS_OLD_FREE = true ∧ s.rf .BOOT_UPDATE_STATUS_STATE ≠ 5 ∧ s.on .CLS_CFG_BYPASS = true ∧ code = 3) →
      e.rf .CLS_EPOCH_STATUS_REFUSE_CODE = code ∧ e.on .CLS_EPOCH_STATUS_REFUSED = true ∧
      e.rf .CLS_EPOCH_STATUS_ACTIVE = s.rf .CLS_EPOCH_STATUS_ACTIVE ∧ e.rf .CLS_EPOCH_STATUS_EPOCH = s.rf .CLS_EPOCH_STATUS_EPOCH ∧
      e.slot 0x113 = some (Slot.event (s.slot 0x113) 0x08 (Config.free s.draws) s.now)) ∧
  (∀ (s : State), s.awake = true → s.on .CLS_EPOCH_STATUS_SWAP_PENDING = true → ∃ e : State,
    exec .swapSettled s = .next (s.after e) ∧ e.on .CLS_EPOCH_STATUS_SWAP_PENDING = false ∧
    (s.on .CLS_EPOCH_STATUS_OLD_FREE = false → (e.on .CLS_EPOCH_STATUS_OLD_FREE = true ↔ s.rf .CLS_EPOCH_STATUS_OLD_REFS = 0))) ∧
  (∀ (s : State) (q : Sender) (w : Word), s.reaches q Reg.CLS_TREE_DATA_HI → ∃ e : State,
    exec (.treeDataHiWrite q w) s = .next (s.did q Reg.CLS_TREE_DATA_HI e) ∧
    (∀ i, i ≠ s.rf .CLS_TREE_ADDR_WORD → e.treeWord i = s.treeWord i) ∧
    (s.treeWritable (s.rf .CLS_TREE_ADDR_WORD) = true →
      e.treeWord (s.rf .CLS_TREE_ADDR_WORD) = w.toNat * 2 ^ 32 + s.cls.dataLo.toNat) ∧
    (s.treeWritable (s.rf .CLS_TREE_ADDR_WORD) = false → e.treeWord (s.rf .CLS_TREE_ADDR_WORD) = s.treeWord (s.rf .CLS_TREE_ADDR_WORD) ∧
      e.slot 0x113 = some (Slot.event (s.slot 0x113) 0x08 (Config.free s.draws) s.now) ∧ e.wfail = some 0x08) ∧
    e.rf .CLS_TREE_ADDR_WORD = if s.on .CLS_TREE_ADDR_AUTO_INC then (s.rf .CLS_TREE_ADDR_WORD + 1) % 262144 else s.rf .CLS_TREE_ADDR_WORD) ∧
  (∀ (s : State) (q : Sender), s.readable q Reg.CLS_TREE_DATA_LO → s.eccAt .tree (s.rf .CLS_TREE_ADDR_WORD) = 0 →
    exec (.treeDataLoRead q) s = .next (s.told q (BitVec.ofNat 32 (s.treeWord (s.rf .CLS_TREE_ADDR_WORD)))
      (s.setLatch q.req Reg.CLS_TREE_DATA_HI (BitVec.ofNat 32 (s.treeWord (s.rf .CLS_TREE_ADDR_WORD) / 2 ^ 32))))) ∧
  (∀ (s : State) (q : Sender) (i : Fin 262144) (w : Word), q ≠ .host → s.awake = true → s.mayWrite q.req (treeBase + 8 * i) = true →
    s.mayWrite q.req (treeBase + 8 * i + 4) = true → s.blockOff 12 = false → ∃ e f : State,
    exec (.treeDirectWrite q i false w) s = .next (s.did q (treeBase + 8 * i) e) ∧ e.cls.tree = s.cls.tree ∧
    spGet (fun _ => none) e.cls.heldLo (latchKey q.req 0) = some w ∧
    exec (.treeDirectWrite q i true w) s = .next (s.did q (treeBase + 8 * i + 4) f) ∧
    (∀ j, j ≠ (i : Nat) → f.treeWord j = s.treeWord j) ∧ spGet (fun _ => none) f.cls.heldLo (latchKey q.req 0) = none ∧
    (s.treeWritable i = true → f.treeWord i = w.toNat * 2 ^ 32 +
      (match spGet (fun _ => none) s.cls.heldLo (latchKey q.req 0) with | some l => l.toNat | none => s.treeWord i % 2 ^ 32)) ∧
    (s.treeWritable i = false → f.treeWord i = s.treeWord i)) ∧
  (∀ (s : State) (q : Sender) (i : Fin 262144), q ≠ .host → s.awake = true → s.mayRead q.req (treeBase + 8 * i) = true →
    s.mayRead q.req (treeBase + 8 * i + 4) = true → s.blockOff 12 = false → s.eccAt .tree i = 0 →
    exec (.treeDirectRead q i false) s = .next (s.told q (BitVec.ofNat 32 (s.treeWord i))
      (s.setLatch q.req (treeAddr 0) (BitVec.ofNat 32 (s.treeWord i / 2 ^ 32)))) ∧
    exec (.treeDirectRead q i true) s = .next (s.told q (s.latched q.req (treeAddr 0)) s)) ∧
  (∀ (s : State) (r : MgtReq) (late : Bool), s.asked 0x0040 r → r.params.length = 0 → let run (t : State) : Prop := exec (.rulesetSwap late) s = .next (s.after t)
    let settled (t : State) : State := if t.on .CLS_EPOCH_STATUS_SWAP_PENDING then (if late then t.mgtReply 9 0 [] else t.setBegun true)
      else (t.fwReads [Reg.CLS_EPOCH_STATUS]).2.mgtReply 0 0 (t.fwReads [Reg.CLS_EPOCH_STATUS]).1
    let w := s.fwWrite Reg.CLS_EPOCH_CMD (cmdWord 0xE90C 1)
    (s.mgt.begun = true → run (settled s)) ∧ (s.mgt.begun = false → w.1 = none → run (settled w.2)) ∧
    (s.mgt.begun = false → w.1 ≠ none → run (w.2.mgtReply 4 (w.2.rf .CLS_EPOCH_STATUS_REFUSE_CODE) [])))

/-- A session command that reaches FWL_CMD with its key while BUSY = 1 is refused by source 0x123 and leaves the
table. With BUSY = 0, where each damaged entry that the command's key reads is corrected or lost first: LOOKUP and READ of an
intact entry load it and end with RESULT 0 and its index; a LOOKUP that
finds none ends with 1. INSERT of a canonical key that neither the table nor the creation unit holds puts the entry
with VALID = 1 in the lowest free way, or else in the stash, and counts it; a key that is not canonical ends with 4
and one that exists with 5, the table as it was. DELETE removes an entry whose LAST is the one given and counts it;
with another LAST it ends with 2 and the entry stays. FLUSH sets BUSY and starts the walk from index 0; its end
visits every index and clears BUSY. SESSION_AGEING_SCAN while the firmware
runs removes and counts exactly the intact entries that age and are past their timeout. STASH_MOVE puts a stash entry
into its first free way that no held creation has, not while a flush walks. -/
def Obligations.SessionTableCommands : Prop :=
  (∀ (s : State) (q : Sender) (all : Bool), s.reaches q Reg.FWL_CMD → s.on .FWL_CMD_STATUS_BUSY = true →
    let no := Host.Outcome.next (s.did q Reg.FWL_CMD ((s.begun q.req).refuse 0x123 0x08))
    exec (.fwlLookup q) s = no ∧ exec (.fwlRead q) s = no ∧ exec (.fwlInsert q) s = no ∧ exec (.fwlDelete q) s = no ∧
    exec (.fwlFlush q all) s = no ∧ ((s.begun q.req).refuse 0x123 0x08).cls = s.cls) ∧
  (∀ (s : State) (q : Sender), s.reaches q Reg.FWL_CMD → s.on .FWL_CMD_STATUS_BUSY = false →
    let b := (s.begun q.req)
    let k := s.fwlData.key
    let t := b.sessProbe k
    let put (u : State) : Host.Outcome State Fault Refusal := .next (s.did q Reg.FWL_CMD u)
    (∀ i x, t.sessFind k = some i → t.sessAt i = some x → t.eccAt .session i = 0 →
      exec (.fwlLookup q) s = put ((t.setRegBytes (Reg.FWL_CMD_DATA 0) 16 x.bytes).fwlDone 0 i)) ∧
    (t.sessFind k = none → exec (.fwlLookup q) s = put (t.fwlDone 1 (s.rf .FWL_CMD_STATUS_INDEX))) ∧
    (∀ x, s.sessAt (s.rf .FWL_CMD_STATUS_INDEX) = some x → s.eccAt .session (s.rf .FWL_CMD_STATUS_INDEX) = 0 →
      exec (.fwlRead q) s = put ((b.setRegBytes (Reg.FWL_CMD_DATA 0) 16 x.bytes).fwlDone 0 (s.rf .FWL_CMD_STATUS_INDEX))) ∧
    (sessCanon k = true → t.sessFind k = none → s.cls.held.any (fun h => h.key == k) = false → ∀ j, t.sessFree k = some j →
      exec (.fwlInsert q) s = put (((t.sessPut j (some { s.fwlData with
        flags := if bitAt s.fwlData.flags 7 then s.fwlData.flags else s.fwlData.flags + 128 })).cinc (Ctr.fwl 2)).fwlDone 0 j)) ∧
    (sessCanon k = false → exec (.fwlInsert q) s = put (b.fwlDone 4 (s.rf .FWL_CMD_STATUS_INDEX))) ∧
    (∀ j, sessCanon k = true → t.sessFind k = some j → t.eccAt .session j = 0 → exec (.fwlInsert q) s = put (t.fwlDone 5 j)) ∧
    (∀ i x, t.sessFind k = some i → t.sessAt i = some x → t.eccAt .session i = 0 →
      (x.last = s.fwlData.last → exec (.fwlDelete q) s = put (((t.sessPut i none).cinc (Ctr.fwl 8)).fwlDone 0 i)) ∧
      (x.last ≠ s.fwlData.last → exec (.fwlDelete q) s = put (t.fwlDone 2 i))) ∧
    (∀ all, exec (.fwlFlush q all) s = put { b.wf .FWL_CMD_STATUS_BUSY 1 with cls := { s.cls with flush := some (all, s.cycles, 0) } })) ∧
  (∀ (s : State) (j : Nat) (x : Option Sess) (i : Nat), (s.sessPut j x).sessAt i = if i = j then x else s.sessAt i) ∧
  (∀ (s : State) (r i : Nat), r < 8 → i < 65536 → (s.fwlDone r i).rf .FWL_CMD_STATUS_RESULT = r ∧
    (s.fwlDone r i).rf .FWL_CMD_STATUS_INDEX = i ∧ (s.fwlDone r i).on .FWL_CMD_STATUS_BUSY = false ∧
    (s.fwlDone r i).on .FWL_INT_CMD_DONE = true ∧ (s.fwlDone r i).cls = s.cls) ∧
  (∀ (s : State) (f : Bool × Nat × Nat), s.awake = true → s.cls.flush = some f → ∃ e : State,
    exec .fwlFlushDone s = .next (s.after e) ∧ e.cls.sess = (s.flushTo 65536).cls.sess ∧ e.cls.flush = none ∧
    e.on .FWL_CMD_STATUS_BUSY = false) ∧
  (∀ (s : State), s.awake = true → s.on .TOP_STATE_CCX_RESTART = false → let u := s.flushUp
    (∀ x ∈ u.cls.sess, u.eccAt .session x.1 = 0) →
    exec .sessionAgeingScan s = .next (s.after
      (u.each (u.cls.sess.filter (fun x => match x.2 with | some e => !bitAt e.flags 5 | none => false)) fun s x =>
        match s.sessAt x.1 with
        | some e => if s.sessAged e then (s.sessPut x.1 none).cinc (Ctr.fwl 7) else s
        | none => s))) ∧
  (∀ (s : State) (i : Fin 256) (x : Sess) (j : Nat), s.awake = true → s.cls.flush = none → s.sessAt (stashBase + i) = some x →
    s.eccAt .session (stashBase + i) = 0 →
    ((s.sessCands x.key).filter (fun j => !s.sessHeldSlots.contains j)).find? (fun j => (s.sessAt j).isNone) = some j →
    exec (.stashMove i) s = .next (s.after (((s.sessPut j (some x)).sessPut (stashBase + i) none).cinc (Ctr.fwl 9))))

/-- A command that reaches SWC_FDB_CMD with its key while BUSY = 1 is refused by source 0x146; one written while the
walk of a link-down flush runs waits for its end with BUSY set. Otherwise, with the walks brought up to the present
cycle: LOOKUP of an address and VID and READ of an index load an intact entry and end with RESULT 0 and its index,
and end with 1 where there is none; INSERT puts the entry with VALID = 1 in the lowest free way of its four,
replaces one of the same address and VID with RESULT 3, and with no way free ends with 2 and is refused; DELETE
removes the entry of the address and VID, and only that; FLUSH sets BUSY and starts a walk for its port, or for all.
FDB_FLUSH_DONE ends the oldest walk: that of a command clears BUSY. FDB_AGEING_SCAN with EN and no
damaged entry ages each dynamic entry by 1, and removes and counts those that exceed LIMIT unless learning is to refresh
them in that cycle; static entries stay. -/
def Obligations.FdbCommands : Prop :=
  (∀ (s : State) (q : Sender) (port : Fin 32) (all : Bool), s.reaches q Reg.SWC_FDB_CMD → s.on .SWC_FDB_STATUS_BUSY = true →
    let no := Host.Outcome.next (s.did q Reg.SWC_FDB_CMD ((s.begun q.req).refuse 0x146 0x08))
    exec (.fdbLookup q) s = no ∧ exec (.fdbRead q) s = no ∧ exec (.fdbInsert q) s = no ∧ exec (.fdbDelete q) s = no ∧
    exec (.fdbFlush q port all) s = no) ∧
  (∀ (s : State) (q : Sender), s.reaches q Reg.SWC_FDB_CMD → s.on .SWC_FDB_STATUS_BUSY = false →
    s.cel.walks.any (fun w => !w.cmd) = true → exec (.fdbDelete q) s = .next (s.did q Reg.SWC_FDB_CMD
      (((s.begun q.req).wf .SWC_FDB_STATUS_BUSY 1).cellar fun x => { x with fdbWait := some 4 }))) ∧
  (∀ (s : State) (q : Sender), s.reaches q Reg.SWC_FDB_CMD → s.on .SWC_FDB_STATUS_BUSY = false →
    s.cel.walks.any (fun w => !w.cmd) = false →
    let t := (s.begun q.req).walksUp
    let d := t.fdbData
    let x := t.rf .SWC_FDB_STATUS_INDEX
    let put (u : State) : Host.Outcome State Fault Refusal := .next (s.did q Reg.SWC_FDB_CMD u)
    (∀ i e, t.fdbFind d.mac d.vid = some i → t.fdbAt i = some e → t.eccAt .fdb i = 0 →
      exec (.fdbLookup q) s = put ((t.setFdbData e).fdbDone 0 i)) ∧
    (t.fdbFind d.mac d.vid = none → exec (.fdbLookup q) s = put (t.fdbDone 1 x)) ∧
    (∀ e, t.fdbAt x = some e → t.eccAt .fdb x = 0 → exec (.fdbRead q) s = put ((t.setFdbData e).fdbDone 0 x)) ∧
    (t.fdbAt x = none → t.eccAt .fdb x = 0 → exec (.fdbRead q) s = put (t.fdbDone 1 x)) ∧
    (∀ i, t.fdbFind d.mac d.vid = none → t.fdbFree d.mac d.vid = some i →
      exec (.fdbInsert q) s = put ((t.fdbPut i (some { d with flags := 128 + d.flags % 128 })).fdbDone 0 i)) ∧
    (∀ i, t.fdbFind d.mac d.vid = some i → t.eccAt .fdb i = 0 →
      exec (.fdbInsert q) s = put ((t.fdbPut i (some { d with flags := 128 + d.flags % 128 })).fdbDone 3 i)) ∧
    (t.fdbFind d.mac d.vid = none → t.fdbFree d.mac d.vid = none →
      exec (.fdbInsert q) s = put ((t.refuse 0x146 0x08).fdbDone 2 x)) ∧
    (∀ i, t.fdbFind d.mac d.vid = some i → exec (.fdbDelete q) s = put ((t.fdbPut i none).fdbDone 0 i)) ∧
    (t.fdbFind d.mac d.vid = none → exec (.fdbDelete q) s = put (t.fdbDone 1 x)) ∧
    ∀ (port : Fin 32) (all : Bool),
      exec (.fdbFlush q port all) s = put ((t.wf .SWC_FDB_STATUS_BUSY 1).walkStart port all true)) ∧
  (∀ (s : State) (j : Nat) (x : Option FdbEntry) (i : Nat), (s.fdbPut j x).fdbAt i = if i = j then x else s.fdbAt i) ∧
  (∀ (s : State) (mac vid i : Nat), (s.fdbFree mac vid = some i → s.fdbAt i = none ∧ ∃ w, w < 4 ∧ i = s.fdbIndex mac vid w ∧
      ∀ v, v < w → s.fdbAt (s.fdbIndex mac vid v) ≠ none) ∧
    (s.fdbFind mac vid = some i → ∃ e, s.fdbAt i = some e ∧ e.mac = mac ∧ e.vid = vid)) ∧
  (∀ (s : State) (r i : Nat), r < 8 → i < 16384 → (s.fdbDone r i).rf .SWC_FDB_STATUS_RESULT = r ∧
    (s.fdbDone r i).rf .SWC_FDB_STATUS_INDEX = i ∧ (s.fdbDone r i).on .SWC_FDB_STATUS_BUSY = false ∧
    (s.fdbDone r i).on .SWC_INT_FDB_CMD_DONE = true ∧ (s.fdbDone r i).cel = s.cel) ∧
  (∀ (s : State) (w : FdbWalk) (ws : List FdbWalk), s.awake = true → s.walksUp.cel.walks = w :: ws → w.cmd = true → ∃ e : State,
    exec .fdbFlushDone s = .next (s.after e) ∧ e.cel = { (s.walksUp.walkTo w 16384).cel with walks := ws } ∧
    e.on .SWC_FDB_STATUS_BUSY = false ∧ e.on .SWC_INT_FDB_CMD_DONE = true) ∧
  (∀ (s : State), s.awake = true → s.on .SWC_AGE_CFG_EN = true → (∀ x ∈ s.walksUp.cel.fdb, s.walksUp.eccAt .fdb x.1 = 0) →
    exec .fdbAgeingScan s = .next (s.after (s.walksUp.each s.walksUp.cel.fdb (fun s x => match s.fdbAt x.1 with
      | some e => if e.static then s
        else if e.age + 1 > s.rf .SWC_AGE_CFG_LIMIT then (if s.refreshDue e then s else (s.fdbPut x.1 none).cinc (Ctr.swc 3))
        else s.fdbPut x.1 (some { e with age := e.age + 1 })
      | none => s))))

/-- METER_REFILL_TICK ticks each written meter: C gains CIR up to CBURST, E gains EIR, with COUPLED = 1 also what C
cannot hold, up to EBURST, in units of 1/125,000 byte; other meters stay. SHAPER_CREDIT_TICK ticks each of the 240
shapers: a TBS credit gains RATE up to its burst; a CBS credit stays while its gate is closed, gains RATE (at most
the port's speed) while its queue holds a copy or it is negative, and otherwise returns to 0; a credit with a parity
error counts as 0. FRER_RECOVERY_RESET of
a function whose recovery timer runs sets TAKE_ANY, stops the timer, counts the reset and sets STM_INT.FRER_RESET;
with the timer stopped it changes nothing. A table command that reaches STM_IND_CMD with its key is refused by
source 0x184 while BUSY = 1. Otherwise operation 1 copies the entry named by TABLE and INDEX into STM_IND_DATA,
operation 2 stores STM_IND_DATA when the table may be written and the entry is valid, and operation 3 copies and
clears the counters of table 4 or 5, each with RESULT 0 and IND_DONE; any other table or index, an invalid entry and
operation 3 on a table without counters end with RESULT 1 and report kind 0x08 on 0x184. A write of a meter fills
its buckets; a write of a FRER function stops its timer with TAKE_ANY set. -/
def Obligations.StreamTicksAndTables : Prop :=
  (∀ (s : State), s.awake = true → exec .meterRefillTick s = .next (s.after
    (s.each ((s.stm.tab.filter (fun e => 8192 ≤ e.1 && e.1 < 12288)).map (fun e => e.1 - 8192)) State.meterTick))) ∧
  (∀ (s : State) (m : Nat), let b := s.stmAt 2 m
    (s.meterTick m).tokC m = min (s.tokC m + le b 0 4) (le b 4 4 * 125000) ∧
    (s.meterTick m).tokE m = min (s.tokE m + le b 8 4 +
      (if bitAt (le b 16 1) 6 then s.tokC m + le b 0 4 - le b 4 4 * 125000 else 0)) (le b 12 4 * 125000) ∧
    ∀ k, (s.meterTick m).stmAt 2 k = s.stmAt 2 k ∧
      (k ≠ m → (s.meterTick m).tokC k = s.tokC k ∧ (s.meterTick m).tokE k = s.tokE k)) ∧
  (∀ (s : State), s.awake = true → exec .shaperCreditTick s = .next (s.after (s.each (List.range 240) State.creditTick))) ∧
  (∀ (s : State) (n : Nat), s.eccAt .sch n ≠ 0 →
    s.creditTick n = ((s.parityRead .sch n 0x190).2.setCredit n 0).creditTick n) ∧
  (∀ (s : State) (n : Nat), s.eccAt .sch n = 0 → let t := s.creditTick n
    let burst : Int := s.rf (.SCH_SHAPER_CFG_BURST n) * 125000
    (s.rf (.SCH_SHAPER_CFG_MODE n) = 1 → t.credit n = min (s.credit n + s.rf (.SCH_SHAPER_RATE_RATE n)) burst) ∧
    (s.rf (.SCH_SHAPER_CFG_MODE n) = 2 → s.gateOpen (n / 8) (n % 8) = false → t = s) ∧
    (s.rf (.SCH_SHAPER_CFG_MODE n) = 2 → s.gateOpen (n / 8) (n % 8) = true →
      ((s.queue n ≠ [] ∨ s.credit n < 0) →
        t.credit n = s.credit n + min (s.rf (.SCH_SHAPER_RATE_RATE n) : Int) (s.portMbps (n / 8) * 1000)) ∧
      (s.queue n = [] → 0 ≤ s.credit n → t.credit n = 0)) ∧
    (s.rf (.SCH_SHAPER_CFG_MODE n) ≠ 1 → s.rf (.SCH_SHAPER_CFG_MODE n) ≠ 2 → t = s) ∧
    ∀ k, k ≠ n → t.credit k = s.credit k) ∧
  (∀ (s : State) (f : Fin 1024), s.awake = true →
    (spGet (fun _ => false) s.stm.frerTimer f = true → ∃ e : State, exec (.frerRecoveryReset f) s = .next (s.after e) ∧
      e.stmAt 3 f = putBytes (s.stmAt 3 f) 12 [1] ∧ spGet (fun _ => false) e.stm.frerTimer f = false ∧
      e.cget (Ctr.frer f 6) = (s.cget (Ctr.frer f 6) + 1) % 2 ^ 64 ∧ e.on .STM_INT_FRER_RESET = true) ∧
    (spGet (fun _ => false) s.stm.frerTimer f = false → exec (.frerRecoveryReset f) s = .next (s.after s))) ∧
  (∀ (s : State) (q : Sender), s.reaches q Reg.STM_IND_CMD → s.on .STM_IND_CMD_BUSY = true →
    let no := Host.Outcome.next (s.did q Reg.STM_IND_CMD ((s.begun q.req).refuse 0x184 0x08))
    exec (.stmTableRead q) s = no ∧ exec (.stmTableWrite q) s = no ∧ exec (.stmTableReadClear q) s = no) ∧
  (∀ (s : State) (q : Sender), s.reaches q Reg.STM_IND_CMD → s.on .STM_IND_CMD_BUSY = false →
    let u := (s.begun q.req)
    let t := u.rf .STM_IND_ADDR_TABLE
    let i := u.rf .STM_IND_ADDR_INDEX
    let b := u.regBytes (Reg.STM_IND_DATA 0) 32
    let put (e : State) : Host.Outcome State Fault Refusal := .next (s.did q Reg.STM_IND_CMD e)
    (i < stmIndices t → exec (.stmTableRead q) s = put (((if t ≤ 3 then (u.stmRead t i).2 else u).stmCopy t i).stmDone)) ∧
    (i < stmIndices t → t ≤ 3 → stmValid t b = true → exec (.stmTableWrite q) s = put ((u.stmStore t i b).stmDone)) ∧
    (i < stmIndices t → 4 ≤ t → exec (.stmTableReadClear q) s = put (((u.stmCopy t i).stmClear t i).stmDone)) ∧
    (stmIndices t ≤ i → exec (.stmTableRead q) s = put u.stmRefused ∧ exec (.stmTableReadClear q) s = put u.stmRefused) ∧
    ((stmIndices t ≤ i ∨ 4 ≤ t ∨ stmValid t b = false) → exec (.stmTableWrite q) s = put u.stmRefused) ∧
    (t ≤ 3 → exec (.stmTableReadClear q) s = put u.stmRefused)) ∧
  (∀ (s : State), s.stmDone.rf .STM_IND_CMD_RESULT = 0 ∧ s.stmDone.on .STM_INT_IND_DONE = true ∧
    s.stmRefused.rf .STM_IND_CMD_RESULT = 1 ∧
    s.stmRefused.slot 0x184 = some (Slot.event (s.slot 0x184) 0x08 (Config.free s.draws) s.now)) ∧
  (∀ (s : State) (i : Nat) (b : List Byte), (s.stmStore 2 i b).tokC i = le b 4 4 * 125000 ∧
    (s.stmStore 2 i b).tokE i = le b 12 4 * 125000 ∧
    (s.stmStore 3 i b).stmAt 3 i = b.take 6 ++ [0, 0, 0, 0, 0, 0, 1, 0, 0, 0] ∧
    spGet (fun _ => false) (s.stmStore 3 i b).stm.frerTimer i = false ∧
    (s.stmStore 0 i b).stmAt 0 i = b.take 64 ∧ (s.stmStore 1 i b).stmAt 1 i = b.take 16)

/-- A write of TIM_DOM_RATE[d] within 500,000 ppb sets the tracker's rate and, with EN = 1, renews its health; one
beyond it is refused by source 0x067. A write of TIM_DOM_ADJ_HI[d] adds the signed 64-bit value to the step of the
next tick. REFRESH with EN = 1 renews health; with EN = 0 the tracker is unhealthy. A renewed tracker whose health
lapses is unhealthy and source 0x062 + d is active. WORKING_CLOCK_UPDATE does nothing while CCX_RESTART = 1 and
otherwise, with no parity error in its counters, follows the procedure of R320, case by case: acquisition with a step, DISCONT and 0x060, LOCKED, a change
of tracker and 0x061, HOLDOVER. A write of TIM_WC_CFG with LIMIT or WIN out of range is refused whole; one that
changes SOURCE takes it only to a healthy tracker within WIN, and the other fields take effect in either case. STEP
is refused with code 1, 3 or 2, in that order, and otherwise fixes the boundary; CANCEL_STEP abandons it. At the
boundary the clock takes the tracker's time, with SOURCE set, LOCKED, STEP_DONE and the step counted, or the step is
abandoned with code 1. The management commands TIME_GET, TIME_STEP and TIME_SOURCE, as the oldest request with their
privilege, answer TIM_STATUS and the three full times, or make the register write and answer OK, or REFUSED with its
code. -/
def Obligations.TrackersAndWorkingClock : Prop :=
  (∀ (s : State) (q : Sender) (d : Fin 2) (w : Word), s.reaches q (Reg.TIM_DOM_RATE d) →
    (w.toInt.natAbs ≤ 2048000000 → ∃ e : State, exec (.trackerRateWrite q d w) s = .next (s.did q (Reg.TIM_DOM_RATE d) e) ∧
      e.trkRate d = w.toInt ∧ (∀ o : Fin 2, o ≠ d → e.trkRate o = s.trkRate o) ∧
      e.healthy d = (s.on (.TIM_DOM_CFG_EN d) || s.healthy d)) ∧
    (2048000000 < w.toInt.natAbs →
      exec (.trackerRateWrite q d w) s = .next (s.did q (Reg.TIM_DOM_RATE d) ((s.begun q.req).refuse 0x067 0x08)))) ∧
  (∀ (s : State) (q : Sender) (d : Fin 2) (w : Word), s.reaches q (Reg.TIM_DOM_ADJ_HI d) → ∃ e : State,
    exec (.trackerAdjust q d w) s = .next (s.did q (Reg.TIM_DOM_ADJ_HI d) e) ∧
    (let v := sextNat 64 (w.toNat * 2 ^ 32 + (s.rword (Reg.TIM_DOM_ADJ_LO d)).toNat)
     e.tim.adj0 = s.tim.adj0 + (if (d : Nat) = 0 then v else 0) ∧ e.tim.adj1 = s.tim.adj1 + (if (d : Nat) = 0 then 0 else v)) ∧
    e.healthy d = (s.on (.TIM_DOM_CFG_EN d) || s.healthy d)) ∧
  (∀ (s : State) (q : Sender) (d : Fin 2), s.reaches q (Reg.TIM_DOM_CFG d) → s.rf (.TIM_DOM_CFG_TIMEOUT d) ≠ 0 → ∃ e : State,
    exec (.trackerRefresh q d) s = .next (s.did q (Reg.TIM_DOM_CFG d) e) ∧ e.healthy d = s.on (.TIM_DOM_CFG_EN d) ∧
    e.on (.TIM_DOM_CFG_EN d) = s.on (.TIM_DOM_CFG_EN d)) ∧
  (∀ (s : State) (d : Fin 2), s.awake = true → s.on (.TIM_DOM_CFG_EN d) = true → s.healthy d = true → ∃ e : State,
    exec (.trackerHealthTimeout d) s = .next (s.after e) ∧ e.healthy d = false ∧ e.level (0x062 + d) = true) ∧
  (∀ (s : State), s.awake = true → exec .workingClockUpdate s = .next (s.after s.wcUpdate) ∧
    (s.on .TOP_STATE_CCX_RESTART = true → s.wcUpdate = s) ∧
    (s.on .TOP_STATE_CCX_RESTART = false → (∀ i, i < 3 → s.eccAt .tim i = 0) →
      let a := s.rf .TIM_WC_CFG_SOURCE
      let win : Int := s.rf .TIM_WC_CFG_SLEW_WIN * 1000
      let near (x : Int) : Prop := -win ≤ x ∧ x ≤ win
      let st := s.rf .TIM_STATUS_STATE
      (st = 0 → s.healthy a = false → s.wcUpdate = s) ∧
      (st = 0 → s.healthy a = true → win < s.wcOffset a → s.wcUpdate = (s.wcStep a false).setWcState 1) ∧
      (st = 0 → s.healthy a = true → s.wcOffset a < -win → s.wcUpdate = s.toDiscont) ∧
      (st = 0 → s.healthy a = true → near (s.wcOffset a) → s.wcUpdate = s.setWcState 1) ∧
      (st = 1 → s.healthy a = true → near (s.wcOffset a) → s.wcUpdate = s) ∧
      (2 ≤ st → s.healthy a = true → near (s.wcOffset a) → s.wcUpdate = s.setWcState 1) ∧
      (st ≠ 0 → ¬(s.healthy a = true ∧ near (s.wcOffset a)) → s.healthy (1 - a) = true → near (s.wcOffset (1 - a)) →
        s.wcUpdate = s.toOther (1 - a)) ∧
      (st ≠ 0 → ¬(s.healthy a = true ∧ near (s.wcOffset a)) → ¬(s.healthy (1 - a) = true ∧ near (s.wcOffset (1 - a))) →
        (st = 3 → s.wcUpdate = s) ∧ (st ≠ 3 → s.healthy a = true → s.wcUpdate = s.toDiscont) ∧
        (st = 2 → s.healthy a = false → s.wcUpdate = s) ∧
        (st = 1 → s.healthy a = false → s.wcUpdate = (s.setWcState 2).wf .TIM_INT_HOLDOVER 1)))) ∧
  (∀ (s : State) (d : Nat), d < 2 → s.toDiscont.rf .TIM_STATUS_STATE = 3 ∧ s.toDiscont.on .TIM_INT_DISCONT = true ∧
    s.toDiscont.slot 0x060 = some (Slot.event (s.slot 0x060) 0x12 (Config.free s.draws) s.now) ∧
    (s.toOther d).rf .TIM_STATUS_STATE = 1 ∧ (s.toOther d).rf .TIM_WC_CFG_SOURCE = d ∧
    (s.toOther d).slot 0x061 = some (Slot.event (s.slot 0x061) 0x12 (Config.free s.draws) s.now) ∧
    (s.setWcState 1).rf .TIM_STATUS_STATE = 1 ∧ (s.setWcState 1).on .TOP_STATE_HOLDOVER = s.on .TOP_STATE_CCX_RESTART ∧
    (s.setWcState 2).rf .TIM_STATUS_STATE = 2 ∧ (s.setWcState 2).on .TOP_STATE_HOLDOVER = true ∧
    ∀ cmd, (s.wcStep d cmd).tim.wc = s.clock (1 + d) ∧ (s.wcStep d cmd).tim.steps = s.tim.steps + 1) ∧
  (∀ (s : State) (q : Sender) (w : Word), s.reaches q Reg.TIM_WC_CFG →
    let lim := fldGet w 12 10
    let win := fldGet w 0 12
    let src := fldGet w 31 1
    ((lim < 1 ∨ 500 < lim ∨ win < 1 ∨ 4000 < win) →
      exec (.wcCfgWrite q w) s = .next (s.did q Reg.TIM_WC_CFG ((s.begun q.req).refuse 0x067 0x08))) ∧
    (1 ≤ lim → lim ≤ 500 → 1 ≤ win → win ≤ 4000 → ∃ e : State, exec (.wcCfgWrite q w) s = .next (s.did q Reg.TIM_WC_CFG e) ∧
      e.rf .TIM_WC_CFG_SLEW_LIMIT = lim ∧ e.rf .TIM_WC_CFG_SLEW_WIN = win ∧
      (s.healthy src = true ∧ (s.wcOffset src).natAbs ≤ win * 1000 → e.rf .TIM_WC_CFG_SOURCE = src ∧ e.wfail = none) ∧
      (¬(s.healthy src = true ∧ (s.wcOffset src).natAbs ≤ win * 1000) → e.rf .TIM_WC_CFG_SOURCE = s.rf .TIM_WC_CFG_SOURCE ∧
        (e.wfail = some 0x08 ↔ src ≠ s.rf .TIM_WC_CFG_SOURCE)))) ∧
  (∀ (s : State) (q : Sender) (d : Fin 2), s.reaches q Reg.TIM_WC_CMD →
    let put (e : State) : Host.Outcome State Fault Refusal := .next (s.did q Reg.TIM_WC_CMD e)
    (s.healthy d = false → exec (.step q d) s = put ((s.begun q.req).stepRefused 1)) ∧
    (s.healthy d = true → s.tim.stepReq ≠ none → exec (.step q d) s = put ((s.begun q.req).stepRefused 3)) ∧
    (s.healthy d = true → s.tim.stepReq = none → s.stepBoundaryAt = none → exec (.step q d) s = put ((s.begun q.req).stepRefused 2)) ∧
    (∀ tb, s.healthy d = true → s.tim.stepReq = none → s.stepBoundaryAt = some tb → ∃ e : State,
      exec (.step q d) s = put e ∧ e.tim.stepReq = some ((d : Nat), tb) ∧ e.on .TIM_STATUS_STEP_PENDING = true) ∧
    ∃ e : State, exec (.cancelStep q) s = put e ∧ e.tim.stepReq = none ∧ e.on .TIM_STATUS_STEP_PENDING = false) ∧
  (∀ (s : State) (c : Nat), c < 4 → (s.stepRefused c).rf .TIM_STATUS_STEP_CODE = c ∧
    (s.stepRefused c).slot 0x067 = some (Slot.event (s.slot 0x067) 0x08 (Config.free s.draws) s.now)) ∧
  (∀ (s : State), s.runningConfs = [] → s.stepBoundaryAt = some (s.now + 4000)) ∧
  (∀ (s : State), s.awake = true → exec .stepBoundary s = .next (s.after
    (if s.stepBoundary.tim.steps ≠ s.tim.steps then s.stepBoundary.stgStep else s.stepBoundary))) ∧
  (∀ (s : State) (d : Fin 2) (tb : Nat), s.tim.stepReq = some ((d : Nat), tb) →
    let e := s.stepBoundary
    (atOrAfter 64 s.now tb = false → e = s) ∧ (atOrAfter 64 s.now tb = true → e.tim.stepReq = none) ∧
    (atOrAfter 64 s.now tb = true → s.healthy d = false → e.on .TIM_STATUS_STEP_PENDING = false ∧ e.rf .TIM_STATUS_STEP_CODE = 1 ∧ e.tim.wc = s.tim.wc ∧ e.tim.steps = s.tim.steps) ∧
    (atOrAfter 64 s.now tb = true → s.healthy d = true → e.tim.wc = s.clock (1 + d) ∧ e.tim.steps = s.tim.steps + 1 ∧ e.rf .TIM_WC_CFG_SOURCE = d ∧
      e.rf .TIM_STATUS_STATE = 1 ∧ e.on .TIM_INT_STEP_DONE = true ∧ e.cget 0x70F28 = (s.cget 0x70F28 + 1) % 2 ^ 64)) ∧
  (∀ (s : State) (r : MgtReq),
    (s.asked 0x0050 r → r.params.length = 0 → let st := s.fwRead Reg.TIM_STATUS
      let full (c : Nat) : List Word := [(fullTime c).1, (fullTime c).2.1, (fullTime c).2.2]
      exec .timeGet s = .next (s.after (st.2.mgtReply 0 0 (st.1 :: (full s.tim.wc ++ full s.tim.trk0 ++ full s.tim.trk1))))) ∧
    (s.asked 0x0051 r → r.params.length = 1 → let c := le r.params 0 1
      let w := s.fwWrite Reg.TIM_WC_CMD (cmdWord 0x71AE (c * 256 + 1))
      (2 ≤ c → exec .timeStep s = .next (s.after (s.mgtReply 3 0 []))) ∧
      (c < 2 → exec .timeStep s = .next (s.after (w.2.mgtReply (if w.1 = none then 0 else 4) (w.2.rf .TIM_STATUS_STEP_CODE) [])))) ∧
    (s.asked 0x0052 r → r.params.length = 1 → let c := le r.params 0 1
      let o := s.fwRead Reg.TIM_WC_CFG
      let w := o.2.fwWrite Reg.TIM_WC_CFG (withF o.1 .TIM_WC_CFG_SOURCE c)
      (2 ≤ c → exec .timeSource s = .next (s.after (s.mgtReply 3 0 []))) ∧
      (c < 2 → exec .timeSource s = .next (s.after (w.2.mgtReply (if w.1 = none then 0 else 4) (w.1.getD 0) [])))))

/-- CONFIG_CHANGE of an existing list is refused with the first code that holds of 1 to 4, with REFUSED,
GAT_INT.REFUSED and source 0x070; otherwise the administrative configuration becomes the pending one with PENDING =
1, and the operational one stays. CONFIG_COPY_DONE fixes the change time: AdminBase when it lies 4 us ahead, with N
= 0, else AdminBase + N x AdminCycle with the least N of at least 1 that lies there, and records it with N and
BASE_PAST, by the half-range difference of R14 and modulo 2^64. CANCEL discards the pending change. CONFIG_CHANGE_TIME at or after the change time makes it operational,
clears PENDING, sets GAT_INT.CHANGE and records base, cycle and length; before it nothing happens. In each cycle
entry k governs from the sum of the intervals before it to the next, and the last entry to the cycle's end.
GATE_ENTRY_START shows the entry in force; one that is uncorrectable disables the list with ECC set. A write of
GAT_ADMIN_CFG that clears ENABLE opens the gates and discards both configurations at once; any other write stores
the register. The management command GATE_CHANGE, as the oldest request with its privilege, writes CONFIG_CHANGE of the
list it names and is answered with the change time, BASE_PAST and N once they are fixed, with TIMEOUT when late, or
REFUSED with the code. -/
def Obligations.GateControlLists : Prop :=
  (∀ (s : State) (q : Sender) (i : Fin 96), gateList i = true → s.reaches q (Reg.GAT_CMD i) →
    let put (e : State) : Host.Outcome State Fault Refusal := .next (s.did q (Reg.GAT_CMD i) e)
    let len := s.rf (.GAT_ADMIN_CFG_ADMIN_LEN i)
    let cyc := s.rf (.GAT_ADMIN_CYCLE_CYCLE i)
    let c1 := s.on (.GAT_STATUS_PENDING i) = true
    let c2 := len < 1 ∨ (if (i : Nat) < 32 then 1024 else 256) < len ∨ ∃ w ∈ s.adminEntries i, gateEntryOk i w = false
    let c3 := cyc < 1000 ∨ 1000000000 < cyc
    let c4 := s.on (.GAT_ADMIN_CFG_ENABLE i) = false
    (c1 → exec (.configChange q i) s = put ((s.begun q.req).changeRefused i 1)) ∧
    (¬c1 → c2 → exec (.configChange q i) s = put ((s.begun q.req).changeRefused i 2)) ∧
    (¬c1 → ¬c2 → c3 → exec (.configChange q i) s = put ((s.begun q.req).changeRefused i 3)) ∧
    (¬c1 → ¬c2 → ¬c3 → c4 → exec (.configChange q i) s = put ((s.begun q.req).changeRefused i 4)) ∧
    (¬c1 → ¬c2 → ¬c3 → ¬c4 → ∃ e : State, exec (.configChange q i) s = put e ∧
      e.gatePend i = some ⟨⟨0, cyc, (s.adminEntries i).map (fun w => (w % 2 ^ 32, gateWord i (bitsAt w 32 8))), 0, false⟩,
        s.pair64 (Reg.GAT_ADMIN_BASE_LO i) (Reg.GAT_ADMIN_BASE_HI i), s.now, false⟩ ∧
      e.on (.GAT_STATUS_PENDING i) = true ∧ ∀ k, e.gateOper k = s.gateOper k) ∧
    ∃ e : State, exec (.gateCancel q i) s = put e ∧ e.gatePend i = none ∧ e.on (.GAT_STATUS_PENDING i) = false ∧
      ∀ k, e.gateOper k = s.gateOper k) ∧
  (∀ (s : State) (i code : Nat), code < 8 → (s.changeRefused i code).rf (.GAT_STATUS_REFUSE_CODE i) = code ∧
    (s.changeRefused i code).on (.GAT_STATUS_REFUSED i) = true ∧ (s.changeRefused i code).on .GAT_INT_REFUSED = true ∧
    (s.changeRefused i code).slot 0x070 = some (Slot.event (s.slot 0x070) 0x08 (Config.free s.draws) s.now) ∧
    (s.changeRefused i code).gat = s.gat) ∧
  (∀ (s : State) (i : Fin 96) (p : GatePend), s.awake = true → s.gatePend i = some p → p.copied = false → ∃ e : State,
    exec (.configCopyDone i) s = .next (s.after e) ∧
    (let r := changeTime p.adminBase p.conf.cycle p.accepted
     e.gatePend i = some { p with conf := { p.conf with base := r.1 }, copied := true } ∧
     e.rf (.GAT_CHANGE_LO_CHANGE_LO i) = r.1 % 2 ^ 32 ∧ e.rf (.GAT_CHANGE_HI_CHANGE_HI i) = r.1 / 2 ^ 32 % 2 ^ 32 ∧
     e.rf (.GAT_N_N i) = min r.2.1 (2 ^ 32 - 1) ∧ e.on (.GAT_STATUS_BASE_PAST i) = r.2.2)) ∧
  (∀ base cycle now : Nat, 0 < cycle → let d := t64Sub base now
    (4000 ≤ d → changeTime base cycle now = (base, 0, false)) ∧
    (d < 4000 → ∃ n : Nat, changeTime base cycle now = ((base + n * cycle) % 2 ^ 64, n, true) ∧ 1 ≤ n ∧ 4000 ≤ d + n * cycle ∧
      ∀ m : Nat, 1 ≤ m → 4000 ≤ d + m * cycle → n ≤ m)) ∧
  (∀ a b : Nat, a < 2 ^ 64 → b < 2 ^ 64 → -2 ^ 63 ≤ t64Sub a b ∧ t64Sub a b < 2 ^ 63 ∧ ((b : Int) + t64Sub a b) % 2 ^ 64 = a) ∧
  (∀ (s : State) (i : Fin 96) (p : GatePend), s.awake = true → s.gatePend i = some p → p.copied = true →
    (atOrAfter 64 s.now p.conf.base = false → exec (.configChangeTime i) s = .next (s.after s)) ∧
    (atOrAfter 64 s.now p.conf.base = true → ∃ e : State, exec (.configChangeTime i) s = .next (s.after (e.gateShow i)) ∧
      e.gateOper i = some p.conf ∧ e.gatePend i = none ∧ e.on (.GAT_STATUS_PENDING i) = false ∧ e.on .GAT_INT_CHANGE = true ∧
      e.rf (.GAT_OPER_BASE_LO_BASE_LO i) = p.conf.base % 2 ^ 32 ∧ e.rf (.GAT_STATUS_OPER_LEN i) = p.conf.entries.length % 2048 ∧
      e.rf (.GAT_OPER_CYCLE_CYCLE i) = p.conf.cycle % 2 ^ 32)) ∧
  (∀ (cycle pos k : Nat) (es : List (Nat × Nat)) (x : Nat × Nat), es[k]? = some x →
    ((es.take k).map Prod.fst).sum ≤ pos → (pos < ((es.take k).map Prod.fst).sum + x.1 ∨ k + 1 = es.length) →
    (entryAt cycle pos es 0 0).1 = k ∧ (entryAt cycle pos es 0 0).2.1 = x.2) ∧
  (∀ (s : State) (i : Fin 96) (c : GateConf), s.awake = true → s.gateOper i = some c → atOrAfter 64 s.now c.base = true →
    (s.eccAt .gate (i * 1024 + (c.at s.now).1) = 0 → exec (.gateEntryStart i) s = .next (s.after (s.gateShow i))) ∧
    (s.eccAt .gate (i * 1024 + (c.at s.now).1) = 2 → ∃ e : State, exec (.gateEntryStart i) s = .next (s.after e) ∧
      e.gateOper i = none ∧ e.on (.GAT_STATUS_ECC i) = true ∧ e.on .GAT_INT_ECC = true ∧ e.on (.GAT_ADMIN_CFG_ENABLE i) = false ∧
      e.slot 0x071 = some (Slot.event (s.slot 0x071) 0x02 (Config.free s.draws) s.now))) ∧
  (∀ (s : State) (i : Fin 96), (s.on (.GAT_ADMIN_CFG_ENABLE i) = false → (s.gateShow i).rword (Reg.GAT_GATES i) = 0x1FF) ∧
    (∀ c, s.on (.GAT_ADMIN_CFG_ENABLE i) = true → s.gateOper i = some c →
      (s.gateShow i).rword (Reg.GAT_GATES i) = BitVec.ofNat 32 (c.at s.now).2.1 ∧
      (s.gateShow i).rf (.GAT_STATUS_ENTRY i) = (c.at s.now).1 % 1024)) ∧
  (∀ (s : State) (q : Sender) (i : Fin 96) (w : Word), gateList i = true → s.reaches q (Reg.GAT_ADMIN_CFG i) → ∃ e : State,
    exec (.gateListEnableWrite q i w) s = .next (s.did q (Reg.GAT_ADMIN_CFG i) e) ∧
    e.on (.GAT_ADMIN_CFG_ENABLE i) = w.getLsbD 31 ∧ e.rf (.GAT_ADMIN_CFG_ADMIN_LEN i) = fldGet w 0 11 ∧
    (s.on (.GAT_ADMIN_CFG_ENABLE i) = true → w.getLsbD 31 = false → e.gateOper i = none ∧ e.gatePend i = none ∧
      e.rword (Reg.GAT_GATES i) = 0x1FF ∧ e.on (.GAT_STATUS_PENDING i) = false) ∧
    (¬(s.on (.GAT_ADMIN_CFG_ENABLE i) = true ∧ w.getLsbD 31 = false) → e.gat = s.gat)) ∧
  (∀ (s : State) (r : MgtReq) (late : Bool), s.asked 0x0053 r → r.params.length = 1 → let i := le r.params 0 1
    let run (t : State) : Prop := exec (.gateChange late) s = .next (s.after t)
    let waits (t : State) : Bool := (t.gatePend i).any fun x => !x.copied
    let done (t : State) : State := if waits t then (if late then t.mgtReply 9 0 [] else t.setBegun true) else
      t.mgtReply 0 0 [t.rword (Reg.GAT_CHANGE_LO i), t.rword (Reg.GAT_CHANGE_HI i), BitVec.ofNat 32 (t.rf (.GAT_STATUS_BASE_PAST i)), BitVec.ofNat 32 (t.rf (.GAT_N_N i))]
    let w := s.fwWrite (Reg.GAT_CMD i) (cmdWord 0x6A7E 1)
    ((96 ≤ i ∨ 24 ≤ i ∧ i < 32) → run (s.mgtReply 3 0 [])) ∧
    ((i < 24 ∨ 32 ≤ i ∧ i < 96) → (s.mgt.begun = true → run (done s)) ∧ (s.mgt.begun = false → w.1 = none → run (done w.2)) ∧
      (s.mgt.begun = false → w.1 ≠ none → run (w.2.mgtReply 4 (w.2.rf (.GAT_STATUS_REFUSE_CODE i)) []))))

/-- TRAVEL_COUNT adds one count per valid quadrature edge, or per rising edge of ODO_A in mode 2 with ODO_B as its
direction and INVERT reversing it; both inputs changing at once is a sequence error on source 0x064; mode 0 and
SCALE = 0 stop counting. A forward count repays the reverse debt before the accumulator grows, a reverse count adds
to the debt, and with REVERSE_MODE = 1 every count is forward. A trigger is enabled: a periodic time trigger with a
PERIOD below 40 ns or not above WIDTH is refused; a once time trigger already reached fires LATE; a periodic one
takes the earliest TARGET + m x PERIOD at least 4 us ahead; a travel trigger waits for TARGET. TRIGGER_DUE fires a
time trigger whose moment has come and sets the next one; a due moment sets FIRED and drives TRIG, or counts MISSED
where TRIG is not driven; TRIGGER_PULSE_END returns it. A selected edge on CAPT records base time, D48 and edge in
the FIFO of 8, or is lost, counted and reported when it is full, which the next entry read shows in LOST. Reads of the capture and timestamp FIFOs take the
head, and an empty one reads VALID = 0; the later words of a timestamp record are held for the requester that read the
first (log entry 88). -/
def Obligations.TravelTriggersAndCaptures : Prop :=
  (∀ (s : State) (a b : Bool), exec (.travelCount a b) s = .next (s.after (s.travelCmd a b)) ∧
    ((s.travelSample a b).d48 = s.d48 → s.travelCmd a b = s.travelSample a b) ∧
    (s.travelSample a b).tim.odoA = a ∧ (s.travelSample a b).tim.odoB = b) ∧
  (∀ (s : State) (a b : Bool), let m := s.rf .TIM_ODO_CFG_MODE
    let inv := s.on .TIM_ODO_CFG_INVERT
    let u := s.timeUnit fun x => { x with odoA := a, odoB := b }
    ((m = 0 ∨ s.rf .TIM_ODO_SCALE_SCALE = 0) → s.travelSample a b = u) ∧
    (s.rf .TIM_ODO_SCALE_SCALE ≠ 0 →
      (m = 2 → s.travelSample a b = if a = true ∧ s.tim.odoA = false then u.travelAdd (b != inv) else u) ∧
      (m = 1 → a ≠ s.tim.odoA → b = s.tim.odoB → s.travelSample a b = u.travelAdd (((a != b) == Config.quadForward) != inv)) ∧
      (m = 1 → a = s.tim.odoA → b ≠ s.tim.odoB → s.travelSample a b = u.travelAdd (((a == b) == Config.quadForward) != inv)) ∧
      (m = 1 → a = s.tim.odoA → b = s.tim.odoB → s.travelSample a b = u) ∧
      (m = 1 → a ≠ s.tim.odoA → b ≠ s.tim.odoB → (s.travelSample a b).tim.odo = s.tim.odo ∧
        (s.travelSample a b).on .TIM_INT_QERR = true ∧ (s.travelSample a b).cget 0x70F00 = (s.cget 0x70F00 + 1) % 2 ^ 64 ∧
        (s.travelSample a b).slot 0x064 = some (Slot.event (s.slot 0x064) 0x06 (Config.free s.draws) s.now)))) ∧
  (∀ (s : State) (fwd : Bool), let n := s.rf .TIM_ODO_SCALE_SCALE
    let t := s.travelAdd fwd
    (s.on .TIM_ODO_CFG_REVERSE_MODE = true → t.tim.odo = (s.tim.odo + n) % 2 ^ 64 ∧ t.tim.debt = s.tim.debt) ∧
    (s.on .TIM_ODO_CFG_REVERSE_MODE = false → fwd = true →
      t.tim.odo = (s.tim.odo + (n - s.tim.debt)) % 2 ^ 64 ∧ t.tim.debt = s.tim.debt - n) ∧
    (s.on .TIM_ODO_CFG_REVERSE_MODE = false → fwd = false →
      t.tim.odo = s.tim.odo ∧ t.tim.debt = min (s.tim.debt + n) (0xFFFFFFFF * 2 ^ 16 + 0xFFFF))) ∧
  (∀ (s : State) (q : Sender) (k : Fin 8) (w : Word), s.reaches q (Reg.TIM_TRIG_CFG k) →
    let n := (s.begun q.req).written (Reg.TIM_TRIG_CFG k) w
    let p := s.rf (.TIM_TRIG_PERIOD_PERIOD k)
    let bad := w.getLsbD 31 = true ∧ s.on (.TIM_TRIG_CFG_EN k) = false ∧ w.getLsbD 28 = true ∧
      (if fldGet w 26 2 = 3 then p = 0 else p < 40 ∨ p ≤ s.rf (.TIM_TRIG_WIDTH_WIDTH k))
    (bad → exec (.triggerEnable q k w) s = .next (s.did q (Reg.TIM_TRIG_CFG k) ((s.begun q.req).refuse 0x067 0x08))) ∧
    (¬bad → ∃ e : State, exec (.triggerEnable q k w) s = .next (s.did q (Reg.TIM_TRIG_CFG k) e) ∧
      (let u := (s.begun q.req).wword (Reg.TIM_TRIG_CFG k) n
       (w.getLsbD 31 = false → e = u.setDue k none) ∧
       (w.getLsbD 31 = true → s.on (.TIM_TRIG_CFG_EN k) = true → e = u) ∧
       (w.getLsbD 31 = true → s.on (.TIM_TRIG_CFG_EN k) = false →
         (fldGet w 26 2 = 3 → e = u.setDue k (some (s.trigTarget k))) ∧
         (fldGet w 26 2 ≠ 3 → w.getLsbD 28 = true →
           e = u.setDue k (some (rephase (s.trigTarget k) p (t64Of (s.clock (fldGet w 26 2)))))) ∧
         (fldGet w 26 2 ≠ 3 → w.getLsbD 28 = false →
           e = if atOrAfter 64 (t64Of (s.clock (fldGet w 26 2))) (s.trigTarget k) then (u.setDue k none).trigFire k true
             else u.setDue k (some (s.trigTarget k))))))) ∧
  (∀ target period now : Nat, 0 < period → let d := t64Sub target now
    (4000 ≤ d → rephase target period now = target) ∧
    (d < 4000 → ∃ m : Nat, rephase target period now = (target + m * period) % 2 ^ 64 ∧ 4000 ≤ d + m * period ∧
      ∀ j : Nat, 4000 ≤ d + j * period → m ≤ j)) ∧
  (∀ (s : State) (k : Fin 8) (late : Bool), let t := s.trigFire k late
    t.on (.TIM_TRIG_STATUS_FIRED k) = true ∧ t.tim.fresh = s.tim.fresh ++ [(k : Nat)] ∧
    (late = true → t.on (.TIM_TRIG_STATUS_LATE k) = true) ∧
    (s.on (.TIM_TRIG_CFG_OUT_EN k) = true → s.trigDriven = true → spGet (fun _ => false) t.tim.pulse k = true) ∧
    (s.on (.TIM_TRIG_CFG_OUT_EN k) = true → s.trigDriven = false →
      t.rf (.TIM_TRIG_STATUS_MISSED k) = min 65535 (s.rf (.TIM_TRIG_STATUS_MISSED k) + 1) ∧
      t.slot 0x066 = some (Slot.event (s.slot 0x066) 0x05 (Config.free s.draws) s.now))) ∧
  (∀ (s : State) (k : Fin 8) (t : Nat), s.awake = true → s.trigDue k = some t → s.rf (.TIM_TRIG_CFG_BASE k) ≠ 3 →
    (s.trigReached k t = false → exec (.triggerDue k) s = .next (s.after s)) ∧
    (s.trigReached k t = true → exec (.triggerDue k) s = .next (s.after ((s.setDue k (s.trigNext k t)).trigFire k false)) ∧
      (s.on (.TIM_TRIG_CFG_PERIODIC k) = false → s.trigNext k t = none) ∧
      (s.on (.TIM_TRIG_CFG_PERIODIC k) = true → s.rf (.TIM_TRIG_PERIOD_PERIOD k) ≠ 0 →
        s.trigNext k t = some ((t + s.rf (.TIM_TRIG_PERIOD_PERIOD k)) % 2 ^ 64)))) ∧
  (∀ (s : State) (k : Fin 8), s.awake = true → spGet (fun _ => false) s.tim.pulse k = true → ∃ e : State,
    exec (.triggerPulseEnd k) s = .next (s.after e) ∧ spGet (fun _ => false) e.tim.pulse k = false ∧
    e.out = (s.emit (.triggerEdge k (s.on (.TIM_TRIG_CFG_POL k)))).out) ∧
  (∀ (s : State) (k : Fin 8) (rise : Bool), s.awake = true → exec (.captureEdge k rise) s = .next (s.after (s.captureCmd k rise)) ∧
    (s.on (.TIM_CAPT_CFG_EN k) = true → (s.rf (.TIM_CAPT_CFG_EDGE k) = 3 ∨ s.rf (.TIM_CAPT_CFG_EDGE k) = if rise then 1 else 2) →
      s.pwr.porst = false → 3 ≤ s.rf .TOP_STATE_PWR_STATE →
      let l := spGet (fun _ => []) s.tim.capt k
      let e := s.captureEdge k rise
      (l.length < 8 → spGet (fun _ => []) e.tim.capt k = l ++ [⟨t64Of (s.clock (s.rf (.TIM_CAPT_CFG_BASE k))), s.d48, rise⟩] ∧
          e.tim.captLost = s.tim.captLost ∧ e.on .TIM_INT_CAPT = true) ∧
      (8 ≤ l.length → spGet (fun _ => []) e.tim.capt k = l ∧ spGet (fun _ => false) e.tim.captLost k = true ∧
        e.cget 0x70F10 = (s.cget 0x70F10 + 1) % 2 ^ 64 ∧
        e.slot 0x065 = some (Slot.event (s.slot 0x065) 0x07 (Config.free s.draws) s.now))) ∧
    (s.on (.TIM_CAPT_CFG_EN k) = false → s.captureCmd k rise = s)) ∧
  (∀ (s : State) (q : Sender) (k : Fin 8), s.readable q (Reg.TIM_CAPT_TIME_LO k) → let e := s.captureRead k
    exec (.captureRead q k) s = .next (s.told q (e.rword (Reg.TIM_CAPT_TIME_LO k)) e) ∧
    (∀ r l, spGet (fun _ => []) s.tim.capt k = r :: l → spGet (fun _ => []) e.tim.capt k = l ∧
      e.rf (.TIM_CAPT_TIME_LO_T64_LO k) = r.time % 2 ^ 32 ∧ e.rf (.TIM_CAPT_TIME_HI_T64_HI k) = r.time / 2 ^ 32 % 2 ^ 32 ∧
      e.rf (.TIM_CAPT_DIST_LO_D48_LO k) = r.dist % 2 ^ 32 ∧ e.rf (.TIM_CAPT_DIST_HI_D48_HI k) = r.dist / 2 ^ 32 % 2 ^ 16 ∧
      e.on (.TIM_CAPT_DIST_HI_VALID k) = true ∧ e.on (.TIM_CAPT_DIST_HI_RISE k) = r.rise ∧ e.on (.TIM_CAPT_DIST_HI_LOST k) = spGet (fun _ => false) s.tim.captLost k ∧
      spGet (fun _ => false) e.tim.captLost k = false) ∧
    (spGet (fun _ => []) s.tim.capt k = [] → e.on (.TIM_CAPT_DIST_HI_VALID k) = false)) ∧
  (∀ (s : State) (q : Sender), s.readable q Reg.TIM_TXTS0 → let e := s.txtsRead q.req
    exec (.txtsRead q) s = .next (s.told q (e.rword Reg.TIM_TXTS0) e) ∧
    (∀ r l, s.tim.txts = r :: l → e.tim.txts = l ∧ e.on .TIM_TXTS0_VALID = true ∧ e.rf .TIM_TXTS0_CLOCK = r.clock % 4 ∧
      e.rf .TIM_TXTS0_PORT = r.port % 32 ∧ e.rf .TIM_TXTS0_MSGTYPE = r.msgType % 16 ∧ e.rf .TIM_TXTS0_SEQ_ID = r.seqId % 65536 ∧
      e.latched q.req Reg.TIM_TXTS1 = (fullTime r.stamp).1 ∧ e.latched q.req Reg.TIM_TXTS2 = (fullTime r.stamp).2.1 ∧
      e.latched q.req Reg.TIM_TXTS3 = (fullTime r.stamp).2.2 ∧ e.latched q.req Reg.TIM_TXTS4 = BitVec.ofNat 32 r.domain) ∧
    (s.tim.txts = [] → e.on .TIM_TXTS0_VALID = false))

/-- SLUICE_DISPATCH takes the waiting job of the lowest class in the order of requests (a known-answer test only when its
Pan is free), or resumes a suspended job when no lower class waits; it goes to the first free Pan in service after the one assigned last; with none free the
job of the highest class above it that started last is suspended with its context and its Pan taken, unless 64 contexts are
in use, which SUSP_FULL counts once for a job; with no Pan in service every waiting and suspended job is refused; an egress
job is checked again first. PAN_JOB_COMPLETE frees the Pan, unless it protects a frame whose end has not come.
KNOWN_ANSWER_TEST asks for a test of each Pan in service, RETURN for one of each named Pan; a test that ends counts, removes
its Pan where it answers wrongly, and brings it back where it passes and RETURN asked for it. Table commands that reach CPH_IND_CMD with their key are refused on
source 0x1CC while BUSY; otherwise read copies an entry, write and restore store a valid one that breaks no order of
PNs and freshness, judged after the entries that it meets are read, read and clear copies and clears the counters of tables 4 and 5, and everything else ends with
RESULT 1. Restore adds PN_MARGIN to a transmit SA, with PN_DISABLED beyond the maximum, and FRESH_MARGIN to a
transmit freshness entry. Clearing a bit of CPH_REKEY_REQ clears REKEY_REQ of its SA. -/
def Obligations.CipherEngine : Prop :=
  (∀ (s : State), s.awake = true → exec .sluiceDispatch s = .next (s.after s.sluice) ∧
    (s.jobNext = none → s.sluice = s) ∧
    (∀ p b r, s.jobNext = some (.kat p b r, false) → s.sluice = s.jobStart p (.kat p b r)) ∧
    (∀ p b r, s.jobNext = some (.kat p b r, true) → s.sluice = s.panResume p (.kat p b r)) ∧
    ∀ j, (∀ p b r, j ≠ .kat p b r) →
      (s.jobNext = some (j, false) → s.anyPan = false → s.sluice = s.jobRefuse j) ∧
      (∀ p, s.jobNext = some (j, true) → s.panFree = some p → s.sluice = s.panResume p j) ∧
      (s.jobNext = some (j, true) → s.panFree = none → s.sluice = s) ∧
      (∀ e fid k, j = .egress e fid k → s.jobNext = some (j, false) → s.anyPan = true → s.sluice = s.dispatchEgress e fid k) ∧
      (∀ p, s.jobNext = some (j, false) → (∀ e fid k, j ≠ .egress e fid k) → s.anyPan = true → s.panFree = some p → s.sluice = s.jobStart p j) ∧
      (s.jobNext = some (j, false) → (∀ e fid k, j ≠ .egress e fid k) → s.anyPan = true → s.panFree = none →
        (s.panVictim j.cls = none → s.sluice = s) ∧
        (∀ p, s.panVictim j.cls = some p → 64 ≤ s.cph.suspended.length → s.sluice = s.suspFull j) ∧
        (∀ p k, s.panVictim j.cls = some p → s.cph.suspended.length < 64 → s.panJob p = some k →
          s.sluice = (s.panSuspend p k).jobStart p j))) ∧
  (∀ (s : State) (p : Nat) (k : Job), let t := s.panSuspend p k
    t.panJob p = none ∧ t.cget (Ctr.cph 0) = (s.cget (Ctr.cph 0) + 1) % 2 ^ 64 ∧ t.cph.waiting = s.cph.waiting ∧
    ∃ x : Job, t.cph.suspended = s.cph.suspended ++ [x] ∧ x.work = k.work ∧ x.start = k.start ∧ x.slot = k.slot ∧ x.iv = k.iv ∧
      k.pos ≤ x.pos) ∧
  (∀ (s : State) (j : JobOf), (j ∈ s.cph.counted → s.suspFull j = s) ∧ (j ∉ s.cph.counted →
    (s.suspFull j).cget (Ctr.cph 1) = (s.cget (Ctr.cph 1) + 1) % 2 ^ 64 ∧ j ∈ (s.suspFull j).cph.counted ∧ (s.suspFull j).regs = s.regs)) ∧
  (∀ (s : State) (e fid k : Nat) (c : Copy) (rest : List Copy) (f : Frame), s.queue (e * 8 + k) = c :: rest → c.fid = fid →
    s.frame fid = some f → s.paused e k = false → s.egressOn e = true → s.fwdEn = true → s.gateSpan e k (s.copyTime c) = false →
    s.dispatchEgress e fid k = (s.jobDrop (.egress e fid k)).cinc (Ctr.secy e 4)) ∧
  (∀ (s : State) (p : Nat), s.panFree = some p → s.panIn p = true ∧ s.panJob p = none ∧
    ∃ i, i < 4 ∧ p = (s.cph.last + 1 + i) % 4 ∧ ∀ m, m < i → (s.panIn ((s.cph.last + 1 + m) % 4) && (s.panJob ((s.cph.last + 1 + m) % 4)).isNone) = false) ∧
  (∀ (s : State) (j : JobOf), s.jobNext = some (j, false) → j ∈ s.cph.waiting ∧ s.jobReady j = true ∧
    ∀ k ∈ s.cph.waiting, k.cls < 4 → s.jobReady k = true → j.cls ≤ k.cls) ∧
  (∀ (s : State) (p : Nat) (j : JobOf) (k : Option Nat) (iv : List Byte), let t := s.panStart p j k iv
    t.panJob p = some ⟨j, s.cph.started, k, iv, 0, 0⟩ ∧ t.cph.last = p ∧ t.cph.waiting = s.cph.waiting.erase j) ∧
  (∀ (s : State) (p : Nat) (j : JobOf) (k : Job), s.cph.suspended.find? (fun k => k.work = j) = some k → let t := s.panResume p j
    t.panJob p = some k ∧ t.cph.last = p ∧ t.cph.suspended = s.cph.suspended.erase k ∧ t.cph.waiting = s.cph.waiting) ∧
  (∀ (s : State) (p : Fin 4) (j : Job), s.awake = true → s.panJob p = some j →
    let t := s.cipher fun x => { x with pans := spSet (fun _ => none) x.pans p none }
    let run (u : State) : Prop := exec (.panJobComplete p) s = .next (s.after u)
    (t.panJob p = none ∧ ∀ k : Fin 4, k ≠ p → t.panJob k = s.panJob k) ∧
    (∀ fid, j.work = .ingress fid → run (t.cipher fun x => { x with verdicts := x.verdicts ++ [(fid, (p : Nat))] })) ∧
    (∀ e fid c, j.work = .egress e fid c → run (if (s.frame fid).any (fun f => !f.ended) then s else t)) ∧
    (∀ k b r, j.work = .kat k b r → run (t.katEnd p b r)) ∧ ∀ c k, j.work = .other c k → run t) ∧
  (∀ (s : State) (p : Fin 4) (back : Bool), let t := s.cinc (Ctr.cph 2)
    (back = false → s.katEnd p false back = t) ∧ (s.katEnd p false true).panIn p = true ∧
    s.katEnd p true back = (if s.panIn p then t.panOut p else t).notify (0x1C6 + p) 0x0E ∧
    ∃ u : State, s.panOut p = u.panGone ∧ u.on .CPH_INT_PAN_OUT = true ∧ u.panIn p = false ∧
      ∀ k : Fin 4, k ≠ p → u.panIn k = s.panIn k) ∧
  (∀ (s : State), s.anyPan = true → s.panGone = s) ∧
  (∀ (s : State) (bad : BitVec 4), s.awake = true → ∃ e : State, exec (.knownAnswerTest bad) s = .next (s.after e) ∧ e.regs = s.regs ∧
    e.cph.waiting = s.cph.waiting ++ ((List.range 4).filter s.panIn).map fun p => .kat p (bitAt bad.toNat p) false) ∧
  (∀ (s : State) (q : Sender) (m bad : BitVec 4), s.reaches q Reg.CPH_PAN_CMD → ∃ e : State,
    exec (.panReturn q m bad) s = .next (s.did q Reg.CPH_PAN_CMD e) ∧ (∀ p : Fin 4, e.panIn p = s.panIn p) ∧
    e.cph.waiting = s.cph.waiting ++ ((List.range 4).filter (bitAt m.toNat)).map fun p => .kat p (bitAt bad.toNat p) true) ∧
  (∀ (s : State) (q : Sender), s.reaches q Reg.CPH_IND_CMD → s.on .CPH_IND_CMD_BUSY = true →
    let no := Host.Outcome.next (s.did q Reg.CPH_IND_CMD ((s.begun q.req).refuse 0x1CC 0x08))
    exec (.cphTableRead q) s = no ∧ exec (.cphTableWrite q) s = no ∧ exec (.cphTableReadClear q) s = no ∧
    exec (.cphTableRestore q) s = no) ∧
  (∀ (s : State) (q : Sender), s.reaches q Reg.CPH_IND_CMD → s.on .CPH_IND_CMD_BUSY = false →
    let u := (s.begun q.req)
    let t := u.rf .CPH_IND_ADDR_TABLE
    let i := u.rf .CPH_IND_ADDR_INDEX
    let b := (u.regBytes (Reg.CPH_IND_DATA 0) 12).take (4 * cphWords t)
    let put (e : State) : Host.Outcome State Fault Refusal := .next (s.did q Reg.CPH_IND_CMD e)
    (i < cphIndices t → exec (.cphTableRead q) s = put (((if t ≤ 3 then (u.cphRead t i).2 else u).cphCopy t i).cphDone)) ∧
    let w := u.cphTouch t i
    (i < cphIndices t → t ≤ 3 → w.cphValid t i b = true → w.cphBreaks t i b = false →
      exec (.cphTableWrite q) s = put ((w.cphStore t i b false).cphDone)) ∧
    (i < cphIndices t → 1 ≤ t → t ≤ 3 → w.cphValid t i b = true → w.cphBreaks t i (w.cphMargin t i b) = false →
      exec (.cphTableRestore q) s = put ((w.cphStore t i b true).cphDone)) ∧
    (i < cphIndices t → 4 ≤ t → ∃ e : State, exec (.cphTableReadClear q) s = put e.cphDone ∧
      e.regs = (u.cphCopy t i).regs) ∧
    ((cphIndices t ≤ i ∨ t ≤ 3) → exec (.cphTableReadClear q) s = put u.cphRefused) ∧
    (cphIndices t ≤ i → exec (.cphTableRead q) s = put u.cphRefused) ∧
    (cphIndices t ≤ i → exec (.cphTableWrite q) s = put u.cphRefused ∧ exec (.cphTableRestore q) s = put u.cphRefused) ∧
    (i < cphIndices t → (4 ≤ t ∨ w.cphValid t i b = false ∨ w.cphBreaks t i b = true) →
      exec (.cphTableWrite q) s = put w.cphRefused) ∧
    (i < cphIndices t → (t = 0 ∨ 4 ≤ t ∨ w.cphValid t i b = false ∨ w.cphBreaks t i (w.cphMargin t i b) = true) →
      exec (.cphTableRestore q) s = put w.cphRefused)) ∧
  (∀ (s : State), s.cphDone.rf .CPH_IND_CMD_RESULT = 0 ∧ s.cphRefused.rf .CPH_IND_CMD_RESULT = 1 ∧
    s.cphRefused.slot 0x1CC = some (Slot.event (s.slot 0x1CC) 0x08 (Config.free s.draws) s.now)) ∧
  (∀ (s : State) (i : Nat) (b : List Byte), bitAt (le b 0 1) 6 = true →
    s.cphStore 2 i b true = s.saStore i (putBytes b 8 (bytesLE 8 (min (le b 8 8 + s.pair64 Reg.CPH_PN_MARGIN_LO Reg.CPH_PN_MARGIN_HI)
      (2 ^ 64 - 1)))) (s.maxPn (s.saPort i) < le b 8 8 + s.pair64 Reg.CPH_PN_MARGIN_LO Reg.CPH_PN_MARGIN_HI)) ∧
  (∀ (s : State) (i : Nat) (b : List Byte), bitAt (le b 0 1) 6 = false → s.cphStore 2 i b true = s.cphStore 2 i b false) ∧
  (∀ (s : State) (i : Nat) (b : List Byte), bitAt (le b 8 1) 6 = true → s.cphStore 3 i b true = s.cphStore 3 i (putBytes b 0 (bytesLE 8
    (max (le (s.cphAt 3 i) 0 8) (min (le b 0 8 + s.rf .CPH_FRESH_MARGIN_MARGIN) (2 ^ 64 - 1))))) false) ∧
  (∀ (s : State) (q : Sender) (i : Fin 32) (m : Word), s.reaches q (Reg.CPH_REKEY_REQ i) → ∃ e : State,
    exec (.rekeyReqClear q i m) s = .next (s.did q (Reg.CPH_REKEY_REQ i) e) ∧
    e.rword (Reg.CPH_REKEY_REQ i) = s.rword (Reg.CPH_REKEY_REQ i) &&& ~~~m ∧
    ∀ b : Fin 32, (s.rword (Reg.CPH_REKEY_REQ i) &&& m).getLsbD b = true → e.saFlag (i * 32 + b) 3 = false)

/-- An event is appended to its channel's FIFO, before those of a higher KIND posted in the same core cycle; a full one loses it with RX_OVERFLOW and kind 0x07 on 0x1E0 + c, and
a STOPPED channel counts it in RX_DISCARD. A received message is counted, gives no event in LISTEN, and in ACTIVE is
posted when it is good or ERR_EVT = 1; a CAN message must have a format and length of the MODE, and the last byte of a LIN
response is its checksum. CHANNEL_TX_START takes the message sent next, the oldest or with TX_ORDER the
lowest identifier, onto the bus, or counts it in TX_INVALID, where its queue has no parity error. CHANNEL_TX_DONE frees the bus and counts it, or puts
the message back for retransmission, unless its queue was flushed meanwhile. TEC and REC count as log entry 49 has it. TEC above 255 puts a CAN channel in BUS_OFF with its queue flushed and kind
0x10 reported; RECOVER starts recovery and the end of it brings the channel back with TEC and REC 0. A LIN slot
sends its header and answers it where it publishes; a responder answers or awaits the response; a missing one is
NO_RESPONSE; 4 s of idle with IDLE_SLEEP puts it to sleep, and 100 ms after a wake its schedule resumes. An idle
ends a serial message. SLEEP flushes a CAN or LIN channel into SLEEP, a CAN channel once its frame has left; WAKE
and a wake pattern return it; FLUSH_TX flushes; each is refused by 0x1E0 + c where it does not apply. -/
def Obligations.GatewayChannels : Prop :=
  (∀ (s : State) (c : Nat) (m : Msg), let x := s.chan c
    let free := x.fifo.length < 16 ∧ (x.fifo.map Msg.units).sum + m.units ≤ 128
    (s.on (.GWE_CH_STATUS_STOPPED c) = true → s.postEvent c m = s.cinc (Ctr.gwe c 4)) ∧
    (s.on (.GWE_CH_STATUS_STOPPED c) = false → m.kind ≠ 5 → m.kind ≠ 6 →
      (free → s.postEvent c m = s.setChan c (x.post (if m.kind = 4 then m else { m with channel := c }) s.cycles)) ∧
      (¬free → (s.postEvent c m).chan c = x ∧ (s.postEvent c m).on .GWE_INT_RX_OVERFLOW = true ∧
        (s.postEvent c m).slot (0x1E0 + c) = some (Slot.event (s.slot (0x1E0 + c)) 0x07 (Config.free s.draws) s.now)))) ∧
  (∀ (x : Chan) (m : Msg) (t : Nat), (x.post m t).fifo.Perm (x.fifo ++ [m]) ∧ (x.posted.1 ≠ t → (x.post m t).fifo = x.fifo ++ [m]) ∧
    (x.posted.1 = t → x.posted.2 ≤ x.fifo.length → let n := x.fifo.length - x.posted.2
      (x.post m t).fifo.take n = x.fifo.take n ∧ (x.post m t).posted = (t, x.posted.2 + 1) ∧
      ((x.fifo.drop n).Pairwise (fun a b => a.kind ≤ b.kind) → ((x.post m t).fifo.drop n).Pairwise (fun a b => a.kind ≤ b.kind)))) ∧
  (∀ (s : State) (c : Nat) (m : Msg),
    (m.status = 0 → s.chState c = 1 → s.received c m = (s.cinc (Ctr.gwe c 0)).cinc (Ctr.gwe c 4)) ∧
    (m.status = 0 → s.chState c ≠ 1 → s.received c m = (s.cinc (Ctr.gwe c 0)).postEvent c { m with kind := 1 }) ∧
    (m.status ≠ 0 → s.chState c ≠ 1 → s.on (.GWE_CH_CFG_ERR_EVT c) = false → s.received c m = s.rxErr c) ∧
    (m.status ≠ 0 → s.chState c ≠ 1 → s.on (.GWE_CH_CFG_ERR_EVT c) = true →
      s.received c m = (s.rxErr c).postEvent c { m with kind := 1 })) ∧
  (∀ (s : State) (c : Fin 32) (m : Msg) (e : CanErr), s.serves 18 = true →
    let go (t : State) : Host.Outcome State Fault Refusal := .next (s.after t)
    (s.chState c ≠ 1 → s.chState c ≠ 2 → exec (.channelRx c m e) s = go s) ∧
    ((c : Nat) < 16 → let t := if s.rxFits c m then s.received c m else s
      (s.chState c = 1 → exec (.channelRx c m e) s = go t) ∧
      (s.chState c = 2 → exec (.channelRx c m e) s = go (t.canErr c false e))) ∧
    (16 ≤ (c : Nat) → (c : Nat) < 24 → (s.chState c = 1 ∨ s.chState c = 2) →
      (m.data = [] → exec (.channelRx c m e) s = go s) ∧
      ∀ id at_, (s.chan c).header = some (id, at_) ∨ (s.chan c).header = none ∧ id = m.id % 64 ∧ at_ = m.time → m.data ≠ [] →
        let r := s.linTaken c id (decide (m.status ≠ 0)) m.data
        let t := (s.setChan c { s.chan c with header := none }).received c ⟨c, 3, 0, id, 0, 0, 1, r.1, 0, at_, r.2⟩
        exec (.channelRx c m e) s = go (if r.1 = 0 ∧ id = 0x3C ∧ r.2.head? = some 0 then t.chToSleep c else t)) ∧
    (24 ≤ (c : Nat) → (s.chState c = 1 ∨ s.chState c = 2) → exec (.channelRx c m e) s = go (s.serialChars c m.id m.status m.time m.data))) ∧
  (∀ (s : State) (c id : Nat) (b d : List Byte), (s.linTaken c id true b).1 = 2 ∧
    (1 ≤ d.length → d.length ≤ 8 → s.linTaken c id false (s.linResponse c id d) = (0, d)) ∧
    (b.length ≤ 1 ∨ b.take 9 ≠ s.linResponse c id (b.take 9).dropLast → (s.linTaken c id false b).1 = 1)) ∧
  (∀ (s : State) (c : Fin 32) (m : Msg), s.serves 18 = true → isLin c = false → s.chState c = 2 → (s.chan c).onBus = none →
    (s.chan c).sleeping = false → s.eccAt .txq c = 0 → (s.chan c).txq[s.txPick c]? = some m → ∃ e : State,
    exec (.channelTxStart c) s = .next (s.after e) ∧ (e.chan c).txq = (s.chan c).txq.eraseIdx (s.txPick c) ∧
    (s.canCarry c m = true → (e.chan c).onBus = some { m with time := s.now } ∧
      e.out = ((if isCan c && m.format = 2 then s.emit (.xlPhase c (s.xlCoding c)) else s).emit (.busMessage c (s.framed c m))).out) ∧
    (s.canCarry c m = false → (e.chan c).onBus = none ∧ e.cget (Ctr.gwe c 6) = (s.cget (Ctr.gwe c 6) + 1) % 2 ^ 64)) ∧
  (∀ (s : State) (c : Nat), ((isCan c && s.on (.GWE_CH_CFG_TX_ORDER c)) = false → s.txPick c = 0) ∧
    ((isCan c && s.on (.GWE_CH_CFG_TX_ORDER c)) = true → ∀ (a b : Msg) (i : Nat), (s.chan c).txq[s.txPick c]? = some a → (s.chan c).txq[i]? = some b →
      a.order ≤ b.order)) ∧
  (∀ (s : State) (c : Fin 32) (e : CanErr) (m : Msg), s.serves 18 = true → (s.chan c).onBus = some m →
    let off := s.setChan c { s.chan c with onBus := none, flushed := false }
    let done := off.cinc (Ctr.gwe c 1)
    let told := if s.on (.GWE_CH_CFG_TXC_EN c) && s.chState c = 2 then
      done.postEvent c { Msg.blank c 7 0 m.id m.time with format := m.format } else done
    let again := if (s.chan c).flushed then off.cinc (Ctr.gwe c 5) else s.setChan c { s.chan c with onBus := none, txq := m :: (s.chan c).txq }
    let fin (t : State) : Host.Outcome State Fault Refusal := .next (s.after
      (if (t.chan c).sleeping then (t.emit (.busSleep c)).chToSleep c else t))
    (16 ≤ (c : Nat) → exec (.channelTxDone c true e) s = fin told ∧ exec (.channelTxDone c false e) s = fin again) ∧
    ((c : Nat) < 16 → exec (.channelTxDone c true e) s = fin (told.canErr c true { e with lec := 0 }) ∧
      (e.lec ≠ 0 → exec (.channelTxDone c false e) s = fin (again.canErr c true e)) ∧
      (e.lec = 0 → exec (.channelTxDone c false e) s = fin again))) ∧
  (∀ (s : State) (c : Fin 16) (sent : Bool) (e : CanErr), let t := s.canErr c sent e
    let tec := if sent then tecNext (s.rf (.GWE_CAN_ERR_TEC c)) e else s.rf (.GWE_CAN_ERR_TEC c)
    (255 < tec → t.chState c = 3 ∧ t.rf (.GWE_CAN_ERR_STATE c) = 2 ∧ (t.chan c).txq = [] ∧ (t.chan c).onBus = none ∧
      (t.chan c).recovering = s.on (.GWE_CH_CFG_AUTO_RECOVER c) ∧ t.on .GWE_INT_BUS_OFF = true) ∧
    (tec ≤ 255 → t.chState c = s.chState c ∧ t.rf (.GWE_CAN_ERR_TEC c) = tec ∧
      t.rf (.GWE_CAN_ERR_STATE c) = if 127 < tec ∨ 127 < t.rf (.GWE_CAN_ERR_REC c) then 1 else 0) ∧
    (sent = true → t.rf (.GWE_CAN_ERR_REC c) = s.rf (.GWE_CAN_ERR_REC c)) ∧
    (sent = false → e.lec ≠ 0 → t.rf (.GWE_CAN_ERR_REC c) = min 255 (s.rf (.GWE_CAN_ERR_REC c) + 1 + (if e.extra then 8 else 0))) ∧
    (sent = false → e.lec = 0 → s.rf (.GWE_CAN_ERR_REC c) ≤ 127 → t.rf (.GWE_CAN_ERR_REC c) = s.rf (.GWE_CAN_ERR_REC c) - 1) ∧
    (sent = false → e.lec = 0 → 127 < s.rf (.GWE_CAN_ERR_REC c) → 119 ≤ t.rf (.GWE_CAN_ERR_REC c) ∧ t.rf (.GWE_CAN_ERR_REC c) ≤ 127)) ∧
  (∀ (n : Nat) (e : CanErr), (e.lec = 0 → tecNext n e = n - 1) ∧ (e.lec ≠ 0 → tecNext n e = if e.extra then n else n + 8)) ∧
  (∀ (s : State) (c : Fin 16), s.serves 18 = true → s.chState c = 3 → (s.chan c).recovering = true → ∃ e : State,
    exec (.busOffRecovery c) s = .next (s.after e) ∧ e.chState c = (if s.fwdEn then 2 else 1) ∧ e.rf (.GWE_CAN_ERR_TEC c) = 0 ∧
    e.rf (.GWE_CAN_ERR_REC c) = 0 ∧ e.rf (.GWE_CAN_ERR_STATE c) = 0 ∧ (e.chan c).recovering = false) ∧
  (∀ (s : State) (k : Fin 8) (j : Nat), let c := 16 + (k : Nat)
    let id := s.rf (.GWE_LIN_SCHED_ID (32 * k + j))
    let n := s.rf (.GWE_LIN_CFG_NSLOTS c)
    let t := (s.emit (.linBreak c (13 + s.rf (.GWE_LIN_CFG_BREAK_BITS c)) (linPid id))).setChan c { s.chan c with slot := .next ((j + 1) % n), header := some (id, s.now) }
    s.serves 18 = true → (s.chan c).slot = .next j → s.chState c = 2 → j < n →
    (s.on (.GWE_LIN_SCHED_PUBLISH (32 * k + j)) = false → exec (.linSlotStart k) s = .next (s.after t)) ∧
    (s.on (.GWE_LIN_SCHED_PUBLISH (32 * k + j)) = true → spGet (fun _ => none) (s.chan c).lin id = none →
      exec (.linSlotStart k) s = .next (s.after t)) ∧
    (∀ m, s.on (.GWE_LIN_SCHED_PUBLISH (32 * k + j)) = true → spGet (fun _ => none) (s.chan c).lin id = some m →
      exec (.linSlotStart k) s = .next (s.after (t.linSend c id s.now m)))) ∧
  (∀ (s : State) (c id at_ : Nat) (m : Msg), isLin c = true → let t := s.linSend c id at_ m
    (t.chan c).header = none ∧
    (s.canCarry c m = true → (t.chan c).onBus = some { m with time := at_ } ∧ t.out = (s.emit (.busMessage c (s.linResponse c id m.data))).out) ∧
    (s.canCarry c m = false → spGet (fun _ => none) (t.chan c).lin id = none ∧ t.out = s.out ∧
      t.cget (Ctr.gwe c 6) = (s.cget (Ctr.gwe c 6) + 1) % 2 ^ 64)) ∧
  (∀ (s : State) (k : Fin 8) (id : Fin 64) (at_ : Nat), let c := 16 + (k : Nat)
    let x := s.chan c
    s.serves 18 = true → s.chMode c = 5 → (s.chState c = 1 ∨ s.chState c = 2) →
    (∀ m, spGet (fun _ => none) x.lin id = some m → s.chState c = 2 → exec (.linHeaderReceived k ⟨id, at_⟩) s = .next (s.after (s.linSend c id at_ m))) ∧
    (spGet (fun _ => none) x.lin id = none ∨ s.chState c = 1 →
      exec (.linHeaderReceived k ⟨id, at_⟩) s = .next (s.after (s.setChan c { x with header := some ((id : Nat), at_) })))) ∧
  (∀ (s : State) (k : Fin 8), let c := 16 + (k : Nat)
    let x := s.chan c
    s.serves 18 = true →
    (∀ id at_, x.header = some (id, at_) → exec (.linResponseTimeout k) s = .next (s.after
      ((s.setChan c { x with header := none }).received c ⟨c, 3, 0, id, 0, 0, 1, 3, 0, at_, []⟩))) ∧
    (s.on (.GWE_CH_CFG_IDLE_SLEEP c) = true → (s.chState c = 1 ∨ s.chState c = 2) → exec (.linIdleSleep k) s = .next (s.after (s.chToSleep c))) ∧
    (x.slot = .resume → exec (.linScheduleResume k) s = .next (s.after (s.setChan c { x with slot := .next 0 })))) ∧
  (∀ (s : State) (k : Fin 8), let c := 24 + (k : Nat)
    let x := s.chan c
    s.serves 18 = true → x.rx ≠ [] → x.rx.length ≤ 2048 → x.rxErr = 0 → (s.chState c = 1 ∨ s.chState c = 2) → (s.chMode c = 6 ∨ s.chMode c = 7) →
    exec (.serialMessageEnd k) s = .next (s.after ((s.setChan c { x with rx := [], rxId := 0, rxErr := 0 }).received c
      ⟨c, 4, 0, x.rxId, 0, 0, 1, 0, 0, x.rxTime, x.rx⟩))) ∧
  (∀ (s : State) (q : Sender) (c : Fin 64), s.reaches q Reg.GWE_CMD →
    let put (e : State) : Host.Outcome State Fault Refusal := .next (s.did q Reg.GWE_CMD e)
    let no := put ((s.begun q.req).refuse (0x1E0 + c) 0x08)
    (((c : Nat) < 16 ∧ s.chState c = 3) → exec (.channelRecover q c) s = put ((s.begun q.req).setChan c { s.chan c with recovering := true })) ∧
    (¬((c : Nat) < 16 ∧ s.chState c = 3) → exec (.channelRecover q c) s = no) ∧
    ((c : Nat) < 24 → s.chState c = 4 → exec (.channelWake q c) s = put ((if isLin c then (s.begun q.req).emit (.busWake c) else (s.begun q.req)).chWakeUp c)) ∧
    ((24 ≤ (c : Nat) ∨ s.chState c ≠ 4) → exec (.channelWake q c) s = no) ∧
    ((c : Nat) < 32 → s.chState c ≠ 0 → exec (.channelFlushTx q c) s = put ((s.begun q.req).chFlush c)) ∧
    ((32 ≤ (c : Nat) ∨ s.chState c = 0) → exec (.channelFlushTx q c) s = no) ∧
    ((24 ≤ (c : Nat) ∨ (s.chState c ≠ 1 ∧ s.chState c ≠ 2)) → exec (.channelSleep q c) s = no) ∧
    ((c : Nat) < 16 → (s.chState c = 1 ∨ s.chState c = 2) →
      ((s.chan c).onBus = none → exec (.channelSleep q c) s = put (((s.begun q.req).emit (.busSleep c)).chToSleep c)) ∧
      ((s.chan c).onBus ≠ none → exec (.channelSleep q c) s = put ((s.begun q.req).setChan c { s.chan c with sleeping := true }))) ∧
    (isLin c = true → (s.chState c = 1 ∨ s.chState c = 2) → ¬(s.chMode c = 4 ∧ s.chState c = 2) →
      exec (.channelSleep q c) s = put (((s.begun q.req).emit (.busSleep c)).chToSleep c)) ∧
    (isLin c = true → s.chMode c = 4 → s.chState c = 2 → exec (.channelSleep q c) s = put
      (((((s.begun q.req).linHead c 0x3C).emit (.busMessage c (s.linResponse c 0x3C ([0x00] ++ List.replicate 7 0xFF)))).emit (.busSleep c)).chToSleep c))) ∧
  (∀ (s : State) (c : Fin 32), s.serves 18 = true → (c : Nat) < 24 → s.chState c = 4 →
    exec (.channelWakeDetect c) s = .next (s.after (s.chWakeUp c))) ∧
  (∀ (s : State) (c : Fin 24), (s.chToSleep c).chState c = 4 ∧ ((s.chToSleep c).chan c).txq = [] ∧ ((s.chToSleep c).chan c).lin = [] ∧
    (s.chWakeUp c).chState c = (if s.fwdEn then 2 else 1) ∧ (s.chWakeUp c).on .GWE_INT_WAKE = true ∧
    ((s.chFlush c).chan c).txq = [] ∧
    (s.chFlush c).cget (Ctr.gwe c 5) = (s.cget (Ctr.gwe c 5) + ((s.chan c).txq.length + (s.chan c).lin.length)) % 2 ^ 64)

/-- GATEWAY_SLICE serves the head event of the first channel after the one served last that is valid, not stopped
and has an event: the work registers are loaded from its context and the program starts at word 0, or, where the
program lies outside the program region, the event ends with execution fault 4, counted and reported. Nothing starts
while an event is in service or forwarding is off (a FIFO and Pantry without damage are assumed here). GATEWAY_TIMER posts a TIMER event on a channel in ACTIVE with
TIMER_US other than 0. A context write to bytes 64 to 95 is taken at any time and clears STOPPED, one to bytes 96 to
127 is ignored, and another is taken only while VALID = 0, else refused on 0x1E0 + c with kind 0x08. GWE_PANTRY_DATA
writes or returns the word at WORD, and WORD advances with AUTO_INC, wrapping at 1,048,575; a write to the staging
buffer is refused on source 0x1E0. DECAPSULATION gives the messages of the first matching entry to its channel as
NET events, or counts DECAP_NOMATCH, and DECAP_BAD where it stops at a malformed one; the copy then leaves port 26.
-/
def Obligations.GatewayEngine : Prop :=
  (∀ (s : State) (run : Bool), s.serves 18 = true →
    exec (.gatewaySlice run) s = .next (s.after (if run then s.sliceStart.sliceRun 1025 else s.sliceStart))) ∧
  (∀ (s : State) (n : Nat), (s.gwe.event = none → s.sliceRun n = s) ∧
    (s.gwe.event ≠ none → s.sliceRun (n + 1) = (s.isaExec .gateway).sliceRun n)) ∧
  (∀ (s : State), (s.fwdEn = false ∨ s.gwe.event ≠ none → s.sliceStart = s) ∧
    ∀ c, s.nextChan = some c → c < 64 ∧ s.ctxValid c = true ∧ s.on (.GWE_CH_STATUS_STOPPED c) = false ∧ (s.chan c).fifo ≠ [] ∧
      ∃ i, i < 64 ∧ c = (s.gwe.last + 1 + i) % 64 ∧ ∀ j, j < i → let d := (s.gwe.last + 1 + j) % 64
        ¬(s.ctxValid d = true ∧ s.on (.GWE_CH_STATUS_STOPPED d) = false ∧ (s.chan d).fifo ≠ [])) ∧
  (∀ (s : State) (c : Nat) (m : Msg) (l : List Msg), s.fwdEn = true → s.gwe.event = none → s.nextChan = some c → (s.chan c).fifo = m :: l →
    s.eccAt .event c = 0 → (∀ k, s.eccAt .pantry k = 0) → let t := s.sliceStart
    let base := s.ctx c 68 4
    let len := s.ctx c 72 2
    let good := base % 8 = 0 ∧ 0 < len ∧ len ≤ 4096 ∧ pantryProg ≤ base ∧ base + 8 * len ≤ pantryStage
    (good → opLegal .gateway (decodeI (BitVec.ofNat 64 (s.pantryLE base 8))).op = true →
      t.gwe.event = some ⟨c, m, 0, s.pantryBytes (512 * c) 512, [], base, len, !s.gwe.cache.contains c⟩ ∧ (t.chan c).fifo = l ∧
      t.gwe.last = c ∧ t.on .GWE_STATUS_BUSY = true ∧
      ∃ g, t.gwe.eng = some g ∧ g.w = wordsOf 16 (s.pantryBytes (512 * c) 512) ∧ g.pc = 0 ∧ g.status = .run) ∧
    (¬good → t.gwe.event = none ∧ t.gwe.last = c ∧ t.on .GWE_INT_EXEC_FAULT = true ∧ t.on .GWE_STATUS_BUSY = false ∧
      t.cget (Ctr.gwe c 8) = (s.cget (Ctr.gwe c 8) + 1) % 2 ^ 64 ∧ t.slot (0x1E0 + c) = some (Slot.event (s.slot (0x1E0 + c)) 0x06 4 s.now) ∧
      t.ctx c 102 1 = 4)) ∧
  (∀ (s : State) (c : Fin 64), s.serves 18 = true → s.ctxValid c = true → s.ctx c 84 4 ≠ 0 → s.chState c = 2 →
    exec (.gatewayTimer c) s = .next (s.after (s.postEvent c (Msg.blank c 5 0 0 s.now)))) ∧
  (∀ (s : State) (a : Nat) (b : List Byte) (k : Nat),
    (s.pantryPuts a b).pantryByte k = if a ≤ k ∧ k < a + b.length then b[k - a]?.getD 0 else s.pantryByte k) ∧
  (∀ (s : State) (q : Sender) (c : Fin 64) (o : Fin 128) (w : Word), let a := 512 * (c : Nat) + 4 * (o : Nat)
    let p := pantryBase + 512 * (c : Nat) + 4 * (o : Nat)
    let put := ((s.begun q.req).eccClear .pantry (a / 4)).pantryPuts a (bytesLE 4 w.toNat)
    q ≠ .host → s.awake = true → s.mayWrite q.req p = true → s.blockOff 18 = false →
    (16 ≤ (o : Nat) → (o : Nat) < 24 → ∃ e : State, exec (.contextWrite q c o w) s = .next (s.did q p (e.hatConsume (e.ctx c 65 1 % 64))) ∧
      e = (let t := put.wf (.GWE_CH_STATUS_STOPPED c) 0; if 32 ≤ (c : Nat) then t.chUpdate c else t)) ∧
    (24 ≤ (o : Nat) → (o : Nat) < 32 → exec (.contextWrite q c o w) s = .next (s.did q p ((s.begun q.req).refuse 0x264 0x06))) ∧
    ((o : Nat) < 16 ∨ 32 ≤ (o : Nat) →
      (s.ctxValid c = true → exec (.contextWrite q c o w) s = .next (s.did q p ((s.begun q.req).refuse (0x1E0 + c) 0x08))) ∧
      (s.ctxValid c = false → exec (.contextWrite q c o w) s = .next (s.did q p put)))) ∧
  (∀ (s : State) (q : Sender) (w : Word), s.reaches q Reg.GWE_PANTRY_DATA → let a := 4 * s.rf .GWE_PANTRY_ADDR_WORD
    (a < 0x8000 → exec (.pantryDataWrite q w) s = .next (s.did q Reg.GWE_PANTRY_DATA ((s.begun q.req).pantryWrite a w).pantryNext)) ∧
    (0x8000 ≤ a → a < pantryStage → exec (.pantryDataWrite q w) s = .next (s.did q Reg.GWE_PANTRY_DATA
      (((s.begun q.req).eccClear .pantry (a / 4)).pantryPuts a (bytesLE 4 w.toNat)).pantryNext)) ∧
    (pantryStage ≤ a → exec (.pantryDataWrite q w) s = .next (s.did q Reg.GWE_PANTRY_DATA ((s.begun q.req).refuse 0x1E0 0x08).pantryNext))) ∧
  (∀ (s : State) (q : Sender), s.readable q Reg.GWE_PANTRY_DATA → s.eccAt .pantry (s.rf .GWE_PANTRY_ADDR_WORD) = 0 →
    exec (.pantryDataRead q) s = .next (s.told q (BitVec.ofNat 32 (s.pantryLE (4 * s.rf .GWE_PANTRY_ADDR_WORD) 4)) s.pantryNext)) ∧
  (∀ (s : State), s.pantryNext.rf .GWE_PANTRY_ADDR_WORD = if s.on .GWE_PANTRY_ADDR_AUTO_INC then
      (if s.rf .GWE_PANTRY_ADDR_WORD = 1048575 then 0 else s.rf .GWE_PANTRY_ADDR_WORD + 1) else s.rf .GWE_PANTRY_ADDR_WORD) ∧
  (∀ (s : State) (x : Copy), s.serves 18 = true → s.onWire 26 = some x →
    let t := s.setWire 26 none
    let r := t.decapFind (t.leaving x) 0 64
    (r.1 = none → exec .decapsulation s = .next (s.after ((r.2.cinc (Ctr.gweAll 0)).releaseCopy x))) ∧
    (∀ ch ms ok, r.1 = some (ch, ms, ok) → let u := r.2.each ms (fun s m => s.postActive ch { m with kind := 2, time := s.now })
      exec .decapsulation s = .next (s.after ((if ok then u else u.cinc (Ctr.gweAll 1)).releaseCopy x)))) ∧
  (∀ (s : State) (b : List Byte), (∀ k, s.eccAt .pantry k = 0) →
    s.decapFind b 0 64 = ((List.range 64).findSome? (fun d => s.decapEntry d b), s)) ∧
  (∀ (s : State) (d : Nat) (b : List Byte) (x : Nat × List Msg × Bool), s.decapEntry d b = some x →
    bitAt (s.pantryLE (0x9000 + 16 * d + 10) 1) 7 = true ∧ x.1 = s.pantryLE (0x9000 + 16 * d + 11) 1 % 64)

/-- An inbound read through BAR0 is answered with the register word where it is one aligned word with all byte
enables, with CA and kind 0x06 on 0x261 otherwise, and with 0 and kind 0x06 on 0x000 above the register space.
Through BAR2 an offset in no window answers 0 in the same way, a read of DRAM goes through the window, and a read of
a pop port pops whole aligned lines, else CA, and answers 0 while HAT is in reset. A completion is cut at multiples
of 64; one of bytes with an uncorrectable error is poisoned and counted. A read whose target does not answer stays
open, and
INBOUND_READ_TIMEOUT answers it with CA, counted and reported on 0x262. An inbound write goes the same ways, and one
that does not take effect is logged: a failure fills the lowest entry that is not VALID with the next sequence
number and raises ELOG, or only counts in OVERFLOW. POISONED_TLP discards the write, reports kind 0x0E on 0x263 and logs it.
WINDOW_CFG_WRITE takes an enabled window only over free DRAM or pop ports and keeps LIMIT while EN = 1, else it
refuses with kind 0x08 on 0x264. PREFETCH_FILL_DONE fills a buffer, or discards it where its DRAM bytes hold an
uncorrectable error; PREFETCH_EXPIRY discards it. PCIE_LINK_UP raises UP with SPEED, WIDTH and LINK_UP
and takes what the host set in configuration space; PCIE_RESET
clears the rings and open reads, voids the debug challenge, keeps every other register and the Hatches, and reports kind 0x10 on 0x260 when the link went down. -/
def Obligations.BridgeAccess : Prop :=
  (∀ (s : State) (speed width mps : Nat) (host : HostSetup), s.serves 20 = true → s.on .TOP_STRAP_PCIE_EN = true → s.on .BRG_LINK_STATUS_UP = false →
    speed < 16 → width < 16 → ∃ e : State, exec (.pcieLinkUp speed width mps host) s = .next (s.after e) ∧
    e.on .BRG_LINK_STATUS_UP = true ∧ e.rf .BRG_LINK_STATUS_SPEED = speed ∧ e.rf .BRG_LINK_STATUS_WIDTH = width ∧
    e.on .BRG_INT_LINK_UP = true ∧ e.brg.mps = mps ∧ e.brg.mrrs = host.mrrs ∧ e.brg.d3hot = host.d3hot) ∧
  (∀ (s : State) (down : Bool), s.awake = true → ∃ e : State, exec (.pcieReset down) s = .next (s.after e) ∧
    e.brg.rings = [] ∧ e.brg.open_ = [] ∧ (∀ i : Fin 16, e.pfBuf i = none) ∧ e.hat = s.hat ∧
    (∀ r : Fin 32, e.rword (Reg.BRG_RING_BASE_LO r) = 0 ∧ e.rword (Reg.BRG_RING_BASE_HI r) = 0 ∧
      e.rword (Reg.BRG_RING_CFG r) = resetWord (Reg.BRG_RING_CFG r) ∧ e.rword (Reg.BRG_RING_TAIL r) = 0 ∧ e.rword (Reg.BRG_RING_HEAD r) = 0) ∧
    (∀ a, (∀ r : Fin 32, a ≠ Reg.BRG_RING_BASE_LO r ∧ a ≠ Reg.BRG_RING_BASE_HI r ∧ a ≠ Reg.BRG_RING_CFG r ∧ a ≠ Reg.BRG_RING_TAIL r ∧
      a ≠ Reg.BRG_RING_HEAD r) → (∀ n : Fin 8, a ≠ Reg.SEC_DEBUG_CHAL n) → a ≠ Reg.BRG_LINK_STATUS → a ≠ Reg.BRG_INT → e.rword a = s.rword a) ∧
    (∀ n : Fin 8, e.rword (Reg.SEC_DEBUG_CHAL n) = 0) ∧ e.sec.chal = false ∧
    (down = true → s.on .BRG_LINK_STATUS_UP = true → e.on .BRG_LINK_STATUS_UP = false ∧ e.on .BRG_INT_LINK_DOWN = true ∧
      e.slot 0x260 = some (Slot.event (s.slot 0x260) 0x10 (Config.free s.draws) s.now))) ∧
  (∀ (s : State) (off n tag : Nat) (whole : Bool), s.serves 20 = true →
    let t := State.cinc { s with wfail := none } (Ctr.brg 0)
    let read (bar : Nat) : Host.Outcome State Fault Refusal := exec (.inboundRead bar off n tag whole true) s
    let zero (t : State) : Host.Outcome State Fault Refusal := .next (s.after { ((t.unmapped off).completeAt tag 0 off (List.replicate n 0)) with wfail := none })
    let w := off / 2 ^ 26
    let win := w < 16 ∧ s.on (.BRG_WIN_CFG_EN w) = true ∧ off % 2 ^ 26 < s.rf (.BRG_WIN_CFG_LIMIT w) * 4096
    let a := s.winBase w + off % 2 ^ 26
    (n = 4 → off % 4 = 0 → whole = true → off < 0x440000 → let r := t.busRead .host off
      read 0 = .next (s.after { (r.2.2.answer tag r.1 off (bytesLE 4 r.2.1.toNat)) with wfail := none })) ∧
    (¬(n = 4 ∧ off % 4 = 0 ∧ whole = true) → read 0 = .next (s.after (t.abort tag))) ∧
    (n = 4 → off % 4 = 0 → whole = true → 0x440000 ≤ off → read 0 = zero t) ∧ (¬win → read 2 = zero t) ∧
    (win → popBase ≤ a → a < popEnd → s.blockOff 19 = false →
      (a % 64 = 0 → n % 64 = 0 → n ≠ 0 → let r := t.hatPop ((a - popBase) / 4096) (n / 64)
        read 2 = .next (s.after (r.2.2.answer tag r.1 a r.2.1))) ∧
      (a % 64 ≠ 0 ∨ n % 64 ≠ 0 ∨ n = 0 → read 2 = .next (s.after (t.abort tag)))) ∧
    (win → popBase ≤ a → a < popEnd → s.blockOff 19 = true → read 2 = .next (s.after (t.completeAt tag 0 off (List.replicate n 0)))) ∧
    (win → ¬(popBase ≤ a ∧ a < popEnd) → read 2 = .next (s.after { (t.winRead w a n tag) with wfail := none })) ∧
    (∀ i, i < 256 → off = 4 * i → n = 4 → read 4 = .next (s.after (t.completeAt tag 0 off (bytesLE 4 (spGet msixWord s.irq.table i).toNat)))) ∧
    (∀ bar, (s.inboundTarget bar off n whole = true → exec (.inboundRead bar off n tag whole false) s = .next (s.after
        ((s.cinc (Ctr.brg 0)).bridge fun x => { x with open_ := tag :: x.open_ }))) ∧
      (s.inboundTarget bar off n whole = false → exec (.inboundRead bar off n tag whole false) s = read bar))) ∧
  (∀ (s : State) (tag : Nat) (b : List Byte), (s.abort tag).cget (Ctr.brg 2) = (s.cget (Ctr.brg 2) + 1) % 2 ^ 64 ∧
    (s.abort tag).slot 0x261 = some (Slot.event (s.slot 0x261) 0x06 (Config.free s.draws) s.now) ∧
    (s.abort tag).out = (s.emit (.completion tag 4 [])).out ∧ (∀ a, (s.answer tag false a b).out = (s.completeAt tag 0 a b).out ∧
    (s.answer tag true a b).out = (s.completeAt tag 8 a b).out ∧ (s.answer tag true a b).cget (Ctr.brg 3) = (s.cget (Ctr.brg 3) + 1) % 2 ^ 64) ∧
    (∀ a status, b ≠ [] → a % 64 + b.length ≤ 64 → s.completeAt tag status a b = s.emit (.completion tag status b))) ∧
  (∀ (s : State) (tag : Nat), s.serves 20 = true → tag ∈ s.brg.open_ →
    let t := s.bridge fun x => { x with open_ := x.open_.filter (· != tag) }
    exec (.inboundReadTimeout tag) s = .next (s.after (((t.notify 0x262 0x05).cinc (Ctr.brg 2)).complete tag 4 []))) ∧
  (∀ (s : State) (off reqId : Nat) (b : List Byte) (whole : Bool) (aux : Nat), s.serves 20 = true →
    let t := State.cinc { s with wfail := none } (Ctr.brg 1)
    let write (bar : Nat) : Host.Outcome State Fault Refusal := exec (.inboundWrite bar off reqId b whole aux) s
    let log (space : Nat) (e : State) : Host.Outcome State Fault Refusal := .next (s.after (e.logWrite space off b.length reqId))
    (b.length = 4 → off % 4 = 0 → whole = true → off < 0x440000 →
      write 0 = log 0 (t.busStore .host off (BitVec.ofNat 32 (ofBytesLE b)) aux)) ∧
    (¬(b.length = 4 ∧ off % 4 = 0 ∧ whole = true) → write 0 = log 0 t.badAccess) ∧
    (∀ i, i < 256 → off = 4 * i → b.length = 4 → write 4 = .next (s.after (t.msixTable i (BitVec.ofNat 32 (ofBytesLE b))))) ∧
    (s.winFind off = none → write 2 = log 1 (t.unmapped off)) ∧
    (∀ w a, s.winFind off = some (w, a) → (s.on (.BRG_WIN_CFG_WR w) = false ∨ (popBase ≤ a ∧ a < popEnd) → write 2 = log 1 (t.refuse 0x264 0x06)) ∧
      (s.on (.BRG_WIN_CFG_WR w) = true → ¬(popBase ≤ a ∧ a < popEnd) → write 2 = log 1 (t.dramStore (a - dramBase) b)))) ∧
  (∀ (s : State) (bar off n reqId : Nat), s.serves 20 = true → exec (.poisonedTlp bar off n reqId) s =
    .next (s.after ((s.refuse 0x263 0x0E).logWrite (if bar = 2 then 1 else 0) off n reqId))) ∧
  (∀ (s : State) (space off n reqId k : Nat), (s.wfail = none → s.logWrite space off n reqId = s) ∧
    (s.wfail = some k → s.blockOff 20 = false → s.logWrite space off n reqId = { (s.writeFail space off k n reqId) with wfail := none })) ∧
  (∀ (s : State) (space off k n reqId : Nat), let t := s.writeFail space off k n reqId
    t.cget (Ctr.brg 7) = (s.cget (Ctr.brg 7) + 1) % 2 ^ 64 ∧
    (∀ e : Fin 16, s.on (.BRG_ELOG1_VALID e) = false → (∀ j : Fin 16, j < e → s.on (.BRG_ELOG1_VALID j) = true) →
      t.on .BRG_INT_ELOG = true ∧ t.on (.BRG_ELOG1_VALID e) = true ∧ t.rf (.BRG_ELOG1_KIND e) = k % 64 ∧ t.rf (.BRG_ELOG1_SPACE e) = space % 4 ∧
      t.rf (.BRG_ELOG1_BYTES e) = n % 8192 ∧ t.rf (.BRG_ELOG0_OFFSET e) = off % 2 ^ 32 ∧ t.rf (.BRG_ELOG2_REQ_ID e) = reqId % 65536 ∧
      t.rf (.BRG_ELOG2_SEQ e) = s.rf .BRG_ELOG_CTL_NEXT_SEQ ∧ t.rf .BRG_ELOG_CTL_NEXT_SEQ = (s.rf .BRG_ELOG_CTL_NEXT_SEQ + 1) % 256 ∧
      t.rf (.BRG_ELOG3_TIME e) = s.now % 2 ^ 32) ∧
    ((∀ j : Fin 16, s.on (.BRG_ELOG1_VALID j) = true) → t.rf .BRG_ELOG_CTL_OVERFLOW = min (s.rf .BRG_ELOG_CTL_OVERFLOW + 1) 65535 ∧
      t.on .BRG_INT_ELOG = s.on .BRG_INT_ELOG)) ∧
  (∀ (s : State) (q : Sender) (k : Fin 16) (w : Word), let r := Reg.BRG_WIN_CFG k
    let len := fldGet w 0 15
    let done (e : State) : Host.Outcome State Fault Refusal := .next (s.did q r e)
    s.reaches q r →
    (s.on (.BRG_WIN_CFG_EN k) = true → len ≠ s.rf (.BRG_WIN_CFG_LIMIT k) → exec (.windowCfgWrite q k w) s = done ((s.begun q.req).refuse 0x264 0x08)) ∧
    (s.on (.BRG_WIN_CFG_EN k) = false ∨ len = s.rf (.BRG_WIN_CFG_LIMIT k) →
      (w.getLsbD 31 = true → len = 0 ∨ 16384 < len ∨ s.winTarget (s.winBase k) (len * 4096) = false →
        exec (.windowCfgWrite q k w) s = done ((s.begun q.req).refuse 0x264 0x08)) ∧
      (w.getLsbD 31 = false ∨ (0 < len ∧ len ≤ 16384 ∧ s.winTarget (s.winBase k) (len * 4096) = true) → ∃ e : State,
        exec (.windowCfgWrite q k w) s = done e ∧ e.on (.BRG_WIN_CFG_EN k) = w.getLsbD 31 ∧ e.on (.BRG_WIN_CFG_WR k) = w.getLsbD 30 ∧
        e.on (.BRG_WIN_CFG_SE_FREE k) = w.getLsbD 29 ∧ e.rf (.BRG_WIN_CFG_LIMIT k) = len))) ∧
  (∀ (s : State) (i : Fin 16) (b : PfBuf), s.serves 20 = true → s.pfBuf i = some b →
    let r := s.dramCheck (b.addr - dramBase) b.len
    (b.filled = false → r.1 = false → ∃ e : State, exec (.prefetchFillDone i) s = .next (s.after e) ∧
      e.pfBuf i = some { b with filled := true, bytes := s.dramGets (b.addr - dramBase) b.len, born := s.cycles }) ∧
    (b.filled = false → r.1 = true → ∃ e : State, exec (.prefetchFillDone i) s = .next (s.after e) ∧ e.pfBuf i = none) ∧
    (b.filled = true → ∃ e : State, exec (.prefetchExpiry i) s = .next (s.after e) ∧ e.pfBuf i = none ∧
      e.cget (Ctr.brg 5) = (s.cget (Ctr.brg 5) + 1) % 2 ^ 64))

/-- RING_TAIL_WRITE sets TAIL. RING_CFG_WRITE takes a word whose SIZE_LOG and BUF_SIZE are legal and unchanged while
EN = 1, else it refuses on 0x264 with kind 0x08; EN = 1 after EN = 0 clears HALTED. TX_RING_FETCH reads the 16 bytes
of the next descriptor while the ring is enabled, not halted, with the link up and not in D3hot, FWD_EN = 1, port 25 not held
and a descriptor available. DMA_READ_COMPLETION starts the read of the descriptor's buffer, which waits where the ring may
not read, or adds its data to the frame
and, at EOP, enters the frame at port 25 in the first descriptor's CLASS, writes each descriptor back DONE with code
0, advances HEAD and counts; a frame above 10,236 bytes is discarded with code 1. Data with an uncorrectable error in
the bridge's buffer, DMA_READ_TIMEOUT (on a receive ring while it is live) and DMA_WRITE_FAILURE halt the ring with code 2 or 3: HALTED, the halt record, kind 0x0E on 0x265. RX_RING_DELIVERY
gives the leaving copy of port 25 to the Hatch it names or to receive ring 16 + its map, that of port 29 to the
analyzer ring, with its metadata first; a ring that is off counts DROPS, one with too few descriptors counts NO_BUF.
COALESCE_TIMER_EXPIRY sends the ring's one message. No piece of a transfer crosses 4 KiB or exceeds the limit. -/
def Obligations.DmaRings : Prop :=
  (∀ (s : State) (q : Sender) (r : Fin 32) (w : Word), s.reaches q (Reg.BRG_RING_TAIL r) → ∃ e : State,
    exec (.ringTailWrite q r w) s = .next (s.did q (Reg.BRG_RING_TAIL r) e) ∧ e.rf (.BRG_RING_TAIL_TAIL r) = fldGet w 0 16 ∧
    ∀ a, a ≠ Reg.BRG_RING_TAIL r → e.rword a = s.rword a) ∧
  (∀ (s : State) (q : Sender) (r : Fin 32) (w : Word), let a := Reg.BRG_RING_CFG r
    let size := fldGet w 24 4
    let buf := fldGet w 16 8
    let done (e : State) : Host.Outcome State Fault Refusal := .next (s.did q a e)
    let ok := 4 ≤ size ∧ 0 < buf ∧ buf ≤ 64 ∧ (s.on (.BRG_RING_CFG_EN r) = true → size = s.rf (.BRG_RING_CFG_SIZE_LOG r) ∧ buf = s.rf (.BRG_RING_CFG_BUF_SIZE r))
    s.reaches q a →
    (¬ok → exec (.ringCfgWrite q r w) s = done ((s.begun q.req).refuse 0x264 0x08)) ∧
    (ok → ∃ e : State, exec (.ringCfgWrite q r w) s = done e ∧ e.on (.BRG_RING_CFG_EN r) = w.getLsbD 31 ∧
      e.rf (.BRG_RING_CFG_SIZE_LOG r) = size ∧ e.rf (.BRG_RING_CFG_BUF_SIZE r) = buf ∧ e.on (.BRG_RING_CFG_VEC_EN r) = w.getLsbD 29 ∧
      e.rf (.BRG_RING_CFG_COAL_US r) = fldGet w 6 10 ∧ e.rf (.BRG_RING_CFG_VECTOR r) = fldGet w 0 6 ∧
      e.on (.BRG_RING_CFG_HALTED r) = (s.on (.BRG_RING_CFG_HALTED r) && !(!s.on (.BRG_RING_CFG_EN r) && w.getLsbD 31)))) ∧
  (∀ (s : State) (r : Fin 16), let x := s.ring r
    let head := s.rf (.BRG_RING_HEAD_HEAD r)
    let i := (head + x.descs.length) % 65536
    s.serves 20 = true → s.ringLive r = true →
    (x.wait = none → s.on (.BRG_RING_CFG_EN r) = true → s.fwdEn = true → s.held 25 = false → x.descs.length < s.ringAvail r →
      exec (.txRingFetch r) s = .next (s.after ((s.setRing r { x with wait := some (.desc i) }).hostRead (s.descAddr r i) 16))) ∧
    (x.wait = some .enter → exec (.txRingFetch r) s = .next (s.after (s.ringEnter r))) ∧
    (∀ k addr len ctrl, x.wait = some (.buf k addr len ctrl) → exec (.txRingFetch r) s = .next (s.after (s.ringBuf r k addr len ctrl)))) ∧
  (∀ (s : State) (r k addr len ctrl : Nat), let may := s.ringLive r = true ∧ s.fwdEn = true ∧ s.held 25 = false
    (may → s.ringBuf r k addr len ctrl = (s.setRing r { s.ring r with wait := some (.data k len ctrl) }).hostRead addr len) ∧
    (¬may → s.ringBuf r k addr len ctrl = s.setRing r { s.ring r with wait := some (.buf k addr len ctrl) })) ∧
  (∀ (s : State) (r i : Nat), s.descAddr r i =
      s.rf (.BRG_RING_BASE_HI_BASE_HI r) * 2 ^ 32 + s.rf (.BRG_RING_BASE_LO_BASE_LO r) * 64 + i % 2 ^ s.rf (.BRG_RING_CFG_SIZE_LOG r) * 16 ∧
    (s.ringAvail r + s.rf (.BRG_RING_HEAD_HEAD r)) % 65536 = s.rf (.BRG_RING_TAIL_TAIL r) ∧
    (s.ringLive r = true ↔ s.on (.BRG_RING_CFG_HALTED r) = false ∧ s.on .BRG_LINK_STATUS_UP = true ∧ s.brg.d3hot = false)) ∧
  (∀ (s : State) (r : Fin 16) (b : List Byte), let x := s.ring r
    s.serves 20 = true →
    (∀ i, x.wait = some (.desc i) → exec (.dmaReadCompletion r b) s = .next (s.after
      (s.ringBuf r i (ofBytesLE (b.take 8)) (ofBytesLE ((b.drop 8).take 2)) (ofBytesLE ((b.drop 10).take 1))))) ∧
    (∀ i len ctrl, x.wait = some (.data i len ctrl) →
      let t := s.setRing r { x with wait := none, bytes := x.bytes ++ b.take len, descs := x.descs ++ [(len, ctrl)] }
      (s.eccAt .ring (16 + r) = 0 → exec (.dmaReadCompletion r b) s = .next (s.after (if bitAt ctrl 7 then t.ringEnter r else t))) ∧
      (1 < s.eccAt .ring (16 + r) → exec (.dmaReadCompletion r b) s = .next (s.after
        (((s.notify 0x267 0x02).eccClear .ring (16 + r)).ringHalt r 2 (s.rf (.BRG_RING_HEAD_HEAD r))))))) ∧
  (∀ (s : State) (r : Fin 16), let x := s.ring r
    let n := x.bytes.length
    let back (t : State) (code : Nat) : State := let head := t.rf (.BRG_RING_HEAD_HEAD r)
      ((t.each ((List.range x.descs.length).zip x.descs) (fun s d => s.writeBack r (head + d.1) d.2.1 d.2.2 code)).wf (.BRG_RING_HEAD_HEAD r)
        ((head + x.descs.length) % 65536)).setRing r { Ring.fresh with coal := x.coal }
    (s.held 25 = true → s.ringEnter r = s.setRing r { x with wait := some .enter }) ∧
    (s.held 25 = false → n ≤ 10236 → s.fwdEn = true → s.ringEnter r =
      (((back (s.inject 25 (match x.descs with | d :: _ => d.2 % 8 | [] => 0) x.bytes false) 0).cinc (Ctr.ring r 0)).cadd (Ctr.ring r 1) n).ringDone r) ∧
    (s.held 25 = false → 10236 < n → s.ringEnter r = ((back s 1).cinc (Ctr.ring r 2)).ringDone r)) ∧
  (∀ (s : State) (r i len ctrl code : Nat), (s.writeBack r i len ctrl code).out = (s.emit (.dmaWrite (s.descAddr r i + 8)
      (bytesLE 2 len ++ bytesLE 1 ctrl ++ [0] ++ bytesLE 2 (2 ^ 15 + code * 2 ^ 12) ++ [0, 0]))).out) ∧
  (∀ (s : State) (r : Fin 32), s.serves 20 = true → (s.ring r).wait ≠ none → (s.ring r).wait ≠ some .enter →
    (∀ i a len ctrl, (s.ring r).wait ≠ some (.buf i a len ctrl)) →
    exec (.dmaReadTimeout r) s = .next (s.after ((s.notify 0x266 0x05).ringHalt r 2 (s.rf (.BRG_RING_HEAD_HEAD r))))) ∧
  (∀ (s : State) (r : Fin 32), s.serves 20 = true → 16 ≤ r.val → (s.ring r).wait = none → s.on (.BRG_RING_CFG_EN r) = true → s.ringLive r = true →
    exec (.dmaReadTimeout r) s = .next (s.after ((s.notify 0x266 0x05).ringHalt r 2 (s.rf (.BRG_RING_HEAD_HEAD r))))) ∧
  (∀ (s : State) (r : Fin 32) (first : BitVec 16), s.serves 20 = true →
    exec (.dmaWriteFailure r first) s = .next (s.after (if s.on (.BRG_RING_CFG_HALTED r) then s else s.ringHalt r 3 first.toNat))) ∧
  (∀ (s : State) (r : Fin 32) (code first : Nat), let t := s.ringHalt r code first
    t.on (.BRG_RING_CFG_HALTED r) = true ∧ t.on .BRG_INT_RING_HALT = true ∧ t.on (.BRG_RING_HALT_VALID r) = true ∧
    t.rf (.BRG_RING_HALT_CODE r) = code % 8 ∧ t.rf (.BRG_RING_HALT_FIRST r) = first % 65536 ∧
    t.slot 0x265 = some (Slot.event (s.slot 0x265) 0x0E (Config.free s.draws) s.now) ∧ t.ring r = { Ring.fresh with coal := (s.ring r).coal } ∧
    (s.on .BRG_LINK_STATUS_UP = false ∨ s.brg.d3hot = true → t.out = s.out)) ∧
  (∀ (s : State) (bufs : List Nat) (p : Nat) (ana : Bool) (c : Copy) (f : Frame), p = (if ana then 29 else 25) → s.serves 20 = true →
    s.onWire p = some c → s.frame c.fid = some f → let t := s.setWire p none
    let b := t.leaving c
    let data := metaRecord c (f.at c.pass) b.length ++ b
    (∀ h, ana = false → c.hatch = some h → exec (.rxRingDelivery ana bufs) s = .next (s.after ((t.hatEnter 14 h data).2.releaseCopy c))) ∧
    (ana = false → c.hatch = none → exec (.rxRingDelivery ana bufs) s = .next (s.after
      ((t.ringDeliver (16 + bitsAt (s.rf .BRG_RX_MAP_MAP) (4 * c.cls) 4) data b.length bufs).releaseCopy c))) ∧
    (ana = true → exec (.rxRingDelivery ana bufs) s = .next (s.after
      ((t.ringDeliver (s.rf .BRG_CFG_ANA_RING) data b.length bufs).releaseCopy c)))) ∧
  (∀ (s : State) (r : Nat) (data : List Byte) (len : Nat) (bufs : List Nat), let size := s.rf (.BRG_RING_CFG_BUF_SIZE r) * 256
    let n := (data.length + size - 1) / size
    (s.on (.BRG_RING_CFG_EN r) = false ∨ s.ringLive r = false → s.ringDeliver r data len bufs = s.cinc (Ctr.ring r 2)) ∧
    (s.on (.BRG_RING_CFG_EN r) = true → s.ringLive r = true → s.ringAvail r < n → s.ringDeliver r data len bufs = s.cinc (Ctr.ring r 3)) ∧
    (s.on (.BRG_RING_CFG_EN r) = true → s.ringLive r = true → n ≤ s.ringAvail r → s.eccAt .ring (16 + r) = 0 → ∃ t : State,
      s.ringDeliver r data len bufs = (((t.wf (.BRG_RING_HEAD_HEAD r) ((s.rf (.BRG_RING_HEAD_HEAD r) + n) % 65536)).cinc (Ctr.ring r 0)).cadd (Ctr.ring r 1) len).ringDone r ∧
      t.regs = s.regs ∧ t.ctr = s.ctr ∧ t.brg.rings = s.brg.rings)) ∧
  (∀ (s : State) (r : Nat), (s.on (.BRG_RING_CFG_VEC_EN r) = false → s.ringDone r = s) ∧
    (s.on (.BRG_RING_CFG_VEC_EN r) = true → s.rf (.BRG_RING_CFG_COAL_US r) = 0 → s.ringDone r = s.msix (s.rf (.BRG_RING_CFG_VECTOR r))) ∧
    (s.on (.BRG_RING_CFG_VEC_EN r) = true → s.rf (.BRG_RING_CFG_COAL_US r) ≠ 0 → s.ringDone r = s.setRing r { s.ring r with coal := true })) ∧
  (∀ (s : State) (r : Fin 32), s.serves 20 = true → (s.ring r).coal = true → s.on (.BRG_RING_CFG_VEC_EN r) = true →
    exec (.coalesceTimerExpiry r) s = .next (s.after ((s.setRing r { s.ring r with coal := false }).msix (s.rf (.BRG_RING_CFG_VECTOR r))))) ∧
  (∀ most fuel a n, 0 < most → n ≤ fuel → ((cutBursts most fuel a n).map (·.2)).sum = n ∧
    ∀ p ∈ cutBursts most fuel a n, 0 < p.2 ∧ p.2 ≤ most ∧ a ≤ p.1 ∧ p.1 + p.2 ≤ a + n ∧ p.1 / 4096 = (p.1 + p.2 - 1) / 4096)

/-- A message of B bytes is cut into the fewest lines of 60 bytes, with consecutive SEQ, LAST on the last line only
and OVF on the first only where data was lost before it. A device-to-host Hatch takes a message whole or loses it,
counted in DROPPED with OVF kept for the next message and kind 0x07 on 0x220 + h; in block reset it takes none, which the
sender counts.
HATCH_PUSH adds a word while the
Hatch is host-to-device, enabled and has room for it within 4,096 words; else the message is broken, its later words are
refused too, and the first refusal alone reports kind 0x07. HATCH_PUSH_END gives a whole message to the Hatch and its consumer, or
discards a broken one, counted in WR_DISCARD. HATCH_POP answers k lines of 64 bytes: those at the head in order,
then empty ones with the next SEQ; from a Hatch that is off or host-to-device all are empty with SEQ 0; lines with an uncorrectable error come poisoned.
HATCH_LINE_MOVE keeps the order of the lines, through the spill region in DRAM too, a head of at most 64 lines and, with
nothing spilled, fills the head from the tail; an uncorrectable block is lost with SPILL_ERR. FLUSH discards the contents,
keeps SEQ and sets OVF; HATCH_CFG_WRITE with EN = 0 discards them and SEQ starts at 0; each breaks a message being pushed,
as DIR = 0 does. WM = 0 is refused with kind 0x08. ARM sets ARMED. A Hatch with VEC_EN = 1 and ARMED = 1 whose
condition holds sends one message and clears ARMED. -/
def Obligations.Hatches : Prop :=
  (∀ (q : Nat) (ovf : Bool) (b : List Byte), let l := cutLines q ovf (linesOf b.length) b
    l.length = linesOf b.length ∧ l.flatMap HLine.data = b ∧
    (∀ (i : Nat) (y : HLine), l[i]? = some y → y.seq = (q + i) % 65536 ∧ y.ovf = (ovf && decide (i = 0)) ∧ y.last = decide (i + 1 = l.length) ∧
      0 < y.data.length ∧ y.data.length ≤ 60 ∧ (y.last = false → y.data.length = 60))) ∧
  (∀ (y : HLine), y.data.length ≤ 60 → y.bytes.length = 64) ∧
  (∀ (s : State) (h : Nat) (b : List Byte), let x := s.hatch h
    let n := linesOf b.length
    let ok := s.on (.HAT_CFG_EN h) = true ∧ s.on (.HAT_CFG_DIR h) = false ∧ n ≤ s.hatFree h
    (∀ src, s.blockOff 19 = true → s.hatEnter src h b = (false, s.cinc (Ctr.boundary src))) ∧
    (∀ src, s.blockOff 19 = false → ok → s.hatEnter src h b = (true, s.hatPut h b)) ∧
    (∀ src, s.blockOff 19 = false → ¬ok → let r := s.hatEnter src h b
      r.1 = false ∧ r.2.hatch h = { x with ovf := true } ∧
      r.2.cget (Ctr.hat h 3) = (s.cget (Ctr.hat h 3) + 1) % 2 ^ 64 ∧ r.2.on .HAT_INT_DROPPED = true ∧
      r.2.slot (0x220 + h) = some (Slot.event (s.slot (0x220 + h)) 0x07 (Config.free s.draws) s.now)) ∧
    (let e := (s.hatPut h b).hatch h
     e.seq = (x.seq + n) % 65536 ∧ e.ovf = false ∧
     (x.tail.length + n ≤ 64 → e = { x with tail := x.tail ++ cutLines x.seq x.ovf n b, seq := (x.seq + n) % 65536, ovf := false }) ∧
     (x.spill = 0 → x.cut = false → s.spillCap h = 0 →
       e.spill = 0 ∧ e.head ++ e.tail = x.head ++ x.tail ++ cutLines x.seq x.ovf n b))) ∧
  (∀ (s : State) (h : Fin 64), (s.hatSignal h).hat = s.hat ∧
    let wm := s.rf (.HAT_CFG_WM h)
    let due := s.on (.HAT_CFG_VEC_EN h) = true ∧ s.on (.HAT_STATUS_ARMED h) = true ∧
      (if s.on (.HAT_CFG_DIR h) then wm ≤ s.hatFree h else wm ≤ (s.hatch h).count)
    (due → s.hatSignal h = (s.wf (.HAT_STATUS_ARMED h) 0).msix (s.rf (.HAT_CFG_VECTOR h)) ∧ (s.hatSignal h).on (.HAT_STATUS_ARMED h) = false) ∧
    (¬due → s.hatSignal h = s)) ∧
  (∀ (s : State) (q : Sender) (h : Fin 64) (w : Word), let x := s.hatch h
    let ws := x.push.getD []
    let a := Reg.HAT_PUSH h
    let room := s.on (.HAT_CFG_EN h) = true ∧ s.on (.HAT_CFG_DIR h) = true ∧ ws.length < 4096 ∧ x.count + linesOf (4 * (ws.length + 1)) ≤ s.hatCap h
    s.reaches q a →
    (s.on (.HAT_STATUS_BROKEN h) = false → room → exec (.hatchPush q h w) s = .next (s.did q a ((s.begun q.req).setHatch h { x with push := some (ws ++ [w]) }))) ∧
    (s.on (.HAT_STATUS_BROKEN h) = true ∨ ¬room → exec (.hatchPush q h w) s =
      .next (s.did q a (((s.begun q.req).wf (.HAT_STATUS_BROKEN h) 1).hatRefuse h)))) ∧
  (∀ (s : State) (h : Nat), let x := s.hatch h
    (x.told = true → s.hatRefuse h = s) ∧
    (x.told = false → s.hatRefuse h = (s.setHatch h { x with told := true }).refuse (0x220 + h) 0x07)) ∧
  (∀ (s : State) (q : Sender) (h : Fin 64), let y := { s.hatch h with push := none, told := false }
    let t := (s.begun q.req).setHatch h y
    let a := Reg.HAT_PUSH_END h
    s.reaches q a →
    (∀ ws, s.on (.HAT_STATUS_BROKEN h) = false → (s.hatch h).push = some ws →
      exec (.hatchPushEnd q h) s = .next (s.did q a ((t.hatPut h (ws.flatMap (fun w => bytesLE 4 w.toNat))).hatConsume h))) ∧
    (s.on (.HAT_STATUS_BROKEN h) = false → (s.hatch h).push = none → exec (.hatchPushEnd q h) s = .next (s.did q a (t.hatConsume h))) ∧
    (s.on (.HAT_STATUS_BROKEN h) = true → exec (.hatchPushEnd q h) s =
      .next (s.did q a ((((((((s.begun q.req).hatRefuse h).setHatch h y).wf (.HAT_STATUS_BROKEN h) 0).cinc (Ctr.hat h 4)).wf
        .HAT_INT_WR_DISCARD 1).hatSignal h).hatConsume h)))) ∧
  (∀ (s : State) (h : Fin 64) (k tag : Nat), s.serves 19 = true → let r := (s.cinc (Ctr.brg 0)).hatPop h k
    exec (.hatchPop h k tag) s = .next (s.after (r.2.2.answer tag r.1 (popBase + 4096 * h) r.2.1)) ∧
    (s.on (.HAT_CFG_EN h) = false ∨ s.on (.HAT_CFG_DIR h) = true → r.2.2 = s.cinc (Ctr.brg 0) ∧ r.1 = false ∧ r.2.1 = (List.replicate k (List.replicate 60 0 ++ bytesLE 4 0)).flatten) ∧
    (s.on (.HAT_CFG_EN h) = true → s.on (.HAT_CFG_DIR h) = false → let x := s.hatch h
      let n := min k x.head.length
      r.2.2.hatch h = { x with head := x.head.drop n } ∧ (r.1 = true ↔ n ≠ 0 ∧ 1 < s.eccAt .hatch h) ∧
      r.2.1 = (x.head.take n).flatMap HLine.bytes ++ (List.replicate (k - n) (List.replicate 60 0 ++ bytesLE 4 (r.2.2.hatch h).nextSeq)).flatten)) ∧
  (∀ (s : State) (h : Fin 64), s.serves 19 = true → ∃ e : State, exec (.hatchLineMove h) s = .next (s.after e) ∧
    let x := s.hatch h
    let y := e.hatch h
    y.seq = x.seq ∧ (x.head.length ≤ 64 → y.head.length ≤ 64) ∧ (∀ k : Nat, k ≠ h → e.hatch k = s.hatch k) ∧
    (x.cut = false → (∀ k, s.eccAt .dram k = 0) → (∀ l ∈ x.tail, l.data.length ≤ 60 ∧ l.seq < 65536) →
      y.head ++ e.spillLines h y.first y.spill ++ y.tail = x.head ++ s.spillLines h x.first x.spill ++ x.tail) ∧
    (x.cut = false → x.spill = 0 → x.head.length ≤ 64 → y.head = (x.head ++ x.tail).take 64) ∧
    (0 < x.spill → x.head.length ≤ 48 → s.dramServes = true → (s.spillCheck h x.first (min 16 x.spill)).1 = true →
      y.head = x.head ∧ y.cut = true ∧ e.on .HAT_INT_SPILL_ERR = true)) ∧
  (∀ (s : State) (q : Sender) (h : Fin 64), s.reaches q (Reg.HAT_CTRL h) →
    (∃ e : State, exec (.hatchFlush q h) s = .next (s.did q (Reg.HAT_CTRL h) e) ∧ e.on (.HAT_STATUS_BROKEN h) = s.hatPushes h ∧
      e.hatch h = { Hatch.fresh with seq := (s.hatch h).seq, ovf := true, told := (s.hatch h).told }) ∧
    exec (.hatchArm q h) s = .next (s.did q (Reg.HAT_CTRL h) (((s.begun q.req).wf (.HAT_STATUS_ARMED h) 1).hatSignal h))) ∧
  (∀ (s : State) (q : Sender) (h : Fin 64) (w : Word), s.reaches q (Reg.HAT_CFG h) →
    (fldGet w 16 8 = 0 → exec (.hatchCfgWrite q h w) s = .next (s.did q (Reg.HAT_CFG h) ((s.begun q.req).refuse (0x220 + h) 0x08))) ∧
    (fldGet w 16 8 ≠ 0 → ∃ e : State, exec (.hatchCfgWrite q h w) s = .next (s.did q (Reg.HAT_CFG h) e) ∧
      e.on (.HAT_CFG_EN h) = w.getLsbD 31 ∧ e.on (.HAT_CFG_DIR h) = w.getLsbD 30 ∧ e.rf (.HAT_CFG_WM h) = fldGet w 16 8 ∧
      (w.getLsbD 31 = false ∨ w.getLsbD 30 = false → e.on (.HAT_STATUS_BROKEN h) = s.hatPushes h) ∧
      (w.getLsbD 31 = false → e.hatch h = { Hatch.fresh with told := (s.hatch h).told }) ∧ (w.getLsbD 31 = true → e.hat = s.hat)))

/-- A copy that leaves on port 27 is recorded while the Strongroom records, else discarded and counted in IDLE_DROP,
with kind 0x0D on 0x284 where only the keys fail, after each slot's own check. A record is written at the writer's place in its segment: its
48-byte header, its payload encrypted and its tag lie in DRAM there, the place moves by the padded length and the record counter by one; without a
Pan, or with no room and no unfrozen segment, it is not written and 0x285 or 0x282 reports kind 0x07. A trigger does
nothing with EN = 0, is counted in TRIG_IDLE while the Strongroom does not record, takes the lowest FREE incident,
which becomes OPEN with the source and reason, then writes a marker of them, or is lost with kind 0x07 on 0x281 where no
incident is free and every CLOSED one has PROTECT. The walk of R445 changes no segment but for bit i of its FROZEN.
The end of the post window, by time or distance, and of the LIMIT seconds of a distance incident close an OPEN incident: it is
CLOSED with LAST_SEG the writer's segment. RELEASE of a CLOSED incident makes it FREE and takes its bit from every
segment; of an EXPORTING one it is refused with code 2, else with code 1. EXPORT of a CLOSED incident makes it
EXPORTING, or is refused with code 2 while another export runs; of any other it is refused with code 1. The first frame carries the
directory entry, each later one 1,024 bytes in 1,054 bytes, or 1,058 with a tag, unless port 27 is held; the last
ends the export. STOP_EXPORT returns the incident to CLOSED. CLEAR_RING is refused with EN = 1 or no ring, else it
frees every incident and segment. -/
def Obligations.Strongroom : Prop :=
  (∀ (s : State) (c : Copy), s.serves 21 = true → s.onWire 27 = some c → let t := s.setWire 27 none
    let go (u : State) : Host.Outcome State Fault Refusal := .next (s.after (u.releaseCopy c))
    (t.recording = false → t.stgReady = false → exec .strongroomRecord s = go (t.cinc (Ctr.stg 3))) ∧
    (t.stgReady = true → t.stgKeys = false → exec .strongroomRecord s =
      let u := ((t.cinc (Ctr.stg 3)).keyUse (t.rf .STG_CFG_KEY_SLOT) 4).2
      go ((u.keyUse (u.rf .STG_CFG_EXPORT_SLOT) 4).2.notify 0x284 0x0D)) ∧
    (∀ f, t.recording = true → s.frame c.fid = some f → exec .strongroomRecord s = go (t.writeRecord 1 (c.hatch.getD 0) f.inPort
      (b2n f.sc.isSome) f.rxTime f.rxDist ((f.at c.pass).verdict.stream.getD 0) (t.leaving c)).2)) ∧
  (∀ (s : State) (ty slot inPort flags time dist stream : Nat) (b : List Byte), let r := s.writeRecord ty slot inPort flags time dist stream b
    let n := b.length
    let len := (48 + n + 16 + 63) / 64 * 64
    (s.anyPan = false → r = (false, (s.stgLoss 7).notify 0x285 0x07)) ∧
    (∀ x p, s.anyPan = true → s.stg.session = some x → x.counter ≠ 2 ^ 64 - 1 → s.stg.wpos = some p →
      (p + len ≤ mib → r.1 = true ∧ r.2.stg = { s.stg with wpos := some (p + len), session := some { x with counter := x.counter + 1 } } ∧
        let y := s.recordBytes x.pfx x.counter (recHeader ty (len / 64) slot inPort n x.pfx flags x.counter time dist stream) b
        r.2.dramGets (s.ringBase + s.rf .STG_STATUS_WRITER * mib + p) y.length = y ∧ y.length = 48 + n + 16) ∧
      (mib < p + len → s.nextSeg (s.rf .STG_STATUS_WRITER) = none → r = (false, (s.stgLoss 4).notify 0x282 0x07)))) ∧
  (∀ (s : State) (j reason base v : Nat), let d := s.stgTrigger j reason base v
    (s.on (.STG_TSRC_EN j) = false → d = s) ∧
    (s.on (.STG_TSRC_EN j) = true → s.recording = false → d = s.cinc (Ctr.stg 6)) ∧
    (s.on (.STG_TSRC_EN j) = true → s.recording = true → s.incsIn 0 = [] → (∀ i ∈ s.incsIn 2, bitAt (s.incFlags i) 4 = true) →
      d = (s.stgLoss 5).notify 0x281 0x07) ∧
    (∀ i l, s.on (.STG_TSRC_EN j) = true → s.recording = true → s.incsIn 0 = i :: l → s.stg.session.isSome = true → ∃ t : State, d = t.writeMarker j i reason base v ∧
      t.rf (.STG_INC_STATE i) = 1 ∧ t.rf (.STG_INC_SOURCE i) = j % 32 ∧ t.rf (.STG_INC_REASON i) = reason % 256 ∧ t.on .STG_INT_OPENED = true)) ∧
  (∀ (s : State) (q : Sender) (reason : BitVec 8), s.reaches q Reg.STG_CMD →
    exec (.stgTrigger q reason) s = .next (s.did q Reg.STG_CMD ((s.begun q.req).stgTrigger 17 reason.toNat 0 s.now))) ∧
  (∀ (s : State) (i w start pfx unit bound n first k : Nat), let t := (s.freezeBack i w start pfx unit bound n first).2.2
    t.seg k = s.seg k ∨ t.seg k = { s.seg k with frozen := (s.seg k).frozen ||| 2 ^ i }) ∧
  (∀ (s : State) (i : Fin 8) (x : IncInfo), s.serves 21 = true → s.inc i = some x →
    (x.unit = 0 → atOrAfter 64 s.now (x.time + winTime x.post) = true → exec (.incidentPostExpiry i) s = .next (s.after (s.incClose i id))) ∧
    (x.unit = 1 → atOrAfter 48 s.d48 (x.dist + x.post * 1000) = true → exec (.incidentPostExpiry i) s = .next (s.after (s.incClose i id))) ∧
    (x.unit = 1 → x.began + x.limit * 1000000000 ≤ s.cycles →
      exec (.incidentLimitExpiry i) s = .next (s.after (s.incClose i (fun s => s.setIncFlag i 1)))) ∧
    (x.unit ≠ 1 ∨ s.cycles < x.began + x.limit * 1000000000 → exec (.incidentLimitExpiry i) s = .next (s.after s))) ∧
  (∀ (s : State) (i : Fin 8),
    (s.rf (.STG_INC_STATE i) = 1 → (s.incClose i id).rf (.STG_INC_STATE i) = 2 ∧
      (s.incClose i id).rf (.STG_INC_SEG_LAST_SEG i) = s.rf .STG_STATUS_WRITER ∧ (s.incClose i id).on .STG_INT_CLOSED = true) ∧
    (s.rf (.STG_INC_STATE i) ≠ 1 → s.incClose i id = s)) ∧
  (∀ (s : State) (q : Sender) (i : Fin 8), let go (t : State) : Host.Outcome State Fault Refusal := .next (s.did q Reg.STG_CMD t)
    let st := s.rf (.STG_INC_STATE i)
    s.reaches q Reg.STG_CMD →
    (st = 2 → exec (.incidentRelease q i) s = go ((s.begun q.req).incFree i)) ∧
    (st = 3 → exec (.incidentRelease q i) s = go ((s.begun q.req).stgRefuse 2)) ∧
    (st ≠ 2 → st ≠ 3 → exec (.incidentRelease q i) s = go ((s.begun q.req).stgRefuse 1)) ∧
    (s.stg.exp.isSome = true → st = 2 → exec (.incidentExport q i) s = go ((s.begun q.req).stgRefuse 2)) ∧
    (st ≠ 2 → exec (.incidentExport q i) s = go ((s.begun q.req).stgRefuse 1)) ∧
    (s.stg.exp = none → st = 2 → ∃ t : State, exec (.incidentExport q i) s = go t ∧ t.rf (.STG_INC_STATE i) = 3 ∧
      t.stg = { s.stg with exp := some ⟨i, none, 0, 0⟩ }) ∧
    exec (.stopExport q) s = go (s.begun q.req).exportEnd ∧
    (s.on .STG_CFG_EN = true → exec (.clearRing q) s = go ((s.begun q.req).stgRefuse 4)) ∧
    (s.on .STG_CFG_EN = false → s.ringSize = 0 → exec (.clearRing q) s = go ((s.begun q.req).stgRefuse 3)) ∧
    (s.on .STG_CFG_EN = false → s.ringSize ≠ 0 → exec (.clearRing q) s = go (s.begun q.req).ringClear)) ∧
  (∀ (s : State) (i : Fin 8), let t := s.incFree i
    t.rf (.STG_INC_STATE i) = 0 ∧ t.inc i = none ∧ ∀ k, 0 < k → k < s.ringSize → bitAt (t.seg k).frozen i = false) ∧
  (∀ (s : State), (∀ k, s.ringClear.seg k = SegEnt.zero ∧ s.ringClear.inc k = none) ∧ s.ringClear.rf .STG_STATUS_WRITER = 0 ∧
    ∀ i : Fin 8, s.ringClear.rf (.STG_INC_STATE i) = 0) ∧
  (∀ (s : State), (s.stg.exp = none → s.exportEnd = s) ∧ (∀ e, s.stg.exp = some e → s.exportEnd.rf (.STG_INC_STATE e.inc) = 2 ∧
    s.exportEnd.on .STG_INT_EXPORT_DONE = true ∧ s.exportEnd.stg = { s.stg with exp := none })) ∧
  (∀ (s : State) (e : StgExport), s.serves 21 = true → s.stg.exp = some e →
    (s.held 27 = true → exec .exportFrame s = .next (s.after s)) ∧
    (s.held 27 = false → e.seg = none → ∃ t : State, exec .exportFrame s = .next (s.after (t.strong fun x =>
        { x with exp := some ⟨e.inc, some (t.rf (.STG_INC_SEG_FIRST_SEG e.inc)), 0, 1⟩ })) ∧
      t = ((s.cinc (Ctr.stg 8)).ringRead (256 + 256 * e.inc) 256).2.inject 27 (s.rf .STG_REPLAY_CFG_CLASS)
        (s.replayFrame e.inc 1 0 0 0 (s.dramGets (s.ringBase + 256 + 256 * e.inc) 256)) false) ∧
    (∀ g, s.held 27 = false → e.seg = some g → let last := decide (g = s.rf (.STG_INC_SEG_LAST_SEG e.inc)) && decide (e.off + 1024 = mib)
      let t := ((s.cinc (Ctr.stg 8)).ringRead (g * mib + e.off) 1024).2.inject 27 (s.rf .STG_REPLAY_CFG_CLASS)
        (s.replayFrame e.inc (b2n last * 2) (e.seq % 65536) g e.off (s.dramGets (s.ringBase + g * mib + e.off) 1024)) false
      (last = true → exec .exportFrame s = .next (s.after t.exportEnd)) ∧
      (e.off + 1024 ≠ mib → exec .exportFrame s = .next (s.after (t.strong fun x =>
        { x with exp := some ⟨e.inc, some g, e.off + 1024, e.seq + 1⟩ }))))) ∧
  (∀ (s : State) (inc flags seq segment off : Nat) (data : List Byte),
    (s.replayFrame inc flags seq segment off data).length = (if s.on .STG_REPLAY_CFG_TAGGED then 34 else 30) + data.length)

/-- A lockstep mismatch counts in CCX_GROUP and restarts the complex: CCX_RESTART and HOLDOVER set, both copies
halted, cause and group shown, RESTARTS counted; a third in one second, one in a restart or one without a current
checkpoint causes 0x052 instead; group 15 is a signature mismatch. A rail disagreement sets CCX_INT.RAIL and, after commit,
makes a checkpoint due at once, or in group 15 is a signature mismatch. A comparator test counts in RUNS and reports a failed
injection of the rail and polarity whose turn it is (log entry 148). CHECKPOINT_NOTICE, 50 us before a due moment, signals the
firmware. A due CHECKPOINT with agreeing signatures makes the other buffer current with its T64;
signatures that differ spoil it and count in group 15; a firmware that has not parked at a due moment of the schedule restarts
the complex; an
uncorrectable TCM word restarts it with cause 3, a correctable one is reported. The restore gives back the current buffer's contents and ends the halt; CCX_DONE ends the restart and takes what waited for the firmware; its timeout causes
0x055. A message sets PENDING, LAST and COUNT, and FIRST only where it is not valid; with bad parity it is counted
and the third in a row reported; a dual-rail source is sampled, an invalid code once as kind 0x09. Writing PENDING clears
PENDING, FIRST_VALID and LOST while ACTIVE = 0, else nothing; FLT_CLEAR clears what it names for one source or all
768 and refuses other sources; FAULT_CLEAR of the management service writes it and answers. The FAULT_N timer ends TIMING and releases the pin, or with HOLD keeps it; a held
RELEASE then releases it or is refused; RELEASE is refused while a pin source is active, held while the timer runs,
else releases. -/
def Obligations.ComplexAndFaults : Prop :=
  (∀ (s : State) (g : Fin 16), s.awake = true → let l := spGet (fun _ => []) s.ccx.times g
    let third := (match l with | _ :: t :: _ => decide (s.cycles < t + secondCycles) | _ => false)
    ∃ u : State, u.rf (.CCX_GROUP_COUNT g) = satInc 16 (s.rf (.CCX_GROUP_COUNT g)) ∧ (∀ a, a ≠ Reg.CCX_GROUP g → u.rword a = s.rword a) ∧
      u.ccx = { s.ccx with times := spSet (fun _ => []) s.ccx.times g ((s.cycles :: l).take 2) } ∧
      ((third = true ∨ s.on .TOP_STATE_CCX_RESTART = true ∨ s.ckptCurrent = none) → exec (.lockstepMismatch g) s = .next (s.after (u.forced 0x052))) ∧
      (third = false → s.on .TOP_STATE_CCX_RESTART = false → s.ckptCurrent.isSome = true →
        exec (.lockstepMismatch g) s = .next (s.after (u.restartBegin g (if g = 15 then 2 else 1))))) ∧
  (∀ (s : State) (group cause : Nat), let t := s.restartBegin group cause
    t.on .TOP_STATE_CCX_RESTART = true ∧ t.on .CCX_STATUS_RESTART = true ∧ t.on .TOP_STATE_HOLDOVER = true ∧ t.rf .CCX_STATUS_LAST_CAUSE = cause % 16 ∧
    t.rf .CCX_STATUS_LAST_GROUP = group % 16 ∧ t.rf .CCX_STATUS_RESTARTS = satInc 16 (s.rf .CCX_STATUS_RESTARTS) ∧
    t.ccx = { s.ccx with halted := true, began := s.cycles, noticed := false, scratch := [] }) ∧
  (∀ (s : State) (g : Fin 16), s.awake = true → let t := (s.pulse 0x050).wf .CCX_INT_RAIL 1
    (g = 15 → exec (.railDisagreement g) s = .next (s.after (t.mismatch 15 2))) ∧
    (g ≠ 15 → s.committed = true → exec (.railDisagreement g) s = .next (s.after (t.complex fun x => { x with unscheduled := true }))) ∧
    (g ≠ 15 → s.committed = false → exec (.railDisagreement g) s = .next (s.after t))) ∧
  (∀ (s : State), s.awake = true → ∃ t : State, t.rf .CCX_TEST_STATUS_RUNS = (s.rf .CCX_TEST_STATUS_RUNS + 1) % 2 ^ 16 ∧
    t.ccx = { s.ccx with turn := (s.ccx.turn + 1) % 4 } ∧ exec (.comparatorTest none) s = .next (s.after t) ∧
    (∀ i : Nat, i % 4 ≠ s.ccx.turn → exec (.comparatorTest (some i)) s = .next (s.after t)) ∧
    ∀ i : Nat, i % 4 = s.ccx.turn → ∃ u : State, exec (.comparatorTest (some i)) s = .next (s.after u) ∧ u.on .CCX_TEST_STATUS_FAIL = true ∧
      u.rf .CCX_TEST_STATUS_LAST_INJ = i % 64 ∧ u.on .CCX_INT_TEST_FAIL = true ∧ u.rf .CCX_TEST_STATUS_RUNS = t.rf .CCX_TEST_STATUS_RUNS ∧
      u.slot 0x051 = some (Slot.event (s.slot 0x051) 0x13 (Config.free s.draws) s.now)) ∧
  (∀ (s : State), s.awake = true → s.committed = true → s.on .TOP_STATE_CCX_RESTART = false →
    (s.ccx.due ≤ s.cycles + 50000 →
      exec .checkpointNotice s = .next (s.after ((s.complex fun x => { x with noticed := true }).emit (.firmwareSignal 0)))) ∧
    (s.cycles + 50000 < s.ccx.due → exec .checkpointNotice s = .next (s.after s))) ∧
  (∀ (s : State), s.ckptStart.ccx.due = s.cycles + s.rf .CCX_CFG_CKPT_MS * 1000000 ∧
    (0 < s.rf .CCX_CFG_CKPT_MS → s.cycles < s.ckptNext.ccx.due ∧
      (s.ccx.due ≤ s.cycles → s.ckptNext.ccx.due ≤ s.cycles + s.rf .CCX_CFG_CKPT_MS * 1000000) ∧
      ∃ n, s.ckptNext.ccx.due = s.ccx.due + n * (s.rf .CCX_CFG_CKPT_MS * 1000000))) ∧
  (∀ (s : State) (parked : Bool), s.awake = true → s.committed = true → s.on .TOP_STATE_CCX_RESTART = false →
    let sched := s.ccx.noticed = true ∧ s.ccx.due ≤ s.cycles
    let due := sched ∨ s.ccx.unscheduled = true
    let v := if s.ccx.noticed && s.ccx.due ≤ s.cycles then (s.complex fun x => { x with noticed := false }).ckptNext else s
    let other := s.on .CCX_STATUS_CKPT_VALID && !s.on .CCX_STATUS_CUR_BUF
    (¬due → ∀ agree, exec (.checkpoint parked agree) s = .next (s.after s)) ∧
    (due → 1 < s.tcmEcc → ∀ agree, exec (.checkpoint parked agree) s = .next (s.after (s.eccClear .tcm 0).tcmLost)) ∧
    (due → s.tcmEcc = 1 → ∀ agree, s.checkpoint parked agree = ((s.eccClear .tcm 0).notify 0x053 0x01).checkpoint parked agree) ∧
    (due → s.tcmEcc = 0 → (parked = true ∨ ¬sched) → ∃ t : State, exec (.checkpoint parked true) s = .next (s.after t) ∧
      t.ckptCurrent = some s.draws ∧ t.ccx.live = s.draws ∧ t.on .CCX_STATUS_CKPT_VALID = true ∧ t.on .CCX_STATUS_CUR_BUF = other ∧
      t.ccx.noticed = v.ccx.noticed ∧ t.ccx.due = v.ccx.due ∧ t.ccx.unscheduled = false ∧ t.rf .CCX_CKPT_TIME_LO_T64_LO = s.now % 2 ^ 32 ∧
      (if other then t.ccx.buf0 = s.ccx.buf0 else t.ccx.buf1 = s.ccx.buf1)) ∧
    (due → s.tcmEcc = 0 → (parked = true ∨ ¬sched) → exec (.checkpoint parked false) s = .next (s.after (v.ckptSpoil.mismatch 15 2))) ∧
    (sched → s.tcmEcc = 0 → parked = false → ∀ agree, let again := (match s.ccx.parkFail with | some t => decide (s.cycles < t + secondCycles) | none => false)
      exec (.checkpoint parked agree) s = .next (s.after (((v.notify 0x056 0x05).complex fun x => { x with parkFail := some s.cycles }).restartOr 0 4 again)))) ∧
  (∀ (s : State) (fail : Option Nat), s.awake = true → s.ccx.halted = true →
    exec (.ccxRestart false true fail) s = .next (s.after ((s.notify 0x054 0x02).forced 0x052)) ∧
    (1 < s.eccAt .tcm (1 + s.rf .CCX_STATUS_CUR_BUF) → exec (.ccxRestart false false fail) s = .next (s.after ((s.notify 0x054 0x02).forced 0x052))) ∧
    (s.eccAt .tcm (1 + s.rf .CCX_STATUS_CUR_BUF) = 0 → ∃ t : State, exec (.ccxRestart false false fail) s = .next (s.after t) ∧ t.ccx.halted = false ∧
      t.ccx.live = (match s.ckptCurrent with | some n => n | none => s.ccx.live) ∧
      t.out = .firmwareSignal 1 :: (List.replicate s.flt.nmiWaiting .nmi ++ s.out) ∧ t.flt.nmiWaiting = 0)) ∧
  (∀ (s : State) (bad : Bool) (fail : Option Nat), s.awake = true →
    (s.ccx.halted = false → exec (.ccxRestart false bad fail) s = .next (s.after s)) ∧
    (s.tcmLost.ccx.halted = false → exec (.ccxRestart true bad fail) s = .next (s.after s.tcmLost)) ∧
    (s.tcmLost.ccx.halted = true → exec (.ccxRestart true bad fail) s = .next (s.after (s.tcmLost.restore bad fail))) ∧
    (s.ckptCurrent = none → s.tcmLost = (s.notify 0x053 0x02).forced 0x052) ∧
    (s.ckptCurrent.isSome = true → s.tcmLost = (s.notify 0x053 0x02).restartBegin 0 3)) ∧
  (∀ (s : State), s.awake = true → s.on .TOP_STATE_CCX_RESTART = true →
    exec .restartTimeout s = .next (s.after (s.forced 0x055)) ∧
    (s.ccx.halted = false → ∃ u : State, exec .ccxDone s = .next (s.after
        (((u.mgtRestarted).complex fun x => { x with inputs := [] }).each s.ccx.inputs State.inputTake)) ∧ u.on .TOP_STATE_CCX_RESTART = false ∧
      u.on .CCX_STATUS_RESTART = false ∧ u.on .CCX_INT_RESTART = true ∧ u.mgt = s.mgt ∧ u.ccx = s.ckptNext.ccx)) ∧
  (∀ (s : State) (b : Fin 24) (src : Nat) (x : Slot), s.powered = true → s.nextSlot b = some (src, x) →
    (∃ u : State, u.slot src = none ∧ u.regs = s.regs ∧
      let v := (match x.level with | some l => (u.wf (.FLT_SRC_STATUS_ACTIVE src) (b2n l)).pinSettle | none => u)
      exec (.faultMessage b false) s = .next (s.after (if x.count = 0 then v else v.occur src x))) ∧
    (∃ u : State, u.regs = s.regs ∧ u.flt.slots = s.flt.slots ∧ exec (.faultMessage b true) s = .next (s.after
      (if spGet (fun _ => 0) s.flt.badMsgs b + 1 = 3 then u.report 0x002 0x03 b else u)))) ∧
  (∀ (s : State) (src : Fin 768) (x : Slot), s.eccAt .record src = 0 → let t := s.recordTake src x
    t.on (.FLT_SRC_STATUS_PENDING src) = true ∧ t.on (.FLT_SRC_STATUS_FIRST_VALID src) = true ∧ t.on (.FLT_SRC_STATUS_LAST_VALID src) = true ∧
    t.rf (.FLT_SRC_STATUS_COUNT src) = min 0xFFFF (s.rf (.FLT_SRC_STATUS_COUNT src) + x.count) ∧
    t.rf (.FLT_SRC_LAST_KIND_KIND src) = x.lastKind % 64 ∧ t.rf (.FLT_SRC_LAST_ADDR_ADDR src) = x.lastAddr % 2 ^ 32 ∧
    (s.on (.FLT_SRC_STATUS_FIRST_VALID src) = true → t.rf (.FLT_SRC_STATUS_FIRST_KIND src) = s.rf (.FLT_SRC_STATUS_FIRST_KIND src) ∧
      t.rf (.FLT_SRC_FIRST_ADDR_ADDR src) = s.rf (.FLT_SRC_FIRST_ADDR_ADDR src)) ∧
    (s.on (.FLT_SRC_STATUS_FIRST_VALID src) = false → t.rf (.FLT_SRC_STATUS_FIRST_KIND src) = x.firstKind % 64 ∧
      t.rf (.FLT_SRC_FIRST_ADDR_ADDR src) = x.firstAddr % 2 ^ 32)) ∧
  (∀ (s : State) (src : Fin 768), s.powered = true → dualRail src = true →
    (spGet (fun _ => false) s.flt.railBad src = true → exec (.dualRailChange src true) s = .next (s.after s)) ∧
    (spGet (fun _ => false) s.flt.railBad src = false → ∃ u : State, exec (.dualRailChange src true) s = .next (s.after (u.occur src (s.railSlot 0x09 1))) ∧ u.on (.FLT_SRC_STATUS_ACTIVE src) = true) ∧
    (spGet (fun _ => 0) s.flt.pulses src ≠ 0 → ∃ u : State, exec (.dualRailChange src false) s = .next (s.after (u.occur src
        (s.railSlot (railKind src) (spGet (fun _ => 0) s.flt.pulses src)))) ∧
      u.on (.FLT_SRC_STATUS_ACTIVE src) = spGet (fun _ => false) s.flt.rails src ∧ spGet (fun _ => 0) u.flt.pulses src = 0) ∧
    (spGet (fun _ => 0) s.flt.pulses src = 0 → ∃ u : State, exec (.dualRailChange src false) s = .next (s.after u) ∧
      u.on (.FLT_SRC_STATUS_ACTIVE src) = spGet (fun _ => false) s.flt.rails src ∧ spGet (fun _ => false) u.flt.railBad src = false)) ∧
  (∀ (s : State) (q : Sender) (src : Fin 768), let a := Reg.FLT_SRC_STATUS src
    s.reaches q a →
    (s.on (.FLT_SRC_STATUS_ACTIVE src) = true → exec (.pendingClear q src) s = .next (s.did q a (s.begun q.req))) ∧
    (s.on (.FLT_SRC_STATUS_ACTIVE src) = false → ∃ t : State, exec (.pendingClear q src) s = .next (s.did q a t) ∧
      t.on (.FLT_SRC_STATUS_PENDING src) = false ∧ t.on (.FLT_SRC_STATUS_FIRST_VALID src) = false ∧ t.on (.FLT_SRC_STATUS_LOST src) = false ∧
      t.rf (.FLT_SRC_STATUS_COUNT src) = s.rf (.FLT_SRC_STATUS_COUNT src) ∧ ∀ b, b ≠ a → t.rword b = s.rword b)) ∧
  (∀ (s : State) (q : Sender) (v : BitVec 16), let a := Reg.FLT_CLEAR
    let src := v.toNat % 1024
    let one (t : State) (k : Nat) : State := t.recordClear (v.getLsbD 14) (v.getLsbD 13) (v.getLsbD 12) k
    s.reaches q a →
    (v.getLsbD 15 = true → exec (.fltClear q v) s = .next (s.did q a ((s.begun q.req).each (List.range 768) one))) ∧
    (v.getLsbD 15 = false → src < 768 → exec (.fltClear q v) s = .next (s.did q a (one (s.begun q.req) src))) ∧
    (v.getLsbD 15 = false → 768 ≤ src → exec (.fltClear q v) s = .next (s.did q a ((s.begun q.req).refuse 0x003 0x08)))) ∧
  (∀ (s : State) (r : MgtReq), let w := s.fwWrite Reg.FLT_CLEAR (r.word 0)
    s.asked 0x0021 r → r.params.length = 4 →
    (w.1 = none → exec .faultClear s = .next (s.after (w.2.mgtReply 0 0 []))) ∧
    ∀ kind, w.1 = some kind → exec .faultClear s = .next (s.after (w.2.mgtReply 4 kind []))) ∧
  (∀ (s : State), s.powered = true → let go (t : State) : Host.Outcome State Fault Refusal := .next (s.after t)
    let ended := (s.wf .FLT_PIN_STATUS_TIMING 0).collector fun x => { x with heldRelease := false }
    (s.on .FLT_PIN_STATUS_TIMING = false → exec .faultPinTimerExpiry s = go s) ∧
    (s.on .FLT_PIN_STATUS_TIMING = true → s.flt.heldRelease = true → ended.pinActive = false →
      exec .faultPinTimerExpiry s = go (ended.wf .FLT_PIN_STATUS_ASSERTED 0)) ∧
    (s.on .FLT_PIN_STATUS_TIMING = true → s.flt.heldRelease = true → ended.pinActive = true → let t := { ended.pinRefused with wfail := none }
      exec .faultPinTimerExpiry s = go (if s.on .FLT_PIN_CFG_HOLD then t else (t.collector fun x => { x with pinWait := true }).pinSettle)) ∧
    (s.on .FLT_PIN_STATUS_TIMING = true → s.flt.heldRelease = false → s.on .FLT_PIN_CFG_HOLD = true → exec .faultPinTimerExpiry s = go ended) ∧
    (s.on .FLT_PIN_STATUS_TIMING = true → s.flt.heldRelease = false → s.on .FLT_PIN_CFG_HOLD = false →
      exec .faultPinTimerExpiry s = go (ended.collector fun x => { x with pinWait := true }).pinSettle)) ∧
  (∀ (s : State) (q : Sender), let go (t : State) : Host.Outcome State Fault Refusal := .next (s.did q Reg.FLT_PIN_CMD t)
    s.reaches q Reg.FLT_PIN_CMD →
    (s.pinActive = true → exec (.faultPinRelease q) s = go (s.begun q.req).pinRefused) ∧
    (s.pinActive = false → s.on .FLT_PIN_STATUS_RESET_HOLD = true → exec (.faultPinRelease q) s = go (s.begun q.req)) ∧
    (s.pinActive = false → s.on .FLT_PIN_STATUS_RESET_HOLD = false → s.on .FLT_PIN_STATUS_TIMING = true →
      exec (.faultPinRelease q) s = go ((s.begun q.req).collector fun x => { x with heldRelease := true })) ∧
    (s.pinActive = false → s.on .FLT_PIN_STATUS_RESET_HOLD = false → s.on .FLT_PIN_STATUS_TIMING = false →
      exec (.faultPinRelease q) s = go (((s.begun q.req).wf .FLT_PIN_STATUS_ASSERTED 0).collector fun x => { x with pinWait := false })))

/-- A unit verifies a referee frame by key, MAC, PAIR_ID and a rising COUNTER, else discards it. A verified POLL
sets HOLDER, makes an unleased unit undecided or standby by the holder named, and is answered with STATUS where it
names this side. A verified GRANT for this side, without SIDE_CONFLICT and passing the checks of ECHO, time and
TERM, sets TERM and a lease that ends LEASE_MS after the first bit of the STATUS; it renews in role 1 or 3 and else
starts the take-over: LEASE = 1, role 3, PAIR_INT.TAKEOVER. A lease that ends, or RELINQUISH, leaves LEASE = 0, role
2 and PAIR_INT.LEASE_LOST. The end of the gap makes the unit active, shows the gap and reports one above 2,000,000
cycles. Block lock sends a HELLO, but with a halted DRBG; a HELLO of this side sets SIDE_CONFLICT, another is kept
and answered with a PROOF where an identity and a DRBG exist; a proof that verifies from the expected partner brings
the link up under keys of the ECDH secret where the pair slot can be written, another takes it down; a loss takes it down, drops
the crate being received and makes the state stale. HEALTH, TIME and CRATE frames go out only with the link up and a usable key and
Pan, TIME and CRATE only from the active; a crate's frames carry its bytes whole and in order, 8,192 at most each. A crate is
applied on a standby or undecided unit, and not with SIDE_CONFLICT; a fragment that does not verify, or out of order, rejects it. A
restart delays the frames of the pair. A self-test withdraws one bank, begins once its 3,072 cells are free, and its end
returns the bank and sets SELFTEST_OK to the result; SELFTEST is refused while the unit forwards, takes over or
tests. PAIR_RELINQUISH and PAIR_SELFTEST of the management service write PAIR_CMD and answer. -/
def Obligations.PairedOperation : Prop :=
  (∀ (s : State) (ok : Bool) (pairId counter : Nat), let z := s.sealedRead
    ((s.refVerify ok pairId counter).1 = true ↔
      ok = true ∧ s.on (.SEC_KEY_ATTR_VALID (s.rf .PAIR_MISC_REF_SLOT)) = true ∧ bitAt (s.rf (.SEC_KEY_ATTR_USAGE (s.rf .PAIR_MISC_REF_SLOT))) 2 = true ∧
        s.anyPan = true ∧ pairId = s.rf .PAIR_ID_ID ∧ z.pair.refSeen < counter) ∧ (s.eccAt .tcm 3 = 0 → z = s)) ∧
  (∀ (s : State) (ok : Bool) (pairId counter : Nat) (side : Fin 3) (body : PollBody), s.awake = true → s.pairRuns = true →
    let v := s.refVerify ok pairId counter
    (v.1 = false → exec (.refereePoll ok pairId counter side body) s = .next (s.after v.2.refReject)) ∧
    (v.1 = true → ∃ u : State, exec (.refereePoll ok pairId counter side body) s = .next (s.after (if (side : Nat) = u.side then u.statusSend counter else u)) ∧
      u.pair.refSeen = counter ∧ u.rf .PAIR_STATUS_HOLDER = (if body.holder ≤ 1 then body.holder else 3) ∧ u.side = s.side ∧
      u.role = (if s.role = 0 ∨ s.role = 2 then (if 1 < body.holder then 0 else if body.holder = s.side then s.role else 2) else s.role))) ∧
  (∀ (s : State) (ok : Bool) (pairId counter : Nat) (side : Fin 2) (term leaseMs echo : Nat), s.awake = true → s.pairRuns = true →
    let v := s.refVerify ok pairId counter
    let run (t : State) : Prop := exec (.refereeGrant ok pairId counter side term leaseMs echo) s = .next (s.after t)
    (v.1 = false → run v.2.refReject) ∧
    (v.1 = true → (side : Nat) ≠ s.side → run v.2) ∧
    (v.1 = true → (side : Nat) = s.side → s.on .PAIR_STATUS_SIDE_CONFLICT = true → run v.2) ∧
    (v.1 = true → (side : Nat) = s.side → s.on .PAIR_STATUS_SIDE_CONFLICT = false → s.grantOk term echo = false → run v.2.refReject) ∧
    (∀ c first last, v.1 = true → (side : Nat) = s.side → s.on .PAIR_STATUS_SIDE_CONFLICT = false → s.grantOk term echo = true → s.leaseDue = false →
      s.pair.status = some (c, first, last) → ∃ u : State, run (if s.role = 1 ∨ s.role = 3 then u else u.takeOver) ∧ u.pair.refSeen = counter ∧
        u.rf .PAIR_TERM_TERM = term % 2 ^ 32 ∧ u.pair.leaseEnd = some (first + leaseMs * msCycles) ∧ u.role = s.role)) ∧
  (∀ (s : State), (s.refReject.pair = s.pair ∧ s.refReject.cget (Ctr.pair 2) = (s.cget (Ctr.pair 2) + 1) % 2 ^ 64) ∧
    ∃ u : State, s.takeOver = u.testStop.crateApply.takeState ∧ u.on .TOP_STATE_LEASE = true ∧ u.role = 3 ∧ u.on .PAIR_INT_TAKEOVER = true ∧
    u.pair.take = some s.cycles ∧ u.pair.crateIn = none ∧ u.slot 0x2C9 = some (Slot.event (s.slot 0x2C9) 0x0F (Config.free s.draws) s.now)) ∧
  (∀ (s : State), (s.pair.crateIn = none → s.crateDrop = s) ∧ ∀ seq n len, s.pair.crateIn = some (seq, n, len) → n ≠ crateGone →
    s.crateDrop.pair = { s.pair with crateIn := none } ∧ s.crateDrop.cget (Ctr.pair 5) = (s.cget (Ctr.pair 5) + 1) % 2 ^ 64 ∧
    s.crateDrop.slot 0x2C5 = some (Slot.event (s.slot 0x2C5) 0x0E (Config.free s.draws) s.now)) ∧
  (∀ (s : State), s.awake = true → (s.leaseDue = true → exec .leaseExpiry s = .next (s.after s.leaseOver)) ∧
    (s.leaseDue = false → exec .leaseExpiry s = .next (s.after s)) ∧
    s.leaseOver.on .TOP_STATE_LEASE = false ∧ s.leaseOver.role = 2 ∧ s.leaseOver.on .PAIR_INT_LEASE_LOST = true ∧ s.leaseOver.pair.leaseEnd = none ∧
    s.leaseOver.pair.take = none) ∧
  (∀ (s : State) (q : Sender) (bad : BitVec 4), let go (t : State) : Host.Outcome State Fault Refusal := .next (s.did q Reg.PAIR_CMD t)
    s.reaches q Reg.PAIR_CMD →
    (s.on .TOP_STATE_LEASE = true → exec (.relinquish q) s = go (s.begun q.req).leaseOver) ∧
    (s.on .TOP_STATE_LEASE = false → exec (.relinquish q) s = go (s.begun q.req)) ∧
    ((s.fwdEn = true ∨ s.role = 3 ∨ s.pair.test.isSome = true ∨ s.committed = false) → exec (.selftestNow q bad) s = go ((s.begun q.req).refuse 0x2C8 0x08)) ∧
    (s.fwdEn = false → s.role ≠ 3 → s.pair.test = none → s.committed = true → exec (.selftestNow q bad) s = go ((s.begun q.req).testBegin bad.toNat))) ∧
  (∀ (s : State) (r : MgtReq) (action aux : Nat) (c : Instr) (op : Nat) (bad : BitVec 4),
    (c, op, action, aux) ∈ [(Instr.pairRelinquish, 0x0071, 1, 0), (.pairSelftest bad, 0x0072, 2, bad.toNat)] → s.asked op r → r.params.length = 0 →
    let w := s.fwWrite Reg.PAIR_CMD (cmdWord 0x9A1F action) aux
    (w.1 = none → exec c s = .next (s.after (w.2.mgtReply 0 0 []))) ∧ ∀ kind, w.1 = some kind → exec c s = .next (s.after (w.2.mgtReply 4 kind []))) ∧
  (∀ (s : State) (bad : Nat), (s.testBegin bad).cel.bankOut = some s.pair.bank ∧ (s.testBegin bad).pair.bank = (s.pair.bank + 1) % 16 ∧
    (s.testBegin bad).cph.waiting = s.cph.waiting ++ ((List.range 4).filter s.panIn).map (fun p => .kat p (bitAt bad p) false) ∧
    ∃ ok, (s.testBegin bad).pair.test = some ⟨s.pair.bank, false, ok⟩ ∧
      (ok = true ↔ s.portsAllUp = true ∧ ∀ p, p < 4 → s.panIn p = true → bitAt bad p = false)) ∧
  (∀ (s : State), s.awake = true →
    (∀ bad : BitVec 4, s.pairRuns = true → s.role = 2 → s.pair.test = none → exec (.standbySelftest bad) s = .next (s.after (s.testBegin bad.toNat))) ∧
    (∀ t, s.pair.test = some t → t.begun = false → (s.cel.bankFree[t.bank]?).getD 0 = 3072 →
      exec .selftestBankFree s = .next (s.after (s.pairing fun p => { p with test := some { t with begun := true } }))) ∧
    (∀ t cellsOk, s.pair.test = some t → t.begun = true → let r := t.ok && cellsOk
      ∃ u : State, exec (.selftestDone cellsOk) s = .next (s.after (if r then u else u.notify 0x2CA 0x0E)) ∧ u.on .PAIR_STATUS_SELFTEST_OK = r ∧
        u.cel = { s.cel with bankOut := none } ∧ u.pair = { s.pair with test := none })) ∧
  (∀ (s : State), s.awake = true → let locked := s.pairing fun p => { p with lock := true }
    (s.pairRuns = true → s.pair.link = .down → s.on .SEC_STATUS_DRBG_HALT = false → exec .pairLinkBlockLock s = .next (s.after locked.helloSend)) ∧
    (s.pairRuns = false ∨ s.pair.link ≠ .down ∨ s.on .SEC_STATUS_DRBG_HALT = true → exec .pairLinkBlockLock s = .next (s.after locked)) ∧
    ∃ key addrs nonce body, nonce.length = 32 ∧ body = helloBody ⟨ofBytesLE s.sec.uid, s.side, s.rf .PAIR_ID_ID, ofBytesLE s.imageId,
        ofBytesLE s.boot.chain, nonce, (List.range 96).map (Config.ecPublic key)⟩ ∧
      locked.helloSend.pair = { s.pair with lock := true, link := .hello, peer := none, hello := some (key, body), cntLow := s.pair.cntLow + 1 } ∧
      locked.helloSend.out = .pairFrame (pairFrameBytes addrs 1 0 0 0 s.ownCounter.1 body) :: s.out) ∧
  (∀ (s : State) (h : PairPeer), s.awake = true → s.pairRuns = true → let kept := s.pairing fun p => { p with link := .proof, peer := some h }
    let run (t : State) : Prop := exec (.pairHello h) s = .next (s.after t)
    (h.side = s.side → run (((s.wf .PAIR_STATUS_SIDE_CONFLICT 1).notify 0x2C4 0x0F).pairing fun p => { p with crateIn := none, crateDone := none })) ∧
    (h.side ≠ s.side → s.pair.link ≠ .hello → run s) ∧ (h.side ≠ s.side → s.pair.link = .hello → run (kept.proofSend h)) ∧
    (s.sec.ident = none ∨ s.on .SEC_STATUS_DRBG_HALT = true → kept.proofSend h = kept) ∧
    (∀ k, s.sec.ident = some k → s.on .SEC_STATUS_DRBG_HALT = false → ∃ addrs d, (kept.proofSend h).out = .pairFrame (pairFrameBytes addrs 2 0 0 0
      s.ownCounter.1 (s.sec.cert ++ (List.range 96).map (Config.ecSign k ((List.range 48).map (Config.hash384 (s.hellos h))) d))) :: s.out)) ∧
  (∀ (s : State) (h : PairPeer) (ok : Bool) (counter seq frag back : Nat) (health : Byte) (trk0 trk1 wc : BitVec 64) (last : Bool) (body : List Byte),
    s.awake = true → s.pairUnit = true → s.on .TOP_STATE_CCX_RESTART = true → ∀ e ∈ ([(.pairHello h, .pairHello h), (.pairProof ok, .pairProof ok),
      (.pairHealthReceived ok counter health, .pairHealth ok counter health.toNat),
      (.pairTimeReceived ok counter trk0 trk1 wc back, .pairTime ok counter trk0 trk1 wc back),
      (.crateFragment ok counter seq frag last body, .crate ok counter seq frag last body)] : List (Instr × FwInput)),
    exec e.1 s = .next (s.after (s.complex fun x => { x with inputs := x.inputs ++ [e.2] }))) ∧
  (∀ (s : State) (ok : Bool), s.awake = true → s.pairRuns = true → s.pair.link = .proof →
    (ok = false ∨ s.peerOk = false → exec (.pairProof ok) s = .next (s.after ((s.partnerBad.notify 0x2C5 0x0D).pairing fun p => { p with link := .down }))) ∧
    (ok = true → s.peerOk = true → s.sec.ident = none → exec (.pairProof ok) s = .next (s.after (s.pairing fun p => { p with link := .down }))) ∧
    (ok = true → s.peerOk = true → s.sec.ident.isSome = true → s.slotLocked (s.rf .PAIR_MISC_PAIR_SLOT) = true → ∃ u : State,
      exec (.pairProof ok) s = .next (s.after u) ∧ u.pair.link = .down ∧ u.on .PAIR_STATUS_LINK_UP = s.on .PAIR_STATUS_LINK_UP) ∧
    (ok = true → s.peerOk = true → s.sec.ident.isSome = true → s.slotLocked (s.rf .PAIR_MISC_PAIR_SLOT) = false → ∃ u : State, exec (.pairProof ok) s = .next (s.after u) ∧ u.pair.link = .up ∧
      u.pair.peerSeen = 0 ∧ u.on .PAIR_STATUS_LINK_UP = true ∧ u.on .PAIR_INT_LINK_UP = true ∧ u.sec.wrap = some (Config.kdf s.pairSecret labelPairW) ∧
      spGet (fun _ => 0) u.sec.mat (s.rf .PAIR_MISC_PAIR_SLOT) = Config.kdf s.pairSecret labelPairM)) ∧
  (∀ (s : State) (lane : Bool), s.awake = true → s.linkUp = true → ∃ u : State, exec (.pairLinkLoss lane) s = .next (s.after u) ∧
    u.pair.link = .down ∧ u.pair.peer = none ∧ u.pair.crateIn = none ∧ u.pair.lostLink = true ∧ u.pair.lock = (s.pair.lock && !lane) ∧
    u.on .PAIR_STATUS_LINK_UP = false ∧ u.on .PAIR_INT_LINK_DOWN = true ∧ u.role = s.role ∧ u.pair.leaseEnd = s.pair.leaseEnd ∧ u.stale = true ∧
    ∃ a, u.slot 0x2C0 = some (Slot.event (s.slot 0x2C0) 0x10 a s.now)) ∧
  (∀ (s : State), s.awake = true → s.pairRuns = true → s.linkUp = true →
    exec .pairHealthSend s = .next (s.after (s.pairSend 4 0 0 0 (bytesLE 1 s.healthByte))) ∧
    (s.role = 1 → exec .pairTimeSend s = .next (s.after s.timeFrame)) ∧
    (∀ ok counter (health : Byte), let v := s.pairVerify ok counter
      exec (.pairHealthReceived ok counter health) s = .next (s.after (if v.1 then v.2.pairing fun p => { p with health := health.toNat } else v.2))) ∧
    (∀ ok counter (trk0 trk1 wc : BitVec 64) back, s.role ≠ 1 → let v := s.pairVerify ok counter
      exec (.pairTimeReceived ok counter trk0 trk1 wc back) s = .next (s.after (if v.1 then
        ((v.2.timeDelay back).timeFrame.steer 0 trk0.toNat).steer 1 trk1.toNat else v.2))) ∧
    (∀ sweep : Word, s.role = 1 → let z := s.sealedRead
      let seq := (z.pair.crateOut + 1) % 2 ^ 32
      let b := z.crateBytes seq sweep.toNat
      let n := (b.length + 8191) / 8192
      exec (.crateSend sweep) s = .next (s.after (((z.each (List.range n) (fun s i =>
        s.pairSend 3 (b2n (i + 1 = n)) i seq ((b.drop (8192 * i)).take 8192))).cinc (Ctr.pair 3)).pairing fun p => { p with crateOut := seq })))) ∧
  (∀ (s : State), s.timeFrame = (s.pairSend 5 0 0 0 (bytesLE 8 (t64Of s.tim.trk0) ++ bytesLE 8 (t64Of s.tim.trk1) ++ bytesLE 8 s.now)).pairing
      (fun p => { p with timeSent := some s.now }) ∧
    ∀ back t, s.pair.timeSent = some t → (s.timeDelay back).pair = { s.pair with delay := ((s.now : Int) - t - back) / 2 }) ∧
  (∀ (s : State) (kind last frag seq : Nat) (body : List Byte), let slot := s.rf .PAIR_MISC_PAIR_SLOT
    let k := s.keyUse slot 2
    (k.1 = true → s.anyPan = true → ∃ addrs, let b := pairFrameBytes addrs kind last frag seq s.ownCounter.1 body
      let u := s.pairSend kind last frag seq body
      u.out = .pairFrame (b ++ cmac16 (spGet (fun _ => 0) s.sec.mat slot) (b.drop 14)) :: s.out ∧
        u.cph.waiting = s.cph.waiting ++ [.other 2 (some slot)] ∧ u.pair = { s.pair with cntLow := s.pair.cntLow + 1 }) ∧
    (k.1 = true → s.anyPan = false → s.pairSend kind last frag seq body = s) ∧
    (k.1 = false → s.pairSend kind last frag seq body = s.notify 0x02B 0x0D)) ∧
  (∀ (s : State) (ok : Bool) (counter : Nat), (s.pairVerify ok counter).1 = true ↔
    ok = true ∧ (s.keyUse (s.rf .PAIR_MISC_PAIR_SLOT) 2).1 = true ∧ s.anyPan = true ∧ s.pair.peerSeen < counter) ∧
  (∀ (b : List Byte), ((List.range ((b.length + 8191) / 8192)).map (fun i => (b.drop (8192 * i)).take 8192)).flatten = b) ∧
  (∀ (s : State) (ok : Bool) (counter seq frag : Nat) (last : Bool) (body : List Byte), s.awake = true → s.pairRuns = true → s.linkUp = true →
    s.dram.up = true → (s.role = 0 ∨ s.role = 2) → s.on .PAIR_STATUS_SIDE_CONFLICT = false → let v := s.pairVerify ok counter
    let run (t : State) : Prop := exec (.crateFragment ok counter seq frag last body) s = .next (s.after t)
    (s.pair.crateIn = none → v.1 = true → frag = 0 → run (v.2.crateApplied.crateStage seq 0 0 last body)) ∧
    (s.pair.crateIn = none → (v.1 = false ∨ frag ≠ 0) → run (v.2.crateReject seq)) ∧
    (∀ n len, s.pair.crateIn = some (seq, n, len) → n ≠ crateGone →
      (v.1 = true → n = frag → run (v.2.crateStage seq frag len last body)) ∧ ((v.1 = false ∨ n ≠ frag) → run (v.2.crateReject seq)))) ∧
  (∀ (s : State) (seq : Nat), (s.crateReject seq).pair = { s.pair with crateIn := some (seq, crateGone, 0) } ∧
    (s.crateReject seq).slot 0x2C5 = some (Slot.event (s.slot 0x2C5) 0x0E (Config.free s.draws) s.now)) ∧
  (∀ (s : State), s.awake = true → s.pairRuns = true → (s.role = 0 ∨ s.role = 2) → s.on .PAIR_STATUS_SIDE_CONFLICT = true →
    exec .crateApplied s = .next (s.after (s.pairing fun p => { p with crateDone := none }))) ∧
  (∀ (s : State), s.awake = true → s.pairRuns = true → (s.role = 0 ∨ s.role = 2) → s.on .PAIR_STATUS_SIDE_CONFLICT = false →
    ∀ n t, s.pair.crateDone = some (n, t) →
    ∀ l, crateParse 32 (s.dramGets s.crateRegion.1 n) = some l → let u := (s.fdbDynamicFlush.sessFlush true).each l State.crateEntry
      let sweep := (match l with | e :: _ => le e.2.2 4 4 | [] => 0)
      exec .crateApplied s = .next (s.after ((u.cinc (Ctr.pair 4)).pairing fun p => { p with crateDone := none, applied := some (sweep, t), lostLink := !u.linkUp }))) ∧
  (∀ (s : State), s.awake = true → ∀ t, s.pair.take = some t → s.role = 3 → (s.leaseDue = true → exec .takeoverComplete s = .next (s.after s.leaseOver)) ∧
    (s.leaseDue = false → let gap := s.cycles - t
      ∃ u : State, exec .takeoverComplete s = .next (s.after (if 2000000 < gap then u.notify 0x2C7 0x05 else u)) ∧
        u.rf .PAIR_GAP_CYCLES = satTo 32 gap ∧ u.pair.take = none))

/-- Where MGT serves and the transport runs; in a restart a frame waits; a mailbox message leaves its request Hatch first, an answer enters the response
Hatch. A HELLO that is too long is counted; one without a valid credential, a free session, a running DRBG or an identity key counts in AUTH_FAIL and
gets STATUS 1 to 4 and no signature; else the lowest free session is half open with the ECDH secret, and the answer is signed. A FINISH that verifies
brings the session up where both its slots can be written, with its keys, SESSION_UP and a RESPONSE with the privileges; any other, or
none in 2 s, discards it. CLOSE from either side and IDLE_S seconds without an accepted message end an up session: its unlocked
slots hold no key, and its requests stay queued without it. CERT_REQ answers up to 1,024 bytes of the certificate. A message leaves
sealed under the device's key of the session, a Pan in service and the next SEQ, or not at all. A message is accepted exactly when it comes
from the transport and address of an up session, its key is usable, its tag verifies on a Pan in service and its SEQ is fresh, which a
SEQ once accepted or stale never is again; a bad tag counts in BAD_TAG, a stale SEQ in REPLAY. A request that is too long
counts in TOO_LONG; an accepted one is answered from a kept response, ignored while it is open, answered BUSY beyond 32, and else queued
last among those of earlier cycles. An answer takes its request from the queue, is kept among the last 8 and counts in DENIED with
STATUS 1; an unknown opcode is answered BAD_OPCODE. Each command of R515 acts only as the oldest request, is DENIED without its
privilege and BAD_PARAM with a length outside the table; GET_INFO, REG_READ, CNT_READ, UPDATE_STATUS and PAIR_STATUS complete with the
words read, REG_WRITE and REG_MODIFY with the entries in order up to the first that is barred (STATUS 1) or does not take effect (4),
DETAIL the entries applied. Log entries 62, 63, 102, 128 and 160 name the readings taken. -/
def Obligations.ManagementService : Prop :=
  (∀ (s : State) (via : Fin 4) (k : Fin 8) (addr seq : Nat) (ok : Bool) (off reqId opcode : BitVec 16) (nonce eph credential params : List Byte),
    s.serves 22 = true → s.on .TOP_STATE_CCX_RESTART = true → ∀ e ∈ ([(.mgtHello via addr nonce eph credential ok, .hello via addr nonce eph credential ok),
      (.mgtFinish k via addr ok, .finish k via addr ok), (.certReq via addr off, .cert via addr off.toNat),
      (.mgtRequest k via addr seq ok reqId opcode params, .request k via addr seq ok reqId.toNat opcode.toNat params),
      (.mgtClose k via addr seq ok false, .close k via addr seq ok)] : List (Instr × FwInput)),
    ((via : Nat) ≠ viaMbox → s.mgtOpen via = true → exec e.1 s = .next (s.after (s.complex fun x => { x with inputs := x.inputs ++ [e.2] }))) ∧
    ((via : Nat) = viaMbox ∨ s.mgtOpen via = false → exec e.1 s = .next (s.after s))) ∧
  (∀ (s : State) (anchor priv serial : Nat) (sigOk : Bool) (p : Nat), s.credential anchor priv serial sigOk = some p ↔
    sigOk = true ∧ ∃ mx lo, s.anchorAt anchor = some (mx, lo) ∧ lo ≤ serial ∧ p = Nat.land (priv % 256) mx) ∧
  (∀ (s : State), (s.mgtFree = none ↔ ∀ k, k < 8 → (s.mgtSess k).isSome = true) ∧
    ∀ k, s.mgtFree = some k → k < 8 ∧ s.mgtSess k = none ∧ ∀ j, j < k → (s.mgtSess j).isSome = true) ∧
  (∀ (s : State) (via addr : Nat) (b : List Byte), (via ≠ viaMbox → s.mgtTake via = s ∧ s.mgtPost via addr b = s.emit (.mgtMessage via addr (s.rf .MGT_CFG_CLASS) b)) ∧
    (via = viaMbox → s.mgtRuns via = true → s.mgtTake via = (s.hatTake (s.rf .CCX_MBOX_CFG_REQ_HATCH)).2) ∧
    (via = viaMbox → s.mgtPost via addr b = (s.hatEnter 22 (s.rf .CCX_MBOX_CFG_RESP_HATCH) b).2)) ∧
  (∀ (s : State) (via : Fin 4) (addr : Nat) (nonce eph credential : List Byte) (sigOk : Bool), s.serves 22 = true → s.on .TOP_STATE_CCX_RESTART = false → let t := s.mgtTake via
    let body := nonce ++ eph ++ credential
    let run (u : State) : Prop := exec (.mgtHello via addr nonce eph credential sigOk) s = .next (s.after u)
    let granted := t.credential (le credential 0 1) (le credential 1 1) (le credential 4 4) (sigOk && nonce.length = 32 && eph.length = 96 && credential.length = 200)
    t.mgtRuns via = true → (mgtTooLong via (24 + body.length) = true → run (t.cinc (Ctr.mgt 4))) ∧ (mgtTooLong via (24 + body.length) = false →
    (granted = none → run (t.helloRefuse via addr 1)) ∧
    (∀ p, granted = some p →
      (t.mgtFree = none → run (t.helloRefuse via addr 2)) ∧
      (∀ k, t.mgtFree = some k →
        (t.on .SEC_STATUS_DRBG_HALT = true → run (t.helloRefuse via addr 3)) ∧
        (t.on .SEC_STATUS_DRBG_HALT = false → t.sec.ident = none → run (t.helloRefuse via addr 4)) ∧
        (∀ id, t.on .SEC_STATUS_DRBG_HALT = false → t.sec.ident = some id → run (t.helloReply via addr k p id body eph)))))) ∧
  (∀ (s : State) (via addr status : Nat), ∃ (nonce eph : List Byte) (u : State), nonce.length = 32 ∧ eph.length = 96 ∧ u.mgt = s.mgt ∧
    u.cget (Ctr.mgt 2) = (s.cget (Ctr.mgt 2) + 1) % 2 ^ 64 ∧ u.on .MGT_INT_AUTH_FAIL = true ∧ s.helloRefuse via addr status = u.mgtPost via addr
      (mgtHead 0x02 0 0 280 ++ (bytesLE 4 status ++ bytesLE 4 0 ++ nonce ++ eph ++ hash48 s.sec.cert) ++ List.replicate 96 0)) ∧
  (∀ (s : State) (via addr k p id : Nat) (hello eph : List Byte), s.on .SEC_STATUS_DRBG_HALT = false → ∃ (nonce : List Byte) (key d : Nat) (u : State),
    nonce.length = 32 ∧ u.mgtSess k = some ⟨false, via, addr, p, 0, 0, 0, [], [], s.cycles, s.cycles, Config.ecdh key eph⟩ ∧
    let h := bytesLE 4 0 ++ bytesLE 4 k ++ nonce ++ publicBytes key ++ hash48 s.sec.cert
    s.helloReply via addr k p id hello eph =
      u.mgtPost via addr (mgtHead 0x02 k 0 280 ++ h ++ (List.range 96).map (Config.ecSign id (hash48 (hello ++ h)) d))) ∧
  (∀ (s : State), s.authFail.cget (Ctr.mgt 2) = (s.cget (Ctr.mgt 2) + 1) % 2 ^ 64 ∧ s.authFail.on .MGT_INT_AUTH_FAIL = true ∧ s.authFail.mgt = s.mgt) ∧
  (∀ (s : State) (k : Fin 8) (via : Fin 4) (addr : Nat) (x : MgtSess), s.serves 22 = true → s.on .TOP_STATE_CCX_RESTART = false → let t := s.mgtTake via
    let run (ok : Bool) (u : State) : Prop := exec (.mgtFinish k via addr ok) s = .next (s.after u)
    t.mgtRuns via = true → t.mgtSess k = some x → x.up = false → x.via = via → x.addr = addr →
    run false (t.mgtEnd k).authFail ∧
    (t.slotLocked (t.mgtSlot k) = true ∨ t.slotLocked (t.mgtSlot k + 1) = true → ∃ u : State, run true (u.mgtEnd k).authFail ∧ u.mgt = t.mgt) ∧
    (t.slotLocked (t.mgtSlot k) = false → t.slotLocked (t.mgtSlot k + 1) = false → ∃ u : State, run true (u.sendResp k ⟨0, 0, 0, x.priv, []⟩) ∧
      u.mgtSess k = some { x with up := true, heard := s.cycles } ∧ u.on .MGT_INT_SESSION_UP = true ∧
      u.cget (Ctr.mgt 1) = (t.cget (Ctr.mgt 1) + 1) % 2 ^ 64 ∧ u.slotValid (s.mgtSlot k) = true ∧ u.slotValid (s.mgtSlot k + 1) = true ∧
      spGet (fun _ => 0) u.sec.mat (s.mgtSlot k) = mgtKey x.secret labelCD ∧ spGet (fun _ => 0) u.sec.mat (s.mgtSlot k + 1) = mgtKey x.secret labelDC)) ∧
  (∀ (s : State) (k kind : Nat) (body : List Byte) (x : MgtSess), s.mgtSess k = some x → let u := s.keyUse (s.mgtSlot k + 1) 5
    (u.1 = false → s.mgtSend k kind body = s.notify 0x02B 0x0D) ∧ (u.1 = true → s.anyPan = false → s.mgtSend k kind body = s) ∧
    (u.1 = true → s.anyPan = true → let h := mgtHead kind k (x.sent + 1) body.length
      let key := spGet (fun _ => 0) s.sec.mat (s.mgtSlot k + 1)
      let iv := mgtSalt x.secret labelDC ++ bytesBE 8 (x.sent + 1)
      let ct := gcmCrypt key iv body
      s.mgtSend k kind body = ((s.service 2 none).setMgtSess k (some { x with sent := x.sent + 1 })).mgtPost x.via x.addr (h ++ ct ++ gcmTag key iv h ct)) ∧
    ∀ r : MgtResp, s.sendResp k r = s.mgtSend k 0x11 (bytesLE 2 r.opcode ++ bytesLE 2 r.reqId ++ bytesLE 1 r.status ++ [0] ++ bytesLE 2 r.detail ++
      r.result.flatMap fun w => bytesLE 4 w.toNat)) ∧
  (∀ (s : State) (k : Fin 8), s.serves 22 = true → s.on .TOP_STATE_CCX_RESTART = false →
    (∀ x, s.mgtSess k = some x → x.up = false → x.began + 2 * secondCycles ≤ s.cycles → exec (.finishTimeout k) s = .next (s.after (s.mgtEnd k).authFail)) ∧
    (∀ x, s.mgtSess k = some x → x.up = true → x.heard + s.rf .MGT_SESS_CFG_IDLE_S * secondCycles ≤ s.cycles →
      exec (.sessionIdleTimeout k) s = .next (s.after (s.mgtEnd k))) ∧
    (∀ x, s.mgtSess k = some x → x.up = true → s.mgtRuns x.via = true → ∀ (via : Fin 4) addr seq tagOk,
      exec (.mgtClose k via addr seq tagOk true) s = .next (s.after ((s.mgtSend k 0x1F []).mgtEnd k))) ∧
    (∀ (via : Fin 4) addr seq tagOk, let a := (s.mgtTake via).mgtAccept k via addr seq tagOk
      exec (.mgtClose k via addr seq tagOk false) s = .next (s.after (if a.1 then a.2.mgtEnd k else a.2)))) ∧
  (∀ (s : State) (k : Fin 8) (x : MgtSess), s.mgtSess k = some x → let u := s.mgtEnd k
    let v := s.setMgtSess k none
    u.mgtSess k = none ∧ (∀ r ∈ u.mgt.queue, r.session ≠ k) ∧ u.mgt.queue.map (fun r => (r.reqId, r.opcode, r.params)) = s.mgt.queue.map (fun r => (r.reqId, r.opcode, r.params)) ∧
    (x.up = true → (v.slotLocked (s.mgtSlot k) = false → u.slotValid (s.mgtSlot k) = false) ∧
      (v.slotLocked (s.mgtSlot k + 1) = false → u.slotValid (s.mgtSlot k + 1) = false))) ∧
  (∀ (s : State) (via : Fin 4) (addr : Nat) (off : BitVec 16), s.serves 22 = true → s.on .TOP_STATE_CCX_RESTART = false → let t := s.mgtTake via
    let b := (s.sec.cert.drop off.toNat).take 1024
    t.mgtRuns via = true → exec (.certReq via addr off) s = .next (s.after (t.mgtPost via addr (mgtHead 0x05 0 0 (4 + b.length) ++ bytesLE 2 off.toNat ++ bytesLE 2 s.sec.cert.length ++ b)))) ∧
  (∀ (s : State) (k via addr seq : Nat) (tagOk : Bool), (s.mgtAccept k via addr seq tagOk).1 = true ↔
    s.mgtRuns via = true ∧ ∃ x, s.mgtSess k = some x ∧ x.up = true ∧ x.via = via ∧ x.addr = addr ∧ s.on (.SEC_KEY_ATTR_VALID (s.mgtSlot k)) = true ∧
      bitAt (s.rf (.SEC_KEY_ATTR_USAGE (s.mgtSlot k))) 5 = true ∧ tagOk = true ∧ s.anyPan = true ∧ x.fresh seq = true) ∧
  (∀ (s : State) (k via addr seq : Nat) (tagOk : Bool) (x : MgtSess), s.mgtRuns via = true → s.mgtSess k = some x → x.up = true → x.via = via → x.addr = addr →
    let r := s.keyUse (s.mgtSlot k) 5
    let t := if s.anyPan then s.service 2 none else s
    let go (u : Bool × State) : Prop := s.mgtAccept k via addr seq tagOk = u
    (r.1 = false → go (false, (s.notify 0x02B 0x0D).cinc (Ctr.mgt 7))) ∧
    (r.1 = true → tagOk = false ∨ s.anyPan = false → go (false, t.cinc (Ctr.mgt 7))) ∧
    (r.1 = true → tagOk = true → s.anyPan = true → x.fresh seq = false → go (false, t.cinc (Ctr.mgt 3))) ∧
    (r.1 = true → tagOk = true → s.anyPan = true → x.fresh seq = true → go (true, t.setMgtSess k (some { x.take seq with heard := s.cycles })))) ∧
  (∀ (x : MgtSess) (a b : Nat), (x.fresh a = true ↔ x.high < a ∨ 0 < a ∧ x.high < a + 64 ∧ bitAt x.window (x.high - a) = false) ∧
    (x.fresh a = true → (x.take a).fresh a = false) ∧ (x.fresh b = false → (x.take a).fresh b = false)) ∧
  (∀ (s : State) (k : Fin 8) (via : Fin 4) (addr seq : Nat) (tagOk : Bool) (reqId opcode : BitVec 16) (params : List Byte), s.serves 22 = true → s.on .TOP_STATE_CCX_RESTART = false → let t := s.mgtTake via
    let run (u : State) : Prop := exec (.mgtRequest k via addr seq tagOk reqId opcode params) s = .next (s.after u)
    let a := t.mgtAccept k via addr seq tagOk
    t.mgtRuns via = true →
    (mgtTooLong via (44 + params.length) = true → run (t.cinc (Ctr.mgt 4))) ∧
    (mgtTooLong via (44 + params.length) = false → a.1 = false → run a.2) ∧
    (mgtTooLong via (44 + params.length) = false → a.1 = true → ∀ x, a.2.mgtSess k = some x →
      (∀ r, x.kept.find? (fun r => r.reqId = reqId.toNat) = some r → run (a.2.sendResp k r)) ∧
      (x.kept.find? (fun r => r.reqId = reqId.toNat) = none →
        (x.open_.contains reqId.toNat = true → run a.2) ∧
        (x.open_.contains reqId.toNat = false → 32 ≤ s.mgt.queue.length → run ((a.2.cinc (Ctr.mgt 6)).sendResp k ⟨reqId.toNat, opcode.toNat, 5, 0, []⟩)) ∧
        (x.open_.contains reqId.toNat = false → s.mgt.queue.length < 32 → (∀ r ∈ s.mgt.queue, r.at_ ≠ s.cycles) →
          ∃ u : State, run (u.mgtSettle 32) ∧ u.mgt.queue = s.mgt.queue ++ [⟨k, x.priv, s.cycles, reqId.toNat, opcode.toNat, params⟩] ∧
            u.cget (Ctr.mgt 0) = (a.2.cget (Ctr.mgt 0) + 1) % 2 ^ 64 ∧ ∃ y, u.mgtSess k = some y ∧ y.open_ = x.open_ ++ [reqId.toNat])))) ∧
  (∀ (s : State) (r : MgtReq) (rest : List MgtReq) (status detail : Nat) (result : List Word), s.mgt.queue = r :: rest → let u := s.mgtPop status detail result
    u.mgt.queue = rest ∧ u.mgt.begun = false ∧ (s.mgtSess r.session = none → u.out = s.out) ∧
    (∀ x, s.mgtSess r.session = some x → ∃ v : State, u = v.sendResp r.session ⟨r.reqId, r.opcode, status, detail, result⟩ ∧ v.out = s.out ∧
      v.mgtSess r.session = some { x with open_ := x.open_.erase r.reqId, kept := (⟨r.reqId, r.opcode, status, detail, result⟩ :: x.kept).take 8 }) ∧
    u.cget (Ctr.mgt 5) = (if status = 1 then (s.cget (Ctr.mgt 5) + 1) % 2 ^ 64 else s.cget (Ctr.mgt 5))) ∧
  (∀ (s : State) (n : Nat), (∀ status detail result, s.mgtReply status detail result = (s.mgtPop status detail result).mgtSettle 32) ∧ (s.mgt.queue = [] → s.mgtSettle n = s) ∧
    ∀ r rest, s.mgt.queue = r :: rest → ((mgtPriv r.opcode).isSome = true → s.mgtSettle n = s) ∧
      (mgtPriv r.opcode = none → s.mgtSettle (n + 1) = (s.mgtPop 2 0 []).mgtSettle n)) ∧
  (∀ (s : State) (late : Bool) (bad : BitVec 4) (r : MgtReq), s.serves 22 = true → s.committed = true → s.on .TOP_STATE_CCX_RESTART = false →
    s.mgt.queue.head? = some r → ∀ e ∈ ([(.getInfo, 0x0001, 0, fun n => n = 0), (.regRead, 0x0010, 0, fun n => n = 6),
      (.regWrite, 0x0011, 1, fun n => n % 8 = 0 && 8 ≤ n && n ≤ 1024), (.regModify, 0x0012, 1, fun n => n % 12 = 0 && 12 ≤ n && n ≤ 1020),
      (.cntRead, 0x0020, 0, fun n => n = 6), (.faultClear, 0x0021, 1, fun n => n = 4), (.updateBegin, 0x0030, 2, fun n => n = 1),
      (.updateChunk, 0x0031, 2, fun n => 5 ≤ n && n ≤ 1028), (.updateEnd late, 0x0032, 2, fun n => n = 0), (.updateCommit, 0x0033, 2, fun n => n = 1),
      (.updateConfirm, 0x0034, 2, fun n => n = 0), (.updateCancel, 0x0035, 2, fun n => n = 0), (.updateStatus, 0x0036, 0, fun n => n = 0),
      (.rulesetSwap late, 0x0040, 3, fun n => n = 0), (.timeGet, 0x0050, 0, fun n => n = 0), (.timeStep, 0x0051, 4, fun n => n = 1),
      (.timeSource, 0x0052, 4, fun n => n = 1), (.gateChange late, 0x0053, 4, fun n => n = 1), (.attest, 0x0060, 5, fun n => n = 32),
      (.pairStatus, 0x0070, 0, fun n => n = 0), (.pairRelinquish, 0x0071, 6, fun n => n = 0), (.pairSelftest bad, 0x0072, 6, fun n => n = 0),
      (.zeroize, 0x0080, 7, fun n => n = 0), (.power, 0x0081, 7, fun n => n = 1), (.reset, 0x0082, 7, fun n => n = 0)] : List (Instr × Nat × Nat × (Nat → Bool))),
    (r.opcode ≠ e.2.1 → exec e.1 s = .next (s.after s)) ∧
    (r.opcode = e.2.1 → bitAt r.priv e.2.2.1 = false → exec e.1 s = .next (s.after (s.mgtReply 1 0 []))) ∧
    (r.opcode = e.2.1 → bitAt r.priv e.2.2.1 = true → e.2.2.2 r.params.length = false → exec e.1 s = .next (s.after (s.mgtReply 3 0 [])))) ∧
  (∀ (s : State) (r : MgtReq), let regs (c : Instr) (l : List Nat) : Prop := exec c s = .next (s.after ((s.fwReads l).2.mgtReply 0 0 (s.fwReads l).1))
    (s.asked 0x0001 r → r.params.length = 0 → regs .getInfo [Reg.TOP_ID, Reg.TOP_REV, Reg.SEC_UID 0, Reg.SEC_UID 1, Reg.SEC_UID 2, Reg.SEC_UID 3,
      Reg.BOOT_IMAGE_ID 0, Reg.BOOT_IMAGE_ID 1, Reg.BOOT_IMAGE_ID 2, Reg.BOOT_IMAGE_ID 3, Reg.CCX_FW_VERSION, Reg.TOP_STATE]) ∧
    (s.asked 0x0036 r → r.params.length = 0 → regs .updateStatus [Reg.BOOT_UPDATE_STATUS, Reg.BOOT_CTRL_REC]) ∧
    (s.asked 0x0070 r → r.params.length = 0 → regs .pairStatus [Reg.PAIR_STATUS, Reg.PAIR_TERM, Reg.PAIR_LEASE_LEFT, Reg.PAIR_CRATE_AGE]) ∧
    (s.asked 0x0010 r → r.params.length = 6 → let n := le r.params 4 2
      (1 ≤ n → n ≤ 256 → regs .regRead ((List.range n).map fun i => le r.params 0 4 + 4 * i)) ∧
      (n = 0 ∨ 256 < n → exec .regRead s = .next (s.after (s.mgtReply 3 0 [])))) ∧
    (s.asked 0x0020 r → r.params.length = 6 → let n := le r.params 4 2
      (1 ≤ n → n ≤ 64 → regs .cntRead ((List.range (2 * n)).map fun i => le r.params 0 4 + 4 * i)) ∧
      (n = 0 ∨ 64 < n → exec .cntRead s = .next (s.after (s.mgtReply 3 0 []))))) ∧
  (∀ (s : State) (r : MgtReq),
    (s.asked 0x0011 r → r.params.length % 8 = 0 → 8 ≤ r.params.length → r.params.length ≤ 1024 →
      let w := s.mgtWrites 0 ((List.range (r.params.length / 8)).map fun i => (le r.params (8 * i) 4, fun t => (r.word (8 * i + 4), t)))
      exec .regWrite s = .next (s.after (w.2.2.mgtReply w.1 w.2.1 []))) ∧
    (s.asked 0x0012 r → r.params.length % 12 = 0 → 12 ≤ r.params.length → r.params.length ≤ 1020 →
      let w := s.mgtWrites 0 ((List.range (r.params.length / 12)).map fun i => (le r.params (12 * i) 4, fun t =>
        let m := r.word (12 * i + 4)
        let o := t.fwRead (le r.params (12 * i) 4)
        ((o.1 &&& ~~~m) ||| (r.word (12 * i + 8) &&& m), o.2)))
      exec .regModify s = .next (s.after (w.2.2.mgtReply w.1 w.2.1 [])))) ∧
  (∀ (l : List (Nat × (State → Word × State))) (s : State) (done : Nat), let w := s.mgtWrites done l
    (w.1 = 0 ∧ w.2.1 = done + l.length) ∨ ((w.1 = 1 ∨ w.1 = 4) ∧ done ≤ w.2.1 ∧ w.2.1 < done + l.length)) ∧
  (∀ (s : State) (a : Nat) (v : State → Word × State) (l : List (Nat × (State → Word × State))) (done : Nat),
    (s.mgtDenies a = true ↔ mgtBarred a = true ∨ ∃ b, ownerOf a = some b ∧ bitAt (s.rf .MGT_WR_MASK_MASK) b = false) ∧
    (s.mgtDenies a = true → s.mgtWrites done ((a, v) :: l) = (1, done, s))) ∧
  (∀ n : Nat, [Reg.TOP_RESET_CMD, Reg.PWR_CMD, Reg.SEC_LIFECYCLE_CMD, Reg.SEC_ZEROIZE, Reg.SEC_DEBUG_CMD, Reg.BOOT_UPDATE_CMD, Reg.BOOT_STAGE_LEN,
      Reg.CLS_EPOCH_CMD, Reg.TIM_WC_CMD, Reg.PAIR_CMD].all mgtBarred = true ∧
    (n < 62 → mgtBarred (Reg.SEC_DEBUG_TOKEN n) = true) ∧ (n < 8192 → mgtBarred (Reg.BOOT_STAGE_BUF n) = true) ∧ (n < 96 → mgtBarred (Reg.GAT_CMD n) = true))
end

