-- ==== Sys2Proof/Laws/Sparse.lean ====
section
/-!
SUPPORT. What reading, writing and the canonical form of sparse storage do with each other. Every memory and table of the
device is written through `spSet`, so these say once what a write of any of them can do.
-/
namespace Sys2Proof.Machine

variable {α : Type}

@[simp] theorem spGet_nil (d : Nat → α) (k : Nat) : spGet d [] k = d k := rfl

/-! Read after erase, insert and write. -/

theorem spGet_spErase_self (d : Nat → α) (m : Sparse α) (k : Nat) : spGet d (spErase m k) k = d k := by
  induction m with
  | nil => rfl
  | cons e m ih =>
    obtain ⟨j, v⟩ := e
    by_cases h : j = k
    · simp [spErase, h, ih]
    · simp [spErase, h, spGet, ih]

theorem spGet_spErase_of_ne (d : Nat → α) (m : Sparse α) {j k : Nat} (h : j ≠ k) :
    spGet d (spErase m k) j = spGet d m j := by
  induction m with
  | nil => rfl
  | cons e m ih =>
    obtain ⟨i, v⟩ := e
    by_cases hi : i = k
    · have hj : i ≠ j := fun hij => h (hij ▸ hi)
      simp [spErase, hi, spGet, ih]
      intro hkj
      exact absurd hkj.symm h
    · simp [spErase, hi, spGet, ih]

theorem spGet_spInsert_self (d : Nat → α) (m : Sparse α) (k : Nat) (v : α) : spGet d (spInsert m k v) k = v := by
  induction m with
  | nil => simp [spInsert, spGet]
  | cons e m ih =>
    obtain ⟨j, w⟩ := e
    unfold spInsert
    split
    · simp [spGet]
    · split
      · simp [spGet]
      · rename_i h1 h2
        have : ¬ j = k := fun h => h2 h.symm
        simp [spGet, this, ih]

theorem spGet_spInsert_of_ne (d : Nat → α) (m : Sparse α) {j k : Nat} (v : α) (h : j ≠ k) :
    spGet d (spInsert m k v) j = spGet d m j := by
  have hk : ¬ k = j := fun e => h e.symm
  induction m with
  | nil => simp [spInsert, spGet, hk]
  | cons e m ih =>
    obtain ⟨i, w⟩ := e
    unfold spInsert
    split
    · simp [spGet, hk]
    · split
      · rename_i h2
        subst h2
        simp [spGet, hk]
      · simp [spGet, ih]

/-- Forgetting some keys: they read as unlisted, and the others as before. -/
theorem spGet_spKeep (d : Nat → α) (m : Sparse α) (p : Nat → Bool) (k : Nat) :
    spGet d (spKeep m p) k = if p k = true then spGet d m k else d k := by
  induction m with
  | nil => simp [spKeep]
  | cons e m ih =>
    obtain ⟨j, v⟩ := e
    unfold spKeep at ih ⊢
    by_cases hj : p j = true
    · simp only [List.filter, hj, spGet]
      by_cases hk : j = k
      · subst hk
        simp [hj]
      · simp only [hk, if_false]
        exact ih
    · simp only [List.filter, hj, spGet]
      by_cases hk : j = k
      · subst hk
        simp only [hj, if_true] at ih ⊢
        simpa using ih
      · simp only [hk, if_false]
        exact ih

section Write
variable [DecidableEq α]

/-- Reading the key just written gives the value written. -/
@[simp] theorem spGet_spSet_self (d : Nat → α) (m : Sparse α) (k : Nat) (v : α) : spGet d (spSet d m k v) k = v := by
  unfold spSet
  split
  · rename_i h
    rw [spGet_spErase_self, h]
  · exact spGet_spInsert_self d m k v

/-- A write leaves every other key as it was. -/
theorem spGet_spSet_of_ne (d : Nat → α) (m : Sparse α) {j k : Nat} (v : α) (h : j ≠ k) :
    spGet d (spSet d m k v) j = spGet d m j := by
  unfold spSet
  split
  · exact spGet_spErase_of_ne d m h
  · exact spGet_spInsert_of_ne d m v h

/-- What every key reads after a write. -/
theorem spGet_spSet (d : Nat → α) (m : Sparse α) (j k : Nat) (v : α) :
    spGet d (spSet d m k v) j = if j = k then v else spGet d m j := by
  split
  · rename_i h
    rw [h, spGet_spSet_self]
  · rename_i h
    exact spGet_spSet_of_ne d m v h

/-! The canonical form. -/

theorem spWfFrom_mono (d : Nat → α) (m : Sparse α) {a b : Nat} (h : a ≤ b) (hb : spWfFrom d m b = true) :
    spWfFrom d m a = true := by
  cases m with
  | nil => rfl
  | cons e m =>
    obtain ⟨j, v⟩ := e
    simp only [spWfFrom, Bool.and_eq_true, decide_eq_true_eq] at hb ⊢
    exact ⟨⟨Nat.le_trans h hb.1.1, hb.1.2⟩, hb.2⟩

theorem spWfFrom_spErase (d : Nat → α) (m : Sparse α) (k a : Nat) (h : spWfFrom d m a = true) :
    spWfFrom d (spErase m k) a = true := by
  induction m generalizing a with
  | nil => rfl
  | cons e m ih =>
    obtain ⟨j, v⟩ := e
    simp only [spWfFrom, Bool.and_eq_true, decide_eq_true_eq] at h
    unfold spErase
    split
    · exact spWfFrom_mono d _ (by omega) (ih (j + 1) h.2)
    · simp only [spWfFrom, Bool.and_eq_true, decide_eq_true_eq]
      exact ⟨h.1, ih (j + 1) h.2⟩

theorem spWfFrom_spInsert (d : Nat → α) (m : Sparse α) (k a : Nat) (v : α) (hv : v ≠ d k) (hk : a ≤ k)
    (h : spWfFrom d m a = true) : spWfFrom d (spInsert m k v) a = true := by
  induction m generalizing a with
  | nil => simp [spInsert, spWfFrom, hv, hk]
  | cons e m ih =>
    obtain ⟨j, w⟩ := e
    simp only [spWfFrom, Bool.and_eq_true, decide_eq_true_eq] at h
    unfold spInsert
    split
    · simp only [spWfFrom, Bool.and_eq_true, decide_eq_true_eq]
      exact ⟨⟨hk, hv⟩, ⟨by omega, h.1.2⟩, h.2⟩
    · split
      · rename_i h2
        subst h2
        simp only [spWfFrom, Bool.and_eq_true, decide_eq_true_eq]
        exact ⟨⟨hk, hv⟩, h.2⟩
      · simp only [spWfFrom, Bool.and_eq_true, decide_eq_true_eq]
        exact ⟨h.1, ih (j + 1) (by omega) h.2⟩

/-- A write keeps the canonical form. -/
theorem spWf_spSet (d : Nat → α) (m : Sparse α) (k : Nat) (v : α) (h : spWf d m = true) :
    spWf d (spSet d m k v) = true := by
  unfold spWf spSet
  split
  · exact spWfFrom_spErase d m k 0 h
  · rename_i hv
    exact spWfFrom_spInsert d m k 0 v hv (Nat.zero_le k) h

theorem spWfFrom_spKeep (d : Nat → α) (m : Sparse α) (p : Nat → Bool) (a : Nat) (h : spWfFrom d m a = true) :
    spWfFrom d (spKeep m p) a = true := by
  induction m generalizing a with
  | nil => rfl
  | cons e m ih =>
    obtain ⟨j, v⟩ := e
    simp only [spWfFrom, Bool.and_eq_true, decide_eq_true_eq] at h
    have ht := ih (j + 1) h.2
    by_cases hp : p j = true
    · simp only [spKeep, List.filter, hp, spWfFrom, Bool.and_eq_true, decide_eq_true_eq]
      exact ⟨h.1, ht⟩
    · simp only [spKeep, List.filter, hp]
      exact spWfFrom_mono d _ (by omega) ht

/-- Forgetting some keys keeps the canonical form. -/
theorem spWf_spKeep (d : Nat → α) (m : Sparse α) (p : Nat → Bool) (h : spWf d m = true) : spWf d (spKeep m p) = true :=
  spWfFrom_spKeep d m p 0 h

/-- Below the lower bound of its keys a memory reads as unlisted. -/
theorem spGet_of_lt (d : Nat → α) (m : Sparse α) {a k : Nat} (h : spWfFrom d m a = true) (hk : k < a) : spGet d m k = d k := by
  induction m generalizing a with
  | nil => rfl
  | cons e m ih =>
    obtain ⟨j, v⟩ := e
    simp only [spWfFrom, Bool.and_eq_true, decide_eq_true_eq] at h
    have hj : ¬ j = k := by omega
    simp only [spGet, hj, if_false]
    exact ih h.2 (by omega)

/-- Two memories in canonical form that read the same everywhere are equal. -/
theorem spWfFrom_ext (d : Nat → α) (m n : Sparse α) (a b : Nat) (hm : spWfFrom d m a = true) (hn : spWfFrom d n b = true)
    (h : ∀ k, spGet d m k = spGet d n k) : m = n := by
  induction m generalizing n a b with
  | nil =>
    cases n with
    | nil => rfl
    | cons e n =>
      obtain ⟨j, v⟩ := e
      simp only [spWfFrom, Bool.and_eq_true, decide_eq_true_eq] at hn
      have := h j
      simp only [spGet, if_true] at this
      exact absurd this.symm hn.1.2
  | cons e m ih =>
    obtain ⟨i, v⟩ := e
    simp only [spWfFrom, Bool.and_eq_true, decide_eq_true_eq] at hm
    cases n with
    | nil =>
      have := h i
      simp only [spGet, if_true] at this
      exact absurd this hm.1.2
    | cons f n =>
      obtain ⟨j, w⟩ := f
      simp only [spWfFrom, Bool.and_eq_true, decide_eq_true_eq] at hn
      have hij : i = j := by
        refine Classical.byContradiction fun hne => ?_
        by_cases hlt : i < j
        · have h1 := h i
          have hji : ¬ j = i := by omega
          simp only [spGet, if_true, hji, if_false] at h1
          rw [spGet_of_lt d n hn.2 (by omega)] at h1
          exact hm.1.2 h1
        · have h1 := h j
          have hij : ¬ i = j := hne
          simp only [spGet, if_true, hij, if_false] at h1
          rw [spGet_of_lt d m hm.2 (by omega)] at h1
          exact hn.1.2 h1.symm
      subst hij
      have hv : v = w := by
        have := h i
        simpa [spGet] using this
      subst hv
      have htail : m = n := by
        apply ih n (i + 1) (i + 1) hm.2 hn.2
        intro k
        by_cases hk : i = k
        · subst hk
          rw [spGet_of_lt d m hm.2 (by omega), spGet_of_lt d n hn.2 (by omega)]
        · have := h k
          simpa [spGet, hk] using this
      rw [htail]

theorem spWf_ext (d : Nat → α) (m n : Sparse α) (hm : spWf d m = true) (hn : spWf d n = true)
    (h : ∀ k, spGet d m k = spGet d n k) : m = n := spWfFrom_ext d m n 0 0 hm hn h

end Write

end Sys2Proof.Machine
end

