-- ==== Sys2Proof/Laws/Fields.lean ====
section
/-!
SUPPORT. Bit fields of a register word, and what reading a register or a field gives after a write of it or of another.
-/
namespace Sys2Proof.Machine

theorem getLsbD_fldMask (lo width i : Nat) (hi : i < 32) :
    (fldMask lo width).getLsbD i = (decide (lo ≤ i) && decide (i < lo + width)) := by
  unfold fldMask
  simp only [BitVec.getLsbD_shiftLeft, BitVec.getLsbD_setWidth, BitVec.getLsbD_allOnes, hi, decide_true, Bool.true_and]
  by_cases h : i < lo
  · have h2 : ¬ lo ≤ i := by omega
    simp [h, h2]
  · have h1 : lo ≤ i := by omega
    have h3 : i - lo < 32 := by omega
    have h4 : (i - lo < width) ↔ (i < lo + width) := by omega
    simp [h, h1, h3, h4]

theorem getLsbD_fldSet (w : Word) (lo width v i : Nat) (hi : i < 32) :
    (fldSet w lo width v).getLsbD i =
      if lo ≤ i ∧ i < lo + width then v.testBit (i - lo) else w.getLsbD i := by
  unfold fldSet
  simp only [BitVec.getLsbD_or, BitVec.getLsbD_and, BitVec.getLsbD_not, getLsbD_fldMask _ _ _ hi, hi, decide_true,
    Bool.true_and, BitVec.getLsbD_shiftLeft, BitVec.getLsbD_ofNat]
  by_cases h : lo ≤ i ∧ i < lo + width
  · have h1 : ¬ i < lo := by omega
    have h2 : i - lo < 32 := by omega
    simp [h, h1, h2]
  · rw [if_neg h]
    by_cases h1 : lo ≤ i
    · have h2 : ¬ i < lo + width := fun h2 => h ⟨h1, h2⟩
      simp [h1, h2]
    · simp [h1]

theorem testBit_fldGet (w : Word) (lo width i : Nat) :
    (fldGet w lo width).testBit i = (decide (i < width) && w.getLsbD (lo + i)) := by
  unfold fldGet
  rw [BitVec.testBit_toNat, BitVec.getLsbD_extractLsb']

/-- A field just written reads the value written, cut to its width. -/
theorem fldGet_fldSet_self (w : Word) (lo width v : Nat) (h : lo + width ≤ 32) :
    fldGet (fldSet w lo width v) lo width = v % 2 ^ width := by
  apply Nat.eq_of_testBit_eq
  intro i
  rw [testBit_fldGet, Nat.testBit_mod_two_pow]
  by_cases hi : i < width
  · have h1 : lo + i < 32 := by omega
    have h2 : lo ≤ lo + i ∧ lo + i < lo + width := by omega
    rw [getLsbD_fldSet _ _ _ _ _ h1, if_pos h2, Nat.add_sub_cancel_left]
  · simp [hi]

/-- A field beside the one written keeps its value. -/
theorem fldGet_fldSet_of_disjoint (w : Word) (lo width v lo' width' : Nat) (h : lo' + width' ≤ lo ∨ lo + width ≤ lo') :
    fldGet (fldSet w lo width v) lo' width' = fldGet w lo' width' := by
  apply Nat.eq_of_testBit_eq
  intro i
  rw [testBit_fldGet, testBit_fldGet]
  by_cases hi : i < width'
  · by_cases h1 : lo' + i < 32
    · have h2 : ¬ (lo ≤ lo' + i ∧ lo' + i < lo + width) := by omega
      rw [getLsbD_fldSet _ _ _ _ _ h1, if_neg h2]
    · have h1' : 32 ≤ lo' + i := by omega
      rw [BitVec.getLsbD_of_ge _ _ h1', BitVec.getLsbD_of_ge _ _ h1']
  · simp [hi]

theorem fldGet_lt (w : Word) (lo width : Nat) : fldGet w lo width < 2 ^ width := by
  unfold fldGet
  exact (w.extractLsb' lo width).isLt

namespace State

/-! Registers. -/

@[simp] theorem rword_wword_self (s : State) (a : Nat) (w : Word) : (s.wword a w).rword a = w :=
  spGet_spSet_self _ _ _ _

theorem rword_wword (s : State) (a b : Nat) (w : Word) :
    (s.wword b w).rword a = if a = b then w else s.rword a := spGet_spSet _ _ _ _ _

theorem rword_wword_of_ne (s : State) {a b : Nat} (w : Word) (h : a ≠ b) : (s.wword b w).rword a = s.rword a :=
  spGet_spSet_of_ne _ _ _ h

/-- Two states with the same registers read the same words. -/
theorem rword_congr {s t : State} (h : s.regs = t.regs) (a : Nat) : s.rword a = t.rword a := by
  unfold rword
  rw [h]

/-! Fields. -/

/-- A field just written. -/
theorem rf_wf_self (s : State) (f : Fld) (v : Nat) (h : f.lo + f.width ≤ 32) : (s.wf f v).rf f = v % 2 ^ f.width := by
  unfold rf wf
  rw [rword_wword_self, fldGet_fldSet_self _ _ _ _ h]

/-- Another field than the one written: in another register, or beside it. -/
theorem rf_wf_of_ne (s : State) (f g : Fld) (v : Nat)
    (h : g.addr ≠ f.addr ∨ g.lo + g.width ≤ f.lo ∨ f.lo + f.width ≤ g.lo) : (s.wf f v).rf g = s.rf g := by
  unfold rf wf
  by_cases ha : g.addr = f.addr
  · rw [ha, rword_wword_self]
    exact fldGet_fldSet_of_disjoint _ _ _ _ _ _ (h.resolve_left (fun hn => hn ha))
  · rw [rword_wword_of_ne _ _ ha]

theorem rword_wf_of_ne (s : State) (f : Fld) (v : Nat) {a : Nat} (h : a ≠ f.addr) : (s.wf f v).rword a = s.rword a :=
  rword_wword_of_ne _ _ h

theorem rf_congr {s t : State} (h : s.regs = t.regs) (f : Fld) : s.rf f = t.rf f := by
  unfold rf
  rw [rword_congr h]

theorem rf_lt (s : State) (f : Fld) : s.rf f < 2 ^ f.width := fldGet_lt _ _ _

theorem on_congr {s t : State} (h : s.regs = t.regs) (f : Fld) : s.on f = t.on f := by
  unfold on
  rw [rf_congr h]

theorem on_wf_self (s : State) (f : Fld) (v : Nat) (h : f.lo + f.width ≤ 32) : (s.wf f v).on f = (v % 2 ^ f.width == 1) := by
  unfold on
  rw [rf_wf_self _ _ _ h]

theorem on_wf_of_ne (s : State) (f g : Fld) (v : Nat)
    (h : g.addr ≠ f.addr ∨ g.lo + g.width ≤ f.lo ∨ f.lo + f.width ≤ g.lo) : (s.wf f v).on g = s.on g := by
  unfold on
  rw [rf_wf_of_ne _ _ _ _ h]

/-! Counters. -/

theorem cget_cadd_self (s : State) (a n : Nat) : (s.cadd a n).cget a = (s.cget a + n) % 2 ^ 64 :=
  spGet_spSet_self _ _ _ _

theorem cget_cadd_of_ne (s : State) {a b : Nat} (n : Nat) (h : a ≠ b) : (s.cadd b n).cget a = s.cget a :=
  spGet_spSet_of_ne _ _ _ h

end State

end Sys2Proof.Machine
end

