-- ==== Sys2Proof/Laws/State.lean ====
section
/-!
SUPPORT. What each small update of the state leaves in each field: every lemma is true by unfolding, and they are simp
lemmas, so that no later proof unfolds a record update.
-/
namespace Sys2Proof.Machine.State

variable (s : State)

/-! wword -/

@[simp] theorem ctr_wword (a : Nat) (w : Word) : (s.wword a w).ctr = s.ctr := (rfl)
@[simp] theorem latch_wword (a : Nat) (w : Word) : (s.wword a w).latch = s.latch := (rfl)
@[simp] theorem cycles_wword (a : Nat) (w : Word) : (s.wword a w).cycles = s.cycles := (rfl)
@[simp] theorem draws_wword (a : Nat) (w : Word) : (s.wword a w).draws = s.draws := (rfl)
@[simp] theorem out_wword (a : Nat) (w : Word) : (s.wword a w).out = s.out := (rfl)
@[simp] theorem irq_wword (a : Nat) (w : Word) : (s.wword a w).irq = s.irq := (rfl)
@[simp] theorem flt_wword (a : Nat) (w : Word) : (s.wword a w).flt = s.flt := (rfl)
@[simp] theorem pwr_wword (a : Nat) (w : Word) : (s.wword a w).pwr = s.pwr := (rfl)
@[simp] theorem cel_wword (a : Nat) (w : Word) : (s.wword a w).cel = s.cel := (rfl)
@[simp] theorem mac_wword (a : Nat) (w : Word) : (s.wword a w).mac = s.mac := (rfl)
@[simp] theorem frames_wword (a : Nat) (w : Word) : (s.wword a w).frames = s.frames := (rfl)
@[simp] theorem nextFid_wword (a : Nat) (w : Word) : (s.wword a w).nextFid = s.nextFid := (rfl)
@[simp] theorem rak_wword (a : Nat) (w : Word) : (s.wword a w).rak = s.rak := (rfl)
@[simp] theorem ecc_wword (a : Nat) (w : Word) : (s.wword a w).ecc = s.ecc := (rfl)
@[simp] theorem cls_wword (a : Nat) (w : Word) : (s.wword a w).cls = s.cls := (rfl)
@[simp] theorem stm_wword (a : Nat) (w : Word) : (s.wword a w).stm = s.stm := (rfl)
@[simp] theorem tim_wword (a : Nat) (w : Word) : (s.wword a w).tim = s.tim := (rfl)
@[simp] theorem gat_wword (a : Nat) (w : Word) : (s.wword a w).gat = s.gat := (rfl)
@[simp] theorem cph_wword (a : Nat) (w : Word) : (s.wword a w).cph = s.cph := (rfl)
@[simp] theorem wfail_wword (a : Nat) (w : Word) : (s.wword a w).wfail = s.wfail := (rfl)
@[simp] theorem sec_wword (a : Nat) (w : Word) : (s.wword a w).sec = s.sec := (rfl)
@[simp] theorem dram_wword (a : Nat) (w : Word) : (s.wword a w).dram = s.dram := (rfl)
@[simp] theorem stg_wword (a : Nat) (w : Word) : (s.wword a w).stg = s.stg := (rfl)
@[simp] theorem hat_wword (a : Nat) (w : Word) : (s.wword a w).hat = s.hat := (rfl)
@[simp] theorem brg_wword (a : Nat) (w : Word) : (s.wword a w).brg = s.brg := (rfl)
@[simp] theorem gwe_wword (a : Nat) (w : Word) : (s.wword a w).gwe = s.gwe := (rfl)
@[simp] theorem boot_wword (a : Nat) (w : Word) : (s.wword a w).boot = s.boot := (rfl)
@[simp] theorem ccx_wword (a : Nat) (w : Word) : (s.wword a w).ccx = s.ccx := (rfl)
@[simp] theorem pair_wword (a : Nat) (w : Word) : (s.wword a w).pair = s.pair := (rfl)
@[simp] theorem mgt_wword (a : Nat) (w : Word) : (s.wword a w).mgt = s.mgt := (rfl)
@[simp] theorem blockRst_wword (a : Nat) (w : Word) : (s.wword a w).blockRst = s.blockRst := (rfl)
@[simp] theorem pending_wword (a : Nat) (w : Word) : (s.wword a w).pending = s.pending := (rfl)

/-! wf -/

@[simp] theorem ctr_wf (f : Fld) (v : Nat) : (s.wf f v).ctr = s.ctr := (rfl)
@[simp] theorem latch_wf (f : Fld) (v : Nat) : (s.wf f v).latch = s.latch := (rfl)
@[simp] theorem cycles_wf (f : Fld) (v : Nat) : (s.wf f v).cycles = s.cycles := (rfl)
@[simp] theorem draws_wf (f : Fld) (v : Nat) : (s.wf f v).draws = s.draws := (rfl)
@[simp] theorem out_wf (f : Fld) (v : Nat) : (s.wf f v).out = s.out := (rfl)
@[simp] theorem irq_wf (f : Fld) (v : Nat) : (s.wf f v).irq = s.irq := (rfl)
@[simp] theorem flt_wf (f : Fld) (v : Nat) : (s.wf f v).flt = s.flt := (rfl)
@[simp] theorem pwr_wf (f : Fld) (v : Nat) : (s.wf f v).pwr = s.pwr := (rfl)
@[simp] theorem cel_wf (f : Fld) (v : Nat) : (s.wf f v).cel = s.cel := (rfl)
@[simp] theorem mac_wf (f : Fld) (v : Nat) : (s.wf f v).mac = s.mac := (rfl)
@[simp] theorem frames_wf (f : Fld) (v : Nat) : (s.wf f v).frames = s.frames := (rfl)
@[simp] theorem nextFid_wf (f : Fld) (v : Nat) : (s.wf f v).nextFid = s.nextFid := (rfl)
@[simp] theorem rak_wf (f : Fld) (v : Nat) : (s.wf f v).rak = s.rak := (rfl)
@[simp] theorem ecc_wf (f : Fld) (v : Nat) : (s.wf f v).ecc = s.ecc := (rfl)
@[simp] theorem cls_wf (f : Fld) (v : Nat) : (s.wf f v).cls = s.cls := (rfl)
@[simp] theorem stm_wf (f : Fld) (v : Nat) : (s.wf f v).stm = s.stm := (rfl)
@[simp] theorem tim_wf (f : Fld) (v : Nat) : (s.wf f v).tim = s.tim := (rfl)
@[simp] theorem gat_wf (f : Fld) (v : Nat) : (s.wf f v).gat = s.gat := (rfl)
@[simp] theorem cph_wf (f : Fld) (v : Nat) : (s.wf f v).cph = s.cph := (rfl)
@[simp] theorem wfail_wf (f : Fld) (v : Nat) : (s.wf f v).wfail = s.wfail := (rfl)
@[simp] theorem sec_wf (f : Fld) (v : Nat) : (s.wf f v).sec = s.sec := (rfl)
@[simp] theorem dram_wf (f : Fld) (v : Nat) : (s.wf f v).dram = s.dram := (rfl)
@[simp] theorem stg_wf (f : Fld) (v : Nat) : (s.wf f v).stg = s.stg := (rfl)
@[simp] theorem hat_wf (f : Fld) (v : Nat) : (s.wf f v).hat = s.hat := (rfl)
@[simp] theorem brg_wf (f : Fld) (v : Nat) : (s.wf f v).brg = s.brg := (rfl)
@[simp] theorem gwe_wf (f : Fld) (v : Nat) : (s.wf f v).gwe = s.gwe := (rfl)
@[simp] theorem boot_wf (f : Fld) (v : Nat) : (s.wf f v).boot = s.boot := (rfl)
@[simp] theorem ccx_wf (f : Fld) (v : Nat) : (s.wf f v).ccx = s.ccx := (rfl)
@[simp] theorem pair_wf (f : Fld) (v : Nat) : (s.wf f v).pair = s.pair := (rfl)
@[simp] theorem mgt_wf (f : Fld) (v : Nat) : (s.wf f v).mgt = s.mgt := (rfl)
@[simp] theorem blockRst_wf (f : Fld) (v : Nat) : (s.wf f v).blockRst = s.blockRst := (rfl)
@[simp] theorem pending_wf (f : Fld) (v : Nat) : (s.wf f v).pending = s.pending := (rfl)

/-! cadd -/

@[simp] theorem regs_cadd (a n : Nat) : (s.cadd a n).regs = s.regs := (rfl)
@[simp] theorem latch_cadd (a n : Nat) : (s.cadd a n).latch = s.latch := (rfl)
@[simp] theorem cycles_cadd (a n : Nat) : (s.cadd a n).cycles = s.cycles := (rfl)
@[simp] theorem draws_cadd (a n : Nat) : (s.cadd a n).draws = s.draws := (rfl)
@[simp] theorem out_cadd (a n : Nat) : (s.cadd a n).out = s.out := (rfl)
@[simp] theorem irq_cadd (a n : Nat) : (s.cadd a n).irq = s.irq := (rfl)
@[simp] theorem flt_cadd (a n : Nat) : (s.cadd a n).flt = s.flt := (rfl)
@[simp] theorem pwr_cadd (a n : Nat) : (s.cadd a n).pwr = s.pwr := (rfl)
@[simp] theorem cel_cadd (a n : Nat) : (s.cadd a n).cel = s.cel := (rfl)
@[simp] theorem mac_cadd (a n : Nat) : (s.cadd a n).mac = s.mac := (rfl)
@[simp] theorem frames_cadd (a n : Nat) : (s.cadd a n).frames = s.frames := (rfl)
@[simp] theorem nextFid_cadd (a n : Nat) : (s.cadd a n).nextFid = s.nextFid := (rfl)
@[simp] theorem rak_cadd (a n : Nat) : (s.cadd a n).rak = s.rak := (rfl)
@[simp] theorem ecc_cadd (a n : Nat) : (s.cadd a n).ecc = s.ecc := (rfl)
@[simp] theorem cls_cadd (a n : Nat) : (s.cadd a n).cls = s.cls := (rfl)
@[simp] theorem stm_cadd (a n : Nat) : (s.cadd a n).stm = s.stm := (rfl)
@[simp] theorem tim_cadd (a n : Nat) : (s.cadd a n).tim = s.tim := (rfl)
@[simp] theorem gat_cadd (a n : Nat) : (s.cadd a n).gat = s.gat := (rfl)
@[simp] theorem cph_cadd (a n : Nat) : (s.cadd a n).cph = s.cph := (rfl)
@[simp] theorem wfail_cadd (a n : Nat) : (s.cadd a n).wfail = s.wfail := (rfl)
@[simp] theorem sec_cadd (a n : Nat) : (s.cadd a n).sec = s.sec := (rfl)
@[simp] theorem dram_cadd (a n : Nat) : (s.cadd a n).dram = s.dram := (rfl)
@[simp] theorem stg_cadd (a n : Nat) : (s.cadd a n).stg = s.stg := (rfl)
@[simp] theorem hat_cadd (a n : Nat) : (s.cadd a n).hat = s.hat := (rfl)
@[simp] theorem brg_cadd (a n : Nat) : (s.cadd a n).brg = s.brg := (rfl)
@[simp] theorem gwe_cadd (a n : Nat) : (s.cadd a n).gwe = s.gwe := (rfl)
@[simp] theorem boot_cadd (a n : Nat) : (s.cadd a n).boot = s.boot := (rfl)
@[simp] theorem ccx_cadd (a n : Nat) : (s.cadd a n).ccx = s.ccx := (rfl)
@[simp] theorem pair_cadd (a n : Nat) : (s.cadd a n).pair = s.pair := (rfl)
@[simp] theorem mgt_cadd (a n : Nat) : (s.cadd a n).mgt = s.mgt := (rfl)
@[simp] theorem blockRst_cadd (a n : Nat) : (s.cadd a n).blockRst = s.blockRst := (rfl)
@[simp] theorem pending_cadd (a n : Nat) : (s.cadd a n).pending = s.pending := (rfl)

/-! cinc -/

@[simp] theorem regs_cinc (a : Nat) : (s.cinc a).regs = s.regs := (rfl)
@[simp] theorem latch_cinc (a : Nat) : (s.cinc a).latch = s.latch := (rfl)
@[simp] theorem cycles_cinc (a : Nat) : (s.cinc a).cycles = s.cycles := (rfl)
@[simp] theorem draws_cinc (a : Nat) : (s.cinc a).draws = s.draws := (rfl)
@[simp] theorem out_cinc (a : Nat) : (s.cinc a).out = s.out := (rfl)
@[simp] theorem irq_cinc (a : Nat) : (s.cinc a).irq = s.irq := (rfl)
@[simp] theorem flt_cinc (a : Nat) : (s.cinc a).flt = s.flt := (rfl)
@[simp] theorem pwr_cinc (a : Nat) : (s.cinc a).pwr = s.pwr := (rfl)
@[simp] theorem cel_cinc (a : Nat) : (s.cinc a).cel = s.cel := (rfl)
@[simp] theorem mac_cinc (a : Nat) : (s.cinc a).mac = s.mac := (rfl)
@[simp] theorem frames_cinc (a : Nat) : (s.cinc a).frames = s.frames := (rfl)
@[simp] theorem nextFid_cinc (a : Nat) : (s.cinc a).nextFid = s.nextFid := (rfl)
@[simp] theorem rak_cinc (a : Nat) : (s.cinc a).rak = s.rak := (rfl)
@[simp] theorem ecc_cinc (a : Nat) : (s.cinc a).ecc = s.ecc := (rfl)
@[simp] theorem cls_cinc (a : Nat) : (s.cinc a).cls = s.cls := (rfl)
@[simp] theorem stm_cinc (a : Nat) : (s.cinc a).stm = s.stm := (rfl)
@[simp] theorem tim_cinc (a : Nat) : (s.cinc a).tim = s.tim := (rfl)
@[simp] theorem gat_cinc (a : Nat) : (s.cinc a).gat = s.gat := (rfl)
@[simp] theorem cph_cinc (a : Nat) : (s.cinc a).cph = s.cph := (rfl)
@[simp] theorem wfail_cinc (a : Nat) : (s.cinc a).wfail = s.wfail := (rfl)
@[simp] theorem sec_cinc (a : Nat) : (s.cinc a).sec = s.sec := (rfl)
@[simp] theorem dram_cinc (a : Nat) : (s.cinc a).dram = s.dram := (rfl)
@[simp] theorem stg_cinc (a : Nat) : (s.cinc a).stg = s.stg := (rfl)
@[simp] theorem hat_cinc (a : Nat) : (s.cinc a).hat = s.hat := (rfl)
@[simp] theorem brg_cinc (a : Nat) : (s.cinc a).brg = s.brg := (rfl)
@[simp] theorem gwe_cinc (a : Nat) : (s.cinc a).gwe = s.gwe := (rfl)
@[simp] theorem boot_cinc (a : Nat) : (s.cinc a).boot = s.boot := (rfl)
@[simp] theorem ccx_cinc (a : Nat) : (s.cinc a).ccx = s.ccx := (rfl)
@[simp] theorem pair_cinc (a : Nat) : (s.cinc a).pair = s.pair := (rfl)
@[simp] theorem mgt_cinc (a : Nat) : (s.cinc a).mgt = s.mgt := (rfl)
@[simp] theorem blockRst_cinc (a : Nat) : (s.cinc a).blockRst = s.blockRst := (rfl)
@[simp] theorem pending_cinc (a : Nat) : (s.cinc a).pending = s.pending := (rfl)

/-! emit -/

@[simp] theorem regs_emit (o : Out) : (s.emit o).regs = s.regs := (rfl)
@[simp] theorem ctr_emit (o : Out) : (s.emit o).ctr = s.ctr := (rfl)
@[simp] theorem latch_emit (o : Out) : (s.emit o).latch = s.latch := (rfl)
@[simp] theorem cycles_emit (o : Out) : (s.emit o).cycles = s.cycles := (rfl)
@[simp] theorem draws_emit (o : Out) : (s.emit o).draws = s.draws := (rfl)
@[simp] theorem out_emit (o : Out) : (s.emit o).out = o :: s.out := (rfl)
@[simp] theorem irq_emit (o : Out) : (s.emit o).irq = s.irq := (rfl)
@[simp] theorem flt_emit (o : Out) : (s.emit o).flt = s.flt := (rfl)
@[simp] theorem pwr_emit (o : Out) : (s.emit o).pwr = s.pwr := (rfl)
@[simp] theorem cel_emit (o : Out) : (s.emit o).cel = s.cel := (rfl)
@[simp] theorem mac_emit (o : Out) : (s.emit o).mac = s.mac := (rfl)
@[simp] theorem frames_emit (o : Out) : (s.emit o).frames = s.frames := (rfl)
@[simp] theorem nextFid_emit (o : Out) : (s.emit o).nextFid = s.nextFid := (rfl)
@[simp] theorem rak_emit (o : Out) : (s.emit o).rak = s.rak := (rfl)
@[simp] theorem ecc_emit (o : Out) : (s.emit o).ecc = s.ecc := (rfl)
@[simp] theorem cls_emit (o : Out) : (s.emit o).cls = s.cls := (rfl)
@[simp] theorem stm_emit (o : Out) : (s.emit o).stm = s.stm := (rfl)
@[simp] theorem tim_emit (o : Out) : (s.emit o).tim = s.tim := (rfl)
@[simp] theorem gat_emit (o : Out) : (s.emit o).gat = s.gat := (rfl)
@[simp] theorem cph_emit (o : Out) : (s.emit o).cph = s.cph := (rfl)
@[simp] theorem wfail_emit (o : Out) : (s.emit o).wfail = s.wfail := (rfl)
@[simp] theorem sec_emit (o : Out) : (s.emit o).sec = s.sec := (rfl)
@[simp] theorem dram_emit (o : Out) : (s.emit o).dram = s.dram := (rfl)
@[simp] theorem stg_emit (o : Out) : (s.emit o).stg = s.stg := (rfl)
@[simp] theorem hat_emit (o : Out) : (s.emit o).hat = s.hat := (rfl)
@[simp] theorem brg_emit (o : Out) : (s.emit o).brg = s.brg := (rfl)
@[simp] theorem gwe_emit (o : Out) : (s.emit o).gwe = s.gwe := (rfl)
@[simp] theorem boot_emit (o : Out) : (s.emit o).boot = s.boot := (rfl)
@[simp] theorem ccx_emit (o : Out) : (s.emit o).ccx = s.ccx := (rfl)
@[simp] theorem pair_emit (o : Out) : (s.emit o).pair = s.pair := (rfl)
@[simp] theorem mgt_emit (o : Out) : (s.emit o).mgt = s.mgt := (rfl)
@[simp] theorem blockRst_emit (o : Out) : (s.emit o).blockRst = s.blockRst := (rfl)
@[simp] theorem pending_emit (o : Out) : (s.emit o).pending = s.pending := (rfl)

/-! setSlot -/

@[simp] theorem regs_setSlot (n : Nat) (x : Option Slot) : (s.setSlot n x).regs = s.regs := (rfl)
@[simp] theorem ctr_setSlot (n : Nat) (x : Option Slot) : (s.setSlot n x).ctr = s.ctr := (rfl)
@[simp] theorem latch_setSlot (n : Nat) (x : Option Slot) : (s.setSlot n x).latch = s.latch := (rfl)
@[simp] theorem cycles_setSlot (n : Nat) (x : Option Slot) : (s.setSlot n x).cycles = s.cycles := (rfl)
@[simp] theorem draws_setSlot (n : Nat) (x : Option Slot) : (s.setSlot n x).draws = s.draws := (rfl)
@[simp] theorem out_setSlot (n : Nat) (x : Option Slot) : (s.setSlot n x).out = s.out := (rfl)
@[simp] theorem irq_setSlot (n : Nat) (x : Option Slot) : (s.setSlot n x).irq = s.irq := (rfl)
@[simp] theorem pwr_setSlot (n : Nat) (x : Option Slot) : (s.setSlot n x).pwr = s.pwr := (rfl)
@[simp] theorem cel_setSlot (n : Nat) (x : Option Slot) : (s.setSlot n x).cel = s.cel := (rfl)
@[simp] theorem mac_setSlot (n : Nat) (x : Option Slot) : (s.setSlot n x).mac = s.mac := (rfl)
@[simp] theorem frames_setSlot (n : Nat) (x : Option Slot) : (s.setSlot n x).frames = s.frames := (rfl)
@[simp] theorem nextFid_setSlot (n : Nat) (x : Option Slot) : (s.setSlot n x).nextFid = s.nextFid := (rfl)
@[simp] theorem rak_setSlot (n : Nat) (x : Option Slot) : (s.setSlot n x).rak = s.rak := (rfl)
@[simp] theorem ecc_setSlot (n : Nat) (x : Option Slot) : (s.setSlot n x).ecc = s.ecc := (rfl)
@[simp] theorem cls_setSlot (n : Nat) (x : Option Slot) : (s.setSlot n x).cls = s.cls := (rfl)
@[simp] theorem stm_setSlot (n : Nat) (x : Option Slot) : (s.setSlot n x).stm = s.stm := (rfl)
@[simp] theorem tim_setSlot (n : Nat) (x : Option Slot) : (s.setSlot n x).tim = s.tim := (rfl)
@[simp] theorem gat_setSlot (n : Nat) (x : Option Slot) : (s.setSlot n x).gat = s.gat := (rfl)
@[simp] theorem cph_setSlot (n : Nat) (x : Option Slot) : (s.setSlot n x).cph = s.cph := (rfl)
@[simp] theorem wfail_setSlot (n : Nat) (x : Option Slot) : (s.setSlot n x).wfail = s.wfail := (rfl)
@[simp] theorem sec_setSlot (n : Nat) (x : Option Slot) : (s.setSlot n x).sec = s.sec := (rfl)
@[simp] theorem dram_setSlot (n : Nat) (x : Option Slot) : (s.setSlot n x).dram = s.dram := (rfl)
@[simp] theorem stg_setSlot (n : Nat) (x : Option Slot) : (s.setSlot n x).stg = s.stg := (rfl)
@[simp] theorem hat_setSlot (n : Nat) (x : Option Slot) : (s.setSlot n x).hat = s.hat := (rfl)
@[simp] theorem brg_setSlot (n : Nat) (x : Option Slot) : (s.setSlot n x).brg = s.brg := (rfl)
@[simp] theorem gwe_setSlot (n : Nat) (x : Option Slot) : (s.setSlot n x).gwe = s.gwe := (rfl)
@[simp] theorem boot_setSlot (n : Nat) (x : Option Slot) : (s.setSlot n x).boot = s.boot := (rfl)
@[simp] theorem ccx_setSlot (n : Nat) (x : Option Slot) : (s.setSlot n x).ccx = s.ccx := (rfl)
@[simp] theorem pair_setSlot (n : Nat) (x : Option Slot) : (s.setSlot n x).pair = s.pair := (rfl)
@[simp] theorem mgt_setSlot (n : Nat) (x : Option Slot) : (s.setSlot n x).mgt = s.mgt := (rfl)
@[simp] theorem blockRst_setSlot (n : Nat) (x : Option Slot) : (s.setSlot n x).blockRst = s.blockRst := (rfl)
@[simp] theorem pending_setSlot (n : Nat) (x : Option Slot) : (s.setSlot n x).pending = s.pending := (rfl)

/-! report -/

@[simp] theorem regs_report (n k a : Nat) : (s.report n k a).regs = s.regs := (rfl)
@[simp] theorem ctr_report (n k a : Nat) : (s.report n k a).ctr = s.ctr := (rfl)
@[simp] theorem latch_report (n k a : Nat) : (s.report n k a).latch = s.latch := (rfl)
@[simp] theorem cycles_report (n k a : Nat) : (s.report n k a).cycles = s.cycles := (rfl)
@[simp] theorem draws_report (n k a : Nat) : (s.report n k a).draws = s.draws := (rfl)
@[simp] theorem out_report (n k a : Nat) : (s.report n k a).out = s.out := (rfl)
@[simp] theorem irq_report (n k a : Nat) : (s.report n k a).irq = s.irq := (rfl)
@[simp] theorem pwr_report (n k a : Nat) : (s.report n k a).pwr = s.pwr := (rfl)
@[simp] theorem cel_report (n k a : Nat) : (s.report n k a).cel = s.cel := (rfl)
@[simp] theorem mac_report (n k a : Nat) : (s.report n k a).mac = s.mac := (rfl)
@[simp] theorem frames_report (n k a : Nat) : (s.report n k a).frames = s.frames := (rfl)
@[simp] theorem nextFid_report (n k a : Nat) : (s.report n k a).nextFid = s.nextFid := (rfl)
@[simp] theorem rak_report (n k a : Nat) : (s.report n k a).rak = s.rak := (rfl)
@[simp] theorem ecc_report (n k a : Nat) : (s.report n k a).ecc = s.ecc := (rfl)
@[simp] theorem cls_report (n k a : Nat) : (s.report n k a).cls = s.cls := (rfl)
@[simp] theorem stm_report (n k a : Nat) : (s.report n k a).stm = s.stm := (rfl)
@[simp] theorem tim_report (n k a : Nat) : (s.report n k a).tim = s.tim := (rfl)
@[simp] theorem gat_report (n k a : Nat) : (s.report n k a).gat = s.gat := (rfl)
@[simp] theorem cph_report (n k a : Nat) : (s.report n k a).cph = s.cph := (rfl)
@[simp] theorem wfail_report (n k a : Nat) : (s.report n k a).wfail = s.wfail := (rfl)
@[simp] theorem sec_report (n k a : Nat) : (s.report n k a).sec = s.sec := (rfl)
@[simp] theorem dram_report (n k a : Nat) : (s.report n k a).dram = s.dram := (rfl)
@[simp] theorem stg_report (n k a : Nat) : (s.report n k a).stg = s.stg := (rfl)
@[simp] theorem hat_report (n k a : Nat) : (s.report n k a).hat = s.hat := (rfl)
@[simp] theorem brg_report (n k a : Nat) : (s.report n k a).brg = s.brg := (rfl)
@[simp] theorem gwe_report (n k a : Nat) : (s.report n k a).gwe = s.gwe := (rfl)
@[simp] theorem boot_report (n k a : Nat) : (s.report n k a).boot = s.boot := (rfl)
@[simp] theorem ccx_report (n k a : Nat) : (s.report n k a).ccx = s.ccx := (rfl)
@[simp] theorem pair_report (n k a : Nat) : (s.report n k a).pair = s.pair := (rfl)
@[simp] theorem mgt_report (n k a : Nat) : (s.report n k a).mgt = s.mgt := (rfl)
@[simp] theorem blockRst_report (n k a : Nat) : (s.report n k a).blockRst = s.blockRst := (rfl)
@[simp] theorem pending_report (n k a : Nat) : (s.report n k a).pending = s.pending := (rfl)

/-! notify -/

@[simp] theorem regs_notify (n k : Nat) : (s.notify n k).regs = s.regs := (rfl)
@[simp] theorem ctr_notify (n k : Nat) : (s.notify n k).ctr = s.ctr := (rfl)
@[simp] theorem latch_notify (n k : Nat) : (s.notify n k).latch = s.latch := (rfl)
@[simp] theorem cycles_notify (n k : Nat) : (s.notify n k).cycles = s.cycles := (rfl)
@[simp] theorem draws_notify (n k : Nat) : (s.notify n k).draws = s.draws + 1 := (rfl)
@[simp] theorem out_notify (n k : Nat) : (s.notify n k).out = s.out := (rfl)
@[simp] theorem irq_notify (n k : Nat) : (s.notify n k).irq = s.irq := (rfl)
@[simp] theorem pwr_notify (n k : Nat) : (s.notify n k).pwr = s.pwr := (rfl)
@[simp] theorem cel_notify (n k : Nat) : (s.notify n k).cel = s.cel := (rfl)
@[simp] theorem mac_notify (n k : Nat) : (s.notify n k).mac = s.mac := (rfl)
@[simp] theorem frames_notify (n k : Nat) : (s.notify n k).frames = s.frames := (rfl)
@[simp] theorem nextFid_notify (n k : Nat) : (s.notify n k).nextFid = s.nextFid := (rfl)
@[simp] theorem rak_notify (n k : Nat) : (s.notify n k).rak = s.rak := (rfl)
@[simp] theorem ecc_notify (n k : Nat) : (s.notify n k).ecc = s.ecc := (rfl)
@[simp] theorem cls_notify (n k : Nat) : (s.notify n k).cls = s.cls := (rfl)
@[simp] theorem stm_notify (n k : Nat) : (s.notify n k).stm = s.stm := (rfl)
@[simp] theorem tim_notify (n k : Nat) : (s.notify n k).tim = s.tim := (rfl)
@[simp] theorem gat_notify (n k : Nat) : (s.notify n k).gat = s.gat := (rfl)
@[simp] theorem cph_notify (n k : Nat) : (s.notify n k).cph = s.cph := (rfl)
@[simp] theorem wfail_notify (n k : Nat) : (s.notify n k).wfail = s.wfail := (rfl)
@[simp] theorem sec_notify (n k : Nat) : (s.notify n k).sec = s.sec := (rfl)
@[simp] theorem dram_notify (n k : Nat) : (s.notify n k).dram = s.dram := (rfl)
@[simp] theorem stg_notify (n k : Nat) : (s.notify n k).stg = s.stg := (rfl)
@[simp] theorem hat_notify (n k : Nat) : (s.notify n k).hat = s.hat := (rfl)
@[simp] theorem brg_notify (n k : Nat) : (s.notify n k).brg = s.brg := (rfl)
@[simp] theorem gwe_notify (n k : Nat) : (s.notify n k).gwe = s.gwe := (rfl)
@[simp] theorem boot_notify (n k : Nat) : (s.notify n k).boot = s.boot := (rfl)
@[simp] theorem ccx_notify (n k : Nat) : (s.notify n k).ccx = s.ccx := (rfl)
@[simp] theorem pair_notify (n k : Nat) : (s.notify n k).pair = s.pair := (rfl)
@[simp] theorem mgt_notify (n k : Nat) : (s.notify n k).mgt = s.mgt := (rfl)
@[simp] theorem blockRst_notify (n k : Nat) : (s.notify n k).blockRst = s.blockRst := (rfl)
@[simp] theorem pending_notify (n k : Nat) : (s.notify n k).pending = s.pending := (rfl)

/-! refuse -/

@[simp] theorem regs_refuse (n k : Nat) : (s.refuse n k).regs = s.regs := (rfl)
@[simp] theorem ctr_refuse (n k : Nat) : (s.refuse n k).ctr = s.ctr := (rfl)
@[simp] theorem latch_refuse (n k : Nat) : (s.refuse n k).latch = s.latch := (rfl)
@[simp] theorem cycles_refuse (n k : Nat) : (s.refuse n k).cycles = s.cycles := (rfl)
@[simp] theorem draws_refuse (n k : Nat) : (s.refuse n k).draws = s.draws + 1 := (rfl)
@[simp] theorem out_refuse (n k : Nat) : (s.refuse n k).out = s.out := (rfl)
@[simp] theorem irq_refuse (n k : Nat) : (s.refuse n k).irq = s.irq := (rfl)
@[simp] theorem pwr_refuse (n k : Nat) : (s.refuse n k).pwr = s.pwr := (rfl)
@[simp] theorem cel_refuse (n k : Nat) : (s.refuse n k).cel = s.cel := (rfl)
@[simp] theorem mac_refuse (n k : Nat) : (s.refuse n k).mac = s.mac := (rfl)
@[simp] theorem frames_refuse (n k : Nat) : (s.refuse n k).frames = s.frames := (rfl)
@[simp] theorem nextFid_refuse (n k : Nat) : (s.refuse n k).nextFid = s.nextFid := (rfl)
@[simp] theorem rak_refuse (n k : Nat) : (s.refuse n k).rak = s.rak := (rfl)
@[simp] theorem ecc_refuse (n k : Nat) : (s.refuse n k).ecc = s.ecc := (rfl)
@[simp] theorem cls_refuse (n k : Nat) : (s.refuse n k).cls = s.cls := (rfl)
@[simp] theorem stm_refuse (n k : Nat) : (s.refuse n k).stm = s.stm := (rfl)
@[simp] theorem tim_refuse (n k : Nat) : (s.refuse n k).tim = s.tim := (rfl)
@[simp] theorem gat_refuse (n k : Nat) : (s.refuse n k).gat = s.gat := (rfl)
@[simp] theorem cph_refuse (n k : Nat) : (s.refuse n k).cph = s.cph := (rfl)
@[simp] theorem wfail_refuse (n k : Nat) : (s.refuse n k).wfail = some k := (rfl)
@[simp] theorem sec_refuse (n k : Nat) : (s.refuse n k).sec = s.sec := (rfl)
@[simp] theorem dram_refuse (n k : Nat) : (s.refuse n k).dram = s.dram := (rfl)
@[simp] theorem stg_refuse (n k : Nat) : (s.refuse n k).stg = s.stg := (rfl)
@[simp] theorem hat_refuse (n k : Nat) : (s.refuse n k).hat = s.hat := (rfl)
@[simp] theorem brg_refuse (n k : Nat) : (s.refuse n k).brg = s.brg := (rfl)
@[simp] theorem gwe_refuse (n k : Nat) : (s.refuse n k).gwe = s.gwe := (rfl)
@[simp] theorem boot_refuse (n k : Nat) : (s.refuse n k).boot = s.boot := (rfl)
@[simp] theorem ccx_refuse (n k : Nat) : (s.refuse n k).ccx = s.ccx := (rfl)
@[simp] theorem pair_refuse (n k : Nat) : (s.refuse n k).pair = s.pair := (rfl)
@[simp] theorem mgt_refuse (n k : Nat) : (s.refuse n k).mgt = s.mgt := (rfl)
@[simp] theorem blockRst_refuse (n k : Nat) : (s.refuse n k).blockRst = s.blockRst := (rfl)
@[simp] theorem pending_refuse (n k : Nat) : (s.refuse n k).pending = s.pending := (rfl)

/-! setLatch -/

@[simp] theorem regs_setLatch (r : Requester) (a : Nat) (w : Word) : (s.setLatch r a w).regs = s.regs := (rfl)
@[simp] theorem ctr_setLatch (r : Requester) (a : Nat) (w : Word) : (s.setLatch r a w).ctr = s.ctr := (rfl)
@[simp] theorem cycles_setLatch (r : Requester) (a : Nat) (w : Word) : (s.setLatch r a w).cycles = s.cycles := (rfl)
@[simp] theorem draws_setLatch (r : Requester) (a : Nat) (w : Word) : (s.setLatch r a w).draws = s.draws := (rfl)
@[simp] theorem out_setLatch (r : Requester) (a : Nat) (w : Word) : (s.setLatch r a w).out = s.out := (rfl)
@[simp] theorem irq_setLatch (r : Requester) (a : Nat) (w : Word) : (s.setLatch r a w).irq = s.irq := (rfl)
@[simp] theorem flt_setLatch (r : Requester) (a : Nat) (w : Word) : (s.setLatch r a w).flt = s.flt := (rfl)
@[simp] theorem pwr_setLatch (r : Requester) (a : Nat) (w : Word) : (s.setLatch r a w).pwr = s.pwr := (rfl)
@[simp] theorem cel_setLatch (r : Requester) (a : Nat) (w : Word) : (s.setLatch r a w).cel = s.cel := (rfl)
@[simp] theorem mac_setLatch (r : Requester) (a : Nat) (w : Word) : (s.setLatch r a w).mac = s.mac := (rfl)
@[simp] theorem frames_setLatch (r : Requester) (a : Nat) (w : Word) : (s.setLatch r a w).frames = s.frames := (rfl)
@[simp] theorem nextFid_setLatch (r : Requester) (a : Nat) (w : Word) : (s.setLatch r a w).nextFid = s.nextFid := (rfl)
@[simp] theorem rak_setLatch (r : Requester) (a : Nat) (w : Word) : (s.setLatch r a w).rak = s.rak := (rfl)
@[simp] theorem ecc_setLatch (r : Requester) (a : Nat) (w : Word) : (s.setLatch r a w).ecc = s.ecc := (rfl)
@[simp] theorem cls_setLatch (r : Requester) (a : Nat) (w : Word) : (s.setLatch r a w).cls = s.cls := (rfl)
@[simp] theorem stm_setLatch (r : Requester) (a : Nat) (w : Word) : (s.setLatch r a w).stm = s.stm := (rfl)
@[simp] theorem tim_setLatch (r : Requester) (a : Nat) (w : Word) : (s.setLatch r a w).tim = s.tim := (rfl)
@[simp] theorem gat_setLatch (r : Requester) (a : Nat) (w : Word) : (s.setLatch r a w).gat = s.gat := (rfl)
@[simp] theorem cph_setLatch (r : Requester) (a : Nat) (w : Word) : (s.setLatch r a w).cph = s.cph := (rfl)
@[simp] theorem wfail_setLatch (r : Requester) (a : Nat) (w : Word) : (s.setLatch r a w).wfail = s.wfail := (rfl)
@[simp] theorem sec_setLatch (r : Requester) (a : Nat) (w : Word) : (s.setLatch r a w).sec = s.sec := (rfl)
@[simp] theorem dram_setLatch (r : Requester) (a : Nat) (w : Word) : (s.setLatch r a w).dram = s.dram := (rfl)
@[simp] theorem stg_setLatch (r : Requester) (a : Nat) (w : Word) : (s.setLatch r a w).stg = s.stg := (rfl)
@[simp] theorem hat_setLatch (r : Requester) (a : Nat) (w : Word) : (s.setLatch r a w).hat = s.hat := (rfl)
@[simp] theorem brg_setLatch (r : Requester) (a : Nat) (w : Word) : (s.setLatch r a w).brg = s.brg := (rfl)
@[simp] theorem gwe_setLatch (r : Requester) (a : Nat) (w : Word) : (s.setLatch r a w).gwe = s.gwe := (rfl)
@[simp] theorem boot_setLatch (r : Requester) (a : Nat) (w : Word) : (s.setLatch r a w).boot = s.boot := (rfl)
@[simp] theorem ccx_setLatch (r : Requester) (a : Nat) (w : Word) : (s.setLatch r a w).ccx = s.ccx := (rfl)
@[simp] theorem pair_setLatch (r : Requester) (a : Nat) (w : Word) : (s.setLatch r a w).pair = s.pair := (rfl)
@[simp] theorem mgt_setLatch (r : Requester) (a : Nat) (w : Word) : (s.setLatch r a w).mgt = s.mgt := (rfl)
@[simp] theorem blockRst_setLatch (r : Requester) (a : Nat) (w : Word) : (s.setLatch r a w).blockRst = s.blockRst := (rfl)
@[simp] theorem pending_setLatch (r : Requester) (a : Nat) (w : Word) : (s.setLatch r a w).pending = s.pending := (rfl)

/-! eccClear -/

@[simp] theorem regs_eccClear (m : EccMem) (i : Nat) : (s.eccClear m i).regs = s.regs := (rfl)
@[simp] theorem ctr_eccClear (m : EccMem) (i : Nat) : (s.eccClear m i).ctr = s.ctr := (rfl)
@[simp] theorem latch_eccClear (m : EccMem) (i : Nat) : (s.eccClear m i).latch = s.latch := (rfl)
@[simp] theorem cycles_eccClear (m : EccMem) (i : Nat) : (s.eccClear m i).cycles = s.cycles := (rfl)
@[simp] theorem draws_eccClear (m : EccMem) (i : Nat) : (s.eccClear m i).draws = s.draws := (rfl)
@[simp] theorem out_eccClear (m : EccMem) (i : Nat) : (s.eccClear m i).out = s.out := (rfl)
@[simp] theorem irq_eccClear (m : EccMem) (i : Nat) : (s.eccClear m i).irq = s.irq := (rfl)
@[simp] theorem flt_eccClear (m : EccMem) (i : Nat) : (s.eccClear m i).flt = s.flt := (rfl)
@[simp] theorem pwr_eccClear (m : EccMem) (i : Nat) : (s.eccClear m i).pwr = s.pwr := (rfl)
@[simp] theorem cel_eccClear (m : EccMem) (i : Nat) : (s.eccClear m i).cel = s.cel := (rfl)
@[simp] theorem mac_eccClear (m : EccMem) (i : Nat) : (s.eccClear m i).mac = s.mac := (rfl)
@[simp] theorem frames_eccClear (m : EccMem) (i : Nat) : (s.eccClear m i).frames = s.frames := (rfl)
@[simp] theorem nextFid_eccClear (m : EccMem) (i : Nat) : (s.eccClear m i).nextFid = s.nextFid := (rfl)
@[simp] theorem rak_eccClear (m : EccMem) (i : Nat) : (s.eccClear m i).rak = s.rak := (rfl)
@[simp] theorem cls_eccClear (m : EccMem) (i : Nat) : (s.eccClear m i).cls = s.cls := (rfl)
@[simp] theorem stm_eccClear (m : EccMem) (i : Nat) : (s.eccClear m i).stm = s.stm := (rfl)
@[simp] theorem tim_eccClear (m : EccMem) (i : Nat) : (s.eccClear m i).tim = s.tim := (rfl)
@[simp] theorem gat_eccClear (m : EccMem) (i : Nat) : (s.eccClear m i).gat = s.gat := (rfl)
@[simp] theorem cph_eccClear (m : EccMem) (i : Nat) : (s.eccClear m i).cph = s.cph := (rfl)
@[simp] theorem wfail_eccClear (m : EccMem) (i : Nat) : (s.eccClear m i).wfail = s.wfail := (rfl)
@[simp] theorem sec_eccClear (m : EccMem) (i : Nat) : (s.eccClear m i).sec = s.sec := (rfl)
@[simp] theorem dram_eccClear (m : EccMem) (i : Nat) : (s.eccClear m i).dram = s.dram := (rfl)
@[simp] theorem stg_eccClear (m : EccMem) (i : Nat) : (s.eccClear m i).stg = s.stg := (rfl)
@[simp] theorem hat_eccClear (m : EccMem) (i : Nat) : (s.eccClear m i).hat = s.hat := (rfl)
@[simp] theorem brg_eccClear (m : EccMem) (i : Nat) : (s.eccClear m i).brg = s.brg := (rfl)
@[simp] theorem gwe_eccClear (m : EccMem) (i : Nat) : (s.eccClear m i).gwe = s.gwe := (rfl)
@[simp] theorem boot_eccClear (m : EccMem) (i : Nat) : (s.eccClear m i).boot = s.boot := (rfl)
@[simp] theorem ccx_eccClear (m : EccMem) (i : Nat) : (s.eccClear m i).ccx = s.ccx := (rfl)
@[simp] theorem pair_eccClear (m : EccMem) (i : Nat) : (s.eccClear m i).pair = s.pair := (rfl)
@[simp] theorem mgt_eccClear (m : EccMem) (i : Nat) : (s.eccClear m i).mgt = s.mgt := (rfl)
@[simp] theorem blockRst_eccClear (m : EccMem) (i : Nat) : (s.eccClear m i).blockRst = s.blockRst := (rfl)
@[simp] theorem pending_eccClear (m : EccMem) (i : Nat) : (s.eccClear m i).pending = s.pending := (rfl)

/-! setFrame -/

@[simp] theorem regs_setFrame (n : Nat) (f : Option Frame) : (s.setFrame n f).regs = s.regs := (rfl)
@[simp] theorem ctr_setFrame (n : Nat) (f : Option Frame) : (s.setFrame n f).ctr = s.ctr := (rfl)
@[simp] theorem latch_setFrame (n : Nat) (f : Option Frame) : (s.setFrame n f).latch = s.latch := (rfl)
@[simp] theorem cycles_setFrame (n : Nat) (f : Option Frame) : (s.setFrame n f).cycles = s.cycles := (rfl)
@[simp] theorem draws_setFrame (n : Nat) (f : Option Frame) : (s.setFrame n f).draws = s.draws := (rfl)
@[simp] theorem out_setFrame (n : Nat) (f : Option Frame) : (s.setFrame n f).out = s.out := (rfl)
@[simp] theorem irq_setFrame (n : Nat) (f : Option Frame) : (s.setFrame n f).irq = s.irq := (rfl)
@[simp] theorem flt_setFrame (n : Nat) (f : Option Frame) : (s.setFrame n f).flt = s.flt := (rfl)
@[simp] theorem pwr_setFrame (n : Nat) (f : Option Frame) : (s.setFrame n f).pwr = s.pwr := (rfl)
@[simp] theorem cel_setFrame (n : Nat) (f : Option Frame) : (s.setFrame n f).cel = s.cel := (rfl)
@[simp] theorem mac_setFrame (n : Nat) (f : Option Frame) : (s.setFrame n f).mac = s.mac := (rfl)
@[simp] theorem frames_setFrame (n : Nat) (f : Option Frame) : (s.setFrame n f).frames = spSet (fun _ => none) s.frames n f := (rfl)
@[simp] theorem nextFid_setFrame (n : Nat) (f : Option Frame) : (s.setFrame n f).nextFid = s.nextFid := (rfl)
@[simp] theorem rak_setFrame (n : Nat) (f : Option Frame) : (s.setFrame n f).rak = s.rak := (rfl)
@[simp] theorem ecc_setFrame (n : Nat) (f : Option Frame) : (s.setFrame n f).ecc = s.ecc := (rfl)
@[simp] theorem cls_setFrame (n : Nat) (f : Option Frame) : (s.setFrame n f).cls = s.cls := (rfl)
@[simp] theorem stm_setFrame (n : Nat) (f : Option Frame) : (s.setFrame n f).stm = s.stm := (rfl)
@[simp] theorem tim_setFrame (n : Nat) (f : Option Frame) : (s.setFrame n f).tim = s.tim := (rfl)
@[simp] theorem gat_setFrame (n : Nat) (f : Option Frame) : (s.setFrame n f).gat = s.gat := (rfl)
@[simp] theorem cph_setFrame (n : Nat) (f : Option Frame) : (s.setFrame n f).cph = s.cph := (rfl)
@[simp] theorem wfail_setFrame (n : Nat) (f : Option Frame) : (s.setFrame n f).wfail = s.wfail := (rfl)
@[simp] theorem sec_setFrame (n : Nat) (f : Option Frame) : (s.setFrame n f).sec = s.sec := (rfl)
@[simp] theorem dram_setFrame (n : Nat) (f : Option Frame) : (s.setFrame n f).dram = s.dram := (rfl)
@[simp] theorem stg_setFrame (n : Nat) (f : Option Frame) : (s.setFrame n f).stg = s.stg := (rfl)
@[simp] theorem hat_setFrame (n : Nat) (f : Option Frame) : (s.setFrame n f).hat = s.hat := (rfl)
@[simp] theorem brg_setFrame (n : Nat) (f : Option Frame) : (s.setFrame n f).brg = s.brg := (rfl)
@[simp] theorem gwe_setFrame (n : Nat) (f : Option Frame) : (s.setFrame n f).gwe = s.gwe := (rfl)
@[simp] theorem boot_setFrame (n : Nat) (f : Option Frame) : (s.setFrame n f).boot = s.boot := (rfl)
@[simp] theorem ccx_setFrame (n : Nat) (f : Option Frame) : (s.setFrame n f).ccx = s.ccx := (rfl)
@[simp] theorem pair_setFrame (n : Nat) (f : Option Frame) : (s.setFrame n f).pair = s.pair := (rfl)
@[simp] theorem mgt_setFrame (n : Nat) (f : Option Frame) : (s.setFrame n f).mgt = s.mgt := (rfl)
@[simp] theorem blockRst_setFrame (n : Nat) (f : Option Frame) : (s.setFrame n f).blockRst = s.blockRst := (rfl)
@[simp] theorem pending_setFrame (n : Nat) (f : Option Frame) : (s.setFrame n f).pending = s.pending := (rfl)

/-! complex -/

@[simp] theorem regs_complex (g : Ccx → Ccx) : (s.complex g).regs = s.regs := (rfl)
@[simp] theorem ctr_complex (g : Ccx → Ccx) : (s.complex g).ctr = s.ctr := (rfl)
@[simp] theorem latch_complex (g : Ccx → Ccx) : (s.complex g).latch = s.latch := (rfl)
@[simp] theorem cycles_complex (g : Ccx → Ccx) : (s.complex g).cycles = s.cycles := (rfl)
@[simp] theorem draws_complex (g : Ccx → Ccx) : (s.complex g).draws = s.draws := (rfl)
@[simp] theorem out_complex (g : Ccx → Ccx) : (s.complex g).out = s.out := (rfl)
@[simp] theorem irq_complex (g : Ccx → Ccx) : (s.complex g).irq = s.irq := (rfl)
@[simp] theorem flt_complex (g : Ccx → Ccx) : (s.complex g).flt = s.flt := (rfl)
@[simp] theorem pwr_complex (g : Ccx → Ccx) : (s.complex g).pwr = s.pwr := (rfl)
@[simp] theorem cel_complex (g : Ccx → Ccx) : (s.complex g).cel = s.cel := (rfl)
@[simp] theorem mac_complex (g : Ccx → Ccx) : (s.complex g).mac = s.mac := (rfl)
@[simp] theorem frames_complex (g : Ccx → Ccx) : (s.complex g).frames = s.frames := (rfl)
@[simp] theorem nextFid_complex (g : Ccx → Ccx) : (s.complex g).nextFid = s.nextFid := (rfl)
@[simp] theorem rak_complex (g : Ccx → Ccx) : (s.complex g).rak = s.rak := (rfl)
@[simp] theorem ecc_complex (g : Ccx → Ccx) : (s.complex g).ecc = s.ecc := (rfl)
@[simp] theorem cls_complex (g : Ccx → Ccx) : (s.complex g).cls = s.cls := (rfl)
@[simp] theorem stm_complex (g : Ccx → Ccx) : (s.complex g).stm = s.stm := (rfl)
@[simp] theorem tim_complex (g : Ccx → Ccx) : (s.complex g).tim = s.tim := (rfl)
@[simp] theorem gat_complex (g : Ccx → Ccx) : (s.complex g).gat = s.gat := (rfl)
@[simp] theorem cph_complex (g : Ccx → Ccx) : (s.complex g).cph = s.cph := (rfl)
@[simp] theorem wfail_complex (g : Ccx → Ccx) : (s.complex g).wfail = s.wfail := (rfl)
@[simp] theorem sec_complex (g : Ccx → Ccx) : (s.complex g).sec = s.sec := (rfl)
@[simp] theorem dram_complex (g : Ccx → Ccx) : (s.complex g).dram = s.dram := (rfl)
@[simp] theorem stg_complex (g : Ccx → Ccx) : (s.complex g).stg = s.stg := (rfl)
@[simp] theorem hat_complex (g : Ccx → Ccx) : (s.complex g).hat = s.hat := (rfl)
@[simp] theorem brg_complex (g : Ccx → Ccx) : (s.complex g).brg = s.brg := (rfl)
@[simp] theorem gwe_complex (g : Ccx → Ccx) : (s.complex g).gwe = s.gwe := (rfl)
@[simp] theorem boot_complex (g : Ccx → Ccx) : (s.complex g).boot = s.boot := (rfl)
@[simp] theorem ccx_complex (g : Ccx → Ccx) : (s.complex g).ccx = g s.ccx := (rfl)
@[simp] theorem pair_complex (g : Ccx → Ccx) : (s.complex g).pair = s.pair := (rfl)
@[simp] theorem mgt_complex (g : Ccx → Ccx) : (s.complex g).mgt = s.mgt := (rfl)
@[simp] theorem blockRst_complex (g : Ccx → Ccx) : (s.complex g).blockRst = s.blockRst := (rfl)
@[simp] theorem pending_complex (g : Ccx → Ccx) : (s.complex g).pending = s.pending := (rfl)

/-! cellar -/

@[simp] theorem regs_cellar (g : Cel → Cel) : (s.cellar g).regs = s.regs := (rfl)
@[simp] theorem ctr_cellar (g : Cel → Cel) : (s.cellar g).ctr = s.ctr := (rfl)
@[simp] theorem latch_cellar (g : Cel → Cel) : (s.cellar g).latch = s.latch := (rfl)
@[simp] theorem cycles_cellar (g : Cel → Cel) : (s.cellar g).cycles = s.cycles := (rfl)
@[simp] theorem draws_cellar (g : Cel → Cel) : (s.cellar g).draws = s.draws := (rfl)
@[simp] theorem out_cellar (g : Cel → Cel) : (s.cellar g).out = s.out := (rfl)
@[simp] theorem irq_cellar (g : Cel → Cel) : (s.cellar g).irq = s.irq := (rfl)
@[simp] theorem flt_cellar (g : Cel → Cel) : (s.cellar g).flt = s.flt := (rfl)
@[simp] theorem pwr_cellar (g : Cel → Cel) : (s.cellar g).pwr = s.pwr := (rfl)
@[simp] theorem cel_cellar (g : Cel → Cel) : (s.cellar g).cel = g s.cel := (rfl)
@[simp] theorem mac_cellar (g : Cel → Cel) : (s.cellar g).mac = s.mac := (rfl)
@[simp] theorem frames_cellar (g : Cel → Cel) : (s.cellar g).frames = s.frames := (rfl)
@[simp] theorem nextFid_cellar (g : Cel → Cel) : (s.cellar g).nextFid = s.nextFid := (rfl)
@[simp] theorem rak_cellar (g : Cel → Cel) : (s.cellar g).rak = s.rak := (rfl)
@[simp] theorem ecc_cellar (g : Cel → Cel) : (s.cellar g).ecc = s.ecc := (rfl)
@[simp] theorem cls_cellar (g : Cel → Cel) : (s.cellar g).cls = s.cls := (rfl)
@[simp] theorem stm_cellar (g : Cel → Cel) : (s.cellar g).stm = s.stm := (rfl)
@[simp] theorem tim_cellar (g : Cel → Cel) : (s.cellar g).tim = s.tim := (rfl)
@[simp] theorem gat_cellar (g : Cel → Cel) : (s.cellar g).gat = s.gat := (rfl)
@[simp] theorem cph_cellar (g : Cel → Cel) : (s.cellar g).cph = s.cph := (rfl)
@[simp] theorem wfail_cellar (g : Cel → Cel) : (s.cellar g).wfail = s.wfail := (rfl)
@[simp] theorem sec_cellar (g : Cel → Cel) : (s.cellar g).sec = s.sec := (rfl)
@[simp] theorem dram_cellar (g : Cel → Cel) : (s.cellar g).dram = s.dram := (rfl)
@[simp] theorem stg_cellar (g : Cel → Cel) : (s.cellar g).stg = s.stg := (rfl)
@[simp] theorem hat_cellar (g : Cel → Cel) : (s.cellar g).hat = s.hat := (rfl)
@[simp] theorem brg_cellar (g : Cel → Cel) : (s.cellar g).brg = s.brg := (rfl)
@[simp] theorem gwe_cellar (g : Cel → Cel) : (s.cellar g).gwe = s.gwe := (rfl)
@[simp] theorem boot_cellar (g : Cel → Cel) : (s.cellar g).boot = s.boot := (rfl)
@[simp] theorem ccx_cellar (g : Cel → Cel) : (s.cellar g).ccx = s.ccx := (rfl)
@[simp] theorem pair_cellar (g : Cel → Cel) : (s.cellar g).pair = s.pair := (rfl)
@[simp] theorem mgt_cellar (g : Cel → Cel) : (s.cellar g).mgt = s.mgt := (rfl)
@[simp] theorem blockRst_cellar (g : Cel → Cel) : (s.cellar g).blockRst = s.blockRst := (rfl)
@[simp] theorem pending_cellar (g : Cel → Cel) : (s.cellar g).pending = s.pending := (rfl)

/-! cipher -/

@[simp] theorem regs_cipher (g : Cph → Cph) : (s.cipher g).regs = s.regs := (rfl)
@[simp] theorem ctr_cipher (g : Cph → Cph) : (s.cipher g).ctr = s.ctr := (rfl)
@[simp] theorem latch_cipher (g : Cph → Cph) : (s.cipher g).latch = s.latch := (rfl)
@[simp] theorem cycles_cipher (g : Cph → Cph) : (s.cipher g).cycles = s.cycles := (rfl)
@[simp] theorem draws_cipher (g : Cph → Cph) : (s.cipher g).draws = s.draws := (rfl)
@[simp] theorem out_cipher (g : Cph → Cph) : (s.cipher g).out = s.out := (rfl)
@[simp] theorem irq_cipher (g : Cph → Cph) : (s.cipher g).irq = s.irq := (rfl)
@[simp] theorem flt_cipher (g : Cph → Cph) : (s.cipher g).flt = s.flt := (rfl)
@[simp] theorem pwr_cipher (g : Cph → Cph) : (s.cipher g).pwr = s.pwr := (rfl)
@[simp] theorem cel_cipher (g : Cph → Cph) : (s.cipher g).cel = s.cel := (rfl)
@[simp] theorem mac_cipher (g : Cph → Cph) : (s.cipher g).mac = s.mac := (rfl)
@[simp] theorem frames_cipher (g : Cph → Cph) : (s.cipher g).frames = s.frames := (rfl)
@[simp] theorem nextFid_cipher (g : Cph → Cph) : (s.cipher g).nextFid = s.nextFid := (rfl)
@[simp] theorem rak_cipher (g : Cph → Cph) : (s.cipher g).rak = s.rak := (rfl)
@[simp] theorem ecc_cipher (g : Cph → Cph) : (s.cipher g).ecc = s.ecc := (rfl)
@[simp] theorem cls_cipher (g : Cph → Cph) : (s.cipher g).cls = s.cls := (rfl)
@[simp] theorem stm_cipher (g : Cph → Cph) : (s.cipher g).stm = s.stm := (rfl)
@[simp] theorem tim_cipher (g : Cph → Cph) : (s.cipher g).tim = s.tim := (rfl)
@[simp] theorem gat_cipher (g : Cph → Cph) : (s.cipher g).gat = s.gat := (rfl)
@[simp] theorem cph_cipher (g : Cph → Cph) : (s.cipher g).cph = g s.cph := (rfl)
@[simp] theorem wfail_cipher (g : Cph → Cph) : (s.cipher g).wfail = s.wfail := (rfl)
@[simp] theorem sec_cipher (g : Cph → Cph) : (s.cipher g).sec = s.sec := (rfl)
@[simp] theorem dram_cipher (g : Cph → Cph) : (s.cipher g).dram = s.dram := (rfl)
@[simp] theorem stg_cipher (g : Cph → Cph) : (s.cipher g).stg = s.stg := (rfl)
@[simp] theorem hat_cipher (g : Cph → Cph) : (s.cipher g).hat = s.hat := (rfl)
@[simp] theorem brg_cipher (g : Cph → Cph) : (s.cipher g).brg = s.brg := (rfl)
@[simp] theorem gwe_cipher (g : Cph → Cph) : (s.cipher g).gwe = s.gwe := (rfl)
@[simp] theorem boot_cipher (g : Cph → Cph) : (s.cipher g).boot = s.boot := (rfl)
@[simp] theorem ccx_cipher (g : Cph → Cph) : (s.cipher g).ccx = s.ccx := (rfl)
@[simp] theorem pair_cipher (g : Cph → Cph) : (s.cipher g).pair = s.pair := (rfl)
@[simp] theorem mgt_cipher (g : Cph → Cph) : (s.cipher g).mgt = s.mgt := (rfl)
@[simp] theorem blockRst_cipher (g : Cph → Cph) : (s.cipher g).blockRst = s.blockRst := (rfl)
@[simp] theorem pending_cipher (g : Cph → Cph) : (s.cipher g).pending = s.pending := (rfl)

/-! bridge -/

@[simp] theorem regs_bridge (g : Brg → Brg) : (s.bridge g).regs = s.regs := (rfl)
@[simp] theorem ctr_bridge (g : Brg → Brg) : (s.bridge g).ctr = s.ctr := (rfl)
@[simp] theorem latch_bridge (g : Brg → Brg) : (s.bridge g).latch = s.latch := (rfl)
@[simp] theorem cycles_bridge (g : Brg → Brg) : (s.bridge g).cycles = s.cycles := (rfl)
@[simp] theorem draws_bridge (g : Brg → Brg) : (s.bridge g).draws = s.draws := (rfl)
@[simp] theorem out_bridge (g : Brg → Brg) : (s.bridge g).out = s.out := (rfl)
@[simp] theorem irq_bridge (g : Brg → Brg) : (s.bridge g).irq = s.irq := (rfl)
@[simp] theorem flt_bridge (g : Brg → Brg) : (s.bridge g).flt = s.flt := (rfl)
@[simp] theorem pwr_bridge (g : Brg → Brg) : (s.bridge g).pwr = s.pwr := (rfl)
@[simp] theorem cel_bridge (g : Brg → Brg) : (s.bridge g).cel = s.cel := (rfl)
@[simp] theorem mac_bridge (g : Brg → Brg) : (s.bridge g).mac = s.mac := (rfl)
@[simp] theorem frames_bridge (g : Brg → Brg) : (s.bridge g).frames = s.frames := (rfl)
@[simp] theorem nextFid_bridge (g : Brg → Brg) : (s.bridge g).nextFid = s.nextFid := (rfl)
@[simp] theorem rak_bridge (g : Brg → Brg) : (s.bridge g).rak = s.rak := (rfl)
@[simp] theorem ecc_bridge (g : Brg → Brg) : (s.bridge g).ecc = s.ecc := (rfl)
@[simp] theorem cls_bridge (g : Brg → Brg) : (s.bridge g).cls = s.cls := (rfl)
@[simp] theorem stm_bridge (g : Brg → Brg) : (s.bridge g).stm = s.stm := (rfl)
@[simp] theorem tim_bridge (g : Brg → Brg) : (s.bridge g).tim = s.tim := (rfl)
@[simp] theorem gat_bridge (g : Brg → Brg) : (s.bridge g).gat = s.gat := (rfl)
@[simp] theorem cph_bridge (g : Brg → Brg) : (s.bridge g).cph = s.cph := (rfl)
@[simp] theorem wfail_bridge (g : Brg → Brg) : (s.bridge g).wfail = s.wfail := (rfl)
@[simp] theorem sec_bridge (g : Brg → Brg) : (s.bridge g).sec = s.sec := (rfl)
@[simp] theorem dram_bridge (g : Brg → Brg) : (s.bridge g).dram = s.dram := (rfl)
@[simp] theorem stg_bridge (g : Brg → Brg) : (s.bridge g).stg = s.stg := (rfl)
@[simp] theorem hat_bridge (g : Brg → Brg) : (s.bridge g).hat = s.hat := (rfl)
@[simp] theorem brg_bridge (g : Brg → Brg) : (s.bridge g).brg = g s.brg := (rfl)
@[simp] theorem gwe_bridge (g : Brg → Brg) : (s.bridge g).gwe = s.gwe := (rfl)
@[simp] theorem boot_bridge (g : Brg → Brg) : (s.bridge g).boot = s.boot := (rfl)
@[simp] theorem ccx_bridge (g : Brg → Brg) : (s.bridge g).ccx = s.ccx := (rfl)
@[simp] theorem pair_bridge (g : Brg → Brg) : (s.bridge g).pair = s.pair := (rfl)
@[simp] theorem mgt_bridge (g : Brg → Brg) : (s.bridge g).mgt = s.mgt := (rfl)
@[simp] theorem blockRst_bridge (g : Brg → Brg) : (s.bridge g).blockRst = s.blockRst := (rfl)
@[simp] theorem pending_bridge (g : Brg → Brg) : (s.bridge g).pending = s.pending := (rfl)

/-! collector -/

@[simp] theorem regs_collector (g : Flt → Flt) : (s.collector g).regs = s.regs := (rfl)
@[simp] theorem ctr_collector (g : Flt → Flt) : (s.collector g).ctr = s.ctr := (rfl)
@[simp] theorem latch_collector (g : Flt → Flt) : (s.collector g).latch = s.latch := (rfl)
@[simp] theorem cycles_collector (g : Flt → Flt) : (s.collector g).cycles = s.cycles := (rfl)
@[simp] theorem draws_collector (g : Flt → Flt) : (s.collector g).draws = s.draws := (rfl)
@[simp] theorem out_collector (g : Flt → Flt) : (s.collector g).out = s.out := (rfl)
@[simp] theorem irq_collector (g : Flt → Flt) : (s.collector g).irq = s.irq := (rfl)
@[simp] theorem flt_collector (g : Flt → Flt) : (s.collector g).flt = g s.flt := (rfl)
@[simp] theorem pwr_collector (g : Flt → Flt) : (s.collector g).pwr = s.pwr := (rfl)
@[simp] theorem cel_collector (g : Flt → Flt) : (s.collector g).cel = s.cel := (rfl)
@[simp] theorem mac_collector (g : Flt → Flt) : (s.collector g).mac = s.mac := (rfl)
@[simp] theorem frames_collector (g : Flt → Flt) : (s.collector g).frames = s.frames := (rfl)
@[simp] theorem nextFid_collector (g : Flt → Flt) : (s.collector g).nextFid = s.nextFid := (rfl)
@[simp] theorem rak_collector (g : Flt → Flt) : (s.collector g).rak = s.rak := (rfl)
@[simp] theorem ecc_collector (g : Flt → Flt) : (s.collector g).ecc = s.ecc := (rfl)
@[simp] theorem cls_collector (g : Flt → Flt) : (s.collector g).cls = s.cls := (rfl)
@[simp] theorem stm_collector (g : Flt → Flt) : (s.collector g).stm = s.stm := (rfl)
@[simp] theorem tim_collector (g : Flt → Flt) : (s.collector g).tim = s.tim := (rfl)
@[simp] theorem gat_collector (g : Flt → Flt) : (s.collector g).gat = s.gat := (rfl)
@[simp] theorem cph_collector (g : Flt → Flt) : (s.collector g).cph = s.cph := (rfl)
@[simp] theorem wfail_collector (g : Flt → Flt) : (s.collector g).wfail = s.wfail := (rfl)
@[simp] theorem sec_collector (g : Flt → Flt) : (s.collector g).sec = s.sec := (rfl)
@[simp] theorem dram_collector (g : Flt → Flt) : (s.collector g).dram = s.dram := (rfl)
@[simp] theorem stg_collector (g : Flt → Flt) : (s.collector g).stg = s.stg := (rfl)
@[simp] theorem hat_collector (g : Flt → Flt) : (s.collector g).hat = s.hat := (rfl)
@[simp] theorem brg_collector (g : Flt → Flt) : (s.collector g).brg = s.brg := (rfl)
@[simp] theorem gwe_collector (g : Flt → Flt) : (s.collector g).gwe = s.gwe := (rfl)
@[simp] theorem boot_collector (g : Flt → Flt) : (s.collector g).boot = s.boot := (rfl)
@[simp] theorem ccx_collector (g : Flt → Flt) : (s.collector g).ccx = s.ccx := (rfl)
@[simp] theorem pair_collector (g : Flt → Flt) : (s.collector g).pair = s.pair := (rfl)
@[simp] theorem mgt_collector (g : Flt → Flt) : (s.collector g).mgt = s.mgt := (rfl)
@[simp] theorem blockRst_collector (g : Flt → Flt) : (s.collector g).blockRst = s.blockRst := (rfl)
@[simp] theorem pending_collector (g : Flt → Flt) : (s.collector g).pending = s.pending := (rfl)

/-! gway -/

@[simp] theorem regs_gway (g : Gwe → Gwe) : (s.gway g).regs = s.regs := (rfl)
@[simp] theorem ctr_gway (g : Gwe → Gwe) : (s.gway g).ctr = s.ctr := (rfl)
@[simp] theorem latch_gway (g : Gwe → Gwe) : (s.gway g).latch = s.latch := (rfl)
@[simp] theorem cycles_gway (g : Gwe → Gwe) : (s.gway g).cycles = s.cycles := (rfl)
@[simp] theorem draws_gway (g : Gwe → Gwe) : (s.gway g).draws = s.draws := (rfl)
@[simp] theorem out_gway (g : Gwe → Gwe) : (s.gway g).out = s.out := (rfl)
@[simp] theorem irq_gway (g : Gwe → Gwe) : (s.gway g).irq = s.irq := (rfl)
@[simp] theorem flt_gway (g : Gwe → Gwe) : (s.gway g).flt = s.flt := (rfl)
@[simp] theorem pwr_gway (g : Gwe → Gwe) : (s.gway g).pwr = s.pwr := (rfl)
@[simp] theorem cel_gway (g : Gwe → Gwe) : (s.gway g).cel = s.cel := (rfl)
@[simp] theorem mac_gway (g : Gwe → Gwe) : (s.gway g).mac = s.mac := (rfl)
@[simp] theorem frames_gway (g : Gwe → Gwe) : (s.gway g).frames = s.frames := (rfl)
@[simp] theorem nextFid_gway (g : Gwe → Gwe) : (s.gway g).nextFid = s.nextFid := (rfl)
@[simp] theorem rak_gway (g : Gwe → Gwe) : (s.gway g).rak = s.rak := (rfl)
@[simp] theorem ecc_gway (g : Gwe → Gwe) : (s.gway g).ecc = s.ecc := (rfl)
@[simp] theorem cls_gway (g : Gwe → Gwe) : (s.gway g).cls = s.cls := (rfl)
@[simp] theorem stm_gway (g : Gwe → Gwe) : (s.gway g).stm = s.stm := (rfl)
@[simp] theorem tim_gway (g : Gwe → Gwe) : (s.gway g).tim = s.tim := (rfl)
@[simp] theorem gat_gway (g : Gwe → Gwe) : (s.gway g).gat = s.gat := (rfl)
@[simp] theorem cph_gway (g : Gwe → Gwe) : (s.gway g).cph = s.cph := (rfl)
@[simp] theorem wfail_gway (g : Gwe → Gwe) : (s.gway g).wfail = s.wfail := (rfl)
@[simp] theorem sec_gway (g : Gwe → Gwe) : (s.gway g).sec = s.sec := (rfl)
@[simp] theorem dram_gway (g : Gwe → Gwe) : (s.gway g).dram = s.dram := (rfl)
@[simp] theorem stg_gway (g : Gwe → Gwe) : (s.gway g).stg = s.stg := (rfl)
@[simp] theorem hat_gway (g : Gwe → Gwe) : (s.gway g).hat = s.hat := (rfl)
@[simp] theorem brg_gway (g : Gwe → Gwe) : (s.gway g).brg = s.brg := (rfl)
@[simp] theorem gwe_gway (g : Gwe → Gwe) : (s.gway g).gwe = g s.gwe := (rfl)
@[simp] theorem boot_gway (g : Gwe → Gwe) : (s.gway g).boot = s.boot := (rfl)
@[simp] theorem ccx_gway (g : Gwe → Gwe) : (s.gway g).ccx = s.ccx := (rfl)
@[simp] theorem pair_gway (g : Gwe → Gwe) : (s.gway g).pair = s.pair := (rfl)
@[simp] theorem mgt_gway (g : Gwe → Gwe) : (s.gway g).mgt = s.mgt := (rfl)
@[simp] theorem blockRst_gway (g : Gwe → Gwe) : (s.gway g).blockRst = s.blockRst := (rfl)
@[simp] theorem pending_gway (g : Gwe → Gwe) : (s.gway g).pending = s.pending := (rfl)

/-! pairing -/

@[simp] theorem regs_pairing (g : Pair → Pair) : (s.pairing g).regs = s.regs := (rfl)
@[simp] theorem ctr_pairing (g : Pair → Pair) : (s.pairing g).ctr = s.ctr := (rfl)
@[simp] theorem latch_pairing (g : Pair → Pair) : (s.pairing g).latch = s.latch := (rfl)
@[simp] theorem cycles_pairing (g : Pair → Pair) : (s.pairing g).cycles = s.cycles := (rfl)
@[simp] theorem draws_pairing (g : Pair → Pair) : (s.pairing g).draws = s.draws := (rfl)
@[simp] theorem out_pairing (g : Pair → Pair) : (s.pairing g).out = s.out := (rfl)
@[simp] theorem irq_pairing (g : Pair → Pair) : (s.pairing g).irq = s.irq := (rfl)
@[simp] theorem flt_pairing (g : Pair → Pair) : (s.pairing g).flt = s.flt := (rfl)
@[simp] theorem pwr_pairing (g : Pair → Pair) : (s.pairing g).pwr = s.pwr := (rfl)
@[simp] theorem cel_pairing (g : Pair → Pair) : (s.pairing g).cel = s.cel := (rfl)
@[simp] theorem mac_pairing (g : Pair → Pair) : (s.pairing g).mac = s.mac := (rfl)
@[simp] theorem frames_pairing (g : Pair → Pair) : (s.pairing g).frames = s.frames := (rfl)
@[simp] theorem nextFid_pairing (g : Pair → Pair) : (s.pairing g).nextFid = s.nextFid := (rfl)
@[simp] theorem rak_pairing (g : Pair → Pair) : (s.pairing g).rak = s.rak := (rfl)
@[simp] theorem ecc_pairing (g : Pair → Pair) : (s.pairing g).ecc = s.ecc := (rfl)
@[simp] theorem cls_pairing (g : Pair → Pair) : (s.pairing g).cls = s.cls := (rfl)
@[simp] theorem stm_pairing (g : Pair → Pair) : (s.pairing g).stm = s.stm := (rfl)
@[simp] theorem tim_pairing (g : Pair → Pair) : (s.pairing g).tim = s.tim := (rfl)
@[simp] theorem gat_pairing (g : Pair → Pair) : (s.pairing g).gat = s.gat := (rfl)
@[simp] theorem cph_pairing (g : Pair → Pair) : (s.pairing g).cph = s.cph := (rfl)
@[simp] theorem wfail_pairing (g : Pair → Pair) : (s.pairing g).wfail = s.wfail := (rfl)
@[simp] theorem sec_pairing (g : Pair → Pair) : (s.pairing g).sec = s.sec := (rfl)
@[simp] theorem dram_pairing (g : Pair → Pair) : (s.pairing g).dram = s.dram := (rfl)
@[simp] theorem stg_pairing (g : Pair → Pair) : (s.pairing g).stg = s.stg := (rfl)
@[simp] theorem hat_pairing (g : Pair → Pair) : (s.pairing g).hat = s.hat := (rfl)
@[simp] theorem brg_pairing (g : Pair → Pair) : (s.pairing g).brg = s.brg := (rfl)
@[simp] theorem gwe_pairing (g : Pair → Pair) : (s.pairing g).gwe = s.gwe := (rfl)
@[simp] theorem boot_pairing (g : Pair → Pair) : (s.pairing g).boot = s.boot := (rfl)
@[simp] theorem ccx_pairing (g : Pair → Pair) : (s.pairing g).ccx = s.ccx := (rfl)
@[simp] theorem pair_pairing (g : Pair → Pair) : (s.pairing g).pair = g s.pair := (rfl)
@[simp] theorem mgt_pairing (g : Pair → Pair) : (s.pairing g).mgt = s.mgt := (rfl)
@[simp] theorem blockRst_pairing (g : Pair → Pair) : (s.pairing g).blockRst = s.blockRst := (rfl)
@[simp] theorem pending_pairing (g : Pair → Pair) : (s.pairing g).pending = s.pending := (rfl)

/-! ports -/

@[simp] theorem regs_ports (g : Mac → Mac) : (s.ports g).regs = s.regs := (rfl)
@[simp] theorem ctr_ports (g : Mac → Mac) : (s.ports g).ctr = s.ctr := (rfl)
@[simp] theorem latch_ports (g : Mac → Mac) : (s.ports g).latch = s.latch := (rfl)
@[simp] theorem cycles_ports (g : Mac → Mac) : (s.ports g).cycles = s.cycles := (rfl)
@[simp] theorem draws_ports (g : Mac → Mac) : (s.ports g).draws = s.draws := (rfl)
@[simp] theorem out_ports (g : Mac → Mac) : (s.ports g).out = s.out := (rfl)
@[simp] theorem irq_ports (g : Mac → Mac) : (s.ports g).irq = s.irq := (rfl)
@[simp] theorem flt_ports (g : Mac → Mac) : (s.ports g).flt = s.flt := (rfl)
@[simp] theorem pwr_ports (g : Mac → Mac) : (s.ports g).pwr = s.pwr := (rfl)
@[simp] theorem cel_ports (g : Mac → Mac) : (s.ports g).cel = s.cel := (rfl)
@[simp] theorem mac_ports (g : Mac → Mac) : (s.ports g).mac = g s.mac := (rfl)
@[simp] theorem frames_ports (g : Mac → Mac) : (s.ports g).frames = s.frames := (rfl)
@[simp] theorem nextFid_ports (g : Mac → Mac) : (s.ports g).nextFid = s.nextFid := (rfl)
@[simp] theorem rak_ports (g : Mac → Mac) : (s.ports g).rak = s.rak := (rfl)
@[simp] theorem ecc_ports (g : Mac → Mac) : (s.ports g).ecc = s.ecc := (rfl)
@[simp] theorem cls_ports (g : Mac → Mac) : (s.ports g).cls = s.cls := (rfl)
@[simp] theorem stm_ports (g : Mac → Mac) : (s.ports g).stm = s.stm := (rfl)
@[simp] theorem tim_ports (g : Mac → Mac) : (s.ports g).tim = s.tim := (rfl)
@[simp] theorem gat_ports (g : Mac → Mac) : (s.ports g).gat = s.gat := (rfl)
@[simp] theorem cph_ports (g : Mac → Mac) : (s.ports g).cph = s.cph := (rfl)
@[simp] theorem wfail_ports (g : Mac → Mac) : (s.ports g).wfail = s.wfail := (rfl)
@[simp] theorem sec_ports (g : Mac → Mac) : (s.ports g).sec = s.sec := (rfl)
@[simp] theorem dram_ports (g : Mac → Mac) : (s.ports g).dram = s.dram := (rfl)
@[simp] theorem stg_ports (g : Mac → Mac) : (s.ports g).stg = s.stg := (rfl)
@[simp] theorem hat_ports (g : Mac → Mac) : (s.ports g).hat = s.hat := (rfl)
@[simp] theorem brg_ports (g : Mac → Mac) : (s.ports g).brg = s.brg := (rfl)
@[simp] theorem gwe_ports (g : Mac → Mac) : (s.ports g).gwe = s.gwe := (rfl)
@[simp] theorem boot_ports (g : Mac → Mac) : (s.ports g).boot = s.boot := (rfl)
@[simp] theorem ccx_ports (g : Mac → Mac) : (s.ports g).ccx = s.ccx := (rfl)
@[simp] theorem pair_ports (g : Mac → Mac) : (s.ports g).pair = s.pair := (rfl)
@[simp] theorem mgt_ports (g : Mac → Mac) : (s.ports g).mgt = s.mgt := (rfl)
@[simp] theorem blockRst_ports (g : Mac → Mac) : (s.ports g).blockRst = s.blockRst := (rfl)
@[simp] theorem pending_ports (g : Mac → Mac) : (s.ports g).pending = s.pending := (rfl)

/-! power -/

@[simp] theorem regs_power (g : Pwr → Pwr) : (s.power g).regs = s.regs := (rfl)
@[simp] theorem ctr_power (g : Pwr → Pwr) : (s.power g).ctr = s.ctr := (rfl)
@[simp] theorem latch_power (g : Pwr → Pwr) : (s.power g).latch = s.latch := (rfl)
@[simp] theorem cycles_power (g : Pwr → Pwr) : (s.power g).cycles = s.cycles := (rfl)
@[simp] theorem draws_power (g : Pwr → Pwr) : (s.power g).draws = s.draws := (rfl)
@[simp] theorem out_power (g : Pwr → Pwr) : (s.power g).out = s.out := (rfl)
@[simp] theorem irq_power (g : Pwr → Pwr) : (s.power g).irq = s.irq := (rfl)
@[simp] theorem flt_power (g : Pwr → Pwr) : (s.power g).flt = s.flt := (rfl)
@[simp] theorem pwr_power (g : Pwr → Pwr) : (s.power g).pwr = g s.pwr := (rfl)
@[simp] theorem cel_power (g : Pwr → Pwr) : (s.power g).cel = s.cel := (rfl)
@[simp] theorem mac_power (g : Pwr → Pwr) : (s.power g).mac = s.mac := (rfl)
@[simp] theorem frames_power (g : Pwr → Pwr) : (s.power g).frames = s.frames := (rfl)
@[simp] theorem nextFid_power (g : Pwr → Pwr) : (s.power g).nextFid = s.nextFid := (rfl)
@[simp] theorem rak_power (g : Pwr → Pwr) : (s.power g).rak = s.rak := (rfl)
@[simp] theorem ecc_power (g : Pwr → Pwr) : (s.power g).ecc = s.ecc := (rfl)
@[simp] theorem cls_power (g : Pwr → Pwr) : (s.power g).cls = s.cls := (rfl)
@[simp] theorem stm_power (g : Pwr → Pwr) : (s.power g).stm = s.stm := (rfl)
@[simp] theorem tim_power (g : Pwr → Pwr) : (s.power g).tim = s.tim := (rfl)
@[simp] theorem gat_power (g : Pwr → Pwr) : (s.power g).gat = s.gat := (rfl)
@[simp] theorem cph_power (g : Pwr → Pwr) : (s.power g).cph = s.cph := (rfl)
@[simp] theorem wfail_power (g : Pwr → Pwr) : (s.power g).wfail = s.wfail := (rfl)
@[simp] theorem sec_power (g : Pwr → Pwr) : (s.power g).sec = s.sec := (rfl)
@[simp] theorem dram_power (g : Pwr → Pwr) : (s.power g).dram = s.dram := (rfl)
@[simp] theorem stg_power (g : Pwr → Pwr) : (s.power g).stg = s.stg := (rfl)
@[simp] theorem hat_power (g : Pwr → Pwr) : (s.power g).hat = s.hat := (rfl)
@[simp] theorem brg_power (g : Pwr → Pwr) : (s.power g).brg = s.brg := (rfl)
@[simp] theorem gwe_power (g : Pwr → Pwr) : (s.power g).gwe = s.gwe := (rfl)
@[simp] theorem boot_power (g : Pwr → Pwr) : (s.power g).boot = s.boot := (rfl)
@[simp] theorem ccx_power (g : Pwr → Pwr) : (s.power g).ccx = s.ccx := (rfl)
@[simp] theorem pair_power (g : Pwr → Pwr) : (s.power g).pair = s.pair := (rfl)
@[simp] theorem mgt_power (g : Pwr → Pwr) : (s.power g).mgt = s.mgt := (rfl)
@[simp] theorem blockRst_power (g : Pwr → Pwr) : (s.power g).blockRst = s.blockRst := (rfl)
@[simp] theorem pending_power (g : Pwr → Pwr) : (s.power g).pending = s.pending := (rfl)

/-! secure -/

@[simp] theorem regs_secure (g : Sec → Sec) : (s.secure g).regs = s.regs := (rfl)
@[simp] theorem ctr_secure (g : Sec → Sec) : (s.secure g).ctr = s.ctr := (rfl)
@[simp] theorem latch_secure (g : Sec → Sec) : (s.secure g).latch = s.latch := (rfl)
@[simp] theorem cycles_secure (g : Sec → Sec) : (s.secure g).cycles = s.cycles := (rfl)
@[simp] theorem draws_secure (g : Sec → Sec) : (s.secure g).draws = s.draws := (rfl)
@[simp] theorem out_secure (g : Sec → Sec) : (s.secure g).out = s.out := (rfl)
@[simp] theorem irq_secure (g : Sec → Sec) : (s.secure g).irq = s.irq := (rfl)
@[simp] theorem flt_secure (g : Sec → Sec) : (s.secure g).flt = s.flt := (rfl)
@[simp] theorem pwr_secure (g : Sec → Sec) : (s.secure g).pwr = s.pwr := (rfl)
@[simp] theorem cel_secure (g : Sec → Sec) : (s.secure g).cel = s.cel := (rfl)
@[simp] theorem mac_secure (g : Sec → Sec) : (s.secure g).mac = s.mac := (rfl)
@[simp] theorem frames_secure (g : Sec → Sec) : (s.secure g).frames = s.frames := (rfl)
@[simp] theorem nextFid_secure (g : Sec → Sec) : (s.secure g).nextFid = s.nextFid := (rfl)
@[simp] theorem rak_secure (g : Sec → Sec) : (s.secure g).rak = s.rak := (rfl)
@[simp] theorem ecc_secure (g : Sec → Sec) : (s.secure g).ecc = s.ecc := (rfl)
@[simp] theorem cls_secure (g : Sec → Sec) : (s.secure g).cls = s.cls := (rfl)
@[simp] theorem stm_secure (g : Sec → Sec) : (s.secure g).stm = s.stm := (rfl)
@[simp] theorem tim_secure (g : Sec → Sec) : (s.secure g).tim = s.tim := (rfl)
@[simp] theorem gat_secure (g : Sec → Sec) : (s.secure g).gat = s.gat := (rfl)
@[simp] theorem cph_secure (g : Sec → Sec) : (s.secure g).cph = s.cph := (rfl)
@[simp] theorem wfail_secure (g : Sec → Sec) : (s.secure g).wfail = s.wfail := (rfl)
@[simp] theorem sec_secure (g : Sec → Sec) : (s.secure g).sec = g s.sec := (rfl)
@[simp] theorem dram_secure (g : Sec → Sec) : (s.secure g).dram = s.dram := (rfl)
@[simp] theorem stg_secure (g : Sec → Sec) : (s.secure g).stg = s.stg := (rfl)
@[simp] theorem hat_secure (g : Sec → Sec) : (s.secure g).hat = s.hat := (rfl)
@[simp] theorem brg_secure (g : Sec → Sec) : (s.secure g).brg = s.brg := (rfl)
@[simp] theorem gwe_secure (g : Sec → Sec) : (s.secure g).gwe = s.gwe := (rfl)
@[simp] theorem boot_secure (g : Sec → Sec) : (s.secure g).boot = s.boot := (rfl)
@[simp] theorem ccx_secure (g : Sec → Sec) : (s.secure g).ccx = s.ccx := (rfl)
@[simp] theorem pair_secure (g : Sec → Sec) : (s.secure g).pair = s.pair := (rfl)
@[simp] theorem mgt_secure (g : Sec → Sec) : (s.secure g).mgt = s.mgt := (rfl)
@[simp] theorem blockRst_secure (g : Sec → Sec) : (s.secure g).blockRst = s.blockRst := (rfl)
@[simp] theorem pending_secure (g : Sec → Sec) : (s.secure g).pending = s.pending := (rfl)

/-! booting -/

@[simp] theorem regs_booting (g : Boot → Boot) : (s.booting g).regs = s.regs := (rfl)
@[simp] theorem ctr_booting (g : Boot → Boot) : (s.booting g).ctr = s.ctr := (rfl)
@[simp] theorem latch_booting (g : Boot → Boot) : (s.booting g).latch = s.latch := (rfl)
@[simp] theorem cycles_booting (g : Boot → Boot) : (s.booting g).cycles = s.cycles := (rfl)
@[simp] theorem draws_booting (g : Boot → Boot) : (s.booting g).draws = s.draws := (rfl)
@[simp] theorem out_booting (g : Boot → Boot) : (s.booting g).out = s.out := (rfl)
@[simp] theorem irq_booting (g : Boot → Boot) : (s.booting g).irq = s.irq := (rfl)
@[simp] theorem flt_booting (g : Boot → Boot) : (s.booting g).flt = s.flt := (rfl)
@[simp] theorem pwr_booting (g : Boot → Boot) : (s.booting g).pwr = s.pwr := (rfl)
@[simp] theorem cel_booting (g : Boot → Boot) : (s.booting g).cel = s.cel := (rfl)
@[simp] theorem mac_booting (g : Boot → Boot) : (s.booting g).mac = s.mac := (rfl)
@[simp] theorem frames_booting (g : Boot → Boot) : (s.booting g).frames = s.frames := (rfl)
@[simp] theorem nextFid_booting (g : Boot → Boot) : (s.booting g).nextFid = s.nextFid := (rfl)
@[simp] theorem rak_booting (g : Boot → Boot) : (s.booting g).rak = s.rak := (rfl)
@[simp] theorem ecc_booting (g : Boot → Boot) : (s.booting g).ecc = s.ecc := (rfl)
@[simp] theorem cls_booting (g : Boot → Boot) : (s.booting g).cls = s.cls := (rfl)
@[simp] theorem stm_booting (g : Boot → Boot) : (s.booting g).stm = s.stm := (rfl)
@[simp] theorem tim_booting (g : Boot → Boot) : (s.booting g).tim = s.tim := (rfl)
@[simp] theorem gat_booting (g : Boot → Boot) : (s.booting g).gat = s.gat := (rfl)
@[simp] theorem cph_booting (g : Boot → Boot) : (s.booting g).cph = s.cph := (rfl)
@[simp] theorem wfail_booting (g : Boot → Boot) : (s.booting g).wfail = s.wfail := (rfl)
@[simp] theorem sec_booting (g : Boot → Boot) : (s.booting g).sec = s.sec := (rfl)
@[simp] theorem dram_booting (g : Boot → Boot) : (s.booting g).dram = s.dram := (rfl)
@[simp] theorem stg_booting (g : Boot → Boot) : (s.booting g).stg = s.stg := (rfl)
@[simp] theorem hat_booting (g : Boot → Boot) : (s.booting g).hat = s.hat := (rfl)
@[simp] theorem brg_booting (g : Boot → Boot) : (s.booting g).brg = s.brg := (rfl)
@[simp] theorem gwe_booting (g : Boot → Boot) : (s.booting g).gwe = s.gwe := (rfl)
@[simp] theorem boot_booting (g : Boot → Boot) : (s.booting g).boot = g s.boot := (rfl)
@[simp] theorem ccx_booting (g : Boot → Boot) : (s.booting g).ccx = s.ccx := (rfl)
@[simp] theorem pair_booting (g : Boot → Boot) : (s.booting g).pair = s.pair := (rfl)
@[simp] theorem mgt_booting (g : Boot → Boot) : (s.booting g).mgt = s.mgt := (rfl)
@[simp] theorem blockRst_booting (g : Boot → Boot) : (s.booting g).blockRst = s.blockRst := (rfl)
@[simp] theorem pending_booting (g : Boot → Boot) : (s.booting g).pending = s.pending := (rfl)

/-! manage -/

@[simp] theorem regs_manage (g : Mgt → Mgt) : (s.manage g).regs = s.regs := (rfl)
@[simp] theorem ctr_manage (g : Mgt → Mgt) : (s.manage g).ctr = s.ctr := (rfl)
@[simp] theorem latch_manage (g : Mgt → Mgt) : (s.manage g).latch = s.latch := (rfl)
@[simp] theorem cycles_manage (g : Mgt → Mgt) : (s.manage g).cycles = s.cycles := (rfl)
@[simp] theorem draws_manage (g : Mgt → Mgt) : (s.manage g).draws = s.draws := (rfl)
@[simp] theorem out_manage (g : Mgt → Mgt) : (s.manage g).out = s.out := (rfl)
@[simp] theorem irq_manage (g : Mgt → Mgt) : (s.manage g).irq = s.irq := (rfl)
@[simp] theorem flt_manage (g : Mgt → Mgt) : (s.manage g).flt = s.flt := (rfl)
@[simp] theorem pwr_manage (g : Mgt → Mgt) : (s.manage g).pwr = s.pwr := (rfl)
@[simp] theorem cel_manage (g : Mgt → Mgt) : (s.manage g).cel = s.cel := (rfl)
@[simp] theorem mac_manage (g : Mgt → Mgt) : (s.manage g).mac = s.mac := (rfl)
@[simp] theorem frames_manage (g : Mgt → Mgt) : (s.manage g).frames = s.frames := (rfl)
@[simp] theorem nextFid_manage (g : Mgt → Mgt) : (s.manage g).nextFid = s.nextFid := (rfl)
@[simp] theorem rak_manage (g : Mgt → Mgt) : (s.manage g).rak = s.rak := (rfl)
@[simp] theorem ecc_manage (g : Mgt → Mgt) : (s.manage g).ecc = s.ecc := (rfl)
@[simp] theorem cls_manage (g : Mgt → Mgt) : (s.manage g).cls = s.cls := (rfl)
@[simp] theorem stm_manage (g : Mgt → Mgt) : (s.manage g).stm = s.stm := (rfl)
@[simp] theorem tim_manage (g : Mgt → Mgt) : (s.manage g).tim = s.tim := (rfl)
@[simp] theorem gat_manage (g : Mgt → Mgt) : (s.manage g).gat = s.gat := (rfl)
@[simp] theorem cph_manage (g : Mgt → Mgt) : (s.manage g).cph = s.cph := (rfl)
@[simp] theorem wfail_manage (g : Mgt → Mgt) : (s.manage g).wfail = s.wfail := (rfl)
@[simp] theorem sec_manage (g : Mgt → Mgt) : (s.manage g).sec = s.sec := (rfl)
@[simp] theorem dram_manage (g : Mgt → Mgt) : (s.manage g).dram = s.dram := (rfl)
@[simp] theorem stg_manage (g : Mgt → Mgt) : (s.manage g).stg = s.stg := (rfl)
@[simp] theorem hat_manage (g : Mgt → Mgt) : (s.manage g).hat = s.hat := (rfl)
@[simp] theorem brg_manage (g : Mgt → Mgt) : (s.manage g).brg = s.brg := (rfl)
@[simp] theorem gwe_manage (g : Mgt → Mgt) : (s.manage g).gwe = s.gwe := (rfl)
@[simp] theorem boot_manage (g : Mgt → Mgt) : (s.manage g).boot = s.boot := (rfl)
@[simp] theorem ccx_manage (g : Mgt → Mgt) : (s.manage g).ccx = s.ccx := (rfl)
@[simp] theorem pair_manage (g : Mgt → Mgt) : (s.manage g).pair = s.pair := (rfl)
@[simp] theorem mgt_manage (g : Mgt → Mgt) : (s.manage g).mgt = g s.mgt := (rfl)
@[simp] theorem blockRst_manage (g : Mgt → Mgt) : (s.manage g).blockRst = s.blockRst := (rfl)
@[simp] theorem pending_manage (g : Mgt → Mgt) : (s.manage g).pending = s.pending := (rfl)

/-! strong -/

@[simp] theorem regs_strong (g : Stg → Stg) : (s.strong g).regs = s.regs := (rfl)
@[simp] theorem ctr_strong (g : Stg → Stg) : (s.strong g).ctr = s.ctr := (rfl)
@[simp] theorem latch_strong (g : Stg → Stg) : (s.strong g).latch = s.latch := (rfl)
@[simp] theorem cycles_strong (g : Stg → Stg) : (s.strong g).cycles = s.cycles := (rfl)
@[simp] theorem draws_strong (g : Stg → Stg) : (s.strong g).draws = s.draws := (rfl)
@[simp] theorem out_strong (g : Stg → Stg) : (s.strong g).out = s.out := (rfl)
@[simp] theorem irq_strong (g : Stg → Stg) : (s.strong g).irq = s.irq := (rfl)
@[simp] theorem flt_strong (g : Stg → Stg) : (s.strong g).flt = s.flt := (rfl)
@[simp] theorem pwr_strong (g : Stg → Stg) : (s.strong g).pwr = s.pwr := (rfl)
@[simp] theorem cel_strong (g : Stg → Stg) : (s.strong g).cel = s.cel := (rfl)
@[simp] theorem mac_strong (g : Stg → Stg) : (s.strong g).mac = s.mac := (rfl)
@[simp] theorem frames_strong (g : Stg → Stg) : (s.strong g).frames = s.frames := (rfl)
@[simp] theorem nextFid_strong (g : Stg → Stg) : (s.strong g).nextFid = s.nextFid := (rfl)
@[simp] theorem rak_strong (g : Stg → Stg) : (s.strong g).rak = s.rak := (rfl)
@[simp] theorem ecc_strong (g : Stg → Stg) : (s.strong g).ecc = s.ecc := (rfl)
@[simp] theorem cls_strong (g : Stg → Stg) : (s.strong g).cls = s.cls := (rfl)
@[simp] theorem stm_strong (g : Stg → Stg) : (s.strong g).stm = s.stm := (rfl)
@[simp] theorem tim_strong (g : Stg → Stg) : (s.strong g).tim = s.tim := (rfl)
@[simp] theorem gat_strong (g : Stg → Stg) : (s.strong g).gat = s.gat := (rfl)
@[simp] theorem cph_strong (g : Stg → Stg) : (s.strong g).cph = s.cph := (rfl)
@[simp] theorem wfail_strong (g : Stg → Stg) : (s.strong g).wfail = s.wfail := (rfl)
@[simp] theorem sec_strong (g : Stg → Stg) : (s.strong g).sec = s.sec := (rfl)
@[simp] theorem dram_strong (g : Stg → Stg) : (s.strong g).dram = s.dram := (rfl)
@[simp] theorem stg_strong (g : Stg → Stg) : (s.strong g).stg = g s.stg := (rfl)
@[simp] theorem hat_strong (g : Stg → Stg) : (s.strong g).hat = s.hat := (rfl)
@[simp] theorem brg_strong (g : Stg → Stg) : (s.strong g).brg = s.brg := (rfl)
@[simp] theorem gwe_strong (g : Stg → Stg) : (s.strong g).gwe = s.gwe := (rfl)
@[simp] theorem boot_strong (g : Stg → Stg) : (s.strong g).boot = s.boot := (rfl)
@[simp] theorem ccx_strong (g : Stg → Stg) : (s.strong g).ccx = s.ccx := (rfl)
@[simp] theorem pair_strong (g : Stg → Stg) : (s.strong g).pair = s.pair := (rfl)
@[simp] theorem mgt_strong (g : Stg → Stg) : (s.strong g).mgt = s.mgt := (rfl)
@[simp] theorem blockRst_strong (g : Stg → Stg) : (s.strong g).blockRst = s.blockRst := (rfl)
@[simp] theorem pending_strong (g : Stg → Stg) : (s.strong g).pending = s.pending := (rfl)

/-! timeUnit -/

@[simp] theorem regs_timeUnit (g : Tim → Tim) : (s.timeUnit g).regs = s.regs := (rfl)
@[simp] theorem ctr_timeUnit (g : Tim → Tim) : (s.timeUnit g).ctr = s.ctr := (rfl)
@[simp] theorem latch_timeUnit (g : Tim → Tim) : (s.timeUnit g).latch = s.latch := (rfl)
@[simp] theorem cycles_timeUnit (g : Tim → Tim) : (s.timeUnit g).cycles = s.cycles := (rfl)
@[simp] theorem draws_timeUnit (g : Tim → Tim) : (s.timeUnit g).draws = s.draws := (rfl)
@[simp] theorem out_timeUnit (g : Tim → Tim) : (s.timeUnit g).out = s.out := (rfl)
@[simp] theorem irq_timeUnit (g : Tim → Tim) : (s.timeUnit g).irq = s.irq := (rfl)
@[simp] theorem flt_timeUnit (g : Tim → Tim) : (s.timeUnit g).flt = s.flt := (rfl)
@[simp] theorem pwr_timeUnit (g : Tim → Tim) : (s.timeUnit g).pwr = s.pwr := (rfl)
@[simp] theorem cel_timeUnit (g : Tim → Tim) : (s.timeUnit g).cel = s.cel := (rfl)
@[simp] theorem mac_timeUnit (g : Tim → Tim) : (s.timeUnit g).mac = s.mac := (rfl)
@[simp] theorem frames_timeUnit (g : Tim → Tim) : (s.timeUnit g).frames = s.frames := (rfl)
@[simp] theorem nextFid_timeUnit (g : Tim → Tim) : (s.timeUnit g).nextFid = s.nextFid := (rfl)
@[simp] theorem rak_timeUnit (g : Tim → Tim) : (s.timeUnit g).rak = s.rak := (rfl)
@[simp] theorem ecc_timeUnit (g : Tim → Tim) : (s.timeUnit g).ecc = s.ecc := (rfl)
@[simp] theorem cls_timeUnit (g : Tim → Tim) : (s.timeUnit g).cls = s.cls := (rfl)
@[simp] theorem stm_timeUnit (g : Tim → Tim) : (s.timeUnit g).stm = s.stm := (rfl)
@[simp] theorem tim_timeUnit (g : Tim → Tim) : (s.timeUnit g).tim = g s.tim := (rfl)
@[simp] theorem gat_timeUnit (g : Tim → Tim) : (s.timeUnit g).gat = s.gat := (rfl)
@[simp] theorem cph_timeUnit (g : Tim → Tim) : (s.timeUnit g).cph = s.cph := (rfl)
@[simp] theorem wfail_timeUnit (g : Tim → Tim) : (s.timeUnit g).wfail = s.wfail := (rfl)
@[simp] theorem sec_timeUnit (g : Tim → Tim) : (s.timeUnit g).sec = s.sec := (rfl)
@[simp] theorem dram_timeUnit (g : Tim → Tim) : (s.timeUnit g).dram = s.dram := (rfl)
@[simp] theorem stg_timeUnit (g : Tim → Tim) : (s.timeUnit g).stg = s.stg := (rfl)
@[simp] theorem hat_timeUnit (g : Tim → Tim) : (s.timeUnit g).hat = s.hat := (rfl)
@[simp] theorem brg_timeUnit (g : Tim → Tim) : (s.timeUnit g).brg = s.brg := (rfl)
@[simp] theorem gwe_timeUnit (g : Tim → Tim) : (s.timeUnit g).gwe = s.gwe := (rfl)
@[simp] theorem boot_timeUnit (g : Tim → Tim) : (s.timeUnit g).boot = s.boot := (rfl)
@[simp] theorem ccx_timeUnit (g : Tim → Tim) : (s.timeUnit g).ccx = s.ccx := (rfl)
@[simp] theorem pair_timeUnit (g : Tim → Tim) : (s.timeUnit g).pair = s.pair := (rfl)
@[simp] theorem mgt_timeUnit (g : Tim → Tim) : (s.timeUnit g).mgt = s.mgt := (rfl)
@[simp] theorem blockRst_timeUnit (g : Tim → Tim) : (s.timeUnit g).blockRst = s.blockRst := (rfl)
@[simp] theorem pending_timeUnit (g : Tim → Tim) : (s.timeUnit g).pending = s.pending := (rfl)

/-! Fields and counters through updates that touch no register and no counter. -/

@[simp] theorem cget_wword (a : Nat) (w : Word) (c : Nat) : (s.wword a w).cget c = s.cget c := (rfl)
@[simp] theorem cget_wf (f : Fld) (v : Nat) (c : Nat) : (s.wf f v).cget c = s.cget c := (rfl)
@[simp] theorem rword_cadd (a n : Nat) (c : Nat) : (s.cadd a n).rword c = s.rword c := (rfl)
@[simp] theorem rf_cadd (a n : Nat) (f : Fld) : (s.cadd a n).rf f = s.rf f := (rfl)
@[simp] theorem on_cadd (a n : Nat) (f : Fld) : (s.cadd a n).on f = s.on f := (rfl)
@[simp] theorem rword_cinc (a : Nat) (c : Nat) : (s.cinc a).rword c = s.rword c := (rfl)
@[simp] theorem rf_cinc (a : Nat) (f : Fld) : (s.cinc a).rf f = s.rf f := (rfl)
@[simp] theorem on_cinc (a : Nat) (f : Fld) : (s.cinc a).on f = s.on f := (rfl)
@[simp] theorem rword_emit (o : Out) (c : Nat) : (s.emit o).rword c = s.rword c := (rfl)
@[simp] theorem rf_emit (o : Out) (f : Fld) : (s.emit o).rf f = s.rf f := (rfl)
@[simp] theorem on_emit (o : Out) (f : Fld) : (s.emit o).on f = s.on f := (rfl)
@[simp] theorem cget_emit (o : Out) (c : Nat) : (s.emit o).cget c = s.cget c := (rfl)
@[simp] theorem rword_setSlot (n : Nat) (x : Option Slot) (c : Nat) : (s.setSlot n x).rword c = s.rword c := (rfl)
@[simp] theorem rf_setSlot (n : Nat) (x : Option Slot) (f : Fld) : (s.setSlot n x).rf f = s.rf f := (rfl)
@[simp] theorem on_setSlot (n : Nat) (x : Option Slot) (f : Fld) : (s.setSlot n x).on f = s.on f := (rfl)
@[simp] theorem cget_setSlot (n : Nat) (x : Option Slot) (c : Nat) : (s.setSlot n x).cget c = s.cget c := (rfl)
@[simp] theorem rword_report (n k a : Nat) (c : Nat) : (s.report n k a).rword c = s.rword c := (rfl)
@[simp] theorem rf_report (n k a : Nat) (f : Fld) : (s.report n k a).rf f = s.rf f := (rfl)
@[simp] theorem on_report (n k a : Nat) (f : Fld) : (s.report n k a).on f = s.on f := (rfl)
@[simp] theorem cget_report (n k a : Nat) (c : Nat) : (s.report n k a).cget c = s.cget c := (rfl)
@[simp] theorem rword_notify (n k : Nat) (c : Nat) : (s.notify n k).rword c = s.rword c := (rfl)
@[simp] theorem rf_notify (n k : Nat) (f : Fld) : (s.notify n k).rf f = s.rf f := (rfl)
@[simp] theorem on_notify (n k : Nat) (f : Fld) : (s.notify n k).on f = s.on f := (rfl)
@[simp] theorem cget_notify (n k : Nat) (c : Nat) : (s.notify n k).cget c = s.cget c := (rfl)
@[simp] theorem rword_refuse (n k : Nat) (c : Nat) : (s.refuse n k).rword c = s.rword c := (rfl)
@[simp] theorem rf_refuse (n k : Nat) (f : Fld) : (s.refuse n k).rf f = s.rf f := (rfl)
@[simp] theorem on_refuse (n k : Nat) (f : Fld) : (s.refuse n k).on f = s.on f := (rfl)
@[simp] theorem cget_refuse (n k : Nat) (c : Nat) : (s.refuse n k).cget c = s.cget c := (rfl)
@[simp] theorem rword_setLatch (r : Requester) (a : Nat) (w : Word) (c : Nat) : (s.setLatch r a w).rword c = s.rword c := (rfl)
@[simp] theorem rf_setLatch (r : Requester) (a : Nat) (w : Word) (f : Fld) : (s.setLatch r a w).rf f = s.rf f := (rfl)
@[simp] theorem on_setLatch (r : Requester) (a : Nat) (w : Word) (f : Fld) : (s.setLatch r a w).on f = s.on f := (rfl)
@[simp] theorem cget_setLatch (r : Requester) (a : Nat) (w : Word) (c : Nat) : (s.setLatch r a w).cget c = s.cget c := (rfl)
@[simp] theorem rword_eccClear (m : EccMem) (i : Nat) (c : Nat) : (s.eccClear m i).rword c = s.rword c := (rfl)
@[simp] theorem rf_eccClear (m : EccMem) (i : Nat) (f : Fld) : (s.eccClear m i).rf f = s.rf f := (rfl)
@[simp] theorem on_eccClear (m : EccMem) (i : Nat) (f : Fld) : (s.eccClear m i).on f = s.on f := (rfl)
@[simp] theorem cget_eccClear (m : EccMem) (i : Nat) (c : Nat) : (s.eccClear m i).cget c = s.cget c := (rfl)
@[simp] theorem rword_setFrame (n : Nat) (x : Option Frame) (c : Nat) : (s.setFrame n x).rword c = s.rword c := (rfl)
@[simp] theorem rf_setFrame (n : Nat) (x : Option Frame) (f : Fld) : (s.setFrame n x).rf f = s.rf f := (rfl)
@[simp] theorem on_setFrame (n : Nat) (x : Option Frame) (f : Fld) : (s.setFrame n x).on f = s.on f := (rfl)
@[simp] theorem cget_setFrame (n : Nat) (f : Option Frame) (c : Nat) : (s.setFrame n f).cget c = s.cget c := (rfl)
@[simp] theorem rword_complex (g : Ccx → Ccx) (c : Nat) : (s.complex g).rword c = s.rword c := (rfl)
@[simp] theorem rf_complex (g : Ccx → Ccx) (f : Fld) : (s.complex g).rf f = s.rf f := (rfl)
@[simp] theorem on_complex (g : Ccx → Ccx) (f : Fld) : (s.complex g).on f = s.on f := (rfl)
@[simp] theorem cget_complex (g : Ccx → Ccx) (c : Nat) : (s.complex g).cget c = s.cget c := (rfl)
@[simp] theorem rword_cellar (g : Cel → Cel) (c : Nat) : (s.cellar g).rword c = s.rword c := (rfl)
@[simp] theorem rf_cellar (g : Cel → Cel) (f : Fld) : (s.cellar g).rf f = s.rf f := (rfl)
@[simp] theorem on_cellar (g : Cel → Cel) (f : Fld) : (s.cellar g).on f = s.on f := (rfl)
@[simp] theorem cget_cellar (g : Cel → Cel) (c : Nat) : (s.cellar g).cget c = s.cget c := (rfl)
@[simp] theorem rword_cipher (g : Cph → Cph) (c : Nat) : (s.cipher g).rword c = s.rword c := (rfl)
@[simp] theorem rf_cipher (g : Cph → Cph) (f : Fld) : (s.cipher g).rf f = s.rf f := (rfl)
@[simp] theorem on_cipher (g : Cph → Cph) (f : Fld) : (s.cipher g).on f = s.on f := (rfl)
@[simp] theorem cget_cipher (g : Cph → Cph) (c : Nat) : (s.cipher g).cget c = s.cget c := (rfl)
@[simp] theorem rword_bridge (g : Brg → Brg) (c : Nat) : (s.bridge g).rword c = s.rword c := (rfl)
@[simp] theorem rf_bridge (g : Brg → Brg) (f : Fld) : (s.bridge g).rf f = s.rf f := (rfl)
@[simp] theorem on_bridge (g : Brg → Brg) (f : Fld) : (s.bridge g).on f = s.on f := (rfl)
@[simp] theorem cget_bridge (g : Brg → Brg) (c : Nat) : (s.bridge g).cget c = s.cget c := (rfl)
@[simp] theorem rword_collector (g : Flt → Flt) (c : Nat) : (s.collector g).rword c = s.rword c := (rfl)
@[simp] theorem rf_collector (g : Flt → Flt) (f : Fld) : (s.collector g).rf f = s.rf f := (rfl)
@[simp] theorem on_collector (g : Flt → Flt) (f : Fld) : (s.collector g).on f = s.on f := (rfl)
@[simp] theorem cget_collector (g : Flt → Flt) (c : Nat) : (s.collector g).cget c = s.cget c := (rfl)
@[simp] theorem rword_gway (g : Gwe → Gwe) (c : Nat) : (s.gway g).rword c = s.rword c := (rfl)
@[simp] theorem rf_gway (g : Gwe → Gwe) (f : Fld) : (s.gway g).rf f = s.rf f := (rfl)
@[simp] theorem on_gway (g : Gwe → Gwe) (f : Fld) : (s.gway g).on f = s.on f := (rfl)
@[simp] theorem cget_gway (g : Gwe → Gwe) (c : Nat) : (s.gway g).cget c = s.cget c := (rfl)
@[simp] theorem rword_pairing (g : Pair → Pair) (c : Nat) : (s.pairing g).rword c = s.rword c := (rfl)
@[simp] theorem rf_pairing (g : Pair → Pair) (f : Fld) : (s.pairing g).rf f = s.rf f := (rfl)
@[simp] theorem on_pairing (g : Pair → Pair) (f : Fld) : (s.pairing g).on f = s.on f := (rfl)
@[simp] theorem cget_pairing (g : Pair → Pair) (c : Nat) : (s.pairing g).cget c = s.cget c := (rfl)
@[simp] theorem rword_ports (g : Mac → Mac) (c : Nat) : (s.ports g).rword c = s.rword c := (rfl)
@[simp] theorem rf_ports (g : Mac → Mac) (f : Fld) : (s.ports g).rf f = s.rf f := (rfl)
@[simp] theorem on_ports (g : Mac → Mac) (f : Fld) : (s.ports g).on f = s.on f := (rfl)
@[simp] theorem cget_ports (g : Mac → Mac) (c : Nat) : (s.ports g).cget c = s.cget c := (rfl)
@[simp] theorem rword_power (g : Pwr → Pwr) (c : Nat) : (s.power g).rword c = s.rword c := (rfl)
@[simp] theorem rf_power (g : Pwr → Pwr) (f : Fld) : (s.power g).rf f = s.rf f := (rfl)
@[simp] theorem on_power (g : Pwr → Pwr) (f : Fld) : (s.power g).on f = s.on f := (rfl)
@[simp] theorem cget_power (g : Pwr → Pwr) (c : Nat) : (s.power g).cget c = s.cget c := (rfl)
@[simp] theorem rword_secure (g : Sec → Sec) (c : Nat) : (s.secure g).rword c = s.rword c := (rfl)
@[simp] theorem rf_secure (g : Sec → Sec) (f : Fld) : (s.secure g).rf f = s.rf f := (rfl)
@[simp] theorem on_secure (g : Sec → Sec) (f : Fld) : (s.secure g).on f = s.on f := (rfl)
@[simp] theorem cget_secure (g : Sec → Sec) (c : Nat) : (s.secure g).cget c = s.cget c := (rfl)
@[simp] theorem rword_booting (g : Boot → Boot) (c : Nat) : (s.booting g).rword c = s.rword c := (rfl)
@[simp] theorem rf_booting (g : Boot → Boot) (f : Fld) : (s.booting g).rf f = s.rf f := (rfl)
@[simp] theorem on_booting (g : Boot → Boot) (f : Fld) : (s.booting g).on f = s.on f := (rfl)
@[simp] theorem cget_booting (g : Boot → Boot) (c : Nat) : (s.booting g).cget c = s.cget c := (rfl)
@[simp] theorem rword_manage (g : Mgt → Mgt) (c : Nat) : (s.manage g).rword c = s.rword c := (rfl)
@[simp] theorem rf_manage (g : Mgt → Mgt) (f : Fld) : (s.manage g).rf f = s.rf f := (rfl)
@[simp] theorem on_manage (g : Mgt → Mgt) (f : Fld) : (s.manage g).on f = s.on f := (rfl)
@[simp] theorem cget_manage (g : Mgt → Mgt) (c : Nat) : (s.manage g).cget c = s.cget c := (rfl)
@[simp] theorem rword_strong (g : Stg → Stg) (c : Nat) : (s.strong g).rword c = s.rword c := (rfl)
@[simp] theorem rf_strong (g : Stg → Stg) (f : Fld) : (s.strong g).rf f = s.rf f := (rfl)
@[simp] theorem on_strong (g : Stg → Stg) (f : Fld) : (s.strong g).on f = s.on f := (rfl)
@[simp] theorem cget_strong (g : Stg → Stg) (c : Nat) : (s.strong g).cget c = s.cget c := (rfl)
@[simp] theorem rword_timeUnit (g : Tim → Tim) (c : Nat) : (s.timeUnit g).rword c = s.rword c := (rfl)
@[simp] theorem rf_timeUnit (g : Tim → Tim) (f : Fld) : (s.timeUnit g).rf f = s.rf f := (rfl)
@[simp] theorem on_timeUnit (g : Tim → Tim) (f : Fld) : (s.timeUnit g).on f = s.on f := (rfl)
@[simp] theorem cget_timeUnit (g : Tim → Tim) (c : Nat) : (s.timeUnit g).cget c = s.cget c := (rfl)

end Sys2Proof.Machine.State
end

