-- ==== Sys2Proof/Laws/Lines.lean ====
section
/-!
SUPPORT. The interrupt lines: what State.updateLines and State.settled can do, said once.
-/
namespace Sys2Proof.Machine

/-! Writing one key of a sparse storage changes no test that ignores the key. -/

theorem any_spErase {α : Type} (m : Sparse α) (k : Nat) (p : Nat × α → Bool) (h : ∀ v, p (k, v) = false) :
    (spErase m k).any p = m.any p := by
  induction m with
  | nil => rfl
  | cons e m ih =>
    obtain ⟨j, v⟩ := e
    by_cases hj : j = k
    · subst hj
      simp [spErase, ih, h]
    · simp [spErase, hj, ih]

theorem any_spInsert {α : Type} (m : Sparse α) (k : Nat) (v : α) (p : Nat × α → Bool) (h : ∀ v, p (k, v) = false) :
    (spInsert m k v).any p = m.any p := by
  induction m with
  | nil => simp [spInsert, h]
  | cons e m ih =>
    obtain ⟨j, w⟩ := e
    unfold spInsert
    split
    · simp [h]
    · split
      · rename_i h2
        subst h2
        simp [h]
      · simp [ih]

theorem any_spSet {α : Type} [DecidableEq α] (d : Nat → α) (m : Sparse α) (k : Nat) (v : α) (p : Nat × α → Bool)
    (h : ∀ v, p (k, v) = false) : (spSet d m k v).any p = m.any p := by
  unfold spSet
  split
  · exact any_spErase m k p h
  · exact any_spInsert m k v p h

/-! Folding a step that keeps a projection keeps it. -/

theorem State.each_keep {α β : Type} (π : State → β) (g : State → α → State) (h : ∀ s x, π (g s x) = π s) (l : List α)
    (s : State) : π (s.each l g) = π s := by
  unfold State.each
  induction l generalizing s with
  | nil => rfl
  | cons x l ih => rw [List.foldl_cons, ih, h]

/-! A message touches `irq` and `out` only. -/

/-- Everything but MSI-X and the output. -/
def State.core (s : State) : State := { s with irq := State.reset.irq, out := [] }

theorem State.core_msix (s : State) (v : Nat) : (s.msix v).core = s.core := by
  unfold State.msix
  split
  · rfl
  · split <;> rfl

theorem State.core_lineMessage (s : State) (b : Nat) : (s.lineMessage b).core = s.core := by
  unfold State.lineMessage
  split
  · exact State.core_msix _ _
  · rfl

theorem State.core_lineUp (s : State) (b : Nat) : (s.lineUp b).core = s.core :=
  State.core_lineMessage _ b

/-- Updating the lines writes TOP_INT_STATUS.LINE, and otherwise only sends messages. -/
theorem State.core_updateLines (s : State) :
    s.updateLines.core = (s.wf .TOP_INT_STATUS_LINE s.lineMask).core := by
  unfold State.updateLines
  exact State.each_keep State.core State.lineUp State.core_lineUp _ _

theorem State.regs_updateLines (s : State) : s.updateLines.regs = (s.wf .TOP_INT_STATUS_LINE s.lineMask).regs := by
  have h := s.core_updateLines
  have h2 := congrArg State.regs h
  exact h2

/-! The level of a line does not depend on TOP_INT_STATUS. -/

theorem State.fltLine_wword (s : State) (w : Word) : (s.wword Reg.TOP_INT_STATUS w).fltLine = s.fltLine := by
  unfold State.fltLine State.wword
  have hon : ∀ f : Fld, f.addr ≠ Reg.TOP_INT_STATUS →
      State.on { s with regs := spSet resetWord s.regs Reg.TOP_INT_STATUS w } f = s.on f := by
    intro f hf
    have : State.rword { s with regs := spSet resetWord s.regs Reg.TOP_INT_STATUS w } f.addr = s.rword f.addr :=
      State.rword_wword_of_ne s w hf
    unfold State.on State.rf
    rw [this]
  have hp : ∀ e : Nat × Word,
      (Reg.FLT_SRC_STATUS 0 ≤ e.1 && e.1 < Reg.FLT_SRC_STATUS 768 && (e.1 - Reg.FLT_SRC_STATUS 0) % 32 = 0 &&
        e.2.getLsbD 30 && State.on { s with regs := spSet resetWord s.regs Reg.TOP_INT_STATUS w }
          (.FLT_SRC_CFG_INT ((e.1 - Reg.FLT_SRC_STATUS 0) / 32))) =
      (Reg.FLT_SRC_STATUS 0 ≤ e.1 && e.1 < Reg.FLT_SRC_STATUS 768 && (e.1 - Reg.FLT_SRC_STATUS 0) % 32 = 0 &&
        e.2.getLsbD 30 && s.on (.FLT_SRC_CFG_INT ((e.1 - Reg.FLT_SRC_STATUS 0) / 32))) := by
    intro e
    rw [hon]
    unfold Fld.FLT_SRC_CFG_INT Reg.FLT_SRC_CFG Reg.TOP_INT_STATUS
    simp only
    omega
  simp only [hp]
  apply any_spSet
  intro v
  simp [Reg.FLT_SRC_STATUS, Reg.TOP_INT_STATUS]

theorem State.fltLine_congr {s t : State} (h : s.regs = t.regs) : s.fltLine = t.fltLine := by
  unfold State.fltLine
  rw [h]
  simp only [State.on_congr h]

theorem State.line_congr {s t : State} (h : s.regs = t.regs) (b : Nat) : s.line b = t.line b := by
  unfold State.line
  simp only [State.rword_congr h, State.fltLine_congr h]

theorem State.lineMask_congr {s t : State} (h : s.regs = t.regs) : s.lineMask = t.lineMask := by
  unfold State.lineMask
  rw [List.filter_congr (fun b _ => State.line_congr h b)]

theorem State.line_wword (s : State) (w : Word) (b : Nat) : (s.wword Reg.TOP_INT_STATUS w).line b = s.line b := by
  have hr : ∀ a, a ≠ Reg.TOP_INT_STATUS → (s.wword Reg.TOP_INT_STATUS w).rword a = s.rword a :=
    fun a ha => State.rword_wword_of_ne s w ha
  unfold State.line
  split <;> first
    | rfl
    | exact State.fltLine_wword s w
    | (rw [hr _ (by decide)])
    | (congr 1; funext n; rw [hr _ (by unfold Reg.MAC_INT Reg.TOP_INT_STATUS; omega)])

theorem State.lineMask_wf_line (s : State) (v : Nat) : (s.wf .TOP_INT_STATUS_LINE v).lineMask = s.lineMask := by
  have h : (s.wf .TOP_INT_STATUS_LINE v).line = s.line := funext fun b => State.line_wword s _ b
  unfold State.lineMask
  rw [h]

theorem maskOf_lt (l : List Nat) (n : Nat) (h : ∀ i ∈ l, i < n) : maskOf l < 2 ^ n := by
  unfold maskOf
  suffices ∀ m, m < 2 ^ n → l.foldl (fun m i => m ||| 2 ^ i) m < 2 ^ n from this 0 (Nat.two_pow_pos n)
  induction l with
  | nil => intro m hm; exact hm
  | cons i l ih =>
    intro m hm
    rw [List.foldl_cons]
    apply ih (fun j hj => h j (List.mem_cons_of_mem _ hj))
    exact Nat.or_lt_two_pow hm (Nat.pow_lt_pow_right (by omega) (h i List.mem_cons_self))

theorem State.lineMask_lt (s : State) : s.lineMask < 2 ^ 23 := by
  apply maskOf_lt
  intro i hi
  exact List.mem_range.mp (List.mem_filter.mp hi).1

/-- After an update of the lines TOP_INT_STATUS.LINE shows the level of every line. -/
theorem State.line_updateLines (s : State) : s.updateLines.rf .TOP_INT_STATUS_LINE = s.updateLines.lineMask := by
  have h := s.regs_updateLines
  rw [State.rf_congr h, State.lineMask_congr h, State.lineMask_wf_line, State.rf_wf_self _ _ _ (by decide)]
  exact Nat.mod_eq_of_lt s.lineMask_lt

/-- Every other register is as it was. -/
theorem State.rword_updateLines (s : State) {a : Nat} (h : a ≠ Reg.TOP_INT_STATUS) : s.updateLines.rword a = s.rword a := by
  rw [State.rword_congr s.regs_updateLines]
  exact State.rword_wf_of_ne s _ _ h

theorem bitAt_eq_testBit (v i : Nat) : bitAt v i = v.testBit i := by
  rw [Nat.testBit_eq_decide_div_mod_eq]
  rfl

theorem bitAt_two_pow (a b : Nat) : bitAt (2 ^ b) a = decide (a = b) := by
  rw [bitAt_eq_testBit, Nat.testBit_two_pow]
  simp [eq_comm]

/-- A bit of a mask of indices. -/
theorem bitAt_maskOf (l : List Nat) (i : Nat) : bitAt (maskOf l) i = decide (i ∈ l) := by
  have key : ∀ (l : List Nat) (m : Nat), (l.foldl (fun m i => m ||| 2 ^ i) m).testBit i = (m.testBit i || decide (i ∈ l)) := by
    intro l
    induction l with
    | nil => intro m; simp
    | cons x l ih =>
      intro m
      rw [List.foldl_cons, ih, Nat.testBit_or, Nat.testBit_two_pow, Bool.or_assoc]
      congr 1
      by_cases h : x = i
      · simp [h]
      · have h' : i ≠ x := fun e => h e.symm
        simp [h, h']
  have h := key l 0
  rw [Nat.zero_testBit, Bool.false_or] at h
  rw [bitAt_eq_testBit]
  exact h

theorem State.bitAt_lineMask (s : State) {b : Nat} (h : b < 23) : bitAt s.lineMask b = s.line b := by
  unfold State.lineMask
  rw [bitAt_maskOf]
  cases hb : s.line b <;> simp [h, hb]

end Sys2Proof.Machine
end

