-- ==== Sys2Proof/Laws/Cmd.lean ====
section
/-!
SUPPORT. What follows every command, said once: the shape of a command's outcome, and what State.after keeps of the state
that the command left.
-/
namespace Sys2Proof.Machine.State

/-! The outcome of a command. -/

theorem acting_of (s : State) {on : Bool} (g : State → State) (h : on = true) : s.acting on g = .next (s.after (g s)) := by
  unfold acting
  rw [if_pos h]

theorem acting_of_not (s : State) {on : Bool} (g : State → State) (h : on = false) : s.acting on g = .next (s.after s) := by
  unfold acting
  rw [h]
  rfl

theorem acting_next (s : State) (on : Bool) (g : State → State) : ∃ t, s.acting on g = .next (s.after t) := ⟨_, rfl⟩

theorem always_next (s : State) (g : State → State) : s.always g = .next (s.after (g s)) := rfl

/-! After a command. -/

@[simp] theorem pending_after (s t : State) : (s.after t).pending = s.pending := rfl

@[simp] theorem wfail_settled (t : State) : t.settled.wfail = none := by
  have h : ∀ u : State, (updateLines { u.maxWait with wfail := none }).wfail = none := fun u =>
    congrArg State.wfail (core_updateLines { u.maxWait with wfail := none })
  unfold settled
  exact h _

@[simp] theorem wfail_after (s t : State) : (s.after t).wfail = none := wfail_settled t

/-- TOP_INT_STATUS.LINE shows every line's level after a command. -/
theorem line_after (s t : State) : (s.after t).rf .TOP_INT_STATUS_LINE = (s.after t).lineMask := by
  have h : (s.after t).regs = t.settled.regs := rfl
  rw [rf_congr h, lineMask_congr h]
  exact line_updateLines _

/-- A quiet state is settled by its register writes alone. -/
theorem settled_quiet (t : State) (h : t.quiet) : t.settled = updateLines { t.maxWait with wfail := none } := by
  have h1 : t.holdRelease = t := by unfold holdRelease; rw [if_pos h.2.1]
  have h2 : t.backlogRun = t := by unfold backlogRun; rw [h.2.2]; rfl
  unfold settled
  rw [h1, h2]
  have h3 : t.tim.fresh = [] := h.1
  simp only [h3]
  rfl

theorem core_maxWait (t : State) : { t.maxWait with regs := [] } = { t with regs := [] } := by
  unfold maxWait
  split <;> rfl

theorem rword_maxWait (t : State) {a : Nat} (h : a ≠ Reg.RAK_WAIT) : t.maxWait.rword a = t.rword a := by
  unfold maxWait
  split
  · exact rword_wf_of_ne t _ _ h
  · rfl

theorem tim_maxWait (t : State) : t.maxWait.tim = t.tim := by
  unfold maxWait
  split <;> rfl

/-- No due moment of a trigger is left for a later command. -/
theorem fresh_after (s t : State) : (s.after t).tim.fresh = [] := by
  have h1 : (s.after t).tim = t.settled.tim := rfl
  have h2 : ∀ u : State, (updateLines { u.maxWait with wfail := none }).tim = u.tim := fun u => by
    have h := congrArg State.tim (core_updateLines { u.maxWait with wfail := none })
    exact h.trans (tim_maxWait u)
  rw [h1]
  unfold settled
  simp only [h2]
  split
  · rename_i h
    exact List.isEmpty_iff.mp h
  · rfl

/-- Every register but TOP_INT_STATUS and RAK_WAIT is as the command left it. -/
theorem rword_after (s : State) {t : State} (hq : t.quiet) {a : Nat} (h1 : a ≠ Reg.TOP_INT_STATUS)
    (h2 : a ≠ Reg.RAK_WAIT) : (s.after t).rword a = t.rword a := by
  have h : (s.after t).rword a = t.settled.rword a := rfl
  rw [h, settled_quiet t hq, rword_updateLines _ h1]
  exact rword_maxWait t h2

theorem rf_after (s : State) {t : State} (hq : t.quiet) (f : Fld) (h1 : f.addr ≠ Reg.TOP_INT_STATUS)
    (h2 : f.addr ≠ Reg.RAK_WAIT) : (s.after t).rf f = t.rf f := by
  unfold rf
  rw [rword_after s hq h1 h2]

theorem on_after (s : State) {t : State} (hq : t.quiet) (f : Fld) (h1 : f.addr ≠ Reg.TOP_INT_STATUS)
    (h2 : f.addr ≠ Reg.RAK_WAIT) : (s.after t).on f = t.on f := by
  unfold on
  rw [rf_after s hq f h1 h2]

/-- Beside registers, MSI-X and the output, everything is as the command left it. -/
theorem core_after (s : State) {t : State} (hq : t.quiet) :
    { (s.after t).core with regs := [] } = { t.core with regs := [], wfail := none, pending := s.pending } := by
  have h1 : (s.after t).core = { t.settled.core with pending := s.pending } := rfl
  have h2 := core_updateLines { t.maxWait with wfail := none }
  have h3 := core_maxWait t
  rw [h1, settled_quiet t hq, h2]
  have h4 : ∀ u : State, { ({ u with wfail := none } : State).core with regs := [], pending := s.pending } =
      { ({ u with regs := [] } : State).core with wfail := none, pending := s.pending } := fun _ => rfl
  have h5 := h4 t.maxWait
  rw [h3] at h5
  exact h5

/-! The same, field by field. -/

theorem ctr_after (s : State) {t : State} (hq : t.quiet) : (s.after t).ctr = t.ctr := by
  have h := congrArg State.ctr (core_after s hq)
  exact h

theorem latch_after (s : State) {t : State} (hq : t.quiet) : (s.after t).latch = t.latch := by
  have h := congrArg State.latch (core_after s hq)
  exact h

theorem cycles_after (s : State) {t : State} (hq : t.quiet) : (s.after t).cycles = t.cycles := by
  have h := congrArg State.cycles (core_after s hq)
  exact h

theorem draws_after (s : State) {t : State} (hq : t.quiet) : (s.after t).draws = t.draws := by
  have h := congrArg State.draws (core_after s hq)
  exact h

theorem flt_after (s : State) {t : State} (hq : t.quiet) : (s.after t).flt = t.flt := by
  have h := congrArg State.flt (core_after s hq)
  exact h

theorem pwr_after (s : State) {t : State} (hq : t.quiet) : (s.after t).pwr = t.pwr := by
  have h := congrArg State.pwr (core_after s hq)
  exact h

theorem cel_after (s : State) {t : State} (hq : t.quiet) : (s.after t).cel = t.cel := by
  have h := congrArg State.cel (core_after s hq)
  exact h

theorem mac_after (s : State) {t : State} (hq : t.quiet) : (s.after t).mac = t.mac := by
  have h := congrArg State.mac (core_after s hq)
  exact h

theorem frames_after (s : State) {t : State} (hq : t.quiet) : (s.after t).frames = t.frames := by
  have h := congrArg State.frames (core_after s hq)
  exact h

theorem nextFid_after (s : State) {t : State} (hq : t.quiet) : (s.after t).nextFid = t.nextFid := by
  have h := congrArg State.nextFid (core_after s hq)
  exact h

theorem rak_after (s : State) {t : State} (hq : t.quiet) : (s.after t).rak = t.rak := by
  have h := congrArg State.rak (core_after s hq)
  exact h

theorem ecc_after (s : State) {t : State} (hq : t.quiet) : (s.after t).ecc = t.ecc := by
  have h := congrArg State.ecc (core_after s hq)
  exact h

theorem cls_after (s : State) {t : State} (hq : t.quiet) : (s.after t).cls = t.cls := by
  have h := congrArg State.cls (core_after s hq)
  exact h

theorem stm_after (s : State) {t : State} (hq : t.quiet) : (s.after t).stm = t.stm := by
  have h := congrArg State.stm (core_after s hq)
  exact h

theorem tim_after (s : State) {t : State} (hq : t.quiet) : (s.after t).tim = t.tim := by
  have h := congrArg State.tim (core_after s hq)
  exact h

theorem gat_after (s : State) {t : State} (hq : t.quiet) : (s.after t).gat = t.gat := by
  have h := congrArg State.gat (core_after s hq)
  exact h

theorem cph_after (s : State) {t : State} (hq : t.quiet) : (s.after t).cph = t.cph := by
  have h := congrArg State.cph (core_after s hq)
  exact h

theorem sec_after (s : State) {t : State} (hq : t.quiet) : (s.after t).sec = t.sec := by
  have h := congrArg State.sec (core_after s hq)
  exact h

theorem dram_after (s : State) {t : State} (hq : t.quiet) : (s.after t).dram = t.dram := by
  have h := congrArg State.dram (core_after s hq)
  exact h

theorem stg_after (s : State) {t : State} (hq : t.quiet) : (s.after t).stg = t.stg := by
  have h := congrArg State.stg (core_after s hq)
  exact h

theorem hat_after (s : State) {t : State} (hq : t.quiet) : (s.after t).hat = t.hat := by
  have h := congrArg State.hat (core_after s hq)
  exact h

theorem brg_after (s : State) {t : State} (hq : t.quiet) : (s.after t).brg = t.brg := by
  have h := congrArg State.brg (core_after s hq)
  exact h

theorem gwe_after (s : State) {t : State} (hq : t.quiet) : (s.after t).gwe = t.gwe := by
  have h := congrArg State.gwe (core_after s hq)
  exact h

theorem boot_after (s : State) {t : State} (hq : t.quiet) : (s.after t).boot = t.boot := by
  have h := congrArg State.boot (core_after s hq)
  exact h

theorem ccx_after (s : State) {t : State} (hq : t.quiet) : (s.after t).ccx = t.ccx := by
  have h := congrArg State.ccx (core_after s hq)
  exact h

theorem pair_after (s : State) {t : State} (hq : t.quiet) : (s.after t).pair = t.pair := by
  have h := congrArg State.pair (core_after s hq)
  exact h

theorem mgt_after (s : State) {t : State} (hq : t.quiet) : (s.after t).mgt = t.mgt := by
  have h := congrArg State.mgt (core_after s hq)
  exact h

theorem blockRst_after (s : State) {t : State} (hq : t.quiet) : (s.after t).blockRst = t.blockRst := by
  have h := congrArg State.blockRst (core_after s hq)
  exact h

end Sys2Proof.Machine.State
end

