-- ==== Sys2Proof/Laws/Bus.lean ====
section
/-!
SUPPORT. Register accesses: which case of State.writeCases and State.readCases an address falls under, and what a write of a
register comes down to when the requester may write and the block serves.
-/
namespace Sys2Proof.Machine

/-- The invariant holds after every command, whatever it left. -/
theorem State.inv_after (s t : State) : (s.after t).Inv := by
  refine ⟨State.line_after s t, ?_, State.fresh_after s t⟩
  have hu : ∃ u : State, t.settled = State.updateLines { u.maxWait with wfail := none } := ⟨_, rfl⟩
  obtain ⟨u, hu⟩ := hu
  have hf : (s.after t).frames = u.frames := by
    have h1 : (s.after t).frames = t.settled.frames := rfl
    have h2 := congrArg State.frames (State.core_updateLines { u.maxWait with wfail := none })
    have h3 := congrArg State.frames (State.core_maxWait u)
    rw [h1, hu]
    exact h2.trans h3
  have hr : (s.after t).rf .RAK_WAIT_MAX_WAIT = u.maxWait.rf .RAK_WAIT_MAX_WAIT := by
    have h1 : (s.after t).rf .RAK_WAIT_MAX_WAIT = t.settled.rf .RAK_WAIT_MAX_WAIT := rfl
    rw [h1, hu]
    unfold State.rf
    rw [State.rword_updateLines _ (by decide)]
    rfl
  have hw : (s.after t).rakeWait = u.rakeWait := by
    unfold State.rakeWait
    rw [hf]
  unfold State.waitShown
  rw [hr, hw]
  unfold State.maxWait
  split
  · refine Nat.le_of_eq (Eq.symm ((State.rf_wf_self _ _ _ (by decide)).trans (Nat.mod_eq_of_lt ?_)))
    have : (Fld.RAK_WAIT_MAX_WAIT).width = 16 := rfl
    rw [this]
    omega
  · omega

theorem State.unmappedCmd_next (s : State) (q : Sender) (a : Nat) (w : Option Word) :
    ∃ t, s.unmappedCmd q a w = .next (s.after t) := by
  unfold State.unmappedCmd
  split
  · exact ⟨_, rfl⟩
  · cases w <;> exact ⟨_, rfl⟩

/-- Whatever the command and the state, exec answers what follows some state that the command's effect left. -/
theorem exec_next (c : Instr) (s : State) : ∃ t, exec c s = .next (s.after t) := by
  cases c
  case unmappedAccess q a w => exact State.unmappedCmd_next s q a w
  all_goals exact ⟨_, rfl⟩

/-- Addresses of a case: base, stride and count. -/
def RegCase.shape {α : Type} (c : RegCase α) : Nat × Nat × Nat := (c.base, c.stride, c.count)

/-- Position and index of the first shape that holds address `a`. -/
def shapeAt (l : List (Nat × Nat × Nat)) (a : Nat) : Option (Nat × Nat) :=
  match l with
  | [] => none
  | x :: l =>
    match arrayAt x.1 x.2.1 x.2.2 a with
    | some k => some (0, k)
    | none => (shapeAt l a).map (fun r => (r.1 + 1, r.2))

theorem caseAt_of_shapeAt {α : Type} (l : List (RegCase α)) (a : Nat) :
    caseAt l a = (shapeAt (l.map RegCase.shape) a).bind (fun r => (l[r.1]?).map (fun c => c.act r.2)) := by
  induction l with
  | nil => rfl
  | cons c l ih =>
    unfold caseAt at ih ⊢
    simp only [List.findSome?_cons, List.map_cons, shapeAt, RegCase.shape]
    cases h : arrayAt c.base c.stride c.count a with
    | some k => simp
    | none =>
      simp only [Option.map_none, ih]
      cases hs : shapeAt (l.map RegCase.shape) a with
      | none => simp
      | some r => simp

/-- The shapes of the registers that act when they are written. -/
def writeShapes : List (Nat × Nat × Nat) := (State.reset.writeCases .host 0 0 0).map RegCase.shape

theorem shapes_writeCases (s : State) (q : Requester) (w n : Word) (aux : Nat) :
    (s.writeCases q w n aux).map RegCase.shape = writeShapes := by
  simp only [writeShapes, State.writeCases, List.map_cons, List.map_nil, RegCase.shape, one]

/-- The shapes of the registers that act when they are read. -/
def readShapes : List (Nat × Nat × Nat) := (State.reset.readCases .host 0).map RegCase.shape

theorem shapes_readCases (s : State) (q : Requester) (a : Nat) : (s.readCases q a).map RegCase.shape = readShapes := by
  simp only [readShapes, State.readCases, List.map_cons, List.map_nil, RegCase.shape, one]

theorem caseAt_isSome {α : Type} (l : List (RegCase α)) (a : Nat) :
    (caseAt l a).isSome = (shapeAt (l.map RegCase.shape) a).isSome := by
  induction l with
  | nil => rfl
  | cons c l ih =>
    unfold caseAt at ih ⊢
    simp only [List.findSome?_cons, List.map_cons, shapeAt, RegCase.shape]
    cases h : arrayAt c.base c.stride c.count a with
    | some k => simp
    | none => simpa using ih

theorem caseAt_writeCases_none (s : State) (q : Requester) (w n : Word) (aux a : Nat) (h : actsOnWrite a = false) :
    caseAt (s.writeCases q w n aux) a = none := by
  have h1 := caseAt_isSome (s.writeCases q w n aux) a
  have h2 := caseAt_isSome (State.reset.writeCases .ccx 0 0 0) a
  rw [shapes_writeCases] at h1 h2
  unfold actsOnWrite at h
  rw [h2] at h
  rw [h] at h1
  simpa using h1

theorem caseAt_readCases_none (s : State) (q : Requester) (a : Nat) (h : actsOnRead a = false) :
    caseAt (s.readCases q a) a = none := by
  have h1 := caseAt_isSome (s.readCases q a) a
  have h2 := caseAt_isSome (State.reset.readCases .ccx 0) a
  rw [shapes_readCases] at h1 h2
  unfold actsOnRead at h
  rw [h2] at h
  rw [h] at h1
  simpa using h1

/-! Field rows. -/

/-- A row without LK fields never breaks R8. -/
theorem RegRow.next_snd_of_noLk (r : RegRow) (lock : Bool) (old w : Word) (h : r.fields.all (fun f => f.acc != .lk) = true) :
    (r.next lock old w).2 = false := by
  unfold RegRow.next
  suffices ∀ (l : List FieldRow) (acc : Word × Bool), l.all (fun f => f.acc != .lk) = true → acc.2 = false →
      (l.foldl (fun acc f => f.next lock old w acc) acc).2 = false from this r.fields (old, false) h rfl
  intro l
  induction l with
  | nil => intro acc _ ha; exact ha
  | cons f l ih =>
    intro acc hl ha
    simp only [List.all_cons, Bool.and_eq_true] at hl
    apply ih _ hl.2
    unfold FieldRow.next
    cases hf : f.acc <;> simp_all

/-! Key words. -/

theorem fldGet_cmdWord_key (key v : Nat) (h : key < 65536) (hv : v < 65536) :
    fldGet (cmdWord key v) 16 16 = key := by
  unfold cmdWord fldGet
  simp only [BitVec.extractLsb'_toNat, BitVec.toNat_ofNat, Nat.shiftRight_eq_div_pow]
  omega

theorem State.keyed_of_key (s : State) (key v : Nat) (g : State → State) (h : key < 65536) (hv : v < 65536) :
    s.keyed (cmdWord key v) key g = g s := by
  unfold State.keyed
  rw [fldGet_cmdWord_key _ _ h hv, if_pos rfl]

/-- A wrong key: the write is ignored, and source 0x000 reports kind 0x06. -/
theorem State.keyed_of_wrong (s : State) (w : Word) (key : Nat) (g : State → State) (h : fldGet w 16 16 ≠ key) :
    s.keyed w key g = s.refuse 0x000 0x06 := by
  unfold State.keyed
  rw [if_neg h]

/-! Writes. -/

theorem State.busStore_reg (s : State) (q : Requester) (a : Nat) (w : Word) (aux : Nat) (hr : regSpace a = true)
    (ha : a % 4 = 0) (hm : s.mayWrite q a = true) (ho : s.ownerOff a = false) :
    s.busStore q a w aux = s.regWrite q a w aux := by
  unfold State.busStore
  simp [hr, ha, hm, ho]

/-- A write of a register that acts, in a row without LK fields. -/
theorem State.regWrite_case (s : State) (q : Requester) (a : Nat) (w : Word) (aux : Nat) {r : RegRow} {p : Nat × Nat}
    (hrow : regRowAt a = some r) (hlk : r.fields.all (fun f => f.acc != .lk) = true)
    (hp : shapeAt writeShapes a = some p) :
    let n := (r.next (s.committed && q != .boot) (s.rword a) w).1
    s.regWrite q a w aux = (((s.writeCases q w n aux)[p.1]?).map (fun c => c.act p.2)).getD (s.wword a n) := by
  intro n
  unfold State.regWrite
  rw [hrow]
  have h2 := r.next_snd_of_noLk (s.committed && q != .boot) (s.rword a) w hlk
  simp only [h2, Bool.false_eq_true, if_false]
  rw [caseAt_of_shapeAt, shapes_writeCases, hp]
  rfl

/-- A write of a register that only stores, in a row without LK fields. -/
theorem State.regWrite_plain (s : State) (q : Requester) (a : Nat) (w : Word) (aux : Nat) {r : RegRow}
    (hrow : regRowAt a = some r) (hlk : r.fields.all (fun f => f.acc != .lk) = true) (hp : shapeAt writeShapes a = none) :
    s.regWrite q a w aux = s.wword a (r.next (s.committed && q != .boot) (s.rword a) w).1 := by
  unfold State.regWrite
  rw [hrow]
  have h2 := r.next_snd_of_noLk (s.committed && q != .boot) (s.rword a) w hlk
  simp only [h2, Bool.false_eq_true, if_false]
  rw [caseAt_of_shapeAt, shapes_writeCases, hp]
  rfl

/-! Register commands as a whole. -/

/-- `a` is a register with a row in the map, in register space. -/
def hasRow (a : Nat) : Bool := regSpace a && a % 4 = 0 && (regRowAt a).isSome

/-- `a` is such a register, with no LK field. -/
def unlockedRow (a : Nat) : Bool :=
  regSpace a && a % 4 = 0 && (match regRowAt a with | some r => r.fields.all (fun f => f.acc != .lk) | none => false)

theorem hasRow_of_unlockedRow {a : Nat} (h : unlockedRow a = true) : hasRow a = true := by
  unfold unlockedRow at h
  unfold hasRow
  cases hr : regRowAt a with
  | none => simp [hr] at h
  | some r =>
    rw [hr] at h
    simp only [Bool.and_eq_true] at h ⊢
    exact ⟨h.1, rfl⟩

theorem State.lockKept_of_unlockedRow (s : State) (w : Word) {a : Nat} (h : unlockedRow a = true) : s.lockKept a w = true := by
  unfold unlockedRow at h
  unfold State.lockKept
  cases hr : regRowAt a with
  | none => rfl
  | some r =>
    rw [hr] at h
    simp only [Bool.and_eq_true] at h
    simp [r.next_snd_of_noLk _ _ _ h.2]

/-- A write begins with its count alone. -/
theorem State.regs_begun (s : State) (q : Requester) : (s.begun q).regs = s.regs := by
  unfold State.begun State.inbound
  split <;> rfl

@[simp] theorem State.rword_begun (s : State) (q : Requester) (a : Nat) : (s.begun q).rword a = s.rword a := by
  unfold State.rword
  rw [State.regs_begun]

@[simp] theorem State.rf_begun (s : State) (q : Requester) (f : Fld) : (s.begun q).rf f = s.rf f := by
  unfold State.rf
  rw [State.rword_begun]

@[simp] theorem State.on_begun (s : State) (q : Requester) (f : Fld) : (s.begun q).on f = s.on f := by
  unfold State.on
  rw [State.rf_begun]

@[simp] theorem State.blockRst_begun (s : State) (q : Requester) : (s.begun q).blockRst = s.blockRst := by
  unfold State.begun State.inbound
  split <;> rfl

@[simp] theorem State.sec_begun (s : State) (q : Requester) : (s.begun q).sec = s.sec := by
  unfold State.begun State.inbound
  split <;> rfl

@[simp] theorem State.ownerOff_begun (s : State) (q : Requester) (a : Nat) : (s.begun q).ownerOff a = s.ownerOff a := by
  unfold State.ownerOff State.blockOff
  rw [State.blockRst_begun]

@[simp] theorem State.committed_begun (s : State) (q : Requester) : (s.begun q).committed = s.committed := State.on_begun _ _ _

@[simp] theorem State.mayWrite_begun (s : State) (q r : Requester) (a : Nat) : (s.begun q).mayWrite r a = s.mayWrite r a := by
  unfold State.mayWrite State.debugOpen
  simp only [State.committed_begun, State.rf_begun, State.on_begun, State.sec_begun]

/-- What a write begins with differs from the state before it in `ctr` and `wfail` alone. -/
theorem State.core_begun (s : State) (q : Requester) : { s.begun q with ctr := s.ctr, wfail := s.wfail } = s := by
  unfold State.begun State.inbound
  split <;> rfl

/-- A write that reaches a register and changes no locked field does what the register's case says, or stores the word that
the access types make. -/
theorem State.regCmd_act (s : State) {q : Sender} {a : Nat} (w : Word) (aux : Nat) (h : s.reaches q a) (ha : hasRow a = true)
    (hl : s.lockKept a w = true) :
    s.regCmd q a w aux = .next (s.did q a
      ((caseAt ((s.begun q.req).writeCases q.req w (s.written a w) aux) a).getD ((s.begun q.req).wword a (s.written a w)))) := by
  unfold hasRow at ha
  simp only [Bool.and_eq_true, decide_eq_true_eq] at ha
  obtain ⟨hw, hm, ho⟩ := h
  unfold State.regCmd
  rw [State.acting_of _ _ hw]
  unfold State.busWriteAux State.did
  rw [State.busStore_reg (s.begun q.req) _ _ _ _ ha.1.1 ha.1.2 (by rwa [State.mayWrite_begun]) (by rwa [State.ownerOff_begun])]
  unfold State.regWrite
  unfold State.lockKept at hl
  unfold State.written
  have hq : (q.req != .boot) = true := by cases q <;> rfl
  cases hr : regRowAt a with
  | none => simp [hr] at ha
  | some r =>
    rw [hr] at hl
    simp only [hq, Bool.and_true, State.committed_begun, State.rword_begun]
    simp only [Bool.not_eq_true'] at hl
    simp only [hl, Bool.false_eq_true, if_false]

/-- The case that holds an address, by its position. -/
theorem State.caseAt_writeCases (s : State) (q : Requester) (w n : Word) (aux a : Nat) {p : Nat × Nat}
    (hp : shapeAt writeShapes a = some p) :
    caseAt (s.writeCases q w n aux) a = ((s.writeCases q w n aux)[p.1]?).map (fun c => c.act p.2) := by
  rw [caseAt_of_shapeAt, shapes_writeCases, hp]
  rfl

end Sys2Proof.Machine
end

