-- ==== Sys2Proof/Laws/Reset.lean ====
section
/-!
SUPPORT. Resets: what a chip reset leaves in the registers and in the rest of the state.
-/
namespace Sys2Proof.Machine

/-- ACTIVE is dropped in fault records alone. -/
theorem spGet_dropActive (m : Sparse Word) (k : Nat) (h : fltRecord k = false) :
    spGet resetWord (dropActive m) k = spGet resetWord m k := by
  unfold dropActive
  generalize hl : m.filter (fun e => fltRecord e.1 && (e.1 - Reg.FLT_SRC_STATUS 0) % 32 = 0) = l
  have hm : ∀ e ∈ l, e.1 ≠ k := by
    intro e he
    rw [← hl] at he
    have := (List.mem_filter.mp he).2
    simp only [Bool.and_eq_true] at this
    intro hk
    rw [hk, h] at this
    exact absurd this.1 (by simp)
  clear hl
  induction l generalizing m with
  | nil => rfl
  | cons e l ih =>
    rw [List.foldl_cons, ih _ (fun x hx => hm x (List.mem_cons_of_mem _ hx)),
      spGet_spSet_of_ne _ _ _ (fun hk => hm e List.mem_cons_self hk.symm)]

namespace State

/-! Chip reset. -/

/-- The Strongroom's incidents close and its export ends before the clear (R446, R448). -/
theorem regs_chipClear (s : State) (l : Bool) : (s.chipClear l).regs = dropActive (spKeep s.stgFwdOff.regs chipKept) := by
  cases l <;> rfl

/-- A register that a chip reset does not retain reads its reset value. -/
theorem rword_chipClear (s : State) (l : Bool) {a : Nat} (h : chipKept a = false) : (s.chipClear l).rword a = resetWord a := by
  unfold rword
  rw [regs_chipClear]
  have hk := h
  unfold chipKept at h
  simp only [Bool.or_eq_false_iff] at h
  rw [spGet_dropActive _ _ h.1.1.1.1.2, spGet_spKeep, hk]
  rfl

/-- A retained register outside the fault records is as the Strongroom leaves it. -/
theorem rword_chipClear_kept (s : State) (l : Bool) {a : Nat} (h : chipKept a = true) (hf : fltRecord a = false) :
    (s.chipClear l).rword a = s.stgFwdOff.rword a := by
  unfold rword
  rw [regs_chipClear, spGet_dropActive _ _ hf, spGet_spKeep, if_pos h]

/-- The marks of a chip reset lie in registers and one counter. -/
theorem core_chipMarks (s t : State) (c : Option Nat) :
    { t.chipMarks s c with regs := [], ctr := [] } = { t with regs := [], ctr := [] } := by
  cases c <;> rfl

theorem rword_chipMarks (s t : State) (c : Option Nat) {a : Nat} (h1 : a ≠ Reg.TOP_RESET_CAUSE) (h2 : a ≠ Reg.TOP_STATE)
    (h3 : a ≠ Reg.SEC_STATUS) (h4 : a ≠ Reg.PAIR_STATUS) (h5 : a ≠ Reg.PWR_STATUS) : (t.chipMarks s c).rword a = t.rword a := by
  unfold chipMarks
  cases c <;> dsimp only
  · rw [rword_wf_of_ne _ _ _ h1, rword_wf_of_ne _ _ _ h2, rword_wf_of_ne _ _ _ h4, rword_wf_of_ne _ _ _ h5,
      rword_wf_of_ne _ _ _ h5, rword_wf_of_ne _ _ _ h3, rword_wf_of_ne _ _ _ h3]
  · show (wf _ _ _).rword a = _
    rw [rword_wf_of_ne _ _ _ h1, rword_wf_of_ne _ _ _ h1, rword_wf_of_ne _ _ _ h2, rword_wf_of_ne _ _ _ h4,
      rword_wf_of_ne _ _ _ h5, rword_wf_of_ne _ _ _ h5, rword_wf_of_ne _ _ _ h3, rword_wf_of_ne _ _ _ h3]

/-- TOP_STATE but for PREV_PWR. -/
theorem rf_chipMarks_top (s t : State) (c : Option Nat) (f : Fld) (hf : f.addr = Reg.TOP_STATE)
    (hd : f.lo + f.width ≤ 4 ∨ 7 ≤ f.lo) : (t.chipMarks s c).rf f = t.rf f := by
  have h1 : f.addr ≠ Reg.TOP_RESET_CAUSE ∧ f.addr ≠ Reg.SEC_STATUS ∧ f.addr ≠ Reg.PAIR_STATUS ∧ f.addr ≠ Reg.PWR_STATUS := by
    rw [hf]
    decide
  have hp : f.addr ≠ (Fld.TOP_STATE_PREV_PWR).addr ∨ f.lo + f.width ≤ (Fld.TOP_STATE_PREV_PWR).lo ∨
      (Fld.TOP_STATE_PREV_PWR).lo + (Fld.TOP_STATE_PREV_PWR).width ≤ f.lo := .inr hd
  unfold chipMarks
  cases c <;> dsimp only
  · rw [rf_wf_of_ne _ _ _ _ (.inl h1.1), rf_wf_of_ne _ _ _ _ hp, rf_wf_of_ne _ _ _ _ (.inl h1.2.2.1),
      rf_wf_of_ne _ _ _ _ (.inl h1.2.2.2), rf_wf_of_ne _ _ _ _ (.inl h1.2.2.2), rf_wf_of_ne _ _ _ _ (.inl h1.2.1),
      rf_wf_of_ne _ _ _ _ (.inl h1.2.1)]
  · show (wf _ _ _).rf f = _
    rw [rf_wf_of_ne _ _ _ _ (.inl h1.1), rf_wf_of_ne _ _ _ _ (.inl h1.1), rf_wf_of_ne _ _ _ _ hp,
      rf_wf_of_ne _ _ _ _ (.inl h1.2.2.1), rf_wf_of_ne _ _ _ _ (.inl h1.2.2.2), rf_wf_of_ne _ _ _ _ (.inl h1.2.2.2),
      rf_wf_of_ne _ _ _ _ (.inl h1.2.1), rf_wf_of_ne _ _ _ _ (.inl h1.2.1)]

/-! Cold reset. -/

/-- A pending fuse write is settled in the fuses alone. -/
theorem core_fuseSettle (s : State) : { s.fuseSettle with draws := 0, sec := s.sec } = { s with draws := 0 } := by
  unfold fuseSettle
  cases s.sec.blowing <;> rfl

theorem fuse_fuseSettle (s : State) (h : s.sec.blowing = none) : s.fuseSettle = s := by
  unfold fuseSettle
  rw [h]

theorem regs_coldClear (s : State) (w : Bool) :
    (s.coldClear w).regs = spKeep s.regs (fun a => w && (odoReg a || wakeReg a)) := by
  have h := congrArg State.regs (core_fuseSettle (s.afresh (fun a => w && (odoReg a || wakeReg a)) (fun _ => false)))
  cases w <;> exact h

/-- After causes other than the exit from SLEEP-D every register reads its reset value. -/
theorem rword_coldClear (s : State) (a : Nat) : (s.coldClear false).rword a = resetWord a := by
  unfold rword
  rw [regs_coldClear, spGet_spKeep]
  rfl

theorem porst_coldClear (s : State) (w : Bool) : (s.coldClear w).pwr.porst = true := by
  have h := congrArg (fun u => u.pwr.porst) (core_fuseSettle (s.afresh (fun a => w && (odoReg a || wakeReg a)) (fun _ => false)))
  cases w <;> exact h

theorem tableOk_coldClear (s : State) (w : Bool) : (s.coldClear w).pwr.tableOk = false := by
  have h := congrArg (fun u => u.pwr.tableOk) (core_fuseSettle (s.afresh (fun a => w && (odoReg a || wakeReg a)) (fun _ => false)))
  cases w <;> exact h

theorem frames_coldClear (s : State) (w : Bool) : (s.coldClear w).frames = [] := by
  have h := congrArg State.frames (core_fuseSettle (s.afresh (fun a => w && (odoReg a || wakeReg a)) (fun _ => false)))
  cases w <;> exact h

theorem cells_coldClear (s : State) (w : Bool) : (s.coldClear w).dram.cells = [] := by
  cases w <;> rfl

theorem fuse_coldClear (s : State) (w : Bool) (h : s.sec.blowing = none) : (s.coldClear w).sec.fuse = s.sec.fuse := by
  have h1 := fuse_fuseSettle (s.afresh (fun a => w && (odoReg a || wakeReg a)) (fun _ => false)) h
  unfold coldClear
  dsimp only
  rw [h1]
  cases w <;> rfl

theorem odo_coldClear (s : State) (w : Bool) : (s.coldClear w).tim.odo = if w then s.tim.odo else 0 := by
  have h := congrArg (fun u => u.tim.odo) (core_fuseSettle (s.afresh (fun a => w && (odoReg a || wakeReg a)) (fun _ => false)))
  cases w
  · exact h
  · rfl

end State

end Sys2Proof.Machine
end

