-- ==== Sys2Proof/Laws/Access.lean ====
section
/-!
SUPPORT. Register accesses: the rows of the register map, what a write and a read of a register leave, and the pending slots of
fault sources.
-/
namespace Sys2Proof.Machine

def allRowLists : List (List RegRow) := [regRowsTOP, regRowsPWR, regRowsBOOT, regRowsSEC, regRowsCCX, regRowsFLT, regRowsPAIR,
  regRowsTIM0, regRowsTIM1, regRowsGAT0, regRowsGAT1, regRowsMAC, regRowsPHY, regRowsRAK, regRowsCLS, regRowsFWL, regRowsSWC0,
  regRowsSWC1, regRowsSTM, regRowsSCH, regRowsCPH, regRowsGWE, regRowsHAT, regRowsBRG, regRowsSTG, regRowsMGT]

def rowFieldsOk (r : RegRow) : Bool :=
  decide (r.fields.Pairwise (fun f g => f.lo + f.width ≤ g.lo ∨ g.lo + g.width ≤ f.lo)) && r.fields.all (fun f => f.lo + f.width ≤ 32)

theorem row_mem (a : Nat) (r : RegRow) (h : regRowAt a = some r) : (∃ l ∈ allRowLists, r ∈ l) ∧ r.has a = true := by
  unfold regRowAt at h
  refine ⟨?_, by simpa using List.find?_some h⟩
  have hm := List.mem_of_find?_eq_some h
  unfold regRowsNear at hm
  by_cases h0 : a < 0x10000
  · rw [if_pos h0] at hm
    exact ⟨regRowsTOP, by simp [allRowLists], hm⟩
  rw [if_neg h0] at hm
  by_cases h1 : a < 0x20000
  · rw [if_pos h1] at hm
    exact ⟨regRowsPWR, by simp [allRowLists], hm⟩
  rw [if_neg h1] at hm
  by_cases h2 : a < 0x30000
  · rw [if_pos h2] at hm
    exact ⟨regRowsBOOT, by simp [allRowLists], hm⟩
  rw [if_neg h2] at hm
  by_cases h3 : a < 0x40000
  · rw [if_pos h3] at hm
    exact ⟨regRowsSEC, by simp [allRowLists], hm⟩
  rw [if_neg h3] at hm
  by_cases h4 : a < 0x50000
  · rw [if_pos h4] at hm
    exact ⟨regRowsCCX, by simp [allRowLists], hm⟩
  rw [if_neg h4] at hm
  by_cases h5 : a < 0x60000
  · rw [if_pos h5] at hm
    exact ⟨regRowsFLT, by simp [allRowLists], hm⟩
  rw [if_neg h5] at hm
  by_cases h6 : a < 0x70000
  · rw [if_pos h6] at hm
    exact ⟨regRowsPAIR, by simp [allRowLists], hm⟩
  rw [if_neg h6] at hm
  by_cases h7 : a < 0x80000
  · rw [if_pos h7] at hm
    rcases List.mem_append.mp hm with hm | hm
    · exact ⟨regRowsTIM0, by simp [allRowLists], hm⟩
    · exact ⟨regRowsTIM1, by simp [allRowLists], hm⟩
  rw [if_neg h7] at hm
  by_cases h8 : a < 0x100000
  · rw [if_pos h8] at hm
    rcases List.mem_append.mp hm with hm | hm
    · exact ⟨regRowsGAT0, by simp [allRowLists], hm⟩
    · exact ⟨regRowsGAT1, by simp [allRowLists], hm⟩
  rw [if_neg h8] at hm
  by_cases h9 : a < 0x140000
  · rw [if_pos h9] at hm
    exact ⟨regRowsMAC, by simp [allRowLists], hm⟩
  rw [if_neg h9] at hm
  by_cases h10 : a < 0x180000
  · rw [if_pos h10] at hm
    exact ⟨regRowsPHY, by simp [allRowLists], hm⟩
  rw [if_neg h10] at hm
  by_cases h11 : a < 0x190000
  · rw [if_pos h11] at hm
    exact ⟨regRowsRAK, by simp [allRowLists], hm⟩
  rw [if_neg h11] at hm
  by_cases h12 : a < 0x1a0000
  · rw [if_pos h12] at hm
    exact ⟨regRowsCLS, by simp [allRowLists], hm⟩
  rw [if_neg h12] at hm
  by_cases h13 : a < 0x200000
  · rw [if_pos h13] at hm
    exact ⟨regRowsFWL, by simp [allRowLists], hm⟩
  rw [if_neg h13] at hm
  by_cases h14 : a < 0x240000
  · rw [if_pos h14] at hm
    rcases List.mem_append.mp hm with hm | hm
    · exact ⟨regRowsSWC0, by simp [allRowLists], hm⟩
    · exact ⟨regRowsSWC1, by simp [allRowLists], hm⟩
  rw [if_neg h14] at hm
  by_cases h15 : a < 0x280000
  · rw [if_pos h15] at hm
    exact ⟨regRowsSTM, by simp [allRowLists], hm⟩
  rw [if_neg h15] at hm
  by_cases h16 : a < 0x2c0000
  · rw [if_pos h16] at hm
    exact ⟨regRowsSCH, by simp [allRowLists], hm⟩
  rw [if_neg h16] at hm
  by_cases h17 : a < 0x300000
  · rw [if_pos h17] at hm
    exact ⟨regRowsCPH, by simp [allRowLists], hm⟩
  rw [if_neg h17] at hm
  by_cases h18 : a < 0x340000
  · rw [if_pos h18] at hm
    exact ⟨regRowsGWE, by simp [allRowLists], hm⟩
  rw [if_neg h18] at hm
  by_cases h19 : a < 0x380000
  · rw [if_pos h19] at hm
    exact ⟨regRowsHAT, by simp [allRowLists], hm⟩
  rw [if_neg h19] at hm
  by_cases h20 : a < 0x3c0000
  · rw [if_pos h20] at hm
    exact ⟨regRowsBRG, by simp [allRowLists], hm⟩
  rw [if_neg h20] at hm
  by_cases h21 : a < 0x400000
  · rw [if_pos h21] at hm
    exact ⟨regRowsSTG, by simp [allRowLists], hm⟩
  rw [if_neg h21] at hm
  by_cases h22 : a < 0x440000
  · rw [if_pos h22] at hm
    exact ⟨regRowsMGT, by simp [allRowLists], hm⟩
  rw [if_neg h22] at hm
  exact absurd hm (by simp)

theorem all_rows_ok : allRowLists.all (fun l => l.all rowFieldsOk) = true := by decide +kernel

theorem rows_disjoint (a : Nat) (r : RegRow) (h : regRowAt a = some r) :
    r.fields.Pairwise (fun f g => f.lo + f.width ≤ g.lo ∨ g.lo + g.width ≤ f.lo) ∧ ∀ f ∈ r.fields, f.lo + f.width ≤ 32 := by
  obtain ⟨⟨l, hl, hr⟩, _⟩ := row_mem a r h
  have h1 := List.all_eq_true.mp all_rows_ok l hl
  have h2 := List.all_eq_true.mp h1 r hr
  unfold rowFieldsOk at h2
  simpa using h2

/-- bits of the field after one field's step. -/
theorem step_other (f g : FieldRow) (lock : Bool) (old w : Word) (acc : Word × Bool)
    (h : g.lo + g.width ≤ f.lo ∨ f.lo + f.width ≤ g.lo) :
    fldGet (f.next lock old w acc).1 g.lo g.width = fldGet acc.1 g.lo g.width := by
  have hm : ∀ (x y : Word), fldGet (x &&& ~~~(fldMask f.lo f.width &&& y)) g.lo g.width = fldGet x g.lo g.width := by
    intro x y
    apply Nat.eq_of_testBit_eq
    intro i
    rw [testBit_fldGet, testBit_fldGet]
    by_cases hi : i < g.width
    · by_cases h1 : g.lo + i < 32
      · have h2 : (decide (f.lo ≤ g.lo + i) && decide (g.lo + i < f.lo + f.width)) = false := by
          simp; omega
        simp only [BitVec.getLsbD_and, BitVec.getLsbD_not, getLsbD_fldMask _ _ _ h1, h2, h1]
        simp
      · rw [BitVec.getLsbD_of_ge _ _ (by omega), BitVec.getLsbD_of_ge _ _ (by omega)]
    · simp [hi]
  have ho : ∀ (x y : Word), fldGet (x ||| (fldMask f.lo f.width &&& y)) g.lo g.width = fldGet x g.lo g.width := by
    intro x y
    apply Nat.eq_of_testBit_eq
    intro i
    rw [testBit_fldGet, testBit_fldGet]
    by_cases hi : i < g.width
    · by_cases h1 : g.lo + i < 32
      · have h2 : (decide (f.lo ≤ g.lo + i) && decide (g.lo + i < f.lo + f.width)) = false := by
          simp; omega
        simp only [BitVec.getLsbD_or, BitVec.getLsbD_and, getLsbD_fldMask _ _ _ h1, h2]
        simp
      · rw [BitVec.getLsbD_of_ge _ _ (by omega), BitVec.getLsbD_of_ge _ _ (by omega)]
    · simp [hi]
  unfold FieldRow.next
  cases f.acc <;> try simp only [hm, ho]
  case rw => exact fldGet_fldSet_of_disjoint _ _ _ _ _ _ h
  case wo => exact fldGet_fldSet_of_disjoint _ _ _ _ _ _ h
  case lk => split <;> first | rfl | exact fldGet_fldSet_of_disjoint _ _ _ _ _ _ h

theorem fold_other (l : List FieldRow) (g : FieldRow) (lock : Bool) (old w : Word) (acc : Word × Bool)
    (h : ∀ f ∈ l, g.lo + g.width ≤ f.lo ∨ f.lo + f.width ≤ g.lo) :
    fldGet (l.foldl (fun acc f => f.next lock old w acc) acc).1 g.lo g.width = fldGet acc.1 g.lo g.width := by
  induction l generalizing acc with
  | nil => rfl
  | cons f l ih =>
    rw [List.foldl_cons, ih _ (fun x hx => h x (List.mem_cons_of_mem _ hx)), step_other _ _ _ _ _ _ (h f List.mem_cons_self)]

theorem fldGet_mask (x y : Word) (lo width : Nat) (h : lo + width ≤ 32) :
    fldGet (x &&& ~~~(fldMask lo width &&& y)) lo width = fldGet (x &&& ~~~y) lo width ∧
    fldGet (x ||| (fldMask lo width &&& y)) lo width = fldGet (x ||| y) lo width := by
  constructor <;>
  · apply Nat.eq_of_testBit_eq
    intro i
    rw [testBit_fldGet, testBit_fldGet]
    by_cases hi : i < width
    · have h1 : lo + i < 32 := by omega
      have h2 : (decide (lo ≤ lo + i) && decide (lo + i < lo + width)) = true := by simp; omega
      simp only [BitVec.getLsbD_or, BitVec.getLsbD_and, BitVec.getLsbD_not, getLsbD_fldMask _ _ _ h1, h2, h1]
      simp
    · simp [hi]

theorem fldGet_and_congr (x y z : Word) (lo width : Nat) (h : fldGet x lo width = fldGet y lo width) :
    fldGet (x &&& z) lo width = fldGet (y &&& z) lo width ∧ fldGet (x ||| z) lo width = fldGet (y ||| z) lo width := by
  constructor <;>
  · apply Nat.eq_of_testBit_eq
    intro i
    have hb := congrArg (fun n => n.testBit i) h
    simp only [testBit_fldGet] at hb
    rw [testBit_fldGet, testBit_fldGet]
    by_cases hi : i < width
    · simp only [hi, decide_true, Bool.true_and] at hb
      simp only [BitVec.getLsbD_or, BitVec.getLsbD_and, hb]
    · simp [hi]

theorem next_field_aux (l : List FieldRow) (lock : Bool) (old w : Word) (acc : Word × Bool) (f : FieldRow) (hf : f ∈ l)
    (hd : l.Pairwise (fun f g => f.lo + f.width ≤ g.lo ∨ g.lo + g.width ≤ f.lo)) (hw : ∀ f ∈ l, f.lo + f.width ≤ 32)
    (ha : fldGet acc.1 f.lo f.width = fldGet old f.lo f.width) :
    fldGet (l.foldl (fun acc f => f.next lock old w acc) acc).1 f.lo f.width =
      match f.acc with
      | .rw | .wo => fldGet w f.lo f.width
      | .ro | .rc => fldGet old f.lo f.width
      | .w1c => fldGet (old &&& ~~~w) f.lo f.width
      | .w1s => fldGet (old ||| w) f.lo f.width
      | .lk => if lock then fldGet old f.lo f.width else fldGet w f.lo f.width := by
  induction l generalizing acc with
  | nil => simp at hf
  | cons g l ih =>
    rw [List.pairwise_cons] at hd
    rw [List.foldl_cons]
    by_cases hgf : f = g
    · subst hgf
      rw [fold_other l f _ _ _ _ (fun x hx => by have := hd.1 x hx; omega)]
      have hw' := hw f List.mem_cons_self
      have hlt : fldGet w f.lo f.width % 2 ^ f.width = fldGet w f.lo f.width := Nat.mod_eq_of_lt (fldGet_lt _ _ _)
      unfold FieldRow.next
      cases f.acc <;> dsimp only
      · rw [fldGet_fldSet_self _ _ _ _ hw', hlt]
      · exact ha
      · rw [fldGet_fldSet_self _ _ _ _ hw', hlt]
      · rw [(fldGet_mask _ _ _ _ hw').1, (fldGet_and_congr _ _ _ _ _ ha).1]
      · rw [(fldGet_mask _ _ _ _ hw').2, (fldGet_and_congr _ _ _ _ _ ha).2]
      · exact ha
      · split
        · exact ha
        · rw [fldGet_fldSet_self _ _ _ _ hw', hlt]
    · have hfl : f ∈ l := by simpa [hgf] using hf
      apply ih _ hfl hd.2 (fun x hx => hw x (List.mem_cons_of_mem _ hx))
      rw [step_other _ _ _ _ _ _ (by have := hd.1 f hfl; omega)]
      exact ha

theorem next_field (r : RegRow) (lock : Bool) (old w : Word) (f : FieldRow) (hf : f ∈ r.fields)
    (hd : r.fields.Pairwise (fun f g => f.lo + f.width ≤ g.lo ∨ g.lo + g.width ≤ f.lo)) (hw : ∀ f ∈ r.fields, f.lo + f.width ≤ 32) :
    fldGet (r.next lock old w).1 f.lo f.width =
      match f.acc with
      | .rw | .wo => fldGet w f.lo f.width
      | .ro | .rc => fldGet old f.lo f.width
      | .w1c => fldGet (old &&& ~~~w) f.lo f.width
      | .w1s => fldGet (old ||| w) f.lo f.width
      | .lk => if lock then fldGet old f.lo f.width else fldGet w f.lo f.width :=
  next_field_aux r.fields lock old w (old, false) f hf hd hw rfl

theorem next_lock_aux (l : List FieldRow) (lock : Bool) (old w : Word) (acc : Word × Bool) :
    (l.foldl (fun acc f => f.next lock old w acc) acc).2 = true ↔
      acc.2 = true ∨ (lock = true ∧ ∃ f ∈ l, f.acc = .lk ∧ fldGet w f.lo f.width ≠ fldGet old f.lo f.width) := by
  induction l generalizing acc with
  | nil => simp
  | cons g l ih =>
    rw [List.foldl_cons, ih]
    have key : (g.next lock old w acc).2 = true ↔ acc.2 = true ∨ (lock = true ∧ g.acc = .lk ∧ fldGet w g.lo g.width ≠ fldGet old g.lo g.width) := by
      unfold FieldRow.next
      cases hacc : g.acc <;> simp
      cases lock <;> simp
    rw [key]
    simp only [List.mem_cons, exists_eq_or_imp]
    constructor
    · rintro ((h | ⟨h1, h2⟩) | ⟨h1, h2⟩)
      · exact .inl h
      · exact .inr ⟨h1, .inl h2⟩
      · exact .inr ⟨h1, .inr h2⟩
    · rintro (h | ⟨h1, h2 | h2⟩)
      · exact .inl (.inl h)
      · exact .inl (.inr ⟨h1, h2⟩)
      · exact .inr ⟨h1, h2⟩

theorem next_lock (r : RegRow) (lock : Bool) (old w : Word) :
    (r.next lock old w).2 = true ↔ lock = true ∧ ∃ f ∈ r.fields, f.acc = .lk ∧ fldGet w f.lo f.width ≠ fldGet old f.lo f.width := by
  unfold RegRow.next
  rw [next_lock_aux]
  simp

theorem slot_setSlot (s : State) (n k : Nat) (x : Option Slot) : (s.setSlot n x).slot k = if k = n then x else s.slot k := by
  unfold State.setSlot State.slot
  exact spGet_spSet _ _ _ _ _
theorem slot_notify (s : State) (n kind : Nat) :
    (s.notify n kind).slot n = some (Slot.event (s.slot n) kind (Config.free s.draws) s.now) := by
  unfold State.notify State.report State.draw
  rw [slot_setSlot, if_pos rfl]
  rfl
theorem slot_refuse (s : State) (n kind : Nat) :
    (s.refuse n kind).slot n = some (Slot.event (s.slot n) kind (Config.free s.draws) s.now) := slot_notify s n kind
theorem slot_report (s : State) (n kind a : Nat) :
    (s.report n kind a).slot n = some (Slot.event (s.slot n) kind a s.now) := by
  unfold State.report
  rw [slot_setSlot, if_pos rfl]

def plainRead (a : Nat) : Bool := regSpace a && a % 4 = 0 && !actsOnRead a && !latchedReg a &&
  (caseAt ([one Reg.TIM_WC_TIME_NS (), one (Reg.TIM_DOM_TIME_NS 0) (), one (Reg.TIM_DOM_TIME_NS 1) (), one Reg.TIM_ODO_D48_LO (),
    one Reg.CCX_CKPT_TIME_LO (), one (Reg.PWR_WAKE_D48 0) (), ⟨Reg.FLT_SRC_FIRST_TIME_LO 0, 32, 768, fun _ => ()⟩,
    ⟨Reg.FLT_SRC_LAST_TIME_LO 0, 32, 768, fun _ => ()⟩]) a).isNone && (arrayAt (Reg.FLT_SRC_STATUS 0) 4 6144 a).isNone

theorem rc_rows : allRowLists.all (fun l => l.all (fun r => r.maskOf .rc = 0 || (0 < r.stride &&
    (List.range r.count).all (fun k => plainRead (r.base + k * r.stride))))) = true := by decide +kernel

theorem rc_plain (a : Nat) (r : RegRow) (h : regRowAt a = some r) (hrc : r.maskOf .rc ≠ 0) : plainRead a = true := by
  obtain ⟨⟨l, hl, hr⟩, ha⟩ := row_mem a r h
  have h1 := List.all_eq_true.mp rc_rows l hl
  have h2 := List.all_eq_true.mp h1 r hr
  simp only [hrc, decide_false, Bool.false_or, Bool.and_eq_true, decide_eq_true_eq, List.all_eq_true, List.mem_range] at h2
  unfold RegRow.has at ha
  simp only [Bool.and_eq_true, decide_eq_true_eq, beq_iff_eq] at ha
  have h3 := h2.2 _ ha.2
  have h4 : r.base + (a - r.base) / r.stride * r.stride = a := by
    have := Nat.div_add_mod (a - r.base) r.stride
    rw [Nat.mul_comm] at this
    omega
  rwa [h4] at h3

theorem latchOf_plain (s : State) (a : Nat) (h : plainRead a = true) : s.latchOf a = [] := by
  unfold plainRead at h
  simp only [Bool.and_eq_true] at h
  have h1 := h.1.2
  unfold State.latchOf
  have key : (caseAt ([one Reg.TIM_WC_TIME_NS (), one (Reg.TIM_DOM_TIME_NS 0) (), one (Reg.TIM_DOM_TIME_NS 1) (), one Reg.TIM_ODO_D48_LO (),
    one Reg.CCX_CKPT_TIME_LO (), one (Reg.PWR_WAKE_D48 0) (), ⟨Reg.FLT_SRC_FIRST_TIME_LO 0, 32, 768, fun _ => ()⟩,
    ⟨Reg.FLT_SRC_LAST_TIME_LO 0, 32, 768, fun _ => ()⟩]) a).isSome = false := by
    simpa using h1
  rw [caseAt_isSome] at key
  have : ∀ o : Option (List (Nat × Word)), o.isSome = false → o.getD [] = [] := by intro o ho; cases o <;> simp_all
  apply this
  rw [caseAt_isSome]
  exact key

theorem readCmd_next (s : State) {q : Sender} {a : Nat} (h : s.readable q a) (hr : regSpace a = true) (h4 : a % 4 = 0) :
    s.readCmd q a = .next (s.after (((s.regRead q.req a).2.2.inbound q.req 0).emit (.readData (s.regRead q.req a).1 (s.regRead q.req a).2.1))) := by
  obtain ⟨hw, hm, ho⟩ := h
  unfold State.readCmd
  rw [State.acting_of _ _ hw]
  have : s.busRead q.req a = s.regRead q.req a := by
    unfold State.busRead
    simp [hm, ho, hr, h4]
  simp only [this]

theorem maskOf_field (l : List FieldRow) (m : Word) (i : Nat) (hi : i < 32) (acc : Acc) :
    (l.foldl (fun m f => if f.acc = acc then m ||| fldMask f.lo f.width else m) m).getLsbD i =
      (m.getLsbD i || l.any (fun f => f.acc = acc && decide (f.lo ≤ i) && decide (i < f.lo + f.width))) := by
  induction l generalizing m with
  | nil => simp
  | cons f l ih =>
    rw [List.foldl_cons, ih, List.any_cons]
    by_cases hf : f.acc = acc
    · simp [hf, getLsbD_fldMask _ _ _ hi, Bool.or_assoc]
    · simp [hf]

theorem pairwise_ne {α : Type} {R : α → α → Prop} (hs : ∀ x y, R x y → R y x) (l : List α) (h : l.Pairwise R) {a b : α} (ha : a ∈ l)
    (hb : b ∈ l) (hne : a ≠ b) : R a b := by
  induction l with
  | nil => simp at ha
  | cons x l ih =>
    rw [List.pairwise_cons] at h
    rcases List.mem_cons.mp ha with ha1 | ha1
    · rcases List.mem_cons.mp hb with hb1 | hb1
      · exact absurd (ha1.trans hb1.symm) hne
      · exact ha1 ▸ h.1 _ hb1
    · rcases List.mem_cons.mp hb with hb1 | hb1
      · exact hs _ _ (hb1 ▸ h.1 _ ha1)
      · exact ih h.2 ha1 hb1

theorem fldGet_clear (r : RegRow) (a : Nat) (old : Word) (f : FieldRow) (hrow : regRowAt a = some r) (hf : f ∈ r.fields) :
    fldGet (old &&& ~~~(r.maskOf .rc)) f.lo f.width = if f.acc = .rc then 0 else fldGet old f.lo f.width := by
  obtain ⟨hd, hw⟩ := rows_disjoint a r hrow
  have hw' := hw f hf
  apply Nat.eq_of_testBit_eq
  intro i
  rw [testBit_fldGet]
  by_cases hi : i < f.width
  · have h1 : f.lo + i < 32 := by omega
    have hany : (r.fields.any (fun g => g.acc = .rc && decide (g.lo ≤ f.lo + i) && decide (f.lo + i < g.lo + g.width))) = decide (f.acc = .rc) := by
      by_cases hrc : f.acc = .rc
      · simp only [hrc, decide_true]
        rw [List.any_eq_true]
        exact ⟨f, hf, by simp [hrc]; omega⟩
      · simp only [hrc, decide_false]
        rw [List.any_eq_false]
        intro g hg
        simp only [Bool.and_eq_true, decide_eq_true_eq, not_and]
        intro hg1 
        have hne : g ≠ f := fun e => hrc (e ▸ hg1.1)
        have := pairwise_ne (fun x y h => by omega) _ hd hg hf hne
        omega
    unfold RegRow.maskOf
    simp only [BitVec.getLsbD_and, BitVec.getLsbD_not, h1, maskOf_field _ _ _ h1, hany, hi, decide_true, Bool.true_and]
    by_cases hrc : f.acc = .rc
    · simp [hrc]
    · simp [hrc, testBit_fldGet, hi]
  · by_cases hrc : f.acc = .rc
    · simp [hrc, hi]
    · simp [hrc, testBit_fldGet, hi]

theorem ownerOf_unmapped (a : Nat) (h : mappedAddr a = false) : ownerOf a = none := by
  unfold mappedAddr at h
  simp only [Bool.or_eq_false_iff] at h
  unfold ownerOf
  simp only [h.1.1.1.2, h.1.1.2, h.1.2, Bool.false_eq_true, if_false]
  rw [List.find?_eq_none]
  intro b hb
  have h1 := h.1.1.1.1
  unfold regSpace at h1
  simp only [Bool.or_eq_false_iff, Bool.and_eq_false_iff, decide_eq_false_iff_not] at h1
  have hb' : b < 23 := List.mem_range.mp hb
  have h2 : ∀ b : Fin 23, (blockAt b).1 + (blockAt b).2 ≤ 0x90000 ∨ (0x100000 ≤ (blockAt b).1 ∧ (blockAt b).1 + (blockAt b).2 ≤ 0x1B0000) ∨
    (0x200000 ≤ (blockAt b).1 ∧ (blockAt b).1 + (blockAt b).2 ≤ 0x440000) := by decide
  have h3 := h2 ⟨b, hb'⟩
  unfold inBlock
  simp only [Bool.and_eq_true, decide_eq_true_eq]
  simp only at h3
  omega

theorem regAct (s : State) {q : Sender} {a : Nat} {w : Word} {aux : Nat} {e : State} (h : s.reaches q a) (hu : unlockedRow a = true)
    (hc : caseAt ((s.begun q.req).writeCases q.req w (s.written a w) aux) a = some e) : s.regCmd q a w aux = .next (s.did q a e) := by
  rw [State.regCmd_act s w aux h (hasRow_of_unlockedRow hu) (s.lockKept_of_unlockedRow w hu), hc]
  rfl

theorem and_full (w : Word) : w &&& ~~~(0 : Word) = w := by
  show w &&& BitVec.allOnes 32 = w
  exact BitVec.and_allOnes

theorem regActP (s : State) {q : Sender} {a : Nat} {w : Word} {aux : Nat} {e : State} {p : Nat × Nat} (h : s.reaches q a)
    (hu : unlockedRow a = true) (hp : shapeAt writeShapes a = some p)
    (he : (((s.begun q.req).writeCases q.req w (s.written a w) aux)[p.1]?).map (fun c => c.act p.2) = some e) :
    s.regCmd q a w aux = .next (s.did q a e) :=
  regAct s h hu (by rw [State.caseAt_writeCases _ _ _ _ _ _ hp, he])

/-- A command register written with its key does what its case does under the key. -/
theorem keyAct (s : State) {q : Sender} {a key v aux : Nat} {g : State → State} {p : Nat × Nat} (h : s.reaches q a)
    (hu : unlockedRow a = true) (hk : key < 65536) (hv : v < 65536) (hp : shapeAt writeShapes a = some p)
    (he : (((s.begun q.req).writeCases q.req (cmdWord key v) (s.written a (cmdWord key v)) aux)[p.1]?).map (fun c => c.act p.2) =
      some ((s.begun q.req).keyed (cmdWord key v) key g)) :
    s.keyCmd q a key v aux = .next (s.did q a (g (s.begun q.req))) := by
  unfold State.keyCmd
  rw [regActP s h hu hp he, State.keyed_of_key _ _ _ _ hk hv]

/-- A write that changes no locked field, at a register whose case is the one at position `p`. -/
theorem regActL (s : State) {q : Sender} {a : Nat} {w : Word} {aux : Nat} {e : State} {p : Nat × Nat} (h : s.reaches q a)
    (hr : hasRow a = true) (hl : s.lockKept a w = true) (hp : shapeAt writeShapes a = some p)
    (he : (((s.begun q.req).writeCases q.req w (s.written a w) aux)[p.1]?).map (fun c => c.act p.2) = some e) :
    s.regCmd q a w aux = .next (s.did q a e) := by
  rw [State.regCmd_act s w aux h hr hl, State.caseAt_writeCases _ _ _ _ _ _ hp, he]
  rfl

/-- The read case that holds an address, by its position. -/
theorem caseAt_readCases (s : State) (q : Requester) (a : Nat) {p : Nat × Nat} (hp : shapeAt readShapes a = some p) :
    caseAt (s.readCases q a) a = ((s.readCases q a)[p.1]?).map (fun c => c.act p.2) := by
  rw [caseAt_of_shapeAt, shapes_readCases, hp]
  rfl

theorem shapes_liveCases (s t : State) (v w : Word) : (s.liveCases v).map RegCase.shape = (t.liveCases w).map RegCase.shape := by
  simp only [State.liveCases, List.map_cons, List.map_nil, RegCase.shape, one]

theorem regShowP (s : State) {a : Nat} {p : Nat × Nat} (hp : shapeAt ((State.reset.liveCases 0).map RegCase.shape) a = some p) :
    s.regShow a = (((s.liveCases (s.rword a))[p.1]?).map (fun c => c.act p.2)).getD (s.rword a) := by
  unfold State.regShow
  rw [caseAt_of_shapeAt, shapes_liveCases s State.reset _ 0, hp]
  rfl

/-- A write of a register leaves a read-only field as it was (R8). -/
theorem kept_fld (s : State) (a : Nat) (w : Word) (lo width : Nat)
    (h : (regRowAt a).any (fun r => r.fields.any (fun f => decide (f.lo = lo) && decide (f.width = width) && (f.acc = .ro || f.acc = .rc))) = true) :
    fldGet (s.written a w) lo width = fldGet (s.rword a) lo width := by
  cases hr : regRowAt a with
  | none => rw [hr] at h; simp at h
  | some r =>
    rw [hr] at h
    simp only [Option.any_some, List.any_eq_true, Bool.and_eq_true, Bool.or_eq_true, decide_eq_true_eq] at h
    obtain ⟨f, hf, ⟨h1, h2⟩, h3⟩ := h
    obtain ⟨hd, hw⟩ := rows_disjoint a r hr
    have := next_field r s.committed (s.rword a) w f hf hd hw
    unfold State.written
    rw [hr]
    subst h1 h2
    rw [this]
    rcases h3 with h3 | h3 <;> rw [h3]


/-- A field that software writes freely takes the written value (R6). -/
theorem written_fld (s : State) (a : Nat) (w : Word) (lo width : Nat)
    (h : (regRowAt a).any (fun r => r.fields.any (fun f => decide (f.lo = lo) && decide (f.width = width) && (f.acc = .rw || f.acc = .wo))) = true) :
    fldGet (s.written a w) lo width = fldGet w lo width := by
  cases hr : regRowAt a with
  | none => rw [hr] at h; simp at h
  | some r =>
    rw [hr] at h
    simp only [Option.any_some, List.any_eq_true, Bool.and_eq_true, Bool.or_eq_true, decide_eq_true_eq] at h
    obtain ⟨f, hf, ⟨h1, h2⟩, h3⟩ := h
    obtain ⟨hd, hw⟩ := rows_disjoint a r hr
    have := next_field r s.committed (s.rword a) w f hf hd hw
    unfold State.written
    rw [hr]
    subst h1 h2
    rw [this]
    rcases h3 with h3 | h3 <;> rw [h3]

theorem reportFails_keeps (t : State) :
    t.reportFails.regs = t.regs ∧ t.reportFails.pwr.porst = t.pwr.porst ∧ t.reportFails.pwr.wake = t.pwr.wake := by
  have key : ∀ (l : List Nat) (u : State), (l.foldl (fun s _ => s.draw.2.notify 0x018 (1 + Config.free s.draw.1 % 19)) u).regs = u.regs ∧
      (l.foldl (fun s _ => s.draw.2.notify 0x018 (1 + Config.free s.draw.1 % 19)) u).pwr = u.pwr := by
    intro l
    induction l with
    | nil => intro u; exact ⟨rfl, rfl⟩
    | cons x l ih => intro u; exact ⟨(ih _).1.trans rfl, (ih _).2.trans rfl⟩
  have h1 := key (List.range t.pwr.unreported) t
  exact ⟨h1.1, (congrArg Pwr.porst h1.2 :), (congrArg Pwr.wake h1.2 :)⟩

end Sys2Proof.Machine
end

