-- ==== Sys2Proof/Laws/Memory.lean ====
section
/-!
SUPPORT. The addressed memories: every memory operation keeps the canonical form, a byte just written reads as written,
and every other byte as before.
-/
namespace Sys2Proof.Machine

/-! The canonical form. -/

theorem Memory.wf_nil {α : Type} [DecidableEq α] (d : Nat → α) : Memory.wf d [] = true := rfl

theorem Memory.wf_spSet {α : Type} [DecidableEq α] (d : Nat → α) (m : Sparse α) (k : Nat) (v : α) (h : Memory.wf d m = true) :
    Memory.wf d (spSet d m k v) = true := spWf_spSet d m k v h

theorem Memory.wf_spKeep {α : Type} [DecidableEq α] (d : Nat → α) (m : Sparse α) (p : Nat → Bool) (h : Memory.wf d m = true) :
    Memory.wf d (spKeep m p) = true := spWf_spKeep d m p h

/-- A memory laid out afresh from a list. -/
theorem Memory.wf_fill {α : Type} [DecidableEq α] (d : Nat → α) (l : List (α × Nat)) (m : Sparse α) (h : Memory.wf d m = true) :
    Memory.wf d (l.foldl (fun m e => spSet d m e.2 e.1) m) = true := by
  induction l generalizing m with
  | nil => exact h
  | cons e l ih => exact ih _ (Memory.wf_spSet d m e.2 e.1 h)

namespace State

theorem reset_memoriesWf : State.reset.memoriesWf = true := rfl

theorem wword_wf (s : State) (a : Nat) (w : Word) (h : Memory.wf resetWord s.regs = true) :
    Memory.wf resetWord (s.wword a w).regs = true := Memory.wf_spSet _ _ a w h

theorem wf_wf (s : State) (f : Fld) (v : Nat) (h : Memory.wf resetWord s.regs = true) :
    Memory.wf resetWord (s.wf f v).regs = true := wword_wf s _ _ h

/-! DRAM. -/

theorem dramPut_wf (s : State) (a : Nat) (b : Byte) (h : Memory.wf (fun _ => none) s.dram.cells = true) :
    Memory.wf (fun _ => none) (s.dramPut a b).dram.cells = true :=
  Memory.wf_spSet (fun _ => none) s.dram.cells a (some b) h

theorem dramPuts_wf (s : State) (a : Nat) (l : List Byte) (h : Memory.wf (fun _ => none) s.dram.cells = true) :
    Memory.wf (fun _ => none) (s.dramPuts a l).dram.cells = true := by
  induction l generalizing s a with
  | nil => exact h
  | cons b l ih => exact ih (s.dramPut a b) (a + 1) (dramPut_wf s a b h)

theorem dramLose_wf (s : State) : Memory.wf (fun _ => none) s.dramLose.dram.cells = true := rfl

theorem dramGet_dramPut (s : State) (a c : Nat) (b : Byte) :
    (s.dramPut a b).dramGet c = if c = a then b else s.dramGet c := by
  unfold dramGet dramPut
  simp only [spGet_spSet]
  by_cases h : c = a
  · simp [h]
  · simp [h]

/-- Outside the bytes written. -/
theorem dramGet_dramPuts_of_lt (s : State) (a c : Nat) (l : List Byte) (h : c < a ∨ a + l.length ≤ c) :
    (s.dramPuts a l).dramGet c = s.dramGet c := by
  induction l generalizing s a with
  | nil => rfl
  | cons b l ih =>
    have h1 : c < a + 1 ∨ a + 1 + l.length ≤ c := by simp only [List.length_cons] at h; omega
    have h2 : c ≠ a := by simp only [List.length_cons] at h; omega
    rw [dramPuts, ih _ _ h1, dramGet_dramPut, if_neg h2]

/-- The bytes written. -/
theorem dramGet_dramPuts (s : State) (a : Nat) (l : List Byte) (i : Nat) (h : i < l.length) :
    (s.dramPuts a l).dramGet (a + i) = l[i] := by
  induction l generalizing s a i with
  | nil => simp at h
  | cons b l ih =>
    cases i with
    | zero =>
      rw [dramPuts, dramGet_dramPuts_of_lt _ _ _ _ (Or.inl (by omega)), dramGet_dramPut]
      simp
    | succ i =>
      have hi : i < l.length := by simpa using h
      have he : a + (i + 1) = a + 1 + i := by omega
      rw [dramPuts, he, ih _ _ _ hi]
      rfl

/-! The Pantry. -/

theorem pantryPuts_wf (s : State) (a : Nat) (l : List Byte) (h : Memory.wf (fun _ => 0) s.gwe.pantry = true) :
    Memory.wf (fun _ => 0) (s.pantryPuts a l).gwe.pantry = true := by
  induction l generalizing s a with
  | nil => exact h
  | cons b l ih => exact ih _ (a + 1) (Memory.wf_spSet _ _ a b h)

theorem pantryByte_pantryPuts_of_lt (s : State) (a c : Nat) (l : List Byte) (h : c < a ∨ a + l.length ≤ c) :
    (s.pantryPuts a l).pantryByte c = s.pantryByte c := by
  induction l generalizing s a with
  | nil => rfl
  | cons b l ih =>
    have h1 : c < a + 1 ∨ a + 1 + l.length ≤ c := by simp only [List.length_cons] at h; omega
    have h2 : c ≠ a := by simp only [List.length_cons] at h; omega
    rw [pantryPuts, ih _ _ h1]
    exact spGet_spSet_of_ne _ _ _ h2

theorem pantryByte_pantryPuts (s : State) (a : Nat) (l : List Byte) (i : Nat) (h : i < l.length) :
    (s.pantryPuts a l).pantryByte (a + i) = l[i] := by
  induction l generalizing s a i with
  | nil => simp at h
  | cons b l ih =>
    cases i with
    | zero =>
      rw [pantryPuts, pantryByte_pantryPuts_of_lt _ _ _ _ (Or.inl (by omega))]
      exact spGet_spSet_self _ _ _ _
    | succ i =>
      have hi : i < l.length := by simpa using h
      have he : a + (i + 1) = a + 1 + i := by omega
      rw [pantryPuts, he, ih _ _ _ hi]
      rfl

/-! Tree memory, the output buffer and the program store. -/

theorem treePut_wf (s : State) (w v : Nat) (h : Memory.wf (fun _ => 0) s.cls.tree = true) :
    Memory.wf (fun _ => 0) (s.treePut w v).cls.tree = true := Memory.wf_spSet _ _ w _ h

theorem treeWord_treePut (s : State) (w v j : Nat) :
    (s.treePut w v).treeWord j = if j = w then v % 2 ^ 64 else s.treeWord j := by
  unfold treeWord treePut
  simp only [spGet_spSet]
  split
  · exact BitVec.toNat_ofNat v 64
  · rfl

theorem putOut_wf (s : State) (a : Nat) (l : List Byte) (h : Memory.wf (fun _ => 0) s.gwe.obuf = true) :
    Memory.wf (fun _ => 0) (s.putOut a l).gwe.obuf = true := by
  induction l generalizing s a with
  | nil => exact h
  | cons b l ih => exact ih _ (a + 1) (Memory.wf_spSet _ _ a b h)

theorem applyProg_wf (s : State) (p : List Byte) (h : Memory.wf (fun _ => 0) s.rak.store = true) :
    Memory.wf (fun _ => 0) (s.applyProg p).2.rak.store = true := by
  unfold applyProg
  split
  · exact h
  · exact Memory.wf_fill (fun _ => 0) _ [] rfl

end State

end Sys2Proof.Machine
end

