-- ==== Sys2Proof/Laws/Ops.lean ====
section
/-!
SUPPORT. The shared operations that report faults and drive levels: what each leaves in the registers, in the counters and in the
pending slots.
-/
namespace Sys2Proof.Machine

/-- A bit just set. -/
theorem bitAt_maskSet_self (m n : Nat) (b : Bool) : bitAt (maskSet m n b) n = b := by
  have hp : 0 < 2 ^ n := Nat.two_pow_pos n
  unfold maskSet
  by_cases h : bitAt m n = b
  · rw [if_pos (by simp [h]), h]
  · rw [if_neg (by simpa using h)]
    cases b
    · have h1 : m / 2 ^ n % 2 = 1 := by simpa [bitAt] using h
      have h2 : (m - 2 ^ n) / 2 ^ n = m / 2 ^ n - 1 := by
        have := Nat.sub_mul_div m (2 ^ n) 1
        simpa using this
      have h3 : (m - 2 ^ n) / 2 ^ n % 2 = 0 := by omega
      show ((m - 2 ^ n) / 2 ^ n % 2 == 1) = false
      rw [h3]
      rfl
    · have h1 : ¬ m / 2 ^ n % 2 = 1 := by simpa [bitAt] using h
      have h2 : (m + 2 ^ n) / 2 ^ n = m / 2 ^ n + 1 := Nat.add_div_right m hp
      have h3 : (m + 2 ^ n) / 2 ^ n % 2 = 1 := by omega
      show ((m + 2 ^ n) / 2 ^ n % 2 == 1) = true
      rw [h3]
      rfl

end Sys2Proof.Machine

namespace Sys2Proof.Machine.State

variable (s : State)

/-! Registers and counters. -/

/-- A rise touches the fault collector alone. -/
theorem core_raiseAt (n k a : Nat) : { s.raiseAt n k a with flt := s.flt } = s := by unfold raiseAt; split <;> rfl

theorem core_raise (n k : Nat) : { s.raise n k with flt := s.flt, draws := s.draws } = s := by
  unfold raise
  split
  · rfl
  · have h := congrArg (fun u : State => { u with draws := s.draws }) (core_raiseAt s.draw.2 n k (Config.free s.draws))
    exact h

@[simp] theorem regs_raiseAt (n k a : Nat) : (s.raiseAt n k a).regs = s.regs := by
  have h := congrArg State.regs (s.core_raiseAt n k a); exact h
@[simp] theorem regs_raise (n k : Nat) : (s.raise n k).regs = s.regs := by have h := congrArg State.regs (s.core_raise n k); exact h
@[simp] theorem regs_lower (n : Nat) : (s.lower n).regs = s.regs := by unfold lower; split <;> rfl
@[simp] theorem regs_rail (n : Nat) (b : Bool) : (s.rail n b).regs = s.regs := by unfold rail; dsimp only; split <;> rfl
@[simp] theorem regs_pulse (n : Nat) : (s.pulse n).regs = s.regs := by simp [pulse]
@[simp] theorem regs_rateEvent (n t : Nat) : (s.rateEvent n t).regs = s.regs := by unfold rateEvent rateEventAt; dsimp only; split <;> simp
@[simp] theorem ctr_raise (n k : Nat) : (s.raise n k).ctr = s.ctr := by have h := congrArg State.ctr (s.core_raise n k); exact h
@[simp] theorem ctr_lower (n : Nat) : (s.lower n).ctr = s.ctr := by unfold lower; split <;> rfl
@[simp] theorem ctr_rail (n : Nat) (b : Bool) : (s.rail n b).ctr = s.ctr := by unfold rail; dsimp only; split <;> rfl
@[simp] theorem ctr_pulse (n : Nat) : (s.pulse n).ctr = s.ctr := by simp [pulse]
@[simp] theorem ctr_rateEvent (n t : Nat) : (s.rateEvent n t).ctr = s.ctr := by unfold rateEvent rateEventAt; dsimp only; split <;> simp
@[simp] theorem rf_raise (n k : Nat) (f : Fld) : (s.raise n k).rf f = s.rf f := rf_congr (s.regs_raise n k) f
@[simp] theorem rf_lower (n : Nat) (f : Fld) : (s.lower n).rf f = s.rf f := rf_congr (s.regs_lower n) f
@[simp] theorem rf_rail (n : Nat) (b : Bool) (f : Fld) : (s.rail n b).rf f = s.rf f := rf_congr (s.regs_rail n b) f
@[simp] theorem rf_pulse (n : Nat) (f : Fld) : (s.pulse n).rf f = s.rf f := rf_congr (s.regs_pulse n) f
@[simp] theorem rf_rateEvent (n t : Nat) (f : Fld) : (s.rateEvent n t).rf f = s.rf f := rf_congr (s.regs_rateEvent n t) f
@[simp] theorem rword_raise (n k a : Nat) : (s.raise n k).rword a = s.rword a := rword_congr (s.regs_raise n k) a
@[simp] theorem rword_lower (n a : Nat) : (s.lower n).rword a = s.rword a := rword_congr (s.regs_lower n) a
@[simp] theorem rword_rail (n a : Nat) (b : Bool) : (s.rail n b).rword a = s.rword a := rword_congr (s.regs_rail n b) a
@[simp] theorem rword_rateEvent (n t a : Nat) : (s.rateEvent n t).rword a = s.rword a := rword_congr (s.regs_rateEvent n t) a

/-! The rest of the state: only the fault collector and the number of the next free value. -/

theorem core_lower (n : Nat) : { s.lower n with flt := s.flt } = s := by unfold lower; split <;> rfl
theorem core_rail (n : Nat) (b : Bool) : { s.rail n b with flt := s.flt } = s := by unfold rail; dsimp only; split <;> rfl
theorem core_report (n k a : Nat) : { s.report n k a with flt := s.flt } = s := rfl
theorem core_notify (n k : Nat) : { s.notify n k with flt := s.flt, draws := s.draws } = s := rfl

/-! Each other field through a report of a level. -/

@[simp] theorem latch_raise (n k : Nat) : (s.raise n k).latch = s.latch := by have h := congrArg State.latch (s.core_raise n k); exact h
@[simp] theorem cycles_raise (n k : Nat) : (s.raise n k).cycles = s.cycles := by have h := congrArg State.cycles (s.core_raise n k); exact h
@[simp] theorem out_raise (n k : Nat) : (s.raise n k).out = s.out := by have h := congrArg State.out (s.core_raise n k); exact h
@[simp] theorem irq_raise (n k : Nat) : (s.raise n k).irq = s.irq := by have h := congrArg State.irq (s.core_raise n k); exact h
@[simp] theorem pwr_raise (n k : Nat) : (s.raise n k).pwr = s.pwr := by have h := congrArg State.pwr (s.core_raise n k); exact h
@[simp] theorem cel_raise (n k : Nat) : (s.raise n k).cel = s.cel := by have h := congrArg State.cel (s.core_raise n k); exact h
@[simp] theorem mac_raise (n k : Nat) : (s.raise n k).mac = s.mac := by have h := congrArg State.mac (s.core_raise n k); exact h
@[simp] theorem frames_raise (n k : Nat) : (s.raise n k).frames = s.frames := by have h := congrArg State.frames (s.core_raise n k); exact h
@[simp] theorem nextFid_raise (n k : Nat) : (s.raise n k).nextFid = s.nextFid := by have h := congrArg State.nextFid (s.core_raise n k); exact h
@[simp] theorem rak_raise (n k : Nat) : (s.raise n k).rak = s.rak := by have h := congrArg State.rak (s.core_raise n k); exact h
@[simp] theorem ecc_raise (n k : Nat) : (s.raise n k).ecc = s.ecc := by have h := congrArg State.ecc (s.core_raise n k); exact h
@[simp] theorem cls_raise (n k : Nat) : (s.raise n k).cls = s.cls := by have h := congrArg State.cls (s.core_raise n k); exact h
@[simp] theorem stm_raise (n k : Nat) : (s.raise n k).stm = s.stm := by have h := congrArg State.stm (s.core_raise n k); exact h
@[simp] theorem tim_raise (n k : Nat) : (s.raise n k).tim = s.tim := by have h := congrArg State.tim (s.core_raise n k); exact h
@[simp] theorem gat_raise (n k : Nat) : (s.raise n k).gat = s.gat := by have h := congrArg State.gat (s.core_raise n k); exact h
@[simp] theorem cph_raise (n k : Nat) : (s.raise n k).cph = s.cph := by have h := congrArg State.cph (s.core_raise n k); exact h
@[simp] theorem wfail_raise (n k : Nat) : (s.raise n k).wfail = s.wfail := by have h := congrArg State.wfail (s.core_raise n k); exact h
@[simp] theorem sec_raise (n k : Nat) : (s.raise n k).sec = s.sec := by have h := congrArg State.sec (s.core_raise n k); exact h
@[simp] theorem dram_raise (n k : Nat) : (s.raise n k).dram = s.dram := by have h := congrArg State.dram (s.core_raise n k); exact h
@[simp] theorem stg_raise (n k : Nat) : (s.raise n k).stg = s.stg := by have h := congrArg State.stg (s.core_raise n k); exact h
@[simp] theorem hat_raise (n k : Nat) : (s.raise n k).hat = s.hat := by have h := congrArg State.hat (s.core_raise n k); exact h
@[simp] theorem brg_raise (n k : Nat) : (s.raise n k).brg = s.brg := by have h := congrArg State.brg (s.core_raise n k); exact h
@[simp] theorem gwe_raise (n k : Nat) : (s.raise n k).gwe = s.gwe := by have h := congrArg State.gwe (s.core_raise n k); exact h
@[simp] theorem boot_raise (n k : Nat) : (s.raise n k).boot = s.boot := by have h := congrArg State.boot (s.core_raise n k); exact h
@[simp] theorem ccx_raise (n k : Nat) : (s.raise n k).ccx = s.ccx := by have h := congrArg State.ccx (s.core_raise n k); exact h
@[simp] theorem pair_raise (n k : Nat) : (s.raise n k).pair = s.pair := by have h := congrArg State.pair (s.core_raise n k); exact h
@[simp] theorem mgt_raise (n k : Nat) : (s.raise n k).mgt = s.mgt := by have h := congrArg State.mgt (s.core_raise n k); exact h
@[simp] theorem blockRst_raise (n k : Nat) : (s.raise n k).blockRst = s.blockRst := by have h := congrArg State.blockRst (s.core_raise n k); exact h
@[simp] theorem pending_raise (n k : Nat) : (s.raise n k).pending = s.pending := by have h := congrArg State.pending (s.core_raise n k); exact h
@[simp] theorem latch_lower (n : Nat) : (s.lower n).latch = s.latch := by have h := congrArg State.latch (s.core_lower n); exact h
@[simp] theorem cycles_lower (n : Nat) : (s.lower n).cycles = s.cycles := by have h := congrArg State.cycles (s.core_lower n); exact h
@[simp] theorem out_lower (n : Nat) : (s.lower n).out = s.out := by have h := congrArg State.out (s.core_lower n); exact h
@[simp] theorem irq_lower (n : Nat) : (s.lower n).irq = s.irq := by have h := congrArg State.irq (s.core_lower n); exact h
@[simp] theorem pwr_lower (n : Nat) : (s.lower n).pwr = s.pwr := by have h := congrArg State.pwr (s.core_lower n); exact h
@[simp] theorem cel_lower (n : Nat) : (s.lower n).cel = s.cel := by have h := congrArg State.cel (s.core_lower n); exact h
@[simp] theorem mac_lower (n : Nat) : (s.lower n).mac = s.mac := by have h := congrArg State.mac (s.core_lower n); exact h
@[simp] theorem frames_lower (n : Nat) : (s.lower n).frames = s.frames := by have h := congrArg State.frames (s.core_lower n); exact h
@[simp] theorem nextFid_lower (n : Nat) : (s.lower n).nextFid = s.nextFid := by have h := congrArg State.nextFid (s.core_lower n); exact h
@[simp] theorem rak_lower (n : Nat) : (s.lower n).rak = s.rak := by have h := congrArg State.rak (s.core_lower n); exact h
@[simp] theorem ecc_lower (n : Nat) : (s.lower n).ecc = s.ecc := by have h := congrArg State.ecc (s.core_lower n); exact h
@[simp] theorem cls_lower (n : Nat) : (s.lower n).cls = s.cls := by have h := congrArg State.cls (s.core_lower n); exact h
@[simp] theorem stm_lower (n : Nat) : (s.lower n).stm = s.stm := by have h := congrArg State.stm (s.core_lower n); exact h
@[simp] theorem tim_lower (n : Nat) : (s.lower n).tim = s.tim := by have h := congrArg State.tim (s.core_lower n); exact h
@[simp] theorem gat_lower (n : Nat) : (s.lower n).gat = s.gat := by have h := congrArg State.gat (s.core_lower n); exact h
@[simp] theorem cph_lower (n : Nat) : (s.lower n).cph = s.cph := by have h := congrArg State.cph (s.core_lower n); exact h
@[simp] theorem wfail_lower (n : Nat) : (s.lower n).wfail = s.wfail := by have h := congrArg State.wfail (s.core_lower n); exact h
@[simp] theorem sec_lower (n : Nat) : (s.lower n).sec = s.sec := by have h := congrArg State.sec (s.core_lower n); exact h
@[simp] theorem dram_lower (n : Nat) : (s.lower n).dram = s.dram := by have h := congrArg State.dram (s.core_lower n); exact h
@[simp] theorem stg_lower (n : Nat) : (s.lower n).stg = s.stg := by have h := congrArg State.stg (s.core_lower n); exact h
@[simp] theorem hat_lower (n : Nat) : (s.lower n).hat = s.hat := by have h := congrArg State.hat (s.core_lower n); exact h
@[simp] theorem brg_lower (n : Nat) : (s.lower n).brg = s.brg := by have h := congrArg State.brg (s.core_lower n); exact h
@[simp] theorem gwe_lower (n : Nat) : (s.lower n).gwe = s.gwe := by have h := congrArg State.gwe (s.core_lower n); exact h
@[simp] theorem boot_lower (n : Nat) : (s.lower n).boot = s.boot := by have h := congrArg State.boot (s.core_lower n); exact h
@[simp] theorem ccx_lower (n : Nat) : (s.lower n).ccx = s.ccx := by have h := congrArg State.ccx (s.core_lower n); exact h
@[simp] theorem pair_lower (n : Nat) : (s.lower n).pair = s.pair := by have h := congrArg State.pair (s.core_lower n); exact h
@[simp] theorem mgt_lower (n : Nat) : (s.lower n).mgt = s.mgt := by have h := congrArg State.mgt (s.core_lower n); exact h
@[simp] theorem blockRst_lower (n : Nat) : (s.lower n).blockRst = s.blockRst := by have h := congrArg State.blockRst (s.core_lower n); exact h
@[simp] theorem pending_lower (n : Nat) : (s.lower n).pending = s.pending := by have h := congrArg State.pending (s.core_lower n); exact h
@[simp] theorem latch_rail (n : Nat) (b : Bool) : (s.rail n b).latch = s.latch := by have h := congrArg State.latch (s.core_rail n b); exact h
@[simp] theorem cycles_rail (n : Nat) (b : Bool) : (s.rail n b).cycles = s.cycles := by have h := congrArg State.cycles (s.core_rail n b); exact h
@[simp] theorem out_rail (n : Nat) (b : Bool) : (s.rail n b).out = s.out := by have h := congrArg State.out (s.core_rail n b); exact h
@[simp] theorem irq_rail (n : Nat) (b : Bool) : (s.rail n b).irq = s.irq := by have h := congrArg State.irq (s.core_rail n b); exact h
@[simp] theorem pwr_rail (n : Nat) (b : Bool) : (s.rail n b).pwr = s.pwr := by have h := congrArg State.pwr (s.core_rail n b); exact h
@[simp] theorem cel_rail (n : Nat) (b : Bool) : (s.rail n b).cel = s.cel := by have h := congrArg State.cel (s.core_rail n b); exact h
@[simp] theorem mac_rail (n : Nat) (b : Bool) : (s.rail n b).mac = s.mac := by have h := congrArg State.mac (s.core_rail n b); exact h
@[simp] theorem frames_rail (n : Nat) (b : Bool) : (s.rail n b).frames = s.frames := by have h := congrArg State.frames (s.core_rail n b); exact h
@[simp] theorem nextFid_rail (n : Nat) (b : Bool) : (s.rail n b).nextFid = s.nextFid := by have h := congrArg State.nextFid (s.core_rail n b); exact h
@[simp] theorem rak_rail (n : Nat) (b : Bool) : (s.rail n b).rak = s.rak := by have h := congrArg State.rak (s.core_rail n b); exact h
@[simp] theorem ecc_rail (n : Nat) (b : Bool) : (s.rail n b).ecc = s.ecc := by have h := congrArg State.ecc (s.core_rail n b); exact h
@[simp] theorem cls_rail (n : Nat) (b : Bool) : (s.rail n b).cls = s.cls := by have h := congrArg State.cls (s.core_rail n b); exact h
@[simp] theorem stm_rail (n : Nat) (b : Bool) : (s.rail n b).stm = s.stm := by have h := congrArg State.stm (s.core_rail n b); exact h
@[simp] theorem tim_rail (n : Nat) (b : Bool) : (s.rail n b).tim = s.tim := by have h := congrArg State.tim (s.core_rail n b); exact h
@[simp] theorem gat_rail (n : Nat) (b : Bool) : (s.rail n b).gat = s.gat := by have h := congrArg State.gat (s.core_rail n b); exact h
@[simp] theorem cph_rail (n : Nat) (b : Bool) : (s.rail n b).cph = s.cph := by have h := congrArg State.cph (s.core_rail n b); exact h
@[simp] theorem wfail_rail (n : Nat) (b : Bool) : (s.rail n b).wfail = s.wfail := by have h := congrArg State.wfail (s.core_rail n b); exact h
@[simp] theorem sec_rail (n : Nat) (b : Bool) : (s.rail n b).sec = s.sec := by have h := congrArg State.sec (s.core_rail n b); exact h
@[simp] theorem dram_rail (n : Nat) (b : Bool) : (s.rail n b).dram = s.dram := by have h := congrArg State.dram (s.core_rail n b); exact h
@[simp] theorem stg_rail (n : Nat) (b : Bool) : (s.rail n b).stg = s.stg := by have h := congrArg State.stg (s.core_rail n b); exact h
@[simp] theorem hat_rail (n : Nat) (b : Bool) : (s.rail n b).hat = s.hat := by have h := congrArg State.hat (s.core_rail n b); exact h
@[simp] theorem brg_rail (n : Nat) (b : Bool) : (s.rail n b).brg = s.brg := by have h := congrArg State.brg (s.core_rail n b); exact h
@[simp] theorem gwe_rail (n : Nat) (b : Bool) : (s.rail n b).gwe = s.gwe := by have h := congrArg State.gwe (s.core_rail n b); exact h
@[simp] theorem boot_rail (n : Nat) (b : Bool) : (s.rail n b).boot = s.boot := by have h := congrArg State.boot (s.core_rail n b); exact h
@[simp] theorem ccx_rail (n : Nat) (b : Bool) : (s.rail n b).ccx = s.ccx := by have h := congrArg State.ccx (s.core_rail n b); exact h
@[simp] theorem pair_rail (n : Nat) (b : Bool) : (s.rail n b).pair = s.pair := by have h := congrArg State.pair (s.core_rail n b); exact h
@[simp] theorem mgt_rail (n : Nat) (b : Bool) : (s.rail n b).mgt = s.mgt := by have h := congrArg State.mgt (s.core_rail n b); exact h
@[simp] theorem blockRst_rail (n : Nat) (b : Bool) : (s.rail n b).blockRst = s.blockRst := by have h := congrArg State.blockRst (s.core_rail n b); exact h
@[simp] theorem pending_rail (n : Nat) (b : Bool) : (s.rail n b).pending = s.pending := by have h := congrArg State.pending (s.core_rail n b); exact h
theorem core_rateEvent (n k : Nat) : { s.rateEvent n k with flt := s.flt, draws := s.draws } = s := by
  unfold rateEvent rateEventAt; dsimp only; split
  · have h := congrArg (fun u : State => { u with flt := s.flt })
      (core_raise { s with flt := { s.flt with rate := spSet (fun _ => 0) s.flt.rate n (spGet (fun _ => 0) s.flt.rate n + 1) } } n 0x11)
    exact h
  · rfl
@[simp] theorem latch_rateEvent (n k : Nat) : (s.rateEvent n k).latch = s.latch := by have h := congrArg State.latch (s.core_rateEvent n k); exact h
@[simp] theorem cycles_rateEvent (n k : Nat) : (s.rateEvent n k).cycles = s.cycles := by have h := congrArg State.cycles (s.core_rateEvent n k); exact h
@[simp] theorem out_rateEvent (n k : Nat) : (s.rateEvent n k).out = s.out := by have h := congrArg State.out (s.core_rateEvent n k); exact h
@[simp] theorem irq_rateEvent (n k : Nat) : (s.rateEvent n k).irq = s.irq := by have h := congrArg State.irq (s.core_rateEvent n k); exact h
@[simp] theorem pwr_rateEvent (n k : Nat) : (s.rateEvent n k).pwr = s.pwr := by have h := congrArg State.pwr (s.core_rateEvent n k); exact h
@[simp] theorem cel_rateEvent (n k : Nat) : (s.rateEvent n k).cel = s.cel := by have h := congrArg State.cel (s.core_rateEvent n k); exact h
@[simp] theorem mac_rateEvent (n k : Nat) : (s.rateEvent n k).mac = s.mac := by have h := congrArg State.mac (s.core_rateEvent n k); exact h
@[simp] theorem frames_rateEvent (n k : Nat) : (s.rateEvent n k).frames = s.frames := by have h := congrArg State.frames (s.core_rateEvent n k); exact h
@[simp] theorem nextFid_rateEvent (n k : Nat) : (s.rateEvent n k).nextFid = s.nextFid := by have h := congrArg State.nextFid (s.core_rateEvent n k); exact h
@[simp] theorem rak_rateEvent (n k : Nat) : (s.rateEvent n k).rak = s.rak := by have h := congrArg State.rak (s.core_rateEvent n k); exact h
@[simp] theorem ecc_rateEvent (n k : Nat) : (s.rateEvent n k).ecc = s.ecc := by have h := congrArg State.ecc (s.core_rateEvent n k); exact h
@[simp] theorem cls_rateEvent (n k : Nat) : (s.rateEvent n k).cls = s.cls := by have h := congrArg State.cls (s.core_rateEvent n k); exact h
@[simp] theorem stm_rateEvent (n k : Nat) : (s.rateEvent n k).stm = s.stm := by have h := congrArg State.stm (s.core_rateEvent n k); exact h
@[simp] theorem tim_rateEvent (n k : Nat) : (s.rateEvent n k).tim = s.tim := by have h := congrArg State.tim (s.core_rateEvent n k); exact h
@[simp] theorem gat_rateEvent (n k : Nat) : (s.rateEvent n k).gat = s.gat := by have h := congrArg State.gat (s.core_rateEvent n k); exact h
@[simp] theorem cph_rateEvent (n k : Nat) : (s.rateEvent n k).cph = s.cph := by have h := congrArg State.cph (s.core_rateEvent n k); exact h
@[simp] theorem wfail_rateEvent (n k : Nat) : (s.rateEvent n k).wfail = s.wfail := by have h := congrArg State.wfail (s.core_rateEvent n k); exact h
@[simp] theorem sec_rateEvent (n k : Nat) : (s.rateEvent n k).sec = s.sec := by have h := congrArg State.sec (s.core_rateEvent n k); exact h
@[simp] theorem dram_rateEvent (n k : Nat) : (s.rateEvent n k).dram = s.dram := by have h := congrArg State.dram (s.core_rateEvent n k); exact h
@[simp] theorem stg_rateEvent (n k : Nat) : (s.rateEvent n k).stg = s.stg := by have h := congrArg State.stg (s.core_rateEvent n k); exact h
@[simp] theorem hat_rateEvent (n k : Nat) : (s.rateEvent n k).hat = s.hat := by have h := congrArg State.hat (s.core_rateEvent n k); exact h
@[simp] theorem brg_rateEvent (n k : Nat) : (s.rateEvent n k).brg = s.brg := by have h := congrArg State.brg (s.core_rateEvent n k); exact h
@[simp] theorem gwe_rateEvent (n k : Nat) : (s.rateEvent n k).gwe = s.gwe := by have h := congrArg State.gwe (s.core_rateEvent n k); exact h
@[simp] theorem boot_rateEvent (n k : Nat) : (s.rateEvent n k).boot = s.boot := by have h := congrArg State.boot (s.core_rateEvent n k); exact h
@[simp] theorem ccx_rateEvent (n k : Nat) : (s.rateEvent n k).ccx = s.ccx := by have h := congrArg State.ccx (s.core_rateEvent n k); exact h
@[simp] theorem pair_rateEvent (n k : Nat) : (s.rateEvent n k).pair = s.pair := by have h := congrArg State.pair (s.core_rateEvent n k); exact h
@[simp] theorem mgt_rateEvent (n k : Nat) : (s.rateEvent n k).mgt = s.mgt := by have h := congrArg State.mgt (s.core_rateEvent n k); exact h
@[simp] theorem blockRst_rateEvent (n k : Nat) : (s.rateEvent n k).blockRst = s.blockRst := by have h := congrArg State.blockRst (s.core_rateEvent n k); exact h
@[simp] theorem pending_rateEvent (n k : Nat) : (s.rateEvent n k).pending = s.pending := by have h := congrArg State.pending (s.core_rateEvent n k); exact h
@[simp] theorem latch_pulse (n : Nat) : (s.pulse n).latch = s.latch := by simp [pulse]
@[simp] theorem cycles_pulse (n : Nat) : (s.pulse n).cycles = s.cycles := by simp [pulse]
@[simp] theorem out_pulse (n : Nat) : (s.pulse n).out = s.out := by simp [pulse]
@[simp] theorem irq_pulse (n : Nat) : (s.pulse n).irq = s.irq := by simp [pulse]
@[simp] theorem pwr_pulse (n : Nat) : (s.pulse n).pwr = s.pwr := by simp [pulse]
@[simp] theorem cel_pulse (n : Nat) : (s.pulse n).cel = s.cel := by simp [pulse]
@[simp] theorem mac_pulse (n : Nat) : (s.pulse n).mac = s.mac := by simp [pulse]
@[simp] theorem frames_pulse (n : Nat) : (s.pulse n).frames = s.frames := by simp [pulse]
@[simp] theorem nextFid_pulse (n : Nat) : (s.pulse n).nextFid = s.nextFid := by simp [pulse]
@[simp] theorem rak_pulse (n : Nat) : (s.pulse n).rak = s.rak := by simp [pulse]
@[simp] theorem ecc_pulse (n : Nat) : (s.pulse n).ecc = s.ecc := by simp [pulse]
@[simp] theorem cls_pulse (n : Nat) : (s.pulse n).cls = s.cls := by simp [pulse]
@[simp] theorem stm_pulse (n : Nat) : (s.pulse n).stm = s.stm := by simp [pulse]
@[simp] theorem tim_pulse (n : Nat) : (s.pulse n).tim = s.tim := by simp [pulse]
@[simp] theorem gat_pulse (n : Nat) : (s.pulse n).gat = s.gat := by simp [pulse]
@[simp] theorem cph_pulse (n : Nat) : (s.pulse n).cph = s.cph := by simp [pulse]
@[simp] theorem wfail_pulse (n : Nat) : (s.pulse n).wfail = s.wfail := by simp [pulse]
@[simp] theorem sec_pulse (n : Nat) : (s.pulse n).sec = s.sec := by simp [pulse]
@[simp] theorem dram_pulse (n : Nat) : (s.pulse n).dram = s.dram := by simp [pulse]
@[simp] theorem stg_pulse (n : Nat) : (s.pulse n).stg = s.stg := by simp [pulse]
@[simp] theorem hat_pulse (n : Nat) : (s.pulse n).hat = s.hat := by simp [pulse]
@[simp] theorem brg_pulse (n : Nat) : (s.pulse n).brg = s.brg := by simp [pulse]
@[simp] theorem gwe_pulse (n : Nat) : (s.pulse n).gwe = s.gwe := by simp [pulse]
@[simp] theorem boot_pulse (n : Nat) : (s.pulse n).boot = s.boot := by simp [pulse]
@[simp] theorem ccx_pulse (n : Nat) : (s.pulse n).ccx = s.ccx := by simp [pulse]
@[simp] theorem pair_pulse (n : Nat) : (s.pulse n).pair = s.pair := by simp [pulse]
@[simp] theorem mgt_pulse (n : Nat) : (s.pulse n).mgt = s.mgt := by simp [pulse]
@[simp] theorem blockRst_pulse (n : Nat) : (s.pulse n).blockRst = s.blockRst := by simp [pulse]
@[simp] theorem pending_pulse (n : Nat) : (s.pulse n).pending = s.pending := by simp [pulse]

/-! Levels and rails. -/

theorem level_raiseAt (n k a : Nat) : (s.raiseAt n k a).level n = true := by
  unfold raiseAt
  by_cases h : s.level n = true
  · rw [if_pos h, h]
  · rw [if_neg h]
    exact spGet_spSet_self (fun _ => false) s.flt.levels n true

theorem level_raise (n k : Nat) : (s.raise n k).level n = true := by
  unfold raise
  by_cases h : s.level n = true
  · rw [if_pos h, h]
  · rw [if_neg h]
    exact level_raiseAt s.draw.2 n k _

theorem level_lower (n : Nat) : (s.lower n).level n = false := by
  unfold lower
  by_cases h : s.level n = true
  · rw [if_pos h]
    exact spGet_spSet_self (fun _ => false) s.flt.levels n false
  · rw [if_neg h]
    simpa using h

/-- A rise stores a SET with its address. -/
theorem slot_raiseAt (n k a : Nat) (h : s.level n = false) :
    (s.raiseAt n k a).slot n = some ((Slot.event (s.slot n) k a s.now).setLevel true) := by
  unfold raiseAt
  rw [if_neg (by simp [h])]
  exact (slot_setSlot _ _ _ _).trans (if_pos rfl)

/-- A rise whose address no rule states stores a free value there. -/
theorem slot_raise (n k : Nat) (h : s.level n = false) :
    (s.raise n k).slot n = some ((Slot.event (s.slot n) k (Config.free s.draws) s.now).setLevel true) := by
  unfold raise
  rw [if_neg (by simp [h])]
  exact slot_raiseAt s.draw.2 n k _ h

/-- A fall stores a CLEAR. -/
theorem slot_lower (n : Nat) (h : s.level n = true) :
    (s.lower n).slot n = some (((s.slot n).getD ⟨0, 0, 0, 0, 0, 0, 0, none⟩).setLevel false) := by
  unfold lower
  rw [if_pos h]
  exact (slot_setSlot _ _ _ _).trans (if_pos rfl)

theorem rails_rail (n : Nat) (b : Bool) : spGet (fun _ => false) (s.rail n b).flt.rails n = b := by
  unfold rail
  dsimp only
  split <;> exact spGet_spSet_self (fun _ => false) s.flt.rails n b

/-! Block reset. -/

/-- Lowering a list of levels leaves everything but the fault collector. -/
theorem core_lowers (n : Nat) (l : List Nat) : { l.foldl (fun s c => s.lower (n + c)) s with flt := s.flt } = s := by
  induction l generalizing s with
  | nil => rfl
  | cons x l ih =>
    have h1 := ih (s.lower (n + x))
    have h2 := s.core_lower (n + x)
    calc { (l.foldl (fun s c => s.lower (n + c)) (s.lower (n + x))) with flt := s.flt }
        = { ({ (l.foldl (fun s c => s.lower (n + c)) (s.lower (n + x))) with flt := (s.lower (n + x)).flt } : State) with flt := s.flt } := rfl
      _ = { s.lower (n + x) with flt := s.flt } := by rw [h1]
      _ = s := h2

theorem regs_lowers (n : Nat) (l : List Nat) : (l.foldl (fun s c => s.lower (n + c)) s).regs = s.regs := by
  have h := congrArg State.regs (s.core_lowers n l); exact h
theorem ctr_lowers (n : Nat) (l : List Nat) : (l.foldl (fun s c => s.lower (n + c)) s).ctr = s.ctr := by
  have h := congrArg State.ctr (s.core_lowers n l); exact h
theorem blockRst_lowers (n : Nat) (l : List Nat) : (l.foldl (fun s c => s.lower (n + c)) s).blockRst = s.blockRst := by
  have h := congrArg State.blockRst (s.core_lowers n l); exact h
theorem gwe_lowers (n : Nat) (l : List Nat) : (l.foldl (fun s c => s.lower (n + c)) s).gwe = s.gwe := by
  have h := congrArg State.gwe (s.core_lowers n l); exact h

theorem blockClear_18 : s.blockClear 18 = { ((List.range 64).foldl (fun s c => s.lower (0x1E0 + c)) (s.blockRegs 18)) with
    gwe := { State.reset.gwe with pantry := ((List.range 64).foldl (fun s c => s.lower (0x1E0 + c)) (s.blockRegs 18)).gwe.pantry },
    flt := { ((List.range 64).foldl (fun s c => s.lower (0x1E0 + c)) (s.blockRegs 18)).flt with
      rate := spKeep ((List.range 64).foldl (fun s c => s.lower (0x1E0 + c)) (s.blockRegs 18)).flt.rate (fun k => k < 0x1E0 || 0x220 ≤ k) } } := by
  simp only [blockClear]
theorem blockClear_19 : s.blockClear 19 = { s.blockRegs 19 with hat := [] } := rfl
theorem blockClear_20 : s.blockClear 20 = { s.blockRegs 20 with brg := State.reset.brg, irq := State.reset.irq } := rfl
theorem blockClear_21 : s.blockClear 21 = { s.blockRegs 21 with stg := State.reset.stg } := rfl
theorem blockClear_22 : s.blockClear 22 = { s.blockRegs 22 with mgt := State.reset.mgt } := rfl

/-- A block with block reset is one of five. -/
theorem of_hasBlockReset {b : Nat} (h : hasBlockReset b = true) : b = 18 ∨ b = 19 ∨ b = 20 ∨ b = 21 ∨ b = 22 := by
  unfold hasBlockReset at h
  simp only [Bool.or_eq_true, decide_eq_true_eq] at h
  omega

theorem regs_blockClear {b : Nat} (h : hasBlockReset b = true) :
    (s.blockClear b).regs = (s.blockRegs b).regs ∧ (s.blockClear b).ctr = (s.blockRegs b).ctr ∧
    (s.blockClear b).blockRst = s.blockRst := by
  rcases of_hasBlockReset h with h | h | h | h | h <;> subst h
  · rw [blockClear_18]
    have h1 := regs_lowers (s.blockRegs 18) 0x1E0 (List.range 64)
    have h2 := ctr_lowers (s.blockRegs 18) 0x1E0 (List.range 64)
    have h3 := blockRst_lowers (s.blockRegs 18) 0x1E0 (List.range 64)
    generalize List.foldl (fun s c => State.lower s (0x1E0 + c)) (s.blockRegs 18) (List.range 64) = u at *
    exact ⟨h1, h2, h3⟩
  · exact ⟨rfl, rfl, rfl⟩
  · exact ⟨rfl, rfl, rfl⟩
  · exact ⟨rfl, rfl, rfl⟩
  · exact ⟨rfl, rfl, rfl⟩

/-- The registers and counters of a block in block reset are at their reset values. -/
theorem rword_blockClear {b a : Nat} (h : hasBlockReset b = true) (ha : inBlock b a = true) :
    (s.blockClear b).rword a = resetWord a ∧ (s.blockClear b).cget a = 0 := by
  unfold rword cget
  rw [(s.regs_blockClear h).1, (s.regs_blockClear h).2.1]
  unfold blockRegs
  dsimp only
  rw [spGet_spKeep, spGet_spKeep]
  simp [ha]

/-! Releasing copies touches the Cellar, the classifier's references, registers and counters alone. -/

/-- Everything but the Cellar, the frames, registers and counters. -/
def beyondCel (s : State) : State := { s with cel := State.reset.cel, frames := [], regs := [], ctr := [] }

theorem beyondCel_modFrame (n : Nat) (g : Frame → Frame) : (s.modFrame n g).beyondCel = s.beyondCel := by
  unfold modFrame; split <;> rfl
theorem beyondCel_checkOldFree : s.checkOldFree.beyondCel = s.beyondCel := by unfold checkOldFree; split <;> rfl
theorem beyondCel_releaseRef (n : Nat) : (s.releaseRef n).beyondCel = s.beyondCel := by
  unfold releaseRef
  split
  · exact beyondCel_checkOldFree _
  · rfl
theorem beyondCel_dropRef (n : Nat) : (s.dropRef n).beyondCel = s.beyondCel := by
  unfold dropRef
  split
  · split
    · exact beyondCel_releaseRef _ _
    · rfl
  · rfl
theorem beyondCel_freeCells (f : Frame) : (s.freeCells f).beyondCel = s.beyondCel := by
  unfold freeCells
  refine each_keep beyondCel _ ?_ _ _
  intro u r
  rfl
theorem beyondCel_xoffAll : s.xoffAll.beyondCel = s.beyondCel := by
  unfold xoffAll
  refine each_keep beyondCel _ (fun s n => ?_) _ _
  unfold xoffPort
  dsimp only
  split <;> rfl
theorem beyondCel_settle (n : Nat) : (s.settle n).beyondCel = s.beyondCel := by
  unfold settle
  split
  · rfl
  · split
    · rfl
    · dsimp only
      rw [beyondCel_xoffAll]
      split
      · exact (beyondCel_freeCells _ _).trans (beyondCel_dropRef _ _)
      · exact (beyondCel_modFrame _ _ _).trans ((beyondCel_freeCells _ _).trans (beyondCel_dropRef _ _))
theorem beyondCel_giveDesc : s.giveDesc.beyondCel = s.beyondCel := by
  unfold giveDesc
  dsimp only
  split
  · exact beyondCel_xoffAll _
  · rfl
theorem beyondCel_giveMirror : s.giveMirror.beyondCel = s.beyondCel := by
  unfold giveMirror
  rw [beyondCel_giveDesc]
  rfl
theorem beyondCel_releaseCopy (c : Copy) : (s.releaseCopy c).beyondCel = s.beyondCel := by
  unfold releaseCopy
  dsimp only
  rw [beyondCel_settle, beyondCel_modFrame]
  have h : (if (decide (c.port = 28) && !c.mirror) = true then s.dropRef c.fid else s).beyondCel = s.beyondCel := by
    split
    · exact beyondCel_dropRef _ _
    · rfl
  split
  · rw [beyondCel_giveMirror, h]
  · rw [beyondCel_giveDesc, h]
theorem beyondCel_dropAtBoundary (c : Copy) : (s.dropAtBoundary c).beyondCel = s.beyondCel :=
  beyondCel_releaseCopy _ _
theorem beyondCel_dropWire (p : Nat) : (s.dropWire p).beyondCel = s.beyondCel := by
  unfold dropWire
  split
  · split
    · exact beyondCel_dropAtBoundary _ _
    · rfl
  · rfl
theorem beyondCel_dropWaiting (p : Nat) : (s.dropWaiting p).beyondCel = s.beyondCel := by
  unfold dropWaiting
  refine each_keep beyondCel _ (fun s k => ?_) _ _
  exact (each_keep beyondCel dropAtBoundary (fun s c => beyondCel_dropAtBoundary s c) _ _).trans rfl

theorem blockRst_dropWire (p : Nat) : (s.dropWire p).blockRst = s.blockRst := by
  have h := congrArg State.blockRst (s.beyondCel_dropWire p); exact h
theorem gwe_dropWire (p : Nat) : (s.dropWire p).gwe = s.gwe := by
  have h := congrArg State.gwe (s.beyondCel_dropWire p); exact h

end Sys2Proof.Machine.State
end

