-- ==== Sys2Proof/Laws/PerInstr.lean ====
section
/-!
SUPPORT. One lemma per command about its operands as syntax: a command whose operands all have a Lean type of exactly
the width the spec gives them is well formed, whatever they hold.
-/
namespace Sys2Proof.Laws.Widths

/-- Some operand of the command has a Lean type wider than what the spec gives it: a natural number, a list, or a sender that the rule leaves out. -/
def wide (i : Instr) : Bool :=
  match i with
  | .registerWrite _ _ _ => true
  | .rcRead _ _ => true
  | .counterLowRead _ _ => true
  | .fullTimeRead _ _ => false
  | .unmappedAccess _ _ _ => true
  | .chipReset _ => false
  | .coldReset _ => false
  | .blockReset _ _ => false
  | .blockResetComplete _ => false
  | .testPortReset => false
  | .resetCmdChipReset _ => false
  | .resetCmdBlockReset _ _ => false
  | .intEoi _ _ => false
  | .msixUnmask _ _ _ => false
  | .coldResetRelease _ _ _ _ _ => false
  | .temperatureSample _ => false
  | .pmbusTimeout => false
  | .powerLoss => false
  | .pwrCmdSleepD _ _ => false
  | .pwrCmdSleepR _ _ => false
  | .pwrCmdStandby _ _ => false
  | .pwrCmdActive _ _ => false
  | .sleepEntryStep => false
  | .wakeConfirmed _ => false
  | .wakeTimerExpiry => false
  | .pgoodWaitDone => false
  | .pgoodTimeout => false
  | .sequenceRetry => false
  | .startTableStep => false
  | .internalReady _ _ => false
  | .pgoodLoss _ => false
  | .pgoodRecovery _ => false
  | .pmbusAlert _ => true
  | .pwrSeqCfgWrite _ _ => false
  | .voltageMonitorEvent _ _ => false
  | .clockLoss _ => false
  | .clockRecovery _ => false
  | .mr4TemperatureReport _ _ => true
  | .bootStart _ _ _ _ _ _ _ _ => true
  | .pass1Complete _ _ _ => false
  | .dramTrainingDone _ _ => false
  | .imageCommit _ _ => false
  | .resumeRetagDone => false
  | .stageChunkSubmit _ _ => false
  | .stageChunkTaken _ _ _ => false
  | .pcieImageTimeout => false
  | .beginImage _ => false
  | .beginRuntime _ => false
  | .updateEraseDone => false
  | .bootUpdateEnd _ => false
  | .updateVerifyDone _ _ _ _ => false
  | .bootUpdateCommit _ _ => false
  | .runtimeApplyDone _ => false
  | .bootUpdateConfirm _ => false
  | .bootUpdateCancel _ => false
  | .flashTimeout => false
  | .lifecycleCmd _ _ => false
  | .fuseWriteDone => false
  | .secZeroize _ => false
  | .debugChallengeRead _ => false
  | .debugTokenCheck _ _ _ => false
  | .challengeExpiry => false
  | .challengeRefusalEnd => false
  | .trngHealthFail => false
  | .drbgRestart => false
  | .drbgReseed => false
  | .keySlotWrite _ _ _ _ _ => false
  | .portCfgWrite _ _ _ => false
  | .linkSignalDetect _ => false
  | .linkTrainingDone _ _ _ => false
  | .upFilterExpiry _ => false
  | .linkLoss _ _ _ => false
  | .linkLossFilterExpiry _ => false
  | .linkDownFlushDone _ => false
  | .holdoffExpiry _ => false
  | .pfcFrameReceived _ _ _ => true
  | .pauseFrameReceived _ _ => false
  | .pauseTimerExpiry _ _ => false
  | .preemptVerifyTimer _ => false
  | .preemptVerifyResponse _ => false
  | .sqiUpdate _ _ => false
  | .plcaBeaconConflict _ => false
  | .tc10SleepAck _ => false
  | .tc10SleepTimeout _ => false
  | .tc10CmdSleep _ _ => false
  | .tc10CmdWake _ _ => false
  | .tc10WakeDetect _ => false
  | .mdioAddress _ _ _ _ => false
  | .mdioWrite _ _ _ _ _ => false
  | .mdioRead _ _ _ _ => false
  | .mdioReadIncrement _ _ _ => false
  | .mdioFrameDone _ => false
  | .mdioPoll => false
  | .extPhyInterrupt _ => false
  | .rateWindowExpiry _ => false
  | .pfcFrameSend _ => false
  | .pauseRepeatTimer _ => false
  | .frameArrival _ => false
  | .cellArrival _ _ => true
  | .frameEnd _ _ _ => false
  | .icvVerified _ _ _ => true
  | .rakeDispatch => false
  | .rakeStallEnd _ => false
  | .keyRecordWritten _ => false
  | .sessionCreationWrite => false
  | .forwardingDecision _ => false
  | .recirculationPass => false
  | .learningRequest => false
  | .transmissionSelection _ => false
  | .macsecEgressDispatch _ => false
  | .transmitEnd _ _ => true
  | .firmwareFrameSend _ _ _ => true
  | .add _ => false
  | .sub _ => false
  | .and _ => false
  | .or _ => false
  | .xor _ => false
  | .shl _ => false
  | .shr _ => false
  | .mov _ => false
  | .ext _ => false
  | .cmp _ => false
  | .tst _ => false
  | .rds _ => false
  | .br _ => false
  | .call _ => false
  | .ret _ => false
  | .brx _ => false
  | .endProg _ => false
  | .nop _ => false
  | .ld _ => false
  | .st _ => false
  | .setcur _ => false
  | .hdr _ => false
  | .malf _ => false
  | .recirc _ => false
  | .lkp _ => false
  | .auth _ => false
  | .send _ => false
  | .olen _ => false
  | .epochSwap _ => false
  | .swapSettled => false
  | .treeDataHiWrite _ _ => false
  | .treeDataLoRead _ => false
  | .treeDirectWrite _ _ _ _ => true
  | .treeDirectRead _ _ _ => true
  | .sessionAgeingScan => false
  | .stashMove _ => false
  | .fwlLookup _ => false
  | .fwlRead _ => false
  | .fwlInsert _ => false
  | .fwlDelete _ => false
  | .fwlFlush _ _ => false
  | .fwlFlushDone => false
  | .fdbAgeingScan => false
  | .fdbLookup _ => false
  | .fdbRead _ => false
  | .fdbInsert _ => false
  | .fdbDelete _ => false
  | .fdbFlush _ _ _ => false
  | .fdbFlushDone => false
  | .meterRefillTick => false
  | .shaperCreditTick => false
  | .frerRecoveryReset _ => false
  | .stmTableRead _ => false
  | .stmTableWrite _ => false
  | .stmTableReadClear _ => false
  | .trackerRateWrite _ _ _ => false
  | .trackerAdjust _ _ _ => false
  | .trackerRefresh _ _ => false
  | .trackerHealthTimeout _ => false
  | .workingClockUpdate => false
  | .wcCfgWrite _ _ => false
  | .step _ _ => false
  | .cancelStep _ => false
  | .stepBoundary => false
  | .txtsRead _ => false
  | .configChange _ _ => true
  | .configCopyDone _ => true
  | .gateCancel _ _ => true
  | .configChangeTime _ => true
  | .gateEntryStart _ => true
  | .gateListEnableWrite _ _ _ => true
  | .travelCount _ _ => false
  | .triggerEnable _ _ _ => false
  | .triggerDue _ => false
  | .triggerPulseEnd _ => false
  | .captureEdge _ _ => false
  | .captureRead _ _ => false
  | .sluiceDispatch => false
  | .panJobComplete _ => false
  | .knownAnswerTest _ => false
  | .panReturn _ _ _ => false
  | .cphTableRead _ => false
  | .cphTableWrite _ => false
  | .cphTableReadClear _ => false
  | .cphTableRestore _ => false
  | .rekeyReqClear _ _ _ => false
  | .channelRx _ _ _ => true
  | .channelTxStart _ => false
  | .channelTxDone _ _ _ => true
  | .busOffRecovery _ => false
  | .linSlotStart _ => false
  | .linHeaderReceived _ _ => true
  | .linResponseTimeout _ => false
  | .linIdleSleep _ => false
  | .serialMessageEnd _ => false
  | .channelRecover _ _ => false
  | .channelSleep _ _ => false
  | .channelWake _ _ => false
  | .channelFlushTx _ _ => false
  | .channelWakeDetect _ => false
  | .linScheduleResume _ => false
  | .gatewaySlice _ => false
  | .gatewayTimer _ => false
  | .contextWrite _ _ _ _ => true
  | .pantryDataWrite _ _ => false
  | .pantryDataRead _ => false
  | .decapsulation => false
  | .pcieReset _ => false
  | .pcieLinkUp _ _ _ _ => true
  | .inboundRead _ _ _ _ _ _ => true
  | .inboundReadTimeout _ => true
  | .inboundWrite _ _ _ _ _ _ => true
  | .poisonedTlp _ _ _ _ => true
  | .windowCfgWrite _ _ _ => false
  | .prefetchFillDone _ => false
  | .prefetchExpiry _ => false
  | .ringTailWrite _ _ _ => false
  | .ringCfgWrite _ _ _ => false
  | .txRingFetch _ => false
  | .dmaReadCompletion _ _ => true
  | .dmaReadTimeout _ => false
  | .rxRingDelivery _ _ => true
  | .coalesceTimerExpiry _ => false
  | .dmaWriteFailure _ _ => false
  | .hatchPush _ _ _ => false
  | .hatchPushEnd _ _ => false
  | .hatchPop _ _ _ => true
  | .hatchLineMove _ => false
  | .hatchFlush _ _ => false
  | .hatchArm _ _ => false
  | .hatchCfgWrite _ _ _ => false
  | .strongroomRecord => false
  | .stgTrigger _ _ => false
  | .incidentPostExpiry _ => false
  | .incidentLimitExpiry _ => false
  | .incidentRelease _ _ => false
  | .incidentExport _ _ => false
  | .exportFrame => false
  | .stopExport _ => false
  | .clearRing _ => false
  | .lockstepMismatch _ => false
  | .railDisagreement _ => false
  | .comparatorTest _ => true
  | .checkpointNotice => false
  | .checkpoint _ _ => false
  | .ccxRestart _ _ _ => true
  | .ccxDone => false
  | .restartTimeout => false
  | .faultMessage _ _ => false
  | .dualRailChange _ _ => false
  | .pendingClear _ _ => false
  | .fltClear _ _ => false
  | .faultPinTimerExpiry => false
  | .faultPinRelease _ => false
  | .refereePoll _ _ _ _ _ => true
  | .refereeGrant _ _ _ _ _ _ _ => true
  | .leaseExpiry => false
  | .relinquish _ => false
  | .selftestNow _ _ => false
  | .pairLinkBlockLock => false
  | .pairHello _ => true
  | .pairProof _ => false
  | .pairLinkLoss _ => false
  | .pairHealthSend => false
  | .pairHealthReceived _ _ _ => true
  | .pairTimeSend => false
  | .pairTimeReceived _ _ _ _ _ _ => true
  | .crateSend _ => false
  | .crateFragment _ _ _ _ _ _ => true
  | .crateApplied => false
  | .standbySelftest _ => false
  | .selftestBankFree => false
  | .selftestDone _ => false
  | .takeoverComplete => false
  | .mgtHello _ _ _ _ _ _ => true
  | .mgtFinish _ _ _ _ => false
  | .finishTimeout _ => false
  | .certReq _ _ _ => false
  | .mgtRequest _ _ _ _ _ _ _ _ => true
  | .mgtClose _ _ _ _ _ _ => true
  | .sessionIdleTimeout _ => false
  | .getInfo => false
  | .regRead => false
  | .regWrite => false
  | .regModify => false
  | .cntRead => false
  | .faultClear => false
  | .updateBegin => false
  | .updateChunk => false
  | .updateEnd _ => false
  | .updateCommit => false
  | .updateConfirm => false
  | .updateCancel => false
  | .updateStatus => false
  | .rulesetSwap _ => false
  | .timeGet => false
  | .timeStep => false
  | .timeSource => false
  | .gateChange _ => false
  | .attest => false
  | .pairStatus => false
  | .pairRelinquish => false
  | .pairSelftest _ => false
  | .zeroize => false
  | .power => false
  | .reset => false

/-- A command without a wide operand is well formed. -/
def Statement (i : Instr) : Prop := wide i = false → i.wellFormed = true

theorem registerWrite (q : Sender) (a : Nat) (w : Word) : Statement (.registerWrite q a w) := fun h => nomatch h
theorem rcRead (q : Sender) (a : Nat) : Statement (.rcRead q a) := fun h => nomatch h
theorem counterLowRead (q : Sender) (a : Nat) : Statement (.counterLowRead q a) := fun h => nomatch h
theorem fullTimeRead (q : Sender) (c : Fin 3) : Statement (.fullTimeRead q c) := fun _ => rfl
theorem unmappedAccess (q : Sender) (a : Nat) (w : Option Word) : Statement (.unmappedAccess q a w) := fun h => nomatch h
theorem chipReset (src : Fin 768) : Statement (.chipReset src) := fun _ => rfl
theorem coldReset (cause : Fin 3) : Statement (.coldReset cause) := fun _ => rfl
theorem blockReset (b : Fin 23) (src : Fin 768) : Statement (.blockReset b src) := fun _ => rfl
theorem blockResetComplete (b : Fin 23) : Statement (.blockResetComplete b) := fun _ => rfl
theorem testPortReset : Statement .testPortReset := fun _ => rfl
theorem resetCmdChipReset (q : Sender) : Statement (.resetCmdChipReset q) := fun _ => rfl
theorem resetCmdBlockReset (q : Sender) (b : Fin 32) : Statement (.resetCmdBlockReset q b) := fun _ => rfl
theorem intEoi (q : Sender) (m : Word) : Statement (.intEoi q m) := fun _ => rfl
theorem msixUnmask (v : Option (Fin 64)) (enable mask : Bool) : Statement (.msixUnmask v enable mask) := fun _ => rfl
theorem coldResetRelease (boot : Fin 4) (pairEn pairSide pcie safe : Bool) :
    Statement (.coldResetRelease boot pairEn pairSide pcie safe) := fun _ => rfl
theorem temperatureSample (v : BitVec 12) : Statement (.temperatureSample v) := fun _ => rfl
theorem pmbusTimeout : Statement .pmbusTimeout := fun _ => rfl
theorem powerLoss : Statement .powerLoss := fun _ => rfl
theorem pwrCmdSleepD (q : Sender) (pins : BitVec 4) : Statement (.pwrCmdSleepD q pins) := fun _ => rfl
theorem pwrCmdSleepR (q : Sender) (pins : BitVec 4) : Statement (.pwrCmdSleepR q pins) := fun _ => rfl
theorem pwrCmdStandby (q : Sender) (pins : BitVec 4) : Statement (.pwrCmdStandby q pins) := fun _ => rfl
theorem pwrCmdActive (q : Sender) (pins : BitVec 4) : Statement (.pwrCmdActive q pins) := fun _ => rfl
theorem sleepEntryStep : Statement .sleepEntryStep := fun _ => rfl
theorem wakeConfirmed (c : Fin 66) : Statement (.wakeConfirmed c) := fun _ => rfl
theorem wakeTimerExpiry : Statement .wakeTimerExpiry := fun _ => rfl
theorem pgoodWaitDone : Statement .pgoodWaitDone := fun _ => rfl
theorem pgoodTimeout : Statement .pgoodTimeout := fun _ => rfl
theorem sequenceRetry : Statement .sequenceRetry := fun _ => rfl
theorem startTableStep : Statement .startTableStep := fun _ => rfl
theorem internalReady (tagOk ddrLate : Bool) : Statement (.internalReady tagOk ddrLate) := fun _ => rfl
theorem pgoodLoss (n : Fin 8) : Statement (.pgoodLoss n) := fun _ => rfl
theorem pgoodRecovery (n : Fin 8) : Statement (.pgoodRecovery n) := fun _ => rfl
theorem pmbusAlert (words : List Word) : Statement (.pmbusAlert words) := fun h => nomatch h
theorem pwrSeqCfgWrite (q : Sender) (w : Word) : Statement (.pwrSeqCfgWrite q w) := fun _ => rfl
theorem voltageMonitorEvent (r : Fin 8) (level : Fin 3) : Statement (.voltageMonitorEvent r level) := fun _ => rfl
theorem clockLoss (c : Fin 20) : Statement (.clockLoss c) := fun _ => rfl
theorem clockRecovery (c : Fin 20) : Statement (.clockRecovery c) := fun _ => rfl
theorem mr4TemperatureReport (rate : Nat) (hot : Bool) : Statement (.mr4TemperatureReport rate hot) := fun h => nomatch h
theorem bootStart (comp1 comp2 : Option Nat) (trngBad : Nat) (fuseBad readA readB sigA sigB : Bool) :
    Statement (.bootStart comp1 comp2 trngBad fuseBad readA readB sigA sigB) := fun h => nomatch h
theorem pass1Complete (answers inTime hashOk : Bool) : Statement (.pass1Complete answers inTime hashOk) := fun _ => rfl
theorem dramTrainingDone (ok inTime : Bool) : Statement (.dramTrainingDone ok inTime) := fun _ => rfl
theorem imageCommit (readOk hashOk : Bool) : Statement (.imageCommit readOk hashOk) := fun _ => rfl
theorem resumeRetagDone : Statement .resumeRetagDone := fun _ => rfl
theorem stageChunkSubmit (q : Sender) (w : Word) : Statement (.stageChunkSubmit q w) := fun _ => rfl
theorem stageChunkTaken (inOrder keyOk sigOk : Bool) : Statement (.stageChunkTaken inOrder keyOk sigOk) := fun _ => rfl
theorem pcieImageTimeout : Statement .pcieImageTimeout := fun _ => rfl
theorem beginImage (q : Sender) : Statement (.beginImage q) := fun _ => rfl
theorem beginRuntime (q : Sender) : Statement (.beginRuntime q) := fun _ => rfl
theorem updateEraseDone : Statement .updateEraseDone := fun _ => rfl
theorem bootUpdateEnd (q : Sender) : Statement (.bootUpdateEnd q) := fun _ => rfl
theorem updateVerifyDone (readOk hashOk keyOk sigOk : Bool) :
    Statement (.updateVerifyDone readOk hashOk keyOk sigOk) := fun _ => rfl
theorem bootUpdateCommit (q : Sender) (tries : Fin 8) : Statement (.bootUpdateCommit q tries) := fun _ => rfl
theorem runtimeApplyDone (refused : Option Nat) : Statement (.runtimeApplyDone refused) := fun _ => rfl
theorem bootUpdateConfirm (q : Sender) : Statement (.bootUpdateConfirm q) := fun _ => rfl
theorem bootUpdateCancel (q : Sender) : Statement (.bootUpdateCancel q) := fun _ => rfl
theorem flashTimeout : Statement .flashTimeout := fun _ => rfl
theorem lifecycleCmd (q : Sender) (target : Fin 4) : Statement (.lifecycleCmd q target) := fun _ => rfl
theorem fuseWriteDone : Statement .fuseWriteDone := fun _ => rfl
theorem secZeroize (q : Sender) : Statement (.secZeroize q) := fun _ => rfl
theorem debugChallengeRead (q : Sender) : Statement (.debugChallengeRead q) := fun _ => rfl
theorem debugTokenCheck (q : Sender) (keyOk sigOk : Bool) : Statement (.debugTokenCheck q keyOk sigOk) := fun _ => rfl
theorem challengeExpiry : Statement .challengeExpiry := fun _ => rfl
theorem challengeRefusalEnd : Statement .challengeRefusalEnd := fun _ => rfl
theorem trngHealthFail : Statement .trngHealthFail := fun _ => rfl
theorem drbgRestart : Statement .drbgRestart := fun _ => rfl
theorem drbgReseed : Statement .drbgReseed := fun _ => rfl
theorem keySlotWrite (k : Fin 256) (alg : Fin 16) (usage : BitVec 8) (lock drawn : Bool) :
    Statement (.keySlotWrite k alg usage lock drawn) := fun _ => rfl
theorem portCfgWrite (q : Sender) (n : Fin 24) (w : Word) : Statement (.portCfgWrite q n w) := fun _ => rfl
theorem linkSignalDetect (n : Fin 24) : Statement (.linkSignalDetect n) := fun _ => rfl
theorem linkTrainingDone (n : Fin 24) (speed : Fin 8) (lpPause : Bool) :
    Statement (.linkTrainingDone n speed lpPause) := fun _ => rfl
theorem upFilterExpiry (n : Fin 24) : Statement (.upFilterExpiry n) := fun _ => rfl
theorem linkLoss (n : Fin 24) (localF remoteF : Bool) : Statement (.linkLoss n localF remoteF) := fun _ => rfl
theorem linkLossFilterExpiry (n : Fin 24) : Statement (.linkLossFilterExpiry n) := fun _ => rfl
theorem linkDownFlushDone (n : Fin 24) : Statement (.linkDownFlushDone n) := fun _ => rfl
theorem holdoffExpiry (n : Fin 24) : Statement (.holdoffExpiry n) := fun _ => rfl
theorem pfcFrameReceived (n : Fin 24) (vec : BitVec 8) (quanta : List Nat) :
    Statement (.pfcFrameReceived n vec quanta) := fun h => nomatch h
theorem pauseFrameReceived (n : Fin 24) (quanta : BitVec 16) : Statement (.pauseFrameReceived n quanta) := fun _ => rfl
theorem pauseTimerExpiry (n : Fin 24) (c : Fin 8) : Statement (.pauseTimerExpiry n c) := fun _ => rfl
theorem preemptVerifyTimer (n : Fin 24) : Statement (.preemptVerifyTimer n) := fun _ => rfl
theorem preemptVerifyResponse (n : Fin 24) : Statement (.preemptVerifyResponse n) := fun _ => rfl
theorem sqiUpdate (p : Fin 12) (sqi : Fin 8) : Statement (.sqiUpdate p sqi) := fun _ => rfl
theorem plcaBeaconConflict (p : Fin 4) : Statement (.plcaBeaconConflict p) := fun _ => rfl
theorem tc10SleepAck (p : Fin 12) : Statement (.tc10SleepAck p) := fun _ => rfl
theorem tc10SleepTimeout (p : Fin 12) : Statement (.tc10SleepTimeout p) := fun _ => rfl
theorem tc10CmdSleep (q : Sender) (p : Fin 12) : Statement (.tc10CmdSleep q p) := fun _ => rfl
theorem tc10CmdWake (q : Sender) (p : Fin 12) : Statement (.tc10CmdWake q p) := fun _ => rfl
theorem tc10WakeDetect (p : Fin 12) : Statement (.tc10WakeDetect p) := fun _ => rfl
theorem mdioAddress (q : Sender) (prtad devad : Fin 32) (addr : BitVec 16) :
    Statement (.mdioAddress q prtad devad addr) := fun _ => rfl
theorem mdioWrite (q : Sender) (c45 : Bool) (prtad devad : Fin 32) (data : BitVec 16) :
    Statement (.mdioWrite q c45 prtad devad data) := fun _ => rfl
theorem mdioRead (q : Sender) (c45 : Bool) (prtad devad : Fin 32) : Statement (.mdioRead q c45 prtad devad) := fun _ => rfl
theorem mdioReadIncrement (q : Sender) (prtad devad : Fin 32) : Statement (.mdioReadIncrement q prtad devad) := fun _ => rfl
theorem mdioFrameDone (data : BitVec 16) : Statement (.mdioFrameDone data) := fun _ => rfl
theorem mdioPoll : Statement .mdioPoll := fun _ => rfl
theorem extPhyInterrupt (n : Fin 4) : Statement (.extPhyInterrupt n) := fun _ => rfl
theorem rateWindowExpiry (src : Fin 768) : Statement (.rateWindowExpiry src) := fun _ => rfl
theorem pfcFrameSend (n : Fin 24) : Statement (.pfcFrameSend n) := fun _ => rfl
theorem pauseRepeatTimer (n : Fin 24) : Statement (.pauseRepeatTimer n) := fun _ => rfl
theorem frameArrival (n : Fin 24) : Statement (.frameArrival n) := fun _ => rfl
theorem cellArrival (fid : Nat) (b : List Byte) : Statement (.cellArrival fid b) := fun h => nomatch h
theorem frameEnd (fid : Nat) (fcsOk : Bool) (rx : Machine.RxEnd) : Statement (.frameEnd fid fcsOk rx) := fun _ => rfl
theorem icvVerified (fid : Nat) (ok : Bool) (plain : List Byte) :
    Statement (.icvVerified fid ok plain) := fun h => nomatch h
theorem rakeDispatch : Statement .rakeDispatch := fun _ => rfl
theorem rakeStallEnd (r : Fin 32) : Statement (.rakeStallEnd r) := fun _ => rfl
theorem keyRecordWritten (r : Fin 32) : Statement (.keyRecordWritten r) := fun _ => rfl
theorem sessionCreationWrite : Statement .sessionCreationWrite := fun _ => rfl
theorem forwardingDecision (p : Fin 30) : Statement (.forwardingDecision p) := fun _ => rfl
theorem recirculationPass : Statement .recirculationPass := fun _ => rfl
theorem learningRequest : Statement .learningRequest := fun _ => rfl
theorem transmissionSelection (e : Fin 30) : Statement (.transmissionSelection e) := fun _ => rfl
theorem macsecEgressDispatch (e : Fin 24) : Statement (.macsecEgressDispatch e) := fun _ => rfl
theorem transmitEnd (e : Fin 30) (tx : Machine.TxEnd) : Statement (.transmitEnd e tx) := fun h => nomatch h
theorem firmwareFrameSend (c : Fin 8) (b : List Byte) (oneStep : Bool) :
    Statement (.firmwareFrameSend c b oneStep) := fun h => nomatch h
theorem add (e : EngId) : Statement (.add e) := fun _ => rfl
theorem sub (e : EngId) : Statement (.sub e) := fun _ => rfl
theorem and (e : EngId) : Statement (.and e) := fun _ => rfl
theorem or (e : EngId) : Statement (.or e) := fun _ => rfl
theorem xor (e : EngId) : Statement (.xor e) := fun _ => rfl
theorem shl (e : EngId) : Statement (.shl e) := fun _ => rfl
theorem shr (e : EngId) : Statement (.shr e) := fun _ => rfl
theorem mov (e : EngId) : Statement (.mov e) := fun _ => rfl
theorem ext (e : EngId) : Statement (.ext e) := fun _ => rfl
theorem cmp (e : EngId) : Statement (.cmp e) := fun _ => rfl
theorem tst (e : EngId) : Statement (.tst e) := fun _ => rfl
theorem rds (e : EngId) : Statement (.rds e) := fun _ => rfl
theorem br (e : EngId) : Statement (.br e) := fun _ => rfl
theorem call (e : EngId) : Statement (.call e) := fun _ => rfl
theorem ret (e : EngId) : Statement (.ret e) := fun _ => rfl
theorem brx (e : EngId) : Statement (.brx e) := fun _ => rfl
theorem endProg (e : EngId) : Statement (.endProg e) := fun _ => rfl
theorem nop (e : EngId) : Statement (.nop e) := fun _ => rfl
theorem ld (e : EngId) : Statement (.ld e) := fun _ => rfl
theorem st (e : EngId) : Statement (.st e) := fun _ => rfl
theorem setcur (e : EngId) : Statement (.setcur e) := fun _ => rfl
theorem hdr (e : EngId) : Statement (.hdr e) := fun _ => rfl
theorem malf (e : EngId) : Statement (.malf e) := fun _ => rfl
theorem recirc (e : EngId) : Statement (.recirc e) := fun _ => rfl
theorem lkp (e : EngId) : Statement (.lkp e) := fun _ => rfl
theorem auth (e : EngId) : Statement (.auth e) := fun _ => rfl
theorem send (e : EngId) : Statement (.send e) := fun _ => rfl
theorem olen (e : EngId) : Statement (.olen e) := fun _ => rfl
theorem epochSwap (q : Sender) : Statement (.epochSwap q) := fun _ => rfl
theorem swapSettled : Statement .swapSettled := fun _ => rfl
theorem treeDataHiWrite (q : Sender) (w : Word) : Statement (.treeDataHiWrite q w) := fun _ => rfl
theorem treeDataLoRead (q : Sender) : Statement (.treeDataLoRead q) := fun _ => rfl
theorem treeDirectWrite (q : Sender) (i : Fin 262144) (hi : Bool) (w : Word) :
    Statement (.treeDirectWrite q i hi w) := fun h => nomatch h
theorem treeDirectRead (q : Sender) (i : Fin 262144) (hi : Bool) : Statement (.treeDirectRead q i hi) := fun h => nomatch h
theorem sessionAgeingScan : Statement .sessionAgeingScan := fun _ => rfl
theorem stashMove (i : Fin 256) : Statement (.stashMove i) := fun _ => rfl
theorem fwlLookup (q : Sender) : Statement (.fwlLookup q) := fun _ => rfl
theorem fwlRead (q : Sender) : Statement (.fwlRead q) := fun _ => rfl
theorem fwlInsert (q : Sender) : Statement (.fwlInsert q) := fun _ => rfl
theorem fwlDelete (q : Sender) : Statement (.fwlDelete q) := fun _ => rfl
theorem fwlFlush (q : Sender) (all : Bool) : Statement (.fwlFlush q all) := fun _ => rfl
theorem fwlFlushDone : Statement .fwlFlushDone := fun _ => rfl
theorem fdbAgeingScan : Statement .fdbAgeingScan := fun _ => rfl
theorem fdbLookup (q : Sender) : Statement (.fdbLookup q) := fun _ => rfl
theorem fdbRead (q : Sender) : Statement (.fdbRead q) := fun _ => rfl
theorem fdbInsert (q : Sender) : Statement (.fdbInsert q) := fun _ => rfl
theorem fdbDelete (q : Sender) : Statement (.fdbDelete q) := fun _ => rfl
theorem fdbFlush (q : Sender) (port : Fin 32) (all : Bool) : Statement (.fdbFlush q port all) := fun _ => rfl
theorem fdbFlushDone : Statement .fdbFlushDone := fun _ => rfl
theorem meterRefillTick : Statement .meterRefillTick := fun _ => rfl
theorem shaperCreditTick : Statement .shaperCreditTick := fun _ => rfl
theorem frerRecoveryReset (f : Fin 1024) : Statement (.frerRecoveryReset f) := fun _ => rfl
theorem stmTableRead (q : Sender) : Statement (.stmTableRead q) := fun _ => rfl
theorem stmTableWrite (q : Sender) : Statement (.stmTableWrite q) := fun _ => rfl
theorem stmTableReadClear (q : Sender) : Statement (.stmTableReadClear q) := fun _ => rfl
theorem trackerRateWrite (q : Sender) (d : Fin 2) (w : Word) : Statement (.trackerRateWrite q d w) := fun _ => rfl
theorem trackerAdjust (q : Sender) (d : Fin 2) (w : Word) : Statement (.trackerAdjust q d w) := fun _ => rfl
theorem trackerRefresh (q : Sender) (d : Fin 2) : Statement (.trackerRefresh q d) := fun _ => rfl
theorem trackerHealthTimeout (d : Fin 2) : Statement (.trackerHealthTimeout d) := fun _ => rfl
theorem workingClockUpdate : Statement .workingClockUpdate := fun _ => rfl
theorem wcCfgWrite (q : Sender) (w : Word) : Statement (.wcCfgWrite q w) := fun _ => rfl
theorem step (q : Sender) (d : Fin 2) : Statement (.step q d) := fun _ => rfl
theorem cancelStep (q : Sender) : Statement (.cancelStep q) := fun _ => rfl
theorem stepBoundary : Statement .stepBoundary := fun _ => rfl
theorem txtsRead (q : Sender) : Statement (.txtsRead q) := fun _ => rfl
theorem configChange (q : Sender) (i : Fin 96) : Statement (.configChange q i) := fun h => nomatch h
theorem configCopyDone (i : Fin 96) : Statement (.configCopyDone i) := fun h => nomatch h
theorem gateCancel (q : Sender) (i : Fin 96) : Statement (.gateCancel q i) := fun h => nomatch h
theorem configChangeTime (i : Fin 96) : Statement (.configChangeTime i) := fun h => nomatch h
theorem gateEntryStart (i : Fin 96) : Statement (.gateEntryStart i) := fun h => nomatch h
theorem gateListEnableWrite (q : Sender) (i : Fin 96) (w : Word) :
    Statement (.gateListEnableWrite q i w) := fun h => nomatch h
theorem travelCount (a b : Bool) : Statement (.travelCount a b) := fun _ => rfl
theorem triggerEnable (q : Sender) (k : Fin 8) (w : Word) : Statement (.triggerEnable q k w) := fun _ => rfl
theorem triggerDue (k : Fin 8) : Statement (.triggerDue k) := fun _ => rfl
theorem triggerPulseEnd (k : Fin 8) : Statement (.triggerPulseEnd k) := fun _ => rfl
theorem captureEdge (k : Fin 8) (rise : Bool) : Statement (.captureEdge k rise) := fun _ => rfl
theorem captureRead (q : Sender) (k : Fin 8) : Statement (.captureRead q k) := fun _ => rfl
theorem sluiceDispatch : Statement .sluiceDispatch := fun _ => rfl
theorem panJobComplete (p : Fin 4) : Statement (.panJobComplete p) := fun _ => rfl
theorem knownAnswerTest (bad : BitVec 4) : Statement (.knownAnswerTest bad) := fun _ => rfl
theorem panReturn (q : Sender) (m bad : BitVec 4) : Statement (.panReturn q m bad) := fun _ => rfl
theorem cphTableRead (q : Sender) : Statement (.cphTableRead q) := fun _ => rfl
theorem cphTableWrite (q : Sender) : Statement (.cphTableWrite q) := fun _ => rfl
theorem cphTableReadClear (q : Sender) : Statement (.cphTableReadClear q) := fun _ => rfl
theorem cphTableRestore (q : Sender) : Statement (.cphTableRestore q) := fun _ => rfl
theorem rekeyReqClear (q : Sender) (i : Fin 32) (m : Word) : Statement (.rekeyReqClear q i m) := fun _ => rfl
theorem channelRx (c : Fin 32) (m : Machine.Msg) (e : Machine.CanErr) : Statement (.channelRx c m e) := fun h => nomatch h
theorem channelTxStart (c : Fin 32) : Statement (.channelTxStart c) := fun _ => rfl
theorem channelTxDone (c : Fin 32) (ok : Bool) (e : Machine.CanErr) :
    Statement (.channelTxDone c ok e) := fun h => nomatch h
theorem busOffRecovery (c : Fin 16) : Statement (.busOffRecovery c) := fun _ => rfl
theorem linSlotStart (k : Fin 8) : Statement (.linSlotStart k) := fun _ => rfl
theorem linHeaderReceived (k : Fin 8) (h : Machine.LinHead) : Statement (.linHeaderReceived k h) := fun h => nomatch h
theorem linResponseTimeout (k : Fin 8) : Statement (.linResponseTimeout k) := fun _ => rfl
theorem linIdleSleep (k : Fin 8) : Statement (.linIdleSleep k) := fun _ => rfl
theorem serialMessageEnd (k : Fin 8) : Statement (.serialMessageEnd k) := fun _ => rfl
theorem channelRecover (q : Sender) (c : Fin 64) : Statement (.channelRecover q c) := fun _ => rfl
theorem channelSleep (q : Sender) (c : Fin 64) : Statement (.channelSleep q c) := fun _ => rfl
theorem channelWake (q : Sender) (c : Fin 64) : Statement (.channelWake q c) := fun _ => rfl
theorem channelFlushTx (q : Sender) (c : Fin 64) : Statement (.channelFlushTx q c) := fun _ => rfl
theorem channelWakeDetect (c : Fin 32) : Statement (.channelWakeDetect c) := fun _ => rfl
theorem linScheduleResume (k : Fin 8) : Statement (.linScheduleResume k) := fun _ => rfl
theorem gatewaySlice (run : Bool) : Statement (.gatewaySlice run) := fun _ => rfl
theorem gatewayTimer (c : Fin 64) : Statement (.gatewayTimer c) := fun _ => rfl
theorem contextWrite (q : Sender) (c : Fin 64) (o : Fin 128) (w : Word) :
    Statement (.contextWrite q c o w) := fun h => nomatch h
theorem pantryDataWrite (q : Sender) (w : Word) : Statement (.pantryDataWrite q w) := fun _ => rfl
theorem pantryDataRead (q : Sender) : Statement (.pantryDataRead q) := fun _ => rfl
theorem decapsulation : Statement .decapsulation := fun _ => rfl
theorem pcieReset (down : Bool) : Statement (.pcieReset down) := fun _ => rfl
theorem pcieLinkUp (speed width mps : Nat) (host : Machine.HostSetup) : Statement (.pcieLinkUp speed width mps host) := fun h => nomatch h
theorem inboundRead (bar off n tag : Nat) (whole answers : Bool) :
    Statement (.inboundRead bar off n tag whole answers) := fun h => nomatch h
theorem inboundReadTimeout (tag : Nat) : Statement (.inboundReadTimeout tag) := fun h => nomatch h
theorem inboundWrite (bar off reqId : Nat) (b : List Byte) (whole : Bool) (aux : Nat) :
    Statement (.inboundWrite bar off reqId b whole aux) := fun h => nomatch h
theorem poisonedTlp (bar off n reqId : Nat) : Statement (.poisonedTlp bar off n reqId) := fun h => nomatch h
theorem windowCfgWrite (q : Sender) (k : Fin 16) (w : Word) : Statement (.windowCfgWrite q k w) := fun _ => rfl
theorem prefetchFillDone (i : Fin 16) : Statement (.prefetchFillDone i) := fun _ => rfl
theorem prefetchExpiry (i : Fin 16) : Statement (.prefetchExpiry i) := fun _ => rfl
theorem ringTailWrite (q : Sender) (r : Fin 32) (w : Word) : Statement (.ringTailWrite q r w) := fun _ => rfl
theorem ringCfgWrite (q : Sender) (r : Fin 32) (w : Word) : Statement (.ringCfgWrite q r w) := fun _ => rfl
theorem txRingFetch (r : Fin 16) : Statement (.txRingFetch r) := fun _ => rfl
theorem dmaReadCompletion (r : Fin 16) (b : List Byte) : Statement (.dmaReadCompletion r b) := fun h => nomatch h
theorem dmaReadTimeout (r : Fin 32) : Statement (.dmaReadTimeout r) := fun _ => rfl
theorem rxRingDelivery (ana : Bool) (bufs : List Nat) : Statement (.rxRingDelivery ana bufs) := fun h => nomatch h
theorem coalesceTimerExpiry (r : Fin 32) : Statement (.coalesceTimerExpiry r) := fun _ => rfl
theorem dmaWriteFailure (r : Fin 32) (first : BitVec 16) : Statement (.dmaWriteFailure r first) := fun _ => rfl
theorem hatchPush (q : Sender) (h : Fin 64) (w : Word) : Statement (.hatchPush q h w) := fun _ => rfl
theorem hatchPushEnd (q : Sender) (h : Fin 64) : Statement (.hatchPushEnd q h) := fun _ => rfl
theorem hatchPop (h : Fin 64) (k tag : Nat) : Statement (.hatchPop h k tag) := fun h => nomatch h
theorem hatchLineMove (h : Fin 64) : Statement (.hatchLineMove h) := fun _ => rfl
theorem hatchFlush (q : Sender) (h : Fin 64) : Statement (.hatchFlush q h) := fun _ => rfl
theorem hatchArm (q : Sender) (h : Fin 64) : Statement (.hatchArm q h) := fun _ => rfl
theorem hatchCfgWrite (q : Sender) (h : Fin 64) (w : Word) : Statement (.hatchCfgWrite q h w) := fun _ => rfl
theorem strongroomRecord : Statement .strongroomRecord := fun _ => rfl
theorem stgTrigger (q : Sender) (reason : BitVec 8) : Statement (.stgTrigger q reason) := fun _ => rfl
theorem incidentPostExpiry (i : Fin 8) : Statement (.incidentPostExpiry i) := fun _ => rfl
theorem incidentLimitExpiry (i : Fin 8) : Statement (.incidentLimitExpiry i) := fun _ => rfl
theorem incidentRelease (q : Sender) (i : Fin 8) : Statement (.incidentRelease q i) := fun _ => rfl
theorem incidentExport (q : Sender) (i : Fin 8) : Statement (.incidentExport q i) := fun _ => rfl
theorem exportFrame : Statement .exportFrame := fun _ => rfl
theorem stopExport (q : Sender) : Statement (.stopExport q) := fun _ => rfl
theorem clearRing (q : Sender) : Statement (.clearRing q) := fun _ => rfl
theorem lockstepMismatch (g : Fin 16) : Statement (.lockstepMismatch g) := fun _ => rfl
theorem railDisagreement (g : Fin 16) : Statement (.railDisagreement g) := fun _ => rfl
theorem comparatorTest (fail : Option Nat) : Statement (.comparatorTest fail) := fun h => nomatch h
theorem checkpointNotice : Statement .checkpointNotice := fun _ => rfl
theorem checkpoint (parked agree : Bool) : Statement (.checkpoint parked agree) := fun _ => rfl
theorem ccxRestart (tcm bad : Bool) (fail : Option Nat) : Statement (.ccxRestart tcm bad fail) := fun h => nomatch h
theorem ccxDone : Statement .ccxDone := fun _ => rfl
theorem restartTimeout : Statement .restartTimeout := fun _ => rfl
theorem faultMessage (b : Fin 24) (bad : Bool) : Statement (.faultMessage b bad) := fun _ => rfl
theorem dualRailChange (src : Fin 768) (bad : Bool) : Statement (.dualRailChange src bad) := fun _ => rfl
theorem pendingClear (q : Sender) (src : Fin 768) : Statement (.pendingClear q src) := fun _ => rfl
theorem fltClear (q : Sender) (v : BitVec 16) : Statement (.fltClear q v) := fun _ => rfl
theorem faultPinTimerExpiry : Statement .faultPinTimerExpiry := fun _ => rfl
theorem faultPinRelease (q : Sender) : Statement (.faultPinRelease q) := fun _ => rfl
theorem refereePoll (ok : Bool) (pairId counter : Nat) (side : Fin 3) (body : Machine.PollBody) :
    Statement (.refereePoll ok pairId counter side body) := fun h => nomatch h
theorem refereeGrant (ok : Bool) (pairId counter : Nat) (side : Fin 2) (term leaseMs echo : Nat) :
    Statement (.refereeGrant ok pairId counter side term leaseMs echo) := fun h => nomatch h
theorem leaseExpiry : Statement .leaseExpiry := fun _ => rfl
theorem relinquish (q : Sender) : Statement (.relinquish q) := fun _ => rfl
theorem selftestNow (q : Sender) (bad : BitVec 4) : Statement (.selftestNow q bad) := fun _ => rfl
theorem pairLinkBlockLock : Statement .pairLinkBlockLock := fun _ => rfl
theorem pairHello (h : Machine.PairPeer) : Statement (.pairHello h) := fun h => nomatch h
theorem pairProof (ok : Bool) : Statement (.pairProof ok) := fun _ => rfl
theorem pairLinkLoss (lane : Bool) : Statement (.pairLinkLoss lane) := fun _ => rfl
theorem pairHealthSend : Statement .pairHealthSend := fun _ => rfl
theorem pairHealthReceived (ok : Bool) (counter : Nat) (health : Byte) :
    Statement (.pairHealthReceived ok counter health) := fun h => nomatch h
theorem pairTimeSend : Statement .pairTimeSend := fun _ => rfl
theorem pairTimeReceived (ok : Bool) (counter : Nat) (trk0 trk1 wc : BitVec 64) (back : Nat) :
    Statement (.pairTimeReceived ok counter trk0 trk1 wc back) := fun h => nomatch h
theorem crateSend (sweep : Word) : Statement (.crateSend sweep) := fun _ => rfl
theorem crateFragment (ok : Bool) (counter seq frag : Nat) (last : Bool) (body : List Byte) :
    Statement (.crateFragment ok counter seq frag last body) := fun h => nomatch h
theorem crateApplied : Statement .crateApplied := fun _ => rfl
theorem standbySelftest (bad : BitVec 4) : Statement (.standbySelftest bad) := fun _ => rfl
theorem selftestBankFree : Statement .selftestBankFree := fun _ => rfl
theorem selftestDone (cellsOk : Bool) : Statement (.selftestDone cellsOk) := fun _ => rfl
theorem takeoverComplete : Statement .takeoverComplete := fun _ => rfl
theorem mgtHello (via : Fin 4) (addr : Nat) (nonce eph credential : List Byte) (sigOk : Bool) :
    Statement (.mgtHello via addr nonce eph credential sigOk) := fun h => nomatch h
theorem mgtFinish (k : Fin 8) (via : Fin 4) (addr : Nat) (ok : Bool) : Statement (.mgtFinish k via addr ok) := fun _ => rfl
theorem finishTimeout (k : Fin 8) : Statement (.finishTimeout k) := fun _ => rfl
theorem certReq (via : Fin 4) (addr : Nat) (off : BitVec 16) : Statement (.certReq via addr off) := fun _ => rfl
theorem mgtRequest (k : Fin 8) (via : Fin 4) (addr : Nat) (seq : Nat) (tagOk : Bool) (reqId opcode : BitVec 16) (params : List Byte) :
    Statement (.mgtRequest k via addr seq tagOk reqId opcode params) := fun h => nomatch h
theorem mgtClose (k : Fin 8) (via : Fin 4) (addr : Nat) (seq : Nat) (tagOk fromDevice : Bool) :
    Statement (.mgtClose k via addr seq tagOk fromDevice) := fun h => nomatch h
theorem sessionIdleTimeout (k : Fin 8) : Statement (.sessionIdleTimeout k) := fun _ => rfl
theorem getInfo : Statement .getInfo := fun _ => rfl
theorem regRead : Statement .regRead := fun _ => rfl
theorem regWrite : Statement .regWrite := fun _ => rfl
theorem regModify : Statement .regModify := fun _ => rfl
theorem cntRead : Statement .cntRead := fun _ => rfl
theorem faultClear : Statement .faultClear := fun _ => rfl
theorem updateBegin : Statement .updateBegin := fun _ => rfl
theorem updateChunk : Statement .updateChunk := fun _ => rfl
theorem updateEnd (late : Bool) : Statement (.updateEnd late) := fun _ => rfl
theorem updateCommit : Statement .updateCommit := fun _ => rfl
theorem updateConfirm : Statement .updateConfirm := fun _ => rfl
theorem updateCancel : Statement .updateCancel := fun _ => rfl
theorem updateStatus : Statement .updateStatus := fun _ => rfl
theorem rulesetSwap (late : Bool) : Statement (.rulesetSwap late) := fun _ => rfl
theorem timeGet : Statement .timeGet := fun _ => rfl
theorem timeStep : Statement .timeStep := fun _ => rfl
theorem timeSource : Statement .timeSource := fun _ => rfl
theorem gateChange (late : Bool) : Statement (.gateChange late) := fun _ => rfl
theorem attest : Statement .attest := fun _ => rfl
theorem pairStatus : Statement .pairStatus := fun _ => rfl
theorem pairRelinquish : Statement .pairRelinquish := fun _ => rfl
theorem pairSelftest (bad : BitVec 4) : Statement (.pairSelftest bad) := fun _ => rfl
theorem zeroize : Statement .zeroize := fun _ => rfl
theorem power : Statement .power := fun _ => rfl
theorem reset : Statement .reset := fun _ => rfl

end Sys2Proof.Laws.Widths
end

