-- ==== Sys2Proof/Laws/Power.lean ====
section
/-!
SUPPORT. The power manager: PMBus commands leave registers and power state, and what one attempt of the wake sequence does.
-/
namespace Sys2Proof.Machine.State

theorem pwr_pmbOperation (s : State) (i d : Nat) : (s.pmbOperation i d).pwr = s.pwr := by
  unfold pmbOperation
  refine each_keep State.pwr _ ?_ _ _
  intro u x
  rfl

theorem regs_pmbOperation (s : State) (i d : Nat) : (s.pmbOperation i d).regs = s.regs := by
  unfold pmbOperation
  refine each_keep State.regs _ ?_ _ _
  intro u x
  rfl

/-- The down steps depend on the registers alone. -/
theorem downSet_congr {s t : State} (h : s.regs = t.regs) (n : Nat) : s.downSet n = t.downSet n := by
  unfold downSet
  simp only [rf_congr h, on_congr h]

theorem entryAfter_congr {s t : State} (h : s.regs = t.regs) (n k : Nat) : s.entryAfter n k = t.entryAfter n k := by
  unfold entryAfter
  rw [downSet_congr h]

/-- What follows once every rail is up. -/
theorem pwr_railsUp (s : State) : s.railsUp.pwr =
    { s.pwr with wake := if s.pwr.asleep = pwrSleepD then .coldReset else .start 0, ramp := 0 } := rfl

/-- One attempt of the wake sequence drives INH and raises the lowest down step, or finds every rail up (R86). -/
theorem wakeAttempt_does (s : State) :
    s.wakeAttempt.regs = s.regs ∧ s.wakeAttempt.pwr.inh = true ∧ s.wakeAttempt.pwr.wakePending = s.pwr.wakePending ∧
    s.wakeAttempt.pwr.wake = match s.downSet s.pwr.asleep with
      | i :: _ => .pgood i
      | [] => if s.pwr.asleep = 1 then .coldReset else .start 0 := by
  unfold wakeAttempt
  dsimp only
  have h : ∀ (g : Pwr → Pwr) (n : Nat), (s.power g).downSet n = s.downSet n := fun _ _ => rfl
  simp only [h, pwr_power]
  cases s.downSet s.pwr.asleep with
  | nil => exact ⟨rfl, rfl, rfl, rfl⟩
  | cons => exact ⟨rfl, rfl, rfl, rfl⟩

end Sys2Proof.Machine.State
end

