-- ==== Sys2Proof/Laws/Sec.lean ====
section
/-!
SUPPORT. Key slots and zeroization.
-/
namespace Sys2Proof.Machine.State

/-- Clearing a key slot leaves VALID 0. -/
theorem slotValid_slotClear_self (t : State) (k : Nat) : (t.slotClear k).slotValid k = false := by
          unfold State.slotValid State.on State.rf State.slotClear
          rw [State.rword_secure, show (Fld.SEC_KEY_ATTR_VALID k).addr = Reg.SEC_KEY_ATTR k from rfl, State.rword_wword_self]
          rfl
theorem slotValid_slotClear_of_not (t : State) (k x : Nat) (hx : k ≠ x) (h : t.slotValid k = false) : (t.slotClear x).slotValid k = false := by
            unfold State.slotValid State.on State.rf at h ⊢
            unfold State.slotClear
            rw [State.rword_secure, show (Fld.SEC_KEY_ATTR_VALID k).addr = Reg.SEC_KEY_ATTR k from rfl, State.rword_wword_of_ne _ _ (show Reg.SEC_KEY_ATTR k ≠ Reg.SEC_KEY_ATTR x by unfold Reg.SEC_KEY_ATTR; omega)]
            exact h
/-- Clearing a list of slots leaves each of them, and each slot that was not valid, not valid. -/
theorem slotValid_slotClears (l : List Nat) (t : State) (k : Nat) : (k ∈ l ∨ t.slotValid k = false) → (t.each l State.slotClear).slotValid k = false := by
      induction l generalizing t with
      | nil => intro h; rcases h with h | h; exact absurd h (by simp); exact h
      | cons x l ih =>
        intro h
        refine ih (t.slotClear x) ?_
        by_cases hx : k = x
        · right
          exact hx ▸ slotValid_slotClear_self t k
        · rcases h with h | h
          · exact .inl (by simpa [hx] using h)
          · right
            exact slotValid_slotClear_of_not t k x hx h
/-- Zeroization clears every slot, ends the sessions, reseeds the DRBG and forgets the derived keys and the key store. -/
theorem zeroize_eq (s : State) {t : State} (h : t = (s.each (List.range 256) State.slotClear).mgtEndAll) :
    let u := State.secure t.reseed fun x => { x with unitKek := none, classKek := none, ident := none, mat := [] }
    s.zeroize = (State.wf { u with ccx := { u.ccx with keys := [] } } .SEC_STATUS_ZEROIZED 1).notify 0x02F 0x0D := by
  unfold zeroize
  rw [← h]

/-! Neither a slot's end nor a session's touches the fuses. -/

theorem fuse_slotClear (s : State) (k : Nat) : (s.slotClear k).sec.fuse = s.sec.fuse := rfl

theorem fuse_slotErase (s : State) (k : Nat) : (s.slotErase k).sec.fuse = s.sec.fuse := by
  unfold slotErase
  split
  · rfl
  · split <;> rfl

theorem sec_updAbandon (s : State) : s.updAbandon.sec = s.sec := by
  unfold updAbandon
  simp only [sec_wf, sec_booting]
  split <;> split <;> rfl

theorem fuse_mgtEnd (s : State) (k : Nat) : (s.mgtEnd k).sec.fuse = s.sec.fuse := by
  unfold mgtEnd
  split
  · rfl
  · have key : ∀ (b : Bool) (t : State), (if b = true then t.updAbandon else t).sec.fuse = t.sec.fuse := by
      intro b t
      split
      · rw [sec_updAbandon]
      · rfl
    refine (key _ _).trans ?_
    split
    · simp only [sec_wf, fuse_slotErase]
      rfl
    · rfl

theorem fuse_mgtEndAll (s : State) : s.mgtEndAll.sec.fuse = s.sec.fuse := by
  unfold mgtEndAll
  exact each_keep (fun u => u.sec.fuse) mgtEnd fuse_mgtEnd _ _

theorem fuse_slotClears (s : State) (l : List Nat) : (s.each l slotClear).sec.fuse = s.sec.fuse :=
  each_keep (fun u => u.sec.fuse) slotClear fuse_slotClear l s

theorem fuse_zeroize (s : State) : s.zeroize.sec.fuse = s.sec.fuse := by
  have h := (fuse_mgtEndAll (s.each (List.range 256) slotClear)).trans (s.fuse_slotClears (List.range 256))
  obtain ⟨t, ht⟩ : ∃ t, t = (s.each (List.range 256) slotClear).mgtEndAll := ⟨_, rfl⟩
  rw [s.zeroize_eq ht]
  rw [← ht] at h
  exact h

end Sys2Proof.Machine.State
end

