-- ==== Sys2Proof/Tests/Slice0.lean ====
section
/-!
SUPPORT. Tests: ill-formed commands are refused by WellFormed, witnesses for the hypotheses of the obligations, and small checks
whose expected values come from the spec.
-/
namespace Sys2Proof.Tests

open Sys2Proof.Machine

/-- A device that is awake, at its reset values otherwise. -/
def awakeState : State := State.power State.reset fun p => { p with porst := false }

/-- An awake device after image commit. -/
def committedState : State := awakeState.wf .TOP_STATE_COMMITTED 1


/-- A queue with a command in front. -/
theorem test_front_witness : ({ awakeState with pending := [.stopExport .ccx, .getInfo] } : State).pending = .stopExport .ccx :: [.getInfo] := rfl

/-- An awake device and one in cold reset, with no command waiting. -/
theorem test_idle_witness : awakeState.pending = [] ∧ awakeState.awake = true ∧ State.reset.pending = [] ∧ State.reset.awake = false := by
  decide

/-- The reset state meets the invariant, and so does an awake device, whose next step answers a state. -/
theorem test_inv_witness : State.reset.Inv := by
  unfold State.Inv State.linesShown State.waitShown State.dueServed
  decide

/-- A register of the map. -/
theorem test_row_witness : (regRowAt Reg.TOP_ID).isSome = true := by decide

/-- A state in which no trigger has fallen due. -/
theorem test_quiet_witness : awakeState.dueServed := rfl

/-- Two memories in canonical form that read the same. -/
theorem test_canonical_witness : Memory.wf (fun _ => (0 : Byte)) [(3, 1)] = true ∧ Memory.wf (fun _ => (0 : Byte)) [(3, 2)] = true ∧
    Memory.wf (fun _ => (none : Option Byte)) [(3, some 0)] = true ∧ Memory.wf (fun _ => (0 : Byte)) [(3, 0)] = false := by decide

/-- A written register with fields of several types, a locked field, and a write that reaches one after commit. -/
theorem test_write_witness : awakeState.reaches .ccx Reg.TOP_RESET_CAUSE ∧ regSpace Reg.TOP_RESET_CAUSE = true ∧
    Reg.TOP_RESET_CAUSE % 4 = 0 ∧ (regRowAt Reg.TOP_RESET_CAUSE).isSome = true ∧ actsOnWrite Reg.TOP_RESET_CAUSE = false ∧
committedState.lockKept Reg.PWR_SEQ_CFG 0xFFFFFFFF = false ∧
    committedState.lockKept Reg.PWR_SEQ_CFG 0x0A000000 = true := by
  unfold State.reaches
  decide

/-- A register with RC fields. -/
theorem test_rc_witness : awakeState.readable .debug Reg.RAK_WAIT ∧
    (∃ r, regRowAt Reg.RAK_WAIT = some r ∧ r.maskOf .rc ≠ 0) := by
  unfold State.readable
  exact ⟨by decide, ⟨0x180108, 4, 1, 0, [⟨16, 16, .rc, 0⟩, ⟨0, 16, .ro, 0⟩]⟩, by decide, by decide⟩

/-- A counter of the host bridge, low and high word. -/
theorem test_counter_witness : awakeState.readable .host (Ctr.brg 3) ∧ counterLow (Ctr.brg 3) = true ∧
    awakeState.readable .host (Ctr.brg 3 + 4) ∧ awakeState.gatEntry (Ctr.brg 3 + 4) = none ∧ regRowAt (Ctr.brg 3 + 4) = none ∧
    regSpace (Ctr.brg 3 + 4) = true ∧ actsOnRead (Ctr.brg 3 + 4) = false := by
  unfold State.readable
  decide

/-- The three full time values are readable. -/
theorem test_full_time_witness : ∀ c : Fin 3, awakeState.readable .ccx (fullTimeReg c) := by
  unfold State.readable
  decide

/-- An address in no window. -/
theorem test_unmapped_witness : mappedAddr 0x90000 = false ∧ awakeState.awake = true ∧ awakeState.mayRead .host 0x90000 = true := by decide

/-- Host software before commit; a block without its bit after commit; a provisioned unit's debug port. -/
theorem test_blocked_witness : awakeState.awake = true ∧ mappedAddr (Reg.MAC_PORT_CFG 0) = true ∧
    awakeState.mayWrite .host (Reg.MAC_PORT_CFG 0) = false ∧ awakeState.committed = false ∧ committedState.committed = true ∧
    ownerOf (Reg.MAC_PORT_CFG 0) = some 9 ∧ Reg.SEC_DEBUG_TOKEN 62 ≤ Reg.MAC_PORT_CFG 0 ∧ State.reset.debugOpen = true ∧
    ({ awakeState with sec := { awakeState.sec with life := 1 } } : State).debugOpen = false ∧ mailboxReg Reg.TOP_ID = false := by decide

/-- HAT in block reset. -/
theorem test_block_off_witness : (let s : State := { awakeState with blockRst := 2 ^ 19 }
    s.awake = true ∧ mappedAddr (Reg.HAT_CFG 0) = true ∧ s.mayWrite .ccx (Reg.HAT_CFG 0) = true ∧ s.mayRead .ccx (Reg.HAT_CFG 0) = true ∧
    s.ownerOff (Reg.HAT_CFG 0) = true) := by decide

/-- A wrong key. -/
theorem test_key_witness : awakeState.reaches .ccx Reg.STG_CMD ∧ fldGet 0x57C90005 16 16 ≠ 0x57C8 := by
  unfold State.reaches
  decide

/-- An awake device, and sources in and out of the DRAM port's range. -/
theorem test_chip_reset_witness : awakeState.awake = true ∧ awakeState.reaches .ccx Reg.TOP_RESET_CMD ∧ chipKept (Reg.MAC_PORT_CFG 3) = false ∧
    dramSource 0x2A0 = true ∧ dramSource 0x051 = false := by
  unfold State.reaches
  decide

/-- A device held in reset; one whose rails are up after SLEEP-D; one without a fuse write. -/
theorem test_cold_witness : State.reset.pwr.porst = true ∧ State.reset.sec.blowing = none ∧
    (State.power State.reset fun p => { p with wake := .coldReset }).pwr.wake = .coldReset := by decide

/-- Blocks with and without block reset, and a block in block reset. -/
theorem test_block_reset_witness : awakeState.awake = true ∧ hasBlockReset 18 = true ∧ hasBlockReset 14 = false ∧ awakeState.blockOff 18 = false ∧
    ({ awakeState with blockRst := 2 ^ 18 } : State).blockOff 18 = true ∧ inBlock 18 Reg.GWE_INT = true := by decide

/-- A state whose lines are shown. -/
theorem test_int_pin_witness : State.reset.linesShown := by
  unfold State.linesShown
  decide

/-- A serving bridge; an active line routed to a message; a vector with a message held back. -/
theorem test_eoi_witness : awakeState.reaches .ccx Reg.TOP_INT_EOI ∧ awakeState.serves 20 = true ∧
    ((awakeState.wf .CCX_INT_RAIL 1).wf .CCX_INT_EN 2).line 4 = true := by
  unfold State.reaches
  decide

/-- A power command reaches its register; a state that refuses nothing; states of each code but the second, which needs the role 0b11. -/
theorem test_power_refusal_witness : committedState.reaches .ccx Reg.PWR_CMD ∧
    (State.power committedState fun p => { p with wake := .none }).inTransition = false ∧
    committedState.inTransition = false ∧ committedState.pwrRefusal 4 = 0 ∧ awakeState.pwrRefusal 4 = 3 ∧
    (committedState.power fun p => { p with wakePending := true }).pwrRefusal 4 = 1 ∧
    (committedState.wf .TOP_STATE_PAIR_ROLE 3).pwrRefusal 4 = 2 ∧ (committedState.wf .PWR_STATUS_BUSY 1).pwrRefusal 4 = 5 ∧
    (committedState.wf .TOP_STRAP_PAIR_EN 1).pwrRefusal 4 = 4 := by
  unfold State.reaches
  decide

/-- An awake device with a sleep entry in progress. -/
theorem test_entry_witness : (State.power committedState fun p => { p with entry := some ⟨1, 3, .lower 2, false, false⟩ }).awake = true ∧
    (State.power committedState fun p => { p with entry := some ⟨1, 3, .lower 2, false, false⟩ }).pwr.entry =
      some ⟨1, 3, .lower 2, false, false⟩ := by decide

/-- A device asleep in SLEEP-R whose timer source is enabled, and one whose start table runs. -/
theorem test_wake_witness : ((State.power awakeState fun p => { p with asleep := 2 }).wf .PWR_WAKE_EN_TIMER 1).wakeEnabled 0x40 = true ∧
    ((State.power awakeState fun p => { p with asleep := 2 }).wf .PWR_WAKE_EN_TIMER 1).pwr.wake = .none ∧
    ((State.power awakeState fun p => { p with asleep := 2 }).wf .PWR_WAKE_EN_TIMER 1).rf .PWR_WAKE_CAUSE_FIRST = 0 ∧
    (State.power awakeState fun p => { p with wake := .start 0 }).pwr.wake = .start 0 ∧
    (State.reset.wf (.PWR_SEQ_TIMEOUT 0) 3).rf (.PWR_SEQ_TIMEOUT 0) ≠ 0 := by decide

/-- A write of PWR_SEQ_CFG before commit, and tables that are valid and not. -/
theorem test_table_witness : awakeState.reaches .ccx Reg.PWR_SEQ_CFG ∧ awakeState.lockKept Reg.PWR_SEQ_CFG 0x0A000100 = true ∧
    fldGet (0x0A000100 : Word) 8 7 = 1 ∧ tableValid (awakeState.startTable 1) = false ∧ tableValid defaultTable = true := by
  unfold State.reaches
  decide

/-- An awake device whose DRAM is up, with a PMBus device that is enabled. -/
theorem test_monitor_witness : ({ awakeState with dram := { awakeState.dram with up := true } } : State).awake = true ∧
    awakeState.dram.selfRefresh = false ∧ sextNat 12 0x100 < 480 ∧
    ((List.range 8).filter (fun d => (awakeState.wf (.PWR_PMB_DEV_EN 3) 1).on (.PWR_PMB_DEV_EN d))).find?
      (fun d => fldGet (([0, 0, 0, 5] : List Word)[d]?.getD 0) 0 16 ≠ 0) = some 3 ∧
    ((awakeState.wf .PWR_SEQ_CFG_NSEQ 1).wf (.PWR_SEQ_PG_MASK 0) 4).raisedSteps.any (fun i =>
      bitAt (((awakeState.wf .PWR_SEQ_CFG_NSEQ 1).wf (.PWR_SEQ_PG_MASK 0) 4).rf (.PWR_SEQ_PG_MASK i)) 2) = true := by decide

/-- An update command reaches its register in a committed device; states of an update. -/
theorem test_update_witness : committedState.reaches .ccx Reg.BOOT_UPDATE_CMD ∧
    (committedState.on .TOP_STATE_CCX_RESTART || committedState.on .BOOT_UPDATE_STATUS_BUSY || !committedState.committed) = false ∧
    committedState.updState = 0 ∧ committedState.boot.slot ≠ 2 ∧ (committedState.wf .BOOT_UPDATE_STATUS_STATE 4).updState = 4 := by
  unfold State.reaches
  decide

/-- A transfer that is open, with a chunk waiting. -/
theorem test_chunk_witness : awakeState.reaches .host Reg.BOOT_STAGE_LEN ∧
    ((awakeState.wf .BOOT_UPDATE_STATUS_STATE 2).wf .BOOT_STAGE_STATUS_READY 1).updState = 2 ∧
    ((awakeState.wf .BOOT_UPDATE_STATUS_STATE 2).wf .BOOT_STAGE_STATUS_READY 1).stageRoom 32768 = true := by
  unfold State.reaches
  decide

/-- A device at the start of boot, and one in pass 2 of a PCIe source. -/
theorem test_boot_witness : awakeState.awake = true ∧ awakeState.boot.stage = .start ∧ awakeState.pwr.wake = .none ∧ awakeState.bootMode = 0 ∧
    (awakeState.wf .TOP_STRAP_BOOT_MODE 2).bootMode = 2 ∧
    ({ awakeState with boot := { awakeState.boot with stage := .pass2, load := some ⟨3, [], true, 0⟩ } } : State).boot.chunk = none := by decide

/-- SEC_ZEROIZE is reached by the host and by the complex. -/
theorem test_zeroize_witness : committedState.reaches .host Reg.SEC_ZEROIZE ∧ committedState.reaches .ccx Reg.SEC_ZEROIZE := by
  unfold State.reaches
  decide

/-- A token check reaches its register, and the token of the reset state fails. -/
theorem test_token_witness : awakeState.reaches .debug Reg.SEC_DEBUG_CMD ∧ awakeState.tokenOk = false := by
  unfold State.reaches
  decide

/-- Lifecycle changes, allowed and not; a key slot that is free and one that is in use. -/
theorem test_lifecycle_witness : awakeState.reaches .ccx Reg.SEC_LIFECYCLE_CMD ∧ awakeState.lifeAllowed 3 = false ∧
    (State.secure awakeState fun x => { x with life := 1 }).lifeAllowed 3 = true ∧ awakeState.slotLocked 5 = false ∧
    (awakeState.wf (.SEC_KEY_ATTR_LOCK 5) 1).slotLocked 5 = true ∧ awakeState.readable .debug (Reg.SEC_DEBUG_CHAL 0) := by
  unfold State.reaches State.readable
  decide

/-- Ports in each link state that a clause starts from. -/
theorem test_link_witness : awakeState.reaches .ccx (Reg.MAC_PORT_CFG 5) ∧ awakeState.lockKept (Reg.MAC_PORT_CFG 5) 0 = true ∧
    (awakeState.wf (.MAC_LINK_STATUS_STATE 5) 1).linkState 5 = 1 ∧ awakeState.refDown 5 = false ∧
    (awakeState.wf (.MAC_LINK_STATUS_STATE 23) 4).portUp 23 = true := by
  unfold State.reaches
  decide

/-- A port in UP with verification under way and a rate source that has a threshold. -/
theorem test_pause_witness : let s := ((awakeState.wf (.MAC_LINK_STATUS_STATE 3) 4).wf (.MAC_PREEMPT_EN 3) 1).wf (.MAC_PREEMPT_VERIFY_STATUS 3) 1
    s.awake = true ∧ s.portUp 3 = true ∧ s.on (.MAC_PREEMPT_EN 3) = true ∧ s.on (.MAC_PREEMPT_VERIFY_DIS 3) = false ∧
    s.rf (.MAC_PREEMPT_VERIFY_STATUS 3) = 1 ∧ s.onWire 3 = none ∧ (s.wf .TOP_STATE_FWD_EN 1).fwdEn = true ∧
    (s.rateThr 0x081).isSome = true := by decide

/-- PHY states from which the clauses start. -/
theorem test_phy_witness : (awakeState.wf (.MAC_LINK_STATUS_STATE 12) 4).portUp 12 = true ∧
    (awakeState.wf (.MAC_LINK_STATUS_STATE 23) 5).linkState 23 = 5 ∧ (awakeState.wf (.PHY_PLCA_EN 20) 1).on (.PHY_PLCA_EN 20) = true ∧
    awakeState.rf (.PHY_PLCA_NODE_ID 20) = 0 ∧ (awakeState.wf (.PHY_STATUS_TC10_STATE 12) 1).rf (.PHY_STATUS_TC10_STATE 12) = 1 ∧
    awakeState.reaches .ccx (Reg.PHY_TC10_CMD 12) ∧ awakeState.reaches .ccx Reg.MAC_MDIO_CMD ∧ awakeState.mac.mdio = none ∧
    awakeState.mac.mdioWait = [] ∧ awakeState.on .MAC_MDIO_CMD_BUSY = false := by
  unfold State.reaches
  decide

/-- A port in UP, a frame that it begins, and port 24 not held. -/
theorem test_frame_witness : let s := awakeState.wf (.MAC_LINK_STATUS_STATE 5) 4
    s.portUp 5 = true ∧ ((s.frameArrival 5).frame s.nextFid).isSome = true ∧ (s.wf (.SWC_PORT_ADM_MIN 24) 1).held 24 = false := by decide

/-- A frame ready for dispatch, a free Rake, and a copy that leaves on port 28. -/
theorem test_stages_witness : let s := awakeState.wf (.MAC_LINK_STATUS_STATE 5) 4
    let t := (s.newFrame 5 0 false).2
    let u := t.setFrame 1 ((t.frame 1).map (fun f => { f with dropped := false, ended := true, bytes := List.replicate 64 0 }))
    (u.nextReady).isSome = true ∧ u.freeRake = some 0 ∧ u.eccAt .entry 0 = 0 := by decide

/-- A frame on the wire of an external port, of port 24, and ports whose blocks are in service or in reset. -/
theorem test_egress_witness : let f := (awakeState.newFrame 5 0 false).2
    let s := (f.setWire 3 (some (Copy.plain 1 3 0 0 0))).setWire 24 (some (Copy.plain 1 24 0 0 0))
    (s.onWire 3).isSome = true ∧ (s.onWire 24).isSome = true ∧ (s.frame 1).isSome = true ∧ s.portDown 25 = false ∧ State.portDown { s with blockRst := 2 ^ 18 } 26 = true ∧
    s.onWire 29 = none ∧ s.preemptedOn 29 = none ∧ s.egressJob 29 0 = false := by decide

/-- A whole frame of three bytes from port 0. -/
def threeBytes : Frame :=
  ⟨0, [1, 2, 3], true, false, 3, 0, 0, 0, 0, false, false, 0, 0, 0, [], false, 0, false, .queued, 0, 0, none, false, none, none, 0, 0,
    Key.empty, [], Verdict.empty, 0, [], none⟩

/-- An instance on Rake 3 at word 7. -/
def rakeEng : Eng := { Eng.start 0 { threeBytes with bytes := [] } with pc := 7 }

/-- A Rake about to execute `w`, with a NOP behind it. -/
def rakeState (w : BitVec 64) : State :=
  let s := awakeState.setEng (.rake 3) (some rakeEng)
  { s with rak := { s.rak with store := [(7, w), (8, 0x5400000000000000)] } }

/-- ADD W0, W1, 5 is 0x01 in bits 63:58, 1 in 53:50, bit 45 and IMM 5 (R205, R206); a NOP is 0x15 in bits 63:58. -/
theorem test_add_runs : (rakeState 0x0404200000000005).runs (.rake 3) 0x01 rakeEng (decodeI 0x0404200000000005) ∧
    (rakeState 0x0404200000000005).fetchable (.rake 3) 8 1 ∧ (decodeI 0x0404200000000005).i = true ∧
    (decodeI 0x0404200000000005).imm = 5 ∧ (decodeI 0x0404200000000005).rd = 0 ∧ (decodeI 0x0404200000000005).ra = 1 := by
  unfold State.runs State.fetchable
  decide

/-- ADD wraps with C set (R204). -/
theorem test_add_wraps : addC 0xFFFFFFFF 2 = (1, true) := by decide

/-- SUB of a larger value borrows (R204). -/
theorem test_sub_borrows : subC 1 2 = (0xFFFFFFFF, true) := by decide

/-- BR EQ to 8 is 0x10 in bits 63:58, CX 1 in bits 41:38 and IMM 8 (R205, R206). -/
theorem test_br_runs : (rakeState 0x4000004000000008).runs (.rake 3) 0x10 rakeEng (decodeI 0x4000004000000008) ∧
    (decodeI 0x4000004000000008).cx = 1 ∧ (decodeI 0x4000004000000008).imm.toNat = 8 := by
  unfold State.runs
  decide

/-- LD W0 of a byte at W1 and ST of a byte at W0 in space 1: 0x20 and 0x21 in bits 63:58, CX 1 in 41:38 (R205, R206). -/
theorem test_ld_runs : (rakeState 0x8004004000000000).runs (.rake 3) 0x20 rakeEng (decodeI 0x8004004000000000) ∧
    (rakeState 0x840000400000003C).runs (.rake 3) 0x21 rakeEng (decodeI 0x840000400000003C) ∧
    (decodeI 0x8004004000000000).cx = 1 ∧ accAddr (.rake 3) rakeEng (decodeI 0x840000400000003C) = some 60 := by
  unfold State.runs
  decide

/-- HDR AUTO, MALF 0xB, END and RECIRC on a Rake (R205, R206). -/
theorem test_end_runs : (rakeState 0xC000000000000000).runs (.rake 3) 0x30 rakeEng (decodeI 0xC000000000000000) ∧
    (rakeState 0xC40000000000000B).runs (.rake 3) 0x31 rakeEng (decodeI 0xC40000000000000B) ∧
    (rakeState 0x5000000000000000).runs (.rake 3) 0x14 rakeEng (decodeI 0x5000000000000000) ∧ rakeEng.checks = [] ∧
    (rakeState 0xC800000000000000).runs (.rake 3) 0x32 rakeEng (decodeI 0xC800000000000000) := by
  unfold State.runs
  decide

/-- After commit a swap is possible, and the other bank may be written. -/
theorem test_tree_witness : let s := committedState.wf .CLS_EPOCH_STATUS_OLD_FREE 1
    s.reaches .ccx Reg.CLS_EPOCH_CMD ∧ s.on .CLS_EPOCH_STATUS_OLD_FREE = true ∧ s.rf .BOOT_UPDATE_STATUS_STATE ≠ 5 ∧
    s.on .CLS_CFG_BYPASS = false ∧ s.treeWritable 131072 = true ∧ s.treeWritable 0 = false ∧ s.eccAt .tree 5 = 0 ∧
    s.mayWrite .ccx (treeBase + 8 * 5) = true ∧ s.blockOff 12 = false := by
  unfold State.reaches
  decide

/-- A session command reaches its register, and an empty table has no entry to find. -/
theorem test_session_witness : committedState.reaches .ccx Reg.FWL_CMD ∧ committedState.on .FWL_CMD_STATUS_BUSY = false ∧
    committedState.sessAt 0 = none ∧ committedState.eccAt .session 0 = 0 ∧
    (committedState.sessPut 3 (some (Sess.ofBytes []))).sessAt 3 ≠ none := by
  unfold State.reaches
  decide

/-- An FDB command reaches its register; an empty table finds nothing and has a free way. -/
theorem test_fdb_witness : committedState.reaches .ccx Reg.SWC_FDB_CMD ∧ committedState.on .SWC_FDB_STATUS_BUSY = false ∧
    committedState.fdbAt 0 = none ∧ committedState.eccAt .fdb 0 = 0 ∧ committedState.cel.walks = [] ∧
    (committedState.wf .SWC_AGE_CFG_EN 1).on .SWC_AGE_CFG_EN = true := by
  unfold State.reaches
  decide

/-- After commit a stream table command reaches its register, and table 2 has the index 0. -/
theorem test_stm_witness : committedState.reaches .ccx Reg.STM_IND_CMD ∧ committedState.on .STM_IND_CMD_BUSY = false ∧
    (committedState.wf .STM_IND_CMD_BUSY 1).on .STM_IND_CMD_BUSY = true ∧
    committedState.rf .STM_IND_ADDR_INDEX < stmIndices (committedState.rf .STM_IND_ADDR_TABLE) ∧
    stmValid 1 (List.replicate 128 0) = true ∧ stmIndices (committedState.wf .STM_IND_ADDR_TABLE 6 |>.rf .STM_IND_ADDR_TABLE) = 0 ∧
    4 ≤ (committedState.wf .STM_IND_ADDR_TABLE 4).rf .STM_IND_ADDR_TABLE ∧
    (committedState.wf (.SCH_SHAPER_CFG_MODE 3) 2).rf (.SCH_SHAPER_CFG_MODE 3) = 2 ∧ committedState.gateOpen 24 0 = true ∧
    spGet (fun _ => false) (spSet (fun _ => false) committedState.stm.frerTimer 5 true) 5 = true := by
  unfold State.reaches
  decide

/-- A tracker's registers and commands reach; a healthy tracker, a pending step and each state of the clock exist. -/
theorem test_clock_witness : committedState.reaches .ccx (Reg.TIM_DOM_RATE 1) ∧ committedState.reaches .ccx (Reg.TIM_DOM_ADJ_HI 0) ∧
    committedState.reaches .ccx (Reg.TIM_DOM_CFG 1) ∧ (committedState.wf (.TIM_DOM_CFG_TIMEOUT 1) 7).rf (.TIM_DOM_CFG_TIMEOUT 1) ≠ 0 ∧
    committedState.reaches .ccx Reg.TIM_WC_CFG ∧ committedState.reaches .ccx Reg.TIM_WC_CMD ∧ committedState.healthy 0 = false ∧
    (committedState.setHealthy 0 true).healthy 0 = true ∧ committedState.runningConfs = [] ∧ committedState.tim.stepReq = none ∧
    committedState.on .TOP_STATE_CCX_RESTART = false ∧ committedState.rf .TIM_STATUS_STATE = 0 ∧ committedState.wcOffset 0 = 0 ∧
    (committedState.wf .TIM_STATUS_STATE 3).rf .TIM_STATUS_STATE = 3 := by
  unfold State.reaches
  decide

/-- An egress and an ingress list have their command registers; a list with one entry of 50 us fits every limit. -/
theorem test_gate_witness : gateList 3 = true ∧ gateList 95 = true ∧ committedState.reaches .ccx (Reg.GAT_CMD 3) ∧
    committedState.reaches .ccx (Reg.GAT_ADMIN_CFG 95) ∧ committedState.on (.GAT_STATUS_PENDING 3) = false ∧
    committedState.rf (.GAT_ADMIN_CFG_ADMIN_LEN 3) = 1 ∧ committedState.rf (.GAT_ADMIN_CYCLE_CYCLE 3) = 1000000 ∧
    gateEntryOk 3 (50000 + 0x80 * 2 ^ 32) = true ∧ gateEntryOk 40 (50000 + 0x88 * 2 ^ 32) = false ∧
    (committedState.wf (.GAT_ADMIN_CFG_ENABLE 3) 1).on (.GAT_ADMIN_CFG_ENABLE 3) = true ∧ committedState.eccAt .gate 5 = 0 := by
  unfold State.reaches
  decide
/-- R339's worked example: egress list 14 changes at 5,013,000,000 with N = 13 and BASE_PAST. -/
theorem test_change_time : changeTime 5000000000 1000000 5012345678 = (5013000000, 13, true) := by decide
/-- The same list: entry 0 opens class 7 for 50,000 ns, entry 1 the others to the cycle's end. -/
theorem test_gate_entries : entryAt 1000000 49999 [(50000, 0x180), (950000, 0x17F)] 0 0 = (0, 0x180, 50000) ∧
    entryAt 1000000 50000 [(50000, 0x180), (950000, 0x17F)] 0 0 = (1, 0x17F, 1000000) := by decide

/-- A trigger's register and both FIFOs are reached; a capture input that is enabled on both edges. -/
theorem test_trigger_witness : committedState.reaches .ccx (Reg.TIM_TRIG_CFG 7) ∧ committedState.readable .ccx (Reg.TIM_CAPT_TIME_LO 3) ∧
    committedState.readable .ccx Reg.TIM_TXTS0 ∧ committedState.on (.TIM_TRIG_CFG_EN 7) = false ∧ committedState.awake = true ∧
    3 ≤ committedState.rf .TOP_STATE_PWR_STATE ∧ committedState.trigDriven = false ∧
    ({ committedState with pwr := { committedState.pwr with porst := false } }.wf .TOP_STATE_PWR_STATE 4).trigDriven = true ∧ committedState.trigReached 0 0 = true ∧
    (committedState.setDue 2 (some 9)).trigDue 2 = some 9 ∧
    ((committedState.wf (.TIM_CAPT_CFG_EN 3) 1).wf (.TIM_CAPT_CFG_EDGE 3) 3).on (.TIM_CAPT_CFG_EN 3) = true ∧
    (committedState.wf .TIM_ODO_SCALE_SCALE 65536 |>.wf .TIM_ODO_CFG_MODE 2).rf .TIM_ODO_CFG_MODE = 2 := by
  unfold State.reaches State.readable
  decide
/-- Mode 2 at 1 mm a count: a rising edge of ODO_A with ODO_B high moves D48 by one. -/
theorem test_travel_forward : let s := (committedState.wf .TIM_ODO_SCALE_SCALE 65536).wf .TIM_ODO_CFG_MODE 2
    (s.travelSample true true).d48 = s.d48 + 1 ∧ (s.travelSample true false).d48 = s.d48 ∧ (s.travelSample true false).tim.debt = 65536 := by decide

/-- The cipher commands reach; reset has four Pans in service, the first free one is Pan 0, and no job waits. -/
theorem test_cipher_witness : committedState.reaches .ccx Reg.CPH_IND_CMD ∧ committedState.reaches .ccx Reg.CPH_PAN_CMD ∧
    committedState.reaches .ccx (Reg.CPH_REKEY_REQ 31) ∧ committedState.on .CPH_IND_CMD_BUSY = false ∧ committedState.anyPan = true ∧
    committedState.panFree = some 0 ∧ committedState.jobNext = none ∧
    (committedState.jobRequest (.other 2 none)).jobNext = some (.other 2 none, false) ∧ JobOf.cls (.other 2 none) ≠ 0 ∧
    ((committedState.panStart 2 (.other 3 none) none []).panJob 2) = some ⟨.other 3 none, 0, none, [], 0, 0⟩ ∧
    (committedState.panStart 2 (.other 3 none) none []).panVictim 1 = some 2 ∧
    (committedState.wf .CPH_IND_ADDR_TABLE 3).cphValid 3 0 ([0, 0, 0, 0, 0, 0, 0, 0, 0xC0, 24, 8, 0, 0, 0, 0, 0]) = true := by
  unfold State.reaches
  decide

/-- A gateway that serves: channel 3 is a CAN channel in ACTIVE with a message waiting, channel 17 a LIN commander before slot 0. -/
def gateState : State :=
  let s := (committedState.wf (.GWE_CH_STATUS_STATE 3) 2).setChan 3 { Chan.fresh with txq := [⟨3, 0, 0, 5, 0, 0, 0, 0, 0, 0, [7]⟩] }
  let s := ((s.wf (.GWE_CH_CFG_MODE 3) 1).wf (.GWE_CH_STATUS_STATE 17) 2).wf (.GWE_CH_CFG_MODE 17) 4
  (s.wf (.GWE_LIN_CFG_NSLOTS 17) 2).setChan 17 { Chan.fresh with slot := .next 1, header := some (9, 0) }

theorem test_channel_witness : gateState.serves 18 = true ∧ gateState.chState 3 = 2 ∧ (gateState.chan 3).onBus = none ∧
    (gateState.chan 3).txq[gateState.txPick 3]? = some ⟨3, 0, 0, 5, 0, 0, 0, 0, 0, 0, [7]⟩ ∧
    gateState.canCarry 3 ⟨3, 0, 0, 5, 0, 0, 0, 0, 0, 0, [7]⟩ = true ∧ (gateState.txStart 3).chState 3 = 2 ∧
    (gateState.chan 17).slot = .next 1 ∧ (gateState.chan 17).header = some (9, 0) ∧ gateState.rf (.GWE_LIN_CFG_NSLOTS 17) = 2 := by decide
theorem test_channel_command_witness : committedState.reaches .ccx Reg.GWE_CMD := by
  unfold State.reaches
  decide
/-- The FCS-16 of RFC 1662 over its own check bytes gives the good value. -/
theorem test_fcs16 : fcs16 (bytesLE 2 (0xFFFF - fcs16 [])) = 0xF0B8 := by decide

/-- Channel 5 is valid with a program of one END word at 0xA000, TIMER_US 100 and one event; channel 6 is valid without a program. -/
def sliceState : State :=
  let s := ((committedState.wf .TOP_STATE_FWD_EN 1).wf (.GWE_CH_STATUS_STATE 5) 2).setChan 5 { Chan.fresh with fifo := [Msg.blank 5 5 0 0 0] }
  let s := ((s.pantryPuts (512 * 5 + 64) [0x80]).pantryPuts (512 * 5 + 68) [0, 0xA0, 0, 0, 1, 0]).pantryPuts (512 * 5 + 84) [100]
  s.pantryPuts 0xA000 (bytesLE 8 (1 * 2 ^ 58))

theorem test_slice_witness : sliceState.serves 18 = true ∧ sliceState.fwdEn = true ∧ sliceState.gwe.event = none ∧
    sliceState.nextChan = some 5 ∧ sliceState.ctx 5 68 4 = pantryProg ∧ sliceState.ctx 5 72 2 = 1 ∧ sliceState.ctx 5 84 4 = 100 ∧
    sliceState.eccAt .pantry (pantryProg / 8) = 0 ∧ opLegal .gateway (decodeI (BitVec.ofNat 64 (sliceState.pantryLE pantryProg 8))).op = true := by
  decide
/-- With the program pointer moved off the region the same channel meets the other clause. -/
theorem test_slice_fault_witness : (sliceState.pantryPuts (512 * 5 + 69) [0]).nextChan = some 5 ∧
    (sliceState.pantryPuts (512 * 5 + 69) [0]).ctx 5 68 4 = 0 := by decide
theorem test_pantry_witness : committedState.awake = true ∧ committedState.mayWrite .ccx (pantryBase + 512 * 63 + 4 * 127) = true ∧
    committedState.blockOff 18 = false ∧ committedState.reaches .ccx Reg.GWE_PANTRY_DATA ∧ committedState.readable .ccx Reg.GWE_PANTRY_DATA ∧
    (committedState.wf .GWE_PANTRY_ADDR_WORD 1048575).rf .GWE_PANTRY_ADDR_WORD = 1048575 := by
  unfold State.reaches State.readable
  decide
theorem test_decap_witness : ((committedState.pantryPuts (0x9000 + 16 * 2 + 10) [0x80, 7]).decapEntry 2
    (List.replicate 12 0 ++ [0x22, 0xF0, 0x82, 0x80, 0, 0] ++ List.replicate 8 0)).isSome = true := by decide

/-- A committed device with the PCIe link up, window 3 over 4 KiB of Hatch pop ports, a filled and an empty prefetch buffer. -/
def bridgeState : State :=
  let s := (committedState.wf .TOP_STRAP_PCIE_EN 1).wf .BRG_LINK_STATUS_UP 1
  let s := (((s.wf (.BRG_WIN_CFG_EN 3) 1).wf (.BRG_WIN_CFG_LIMIT 3) 1).wf (.BRG_WIN_BASE_HI_BASE_HI 3) 1).wf (.BRG_WIN_BASE_LO_BASE_LO 3) 0x20000
  let s := (s.setPf 1 (some ⟨dramBase, 64, true, [], 0, 0⟩)).setPf 2 (some ⟨dramBase + 64, 64, false, [], 0, 0⟩)
  (s.bridge fun x => { x with open_ := [7] }).wf (.BRG_ELOG1_VALID 0) 1

theorem test_bridge_witness : bridgeState.serves 20 = true ∧ bridgeState.awake = true ∧ bridgeState.on .BRG_LINK_STATUS_UP = true ∧
    (bridgeState.wf .BRG_LINK_STATUS_UP 0).on .TOP_STRAP_PCIE_EN = true ∧ 7 ∈ bridgeState.brg.open_ ∧
    bridgeState.winBase 3 = popBase ∧ bridgeState.winFind (3 * 2 ^ 26 + 64) = some (3, popBase + 64) ∧ bridgeState.blockOff 19 = false ∧
    bridgeState.winFind (3 * 2 ^ 26 + 4096) = none ∧ (bridgeState.pfBuf 1).isSome = true ∧ (bridgeState.pfBuf 2).isSome = true ∧
    bridgeState.on (.BRG_ELOG1_VALID 0) = true ∧ bridgeState.on (.BRG_ELOG1_VALID 1) = false := by decide
theorem test_window_witness : bridgeState.reaches .ccx (Reg.BRG_WIN_CFG 3) ∧ bridgeState.reaches .ccx (Reg.BRG_WIN_CFG 15) ∧
    bridgeState.on (.BRG_WIN_CFG_EN 3) = true ∧ bridgeState.winTarget (bridgeState.winBase 3) 4096 = true := by
  unfold State.reaches
  decide
/-- R414's worked example: 1,532 bytes at 0x1_2345_6F80 leave as 128 bytes, five writes of 256 and one of 124. -/
theorem test_cut_bursts : (cutBursts 256 1532 0x123456F80 1532).map (·.2) = [128, 256, 256, 256, 256, 256, 124] := by decide

/-- The PCIe link is up; transmit ring 2 is enabled with one descriptor available, ring 3 has read its last buffer, ring 17 receives. -/
def ringState : State :=
  let s := (committedState.wf .TOP_STATE_FWD_EN 1).wf .BRG_LINK_STATUS_UP 1
  let s := (((s.wf (.BRG_RING_CFG_EN 2) 1).wf (.BRG_RING_TAIL_TAIL 2) 1).wf (.BRG_RING_CFG_EN 17) 1).wf (.BRG_RING_TAIL_TAIL 17) 4
  let s := (s.wf (.BRG_RING_CFG_VEC_EN 2) 1).wf (.BRG_RING_CFG_SIZE_LOG 2) 4
  let s := (s.setRing 3 ⟨some (.data 0 4 0x81), [], [], true⟩).setRing 4 ⟨some (.desc 0), [], [], false⟩
  s.setRing 5 ⟨some .enter, [1, 2], [(2, 0x80)], false⟩

theorem test_ring_witness : ringState.serves 20 = true ∧ ringState.ringLive 2 = true ∧ (ringState.ring 2).wait = none ∧
    ringState.on (.BRG_RING_CFG_EN 2) = true ∧ ringState.fwdEn = true ∧ ringState.held 25 = false ∧ ringState.ringAvail 2 = 1 ∧
    (ringState.ring 3).wait = some (.data 0 4 0x81) ∧ (ringState.ring 3).coal = true ∧ (ringState.ring 4).wait = some (.desc 0) ∧
    (ringState.ring 5).wait = some .enter ∧ ringState.on (.BRG_RING_CFG_VEC_EN 2) = true ∧
    ringState.on (.BRG_RING_CFG_HALTED 2) = false := by decide
theorem test_ring_register_witness : ringState.reaches .ccx (Reg.BRG_RING_TAIL 31) ∧ ringState.reaches .ccx (Reg.BRG_RING_CFG 31) := by
  unfold State.reaches
  decide
/-- A frame on the wire of port 25 and one on that of port 29, each with its frame stored. -/
theorem test_delivery_witness : let c := Copy.plain 5 25 3 0 0
    let s := (ringState.setFrame 5 (some threeBytes)).setWire 25 (some c)
    s.onWire 25 = some c ∧ (s.frame c.fid).isSome = true ∧ c.hatch = none := by decide

/-- Hatch 1 leads to the host and holds one line, Hatch 2 comes from it with one word pushed, Hatch 3 is broken. -/
def hatchState : State :=
  let s := ((committedState.wf (.HAT_CFG_EN 1) 1).wf (.HAT_CFG_WM 1) 1).wf (.HAT_CFG_VEC_EN 1) 1
  let s := ((s.wf (.HAT_STATUS_ARMED 1) 1).wf (.HAT_CFG_EN 2) 1).wf (.HAT_CFG_DIR 2) 1
  let s := (((s.wf (.HAT_CFG_EN 3) 1).wf (.HAT_CFG_DIR 3) 1).wf (.HAT_STATUS_BROKEN 3) 1)
  (s.setHatch 1 { Hatch.fresh with head := [⟨[1, 2, 3], true, false, 0⟩], seq := 1 }).setHatch 2 { Hatch.fresh with push := some [5] }

theorem test_hatch_witness : hatchState.serves 19 = true ∧ hatchState.on (.HAT_CFG_EN 1) = true ∧ hatchState.on (.HAT_CFG_DIR 1) = false ∧
    linesOf 61 = 2 ∧ linesOf 61 ≤ hatchState.hatFree 1 ∧ ¬linesOf 7681 ≤ hatchState.hatFree 1 ∧ hatchState.on (.HAT_CFG_VEC_EN 1) = true ∧
    hatchState.on (.HAT_STATUS_ARMED 1) = true ∧ hatchState.rf (.HAT_CFG_WM 1) ≤ (hatchState.hatch 1).count ∧
    hatchState.on (.HAT_CFG_EN 0) = false ∧ hatchState.eccAt .hatch 1 = 0 ∧ (hatchState.hatch 1).spill = 0 ∧
    (hatchState.hatch 1).head.length ≤ 64 ∧ (hatchState.hatch 1).count ≤ 64 := by decide
theorem test_hatch_push_witness : hatchState.reaches .ccx (Reg.HAT_PUSH 2) ∧ hatchState.reaches .ccx (Reg.HAT_PUSH_END 3) ∧
    hatchState.reaches .ccx (Reg.HAT_CTRL 63) ∧ hatchState.reaches .ccx (Reg.HAT_CFG 0) ∧ hatchState.on (.HAT_CFG_EN 2) = true ∧
    hatchState.on (.HAT_CFG_DIR 2) = true ∧ (hatchState.hatch 2).push = some [5] ∧
    (hatchState.hatch 2).count + linesOf 8 ≤ hatchState.hatCap 2 ∧ hatchState.on (.HAT_STATUS_BROKEN 2) = false ∧
    hatchState.on (.HAT_STATUS_BROKEN 3) = true ∧ fldGet 0x80010000#32 16 8 = 1 ∧ fldGet 0x80000000#32 16 8 = 0 := by
  unfold State.reaches
  decide
/-- R423: 61 bytes take two lines, the first full and the second the last. -/
theorem test_two_lines : (cutLines 65535 true 2 (List.replicate 61 (7 : Byte))).map (fun y => (y.seq, y.ovf, y.last, y.data.length)) =
    [(65535, true, false, 60), (0, false, true, 1)] := by decide

/-- The Strongroom records into a ring of 16 segments, its writer in segment 2 under a session; incident 0 is free, 1 open, 2 closed and
3 exporting. -/
def strongState : State :=
  let s := (committedState.wf .TOP_STATE_FWD_EN 1).wf .STG_CFG_EN 1
  let s := ((s.wf .STG_RING_SIZE_MIB 16).wf .STG_RING_BASE_MIB 1).wf .STG_STATUS_WRITER 2
  let s := ((s.wf (.SEC_KEY_ATTR_VALID 0) 1).wf (.SEC_KEY_ATTR_USAGE 0) 16).wf (.SEC_KEY_ATTR_ALG 0) 2
  let s := ((s.wf (.STG_INC_STATE 1) 1).wf (.STG_INC_STATE 2) 2).wf (.STG_INC_STATE 3) 3
  let s := (s.wf (.STG_TSRC_EN 17) 1).wf (.STG_TSRC_EN 0) 1
  let s := { s with dram := { s.dram with up := true } }
  s.strong fun x => { x with session := some ⟨5, 1, []⟩, wpos := some 0, exp := some ⟨3, none, 0, 0⟩,
                             incs := [(1, some ⟨0, 0, 0, 5, [], 1, 0, 0, 0⟩), (4, some ⟨0, 0, 0, 5, [], 0, 0, 60, 0⟩)] }

theorem test_strong_witness : strongState.serves 21 = true ∧ strongState.recording = true ∧ strongState.anyPan = true ∧
    strongState.stg.wpos = some 0 ∧ strongState.incsIn 0 = [0, 4, 5, 6, 7] ∧ strongState.reaches .ccx Reg.STG_CMD ∧
    strongState.held 27 = false ∧ strongState.rf (.STG_INC_STATE 1) = 1 ∧ strongState.rf (.STG_INC_STATE 2) = 2 ∧
    strongState.rf (.STG_INC_STATE 3) = 3 ∧ strongState.on (.STG_TSRC_EN 17) = true ∧
    (strongState.wf (.SEC_KEY_ATTR_ALG 0) 1).stgReady = true ∧ (strongState.wf (.SEC_KEY_ATTR_ALG 0) 1).stgKeys = false := by
  unfold State.reaches
  decide +kernel
theorem test_incident_witness : (strongState.inc 1).map (fun x => (x.unit, atOrAfter 48 strongState.d48 (x.dist + x.post * 1000))) = some (1, true) ∧
    (strongState.inc 4).map (fun x => (x.unit, atOrAfter 64 strongState.now (x.time + winTime x.post))) = some (0, true) ∧
    strongState.stg.exp.isSome = true := by decide +kernel
/-- Every incident is closed and protected: the next trigger is lost. -/
theorem test_trigger_lost_witness : let s := strongState.each (List.range 8) (fun s i => (s.wf (.STG_INC_STATE i) 2).wf (.STG_INC_FLAGS i) 16)
    s.incsIn 0 = [] ∧ (∀ i ∈ s.incsIn 2, bitAt (s.incFlags i) 4 = true) ∧ s.recording = true := by decide +kernel
/-- No segment of the ring but the writer's place is left: the ring is full. -/
theorem test_ring_full_witness : let s := (strongState.wf .STG_RING_SIZE_MIB 2).strong fun x => { x with wpos := some (mib - 64), segs := [(1, ⟨1, true, false, false, 5, 0, 0⟩)] }
    s.nextSeg (s.rf .STG_STATUS_WRITER) = none ∧ mib < mib - 64 + 128 ∧ s.rf (.STG_INC_STATE 2) = 2 := by decide +kernel
/-- The configuration of CLEAR_RING, and a copy leaving on port 27. -/
theorem test_strong_copy_witness : let c := Copy.plain 5 27 3 0 0
    let s := (strongState.setFrame 5 (some threeBytes)).setWire 27 (some c)
    s.onWire 27 = some c ∧ (s.frame c.fid).isSome = true ∧ (s.setWire 27 none).recording = true ∧
    (committedState.wf .STG_RING_SIZE_MIB 16).ringSize ≠ 0 ∧ committedState.on .STG_CFG_EN = false ∧ committedState.ringSize = 0 := by decide +kernel

/-- A checkpoint is current and the next is due; a fault message waits. -/
def complexState : State :=
  let s := (committedState.wf .CCX_STATUS_CKPT_VALID 1).notify 0x281 0x07
  s.complex fun x => { x with buf0 := some 7, noticed := true }

/-- A restart runs; its restore is done in the second. -/
def restartState (h : Bool) : State := (complexState.wf .TOP_STATE_CCX_RESTART 1).complex fun x => { x with halted := h }

theorem test_complex_witness : complexState.awake = true ∧ complexState.committed = true ∧ complexState.on .TOP_STATE_CCX_RESTART = false ∧
    complexState.ckptCurrent = some 7 ∧ complexState.ccx.noticed = true ∧ complexState.ccx.unscheduled = false ∧
    (complexState.nextSlot 21).map (fun p => (p.1, p.2.level, p.2.count)) = some (0x281, none, 1) ∧ complexState.eccAt .record 0x281 = 0 ∧
    (restartState true).ccx.halted = true ∧ (restartState true).awake = true ∧ (restartState false).ccx.halted = false ∧
    (restartState false).on .TOP_STATE_CCX_RESTART = true := by decide
/-- A second and a third mismatch of group 3 in one second. -/
theorem test_third_mismatch_witness : let s := complexState.complex fun x => { x with times := [(3, [5, 4])] }
    (match spGet (fun _ => []) s.ccx.times 3 with | _ :: t :: _ => decide (s.cycles < t + secondCycles) | _ => false) = true := by decide
theorem test_collector_witness : dualRail 0x050 = true ∧ spGet (fun _ => 0) (complexState.pulse 0x050).flt.pulses 0x050 = 1 ∧
    complexState.reaches .ccx (Reg.FLT_SRC_STATUS 767) ∧ complexState.reaches .ccx Reg.FLT_CLEAR ∧ complexState.reaches .ccx Reg.FLT_PIN_CMD ∧
    complexState.on (.FLT_SRC_STATUS_ACTIVE 767) = false ∧ (complexState.wf (.FLT_SRC_STATUS_ACTIVE 767) 1).on (.FLT_SRC_STATUS_ACTIVE 767) = true ∧
    (0x8000#16).getLsbD 15 = true ∧ (0x4300#16).toNat % 1024 = 768 := by
  unfold State.reaches
  decide +kernel
theorem test_pin_witness : let s := (complexState.wf .FLT_PIN_STATUS_RESET_HOLD 0).wf .FLT_PIN_STATUS_TIMING 1
    let a := (s.wf (.FLT_SRC_STATUS_ACTIVE 5) 1).wf (.FLT_SRC_CFG_PIN 5) 1
    s.pinActive = false ∧ a.pinActive = true ∧ s.on .FLT_PIN_STATUS_TIMING = true ∧ (s.wf .FLT_PIN_CFG_HOLD 0).on .FLT_PIN_CFG_HOLD = false ∧
    (s.wf .FLT_PIN_CFG_HOLD 1).on .FLT_PIN_CFG_HOLD = true ∧ s.flt.heldRelease = false ∧ s.on .FLT_PIN_STATUS_RESET_HOLD = false ∧
    (s.wf .FLT_PIN_STATUS_RESET_HOLD 1).on .FLT_PIN_STATUS_RESET_HOLD = true ∧
    (s.collector fun f => { f with heldRelease := true }).flt.heldRelease = true := by decide +kernel

/-- The mailbox serves; anchor 0 gives READ to serials from 3; session 0 is half open since cycle 0, session 1 is up from the mailbox
with slot 226 usable, one response kept and one request open. -/
def mgtState : State :=
  let s := (committedState.wf .CCX_MBOX_CFG_EN 1).secure fun x => { x with ident := some 0, cert := [1, 2, 3] }
  let s := (s.wf (.SEC_KEY_ATTR_VALID 226) 1).wf (.SEC_KEY_ATTR_USAGE 226) 32
  { s with cycles := 4000000000000 }.manage fun m => { m with
    trust := [1, 0, 0, 0, 0, 0, 0, 0, 0, 1, 0, 0, 3, 0, 0, 0],
    sess := [(0, some ⟨false, 2, 7, 1, 0, 0, 0, [], [], 0, 0, []⟩), (1, some ⟨true, 2, 7, 255, 70, 1, 4, [9], [⟨5, 1, 0, 0, []⟩], 0, 0, []⟩)] }

/-- `mgtState` with request `op` of session 1 waiting, its parameters `params`, the session holding privileges `priv`. -/
def askedState (op priv : Nat) (params : List Byte) : State := mgtState.manage fun m => { m with queue := [⟨1, priv, 3, 9, op, params⟩] }

theorem test_mgt_witness : mgtState.serves 22 = true ∧ mgtState.mgtRuns 2 = true ∧ mgtState.credential 0 255 3 true = some 1 ∧
    mgtState.credential 0 255 2 true = none ∧ mgtState.credential 1 255 3 true = none ∧ mgtState.mgtFree = some 2 ∧
    mgtState.on .SEC_STATUS_DRBG_HALT = false ∧ mgtState.sec.ident.isSome = true ∧ committedState.sec.ident = none ∧
    (mgtState.wf .SEC_STATUS_DRBG_HALT 1).on .SEC_STATUS_DRBG_HALT = true ∧ mgtState.slotLocked (mgtState.mgtSlot 0) = false ∧
    mgtTooLong 2 (24 + 328) = false ∧ mgtTooLong 1 (24 + 1377) = true ∧ mgtTooLong 1 (24 + 1376) = false ∧
    mgtState.slotLocked (mgtState.mgtSlot 0 + 1) = false ∧ 0 + 2 * secondCycles ≤ mgtState.cycles ∧
    0 + mgtState.rf .MGT_SESS_CFG_IDLE_S * secondCycles ≤ mgtState.cycles ∧ (mgtState.manage fun m => { m with
      sess := (List.range 8).map fun k => (k, some ⟨false, 2, 7, 1, 0, 0, 0, [], [], 0, 0, []⟩) }).mgtFree = none := by decide +kernel
/-- A SEQ above the highest, the oldest of the window and one below it; requests of 16,340 and 16,341 bytes of parameters by mailbox. -/
theorem test_accept_witness : (mgtState.mgtAccept 1 2 7 71 true).1 = true ∧ (mgtState.mgtAccept 1 2 7 7 true).1 = true ∧
    (mgtState.mgtAccept 1 2 7 6 true).1 = false ∧ (mgtState.mgtAccept 1 2 7 70 true).1 = false ∧ (mgtState.mgtAccept 1 2 7 71 false).1 = false ∧
    (mgtState.mgtAccept 1 2 8 71 true).1 = false ∧ mgtTooLong 2 (44 + 16340) = false ∧ mgtTooLong 2 (44 + 16341) = true ∧
    (((mgtState.mgtAccept 1 2 7 71 true).2.mgtSess 1).map fun x => (x.kept.map (·.reqId), x.open_, x.high)) = some ([5], [9], 71) := by decide +kernel
/-- Every command can be the oldest request, with its privilege and a length that it takes, and without. -/
theorem test_asked_witness : ∀ e ∈ [(0x0001, 0), (0x0010, 6), (0x0011, 8), (0x0012, 12), (0x0020, 6), (0x0021, 4), (0x0030, 1), (0x0031, 5),
      (0x0032, 0), (0x0033, 1), (0x0034, 0), (0x0035, 0), (0x0036, 0), (0x0040, 0), (0x0050, 0), (0x0051, 1), (0x0052, 1), (0x0053, 1), (0x0060, 32),
      (0x0070, 0), (0x0071, 0), (0x0072, 0), (0x0080, 0), (0x0081, 1), (0x0082, 0)],
    (askedState e.1 255 (List.replicate e.2 1)).asked e.1 ⟨1, 255, 3, 9, e.1, List.replicate e.2 1⟩ := by
  intro e he
  have h : ∀ e ∈ [(0x0001, 0), (0x0010, 6), (0x0011, 8), (0x0012, 12), (0x0020, 6), (0x0021, 4), (0x0030, 1), (0x0031, 5),
      (0x0032, 0), (0x0033, 1), (0x0034, 0), (0x0035, 0), (0x0036, 0), (0x0040, 0), (0x0050, 0), (0x0051, 1), (0x0052, 1), (0x0053, 1), (0x0060, 32),
      (0x0070, 0), (0x0071, 0), (0x0072, 0), (0x0080, 0), (0x0081, 1), (0x0082, 0)],
      ((mgtPriv e.1).map fun b => bitAt 255 b) = some true := by decide
  have hb := h e he
  rw [Option.map_eq_some_iff] at hb
  have h0 : mgtState.serves 22 = true ∧ mgtState.committed = true ∧ mgtState.on .TOP_STATE_CCX_RESTART = false := by decide +kernel
  exact ⟨h0.1, h0.2.1, h0.2.2, rfl, rfl, hb⟩
/-- An update of session 3 is received, so that session 1 is held back; of session 1, with 32,767 bytes held and a chunk due. -/
theorem test_update_request_witness : let s := (mgtState.wf .BOOT_UPDATE_STATUS_STATE 2).manage fun m => { m with owner := some 3, total := 32767 }
    let u := s.manage fun m => { m with owner := some 1, hold := List.replicate 32767 0 }
    s.ownerBusy = true ∧ s.mgt.owner ≠ some 1 ∧ mgtState.ownerBusy = false ∧ u.stageTakes = true ∧ u.mgt.total = 32767 ∧ mgtState.mgt.begun = false ∧
    u.boot.chunk = none ∧ (u.setBegun true).mgt.begun = true ∧ (mgtState.fwUpdate 3 0).1 = true ∧ (mgtState.fwUpdate 6 0).1 = false := by decide +kernel
/-- Requests that act: a client's write to a block of the mask, one to a block outside it, and a power command that is not refused. -/
theorem test_request_act_witness : mgtState.mgtDenies Reg.PWR_WAKE_EN = false ∧ mgtState.mgtDenies Reg.BOOT_STATUS = true ∧ mgtBarred (Reg.GAT_CMD 95) = true ∧
    mgtState.pwrRefusal 2 = 0 ∧ mgtState.pwrRefusal 4 = 0 ∧ (mgtState.wf .TOP_STATE_PAIR_ROLE 3).pwrRefusal 3 = 2 ∧ mgtState.sec.life ≠ 3 ∧
    mgtState.on .SEC_STATUS_ZEROIZED = false ∧ mgtState.dram.up = false ∧ (mgtState.fwWrite Reg.FLT_CLEAR 0x8000).1 = some 6 ∧
    (mgtState.fwWrite Reg.FLT_CLEAR 0xF1C38000).1 = none := by decide +kernel
/-- R13: 1,000,000,000 written to a nanoseconds word is refused with kind 0x08, 999,999,999 is not. -/
theorem test_nanoseconds_write : let t := fun (a w : Nat) => (committedState.regWrite .ccx a (BitVec.ofNat 32 w) 0).wfail
    t Reg.TIM_WC_TIME_NS 1000000000 = some 8 ∧ t (Reg.TIM_DOM_TIME_NS 1) 1000000000 = some 8 ∧ t Reg.TIM_TXTS1 4294967295 = some 8 ∧
    t Reg.TIM_WC_TIME_NS 999999999 = none := by decide +kernel

/-- `s` with damage `v` in word `i` of memory `m`: 1 correctable, 2 not. -/
def damaged (s : State) (m : EccMem) (i v : Nat) : State := { s with ecc := spSet (fun _ => 0) s.ecc (eccKey m i) v }

/-- A read of each memory that the statements take as intact, and of one that is damaged. -/
theorem test_damage_witness : (∀ m ∈ [EccMem.session, .fdb, .sch, .tim, .txq, .event, .pantry, .ring, .tcm], committedState.eccAt m 1 = 0) ∧
    (damaged committedState .sch 3 2).eccAt .sch 3 ≠ 0 ∧ 1 < (damaged committedState .ring 19 2).eccAt .ring (16 + 3) ∧
    (damaged committedState .tcm 0 1).tcmEcc = 1 ∧ 1 < (damaged committedState .tcm 0 2).tcmEcc ∧ committedState.tcmEcc = 0 ∧
    1 < (damaged committedState .tcm 1 2).eccAt .tcm (1 + committedState.rf .CCX_STATUS_CUR_BUF) ∧
    committedState.walksUp.eccAt .fdb 7 = 0 := by decide

/-- A device without supply, one in cold reset, one held in reset, and ramping banks of a legacy ball. -/
theorem test_column_witness : committedState.powerLoss.pinColumn = .off ∧ State.reset.pwr.off = false ∧ State.reset.pinColumn = .coldReset ∧
    (committedState.power fun p => { p with clockHold := true }).resetHeld = true ∧
    bitAt committedState.powerLoss.pwr.ramp (Pin.canTxd 3).bank = true ∧ bitAt committedState.pwr.ramp (Pin.canTxd 3).bank = false ∧
    (Pin.canTxd 3).legacyTxd = true := by decide +kernel

/-- A line that has just risen; rails, clocks and PGOOD inputs that are watched. -/
theorem test_watch_witness : committedState.lineRose 4 ≠ some committedState.cycles ∧ committedState.powered = true ∧
    committedState.railOn 0 = true ∧ (State.power awakeState fun p => { p with asleep := 2 }).railOn 1 = true ∧
    (State.power awakeState fun p => { p with asleep := 2 }).railOn 0 = false ∧ committedState.clocksWatched = true ∧
    committedState.supplied = true ∧ committedState.pgoodLow = false := by decide

/-- A slot on trial and one that is not; a certified image whose state breaks a constraint, and one that is not certified. -/
theorem test_trial_witness : let s := committedState.booting fun b => { b with trial := true, slot := 0, pref := 0 }
    s.onTrial = true ∧ committedState.onTrial = false ∧ committedState.boot.trial = false ∧ committedState.paired = false ∧
    committedState.certBroken [] = false ∧ committedState.bootMode ≠ 2 := by decide

/-- A port whose PHY is locked with its clock, and one whose clock is lost. -/
theorem test_lock_witness : (State.ports committedState fun m => { m with locked := 2 ^ 12 }).linkOk 12 = true ∧
    (State.ports committedState fun m => { m with refLost := 2 }).refDown (12 + 3) = true ∧ committedState.refDown (12 + 3) = false := by decide

/-- Port 24 may enter a frame; with a frame held before it, it may not. -/
theorem test_enter_witness : let s := { committedState.wf .TOP_STATE_FWD_EN 1 with cel := State.reset.cel }
    let t := s.cellar fun x => { x with hold := [(24, [(0, [1], false)])] }
    committedState.heldFrames 24 = [] ∧ committedState.mayEnter 24 0 64 = true ∧ t.heldFrames 24 ≠ [] ∧
    (s.wf (.SWC_PORT_ADM_MIN 28) 1).held 28 = false := by decide

/-- A learning request whose frame has gone, and a session that waits to be written. -/
theorem test_learn_witness : let r : LearnReq := ⟨9, 1, 5, 2, true, false⟩
    ((committedState.cellar fun x => { x with learn := [r] }).cel.learn.find? (committedState.cellar fun x => { x with learn := [r] }).learnReady) = some r ∧
    ({ committedState with cls := { committedState.cls with held := [Sess.ofBytes []] } } : State).flushUp.cls.held = [Sess.ofBytes []] := by decide

/-- A copy to a Hatch while HAT is in block reset; a secured port whose egress job waits with nothing on the wire, and a class of it paused. -/
theorem test_egress_job_witness : let f := (committedState.newFrame 5 0 false).2
    let c := Copy.plain 1 3 0 0 0
    let s := (f.setQueue (3 * 8) [c]).cipher fun x => { x with waiting := [.egress 3 1 0] }
    let d := { Copy.plain 1 25 0 0 0 with hatch := some 3 }
    ({ s with blockRst := 2 ^ 19 } : State).copyDown d = true ∧ s.copyDown d = false ∧
    s.cph.waiting.find? (fun j => j.cls = 0) = some (.egress 3 1 0) ∧ s.queue (3 * 8) = [c] ∧
    (s.frame 1).isSome = true ∧ s.paused 3 0 = false ∧ (s.ports fun m => { m with pause := [(24, 5)] }).paused 3 0 = true ∧
    s.wireFor 3 0 = true ∧ s.cph.counted = [] ∧ s.protects c = false ∧
    s.jobNext = some (.egress 3 1 0, false) := by decide

/-- A work item that is suspended and one that has been counted. -/
theorem test_suspended_witness : let s := committedState.cipher fun x => { x with suspended := [⟨.other 3 none, 9, none, [], 0, 0⟩], counted := [.other 2 none] }
    s.cph.suspended.find? (fun k => k.work = .other 3 none) = some ⟨.other 3 none, 9, none, [], 0, 0⟩ ∧ s.cph.counted = [.other 2 none] ∧
    s.cphBreaks 3 0 (List.replicate 16 0) = false := by decide

/-- Inbound reads with a target and without; a DRAM range that is intact and one that is not; HAT in block reset. -/
theorem test_inbound_witness : bridgeState.inboundTarget 0 8 4 true = true ∧ bridgeState.inboundTarget 0 8 8 true = false ∧
    (bridgeState.dramCheck 0 64).1 = false ∧ ((damaged bridgeState .dram 1 2).dramCheck 64 64).1 = true ∧
    ({ bridgeState with blockRst := 2 ^ 19 } : State).blockOff 19 = true ∧ ({ bridgeState with blockRst := 2 ^ 19 } : State).serves 20 = true ∧
    (ringState.ring 17).wait = none ∧ ringState.on (.BRG_RING_CFG_EN 17) = true ∧ ringState.ringLive 17 = true := by decide

/-- A restart that an uncorrectable TCM word begins, and one that escalates for want of a checkpoint; a dual-rail source with an invalid code. -/
theorem test_tcm_witness : complexState.tcmLost.ccx.halted = true ∧ (committedState.tcmLost).ccx.halted = false ∧
    spGet (fun _ => false) complexState.flt.railBad 0x050 = false ∧ spGet (fun _ => 0) complexState.flt.pulses 0x050 = 0 ∧
    spGet (fun _ => false) (complexState.collector fun f => { f with railBad := [(0x050, true)] }).flt.railBad 0x050 = true := by decide +kernel

/-- A paired unit whose firmware runs: its referee key is in slot 0 and its pair key in slot 1, its partner has sent a HELLO. -/
def pairState : State :=
  let s := ((committedState.wf .TOP_STRAP_PAIR_EN 1).wf (.SEC_KEY_ATTR_VALID 0) 1).wf (.SEC_KEY_ATTR_USAGE 0) 4
  let s := (((s.wf (.SEC_KEY_ATTR_VALID 1) 1).wf (.SEC_KEY_ATTR_USAGE 1) 4).wf .PAIR_MISC_PAIR_SLOT 1).secure fun x => { x with ident := some 0 }
  s.pairing fun p => { p with link := .proof, peer := some ⟨5, 1, 0, 6, 7, [], []⟩ }

theorem test_pair_witness : pairState.pairRuns = true ∧ pairState.awake = true ∧ (pairState.refVerify true 0 1).1 = true ∧
    (pairState.refVerify false 0 1).1 = false ∧ pairState.side = 0 ∧ pairState.role = 0 ∧ pairState.peerOk = true ∧
    (pairState.wf .PAIR_MISC_PARTNER_CHECK 1).peerOk = false ∧ pairState.slotLocked 1 = false ∧
    (pairState.wf (.SEC_KEY_ATTR_LOCK 1) 1).slotLocked (pairState.rf .PAIR_MISC_PAIR_SLOT) = true ∧ committedState.sec.ident = none ∧
    (pairState.keyUse 1 2).1 = true ∧ (pairState.keyUse 2 2).1 = false ∧ pairState.anyPan = true ∧ (pairState.pairVerify true 1).1 = true ∧
    pairState.on .PAIR_STATUS_SIDE_CONFLICT = false ∧ pairState.leaseDue = false ∧ committedState.pairRuns = false := by decide +kernel
/-- A STATUS that a GRANT echoes, a lease that has ended, a take-over in progress, and each state of a self-test and of the link. -/
theorem test_pair_states_witness : let s := pairState.pairing fun p => { p with status := some (7, 0, 0) }
    let t := pairState.pairing fun p => { p with test := some ⟨2, false, true⟩ }
    let u := pairState.pairing fun p => { p with link := .up, take := some 0, crateIn := some (3, 1, 64) }
    s.grantOk 5 7 = true ∧ s.grantOk 5 8 = false ∧ (s.pairing fun p => { p with leaseEnd := some 0 }).leaseDue = true ∧
    t.pair.test.isSome = true ∧ (t.cel.bankFree[2]?).getD 0 = 3072 ∧ u.linkUp = true ∧ (u.wf .TOP_STATE_PAIR_ROLE 3).role = 3 ∧
    (u.wf .TOP_STATE_PAIR_ROLE 1).role = 1 ∧ crateGone ≠ 1 ∧ ({ u with dram := { u.dram with up := true } } : State).dram.up = true ∧
    u.pair.take = some 0 ∧ (pairState.wf .TOP_STATE_PAIR_ROLE 2).role = 2 := by decide +kernel

/-- A session whose slots are locked; one whose sending key is usable, and one without. -/
theorem test_session_keys_witness : (mgtState.wf (.SEC_KEY_ATTR_LOCK (mgtState.mgtSlot 0)) 1).slotLocked (mgtState.mgtSlot 0) = true ∧
    (mgtState.keyUse (mgtState.mgtSlot 1 + 1) 5).1 = false ∧
    (((mgtState.wf (.SEC_KEY_ATTR_VALID 227) 1).wf (.SEC_KEY_ATTR_USAGE 227) 32).keyUse (mgtState.mgtSlot 1 + 1) 5).1 = true ∧
    mgtState.mgtTake viaMbox = mgtState ∧ (mgtState.mgtTake viaMbox).mgtRuns viaMbox = true := by decide +kernel

/-- The key 00 to 0F and the message 00 to 0E give the vector of the SipHash paper (R245). -/
theorem test_siphash : sipHash 0x0f0e0d0c0b0a09080706050403020100 ((List.range 15).map (BitVec.ofNat 8)) = 0xa129ca6149be45e5 := by decide +kernel

/-- A device asleep in SLEEP-R with two steps that the sleep has taken down, and the timer and WAKE_IN[0] as sources. -/
def asleepState : State :=
  let s := ((awakeState.wf .PWR_WAKE_EN_TIMER 1).wf .PWR_WAKE_EN_WAKE_IN 1).wf .PWR_SEQ_CFG_NSEQ 4
  ((s.wf (.PWR_SEQ_DOWN_R 1) 1).wf (.PWR_SEQ_DOWN_R 2) 1).power fun p => { p with asleep := 2 }

/-- States of a wake: another source in a wake, a wait for PGOOD with and without TIMEOUT, a retry, a held start, and a restore. -/
theorem test_wake_states_witness : let w (x : WakeStep) : State := (asleepState.wf .PWR_WAKE_CAUSE_FIRST 0x40).power fun p => { p with wake := x }
    asleepState.pwr.porst = false ∧ asleepState.wakeEnabled 1 = true ∧ asleepState.pwr.entry = none ∧ asleepState.downSet 2 = [1, 2] ∧
    awakeState.pwr.asleep = 0 ∧ (w (.pgood 1)).pwr.wake = .pgood 1 ∧ (w (.pgood 1)).rf .PWR_WAKE_CAUSE_FIRST = 0x40 ∧
    ((w (.pgood 1)).wf (.PWR_SEQ_TIMEOUT 1) 0).rf (.PWR_SEQ_TIMEOUT 1) = 0 ∧ (w .retry).pwr.wake = .retry ∧
    ((w (.start 0)).power fun p => { p with tempHold := true }).pwr.tempHold = true ∧ (w .restore).boot.parts = [] ∧ (w .restore).dram.cfg = none ∧
    ((w .restore).booting fun b => { b with parts := [(0, 64)] }).boot.parts ≠ [] := by decide +kernel
/-- An entry that waits for its checkpoint, and one past its commit point. -/
theorem test_entry_states_witness : let e (x : EntryStep) (c : Bool) : State := committedState.power fun p => { p with entry := some ⟨2, 4, x, c, false⟩ }
    (e .checkpoint false).committed = true ∧ ((e .awaitCheckpoint false).complex fun x => { x with unscheduled := true }).ccx.unscheduled = true ∧
    ((e .awaitCheckpoint false).ccx.unscheduled || (e .awaitCheckpoint false).on .TOP_STATE_CCX_RESTART) = false ∧
    (e (.lower 2) true).awake = false ∧ committedState.powerLoss.pwr.off = true := by decide +kernel

/-- A protected frame of port 5: SecTAG with E and C, association number 0, short length 3 and PN 7, three bytes and the ICV. -/
def secureFrame (tag : List Byte) : Frame :=
  { threeBytes with
      inPort := 5, stage := .verify, sc := some 0, secPn := 7
      bytes := List.replicate 12 0x02 ++ [0x88, 0xE5, 0x0C, 3, 0, 0, 0, 7, 0xA1, 0xA2, 0xA3] ++ tag
      secJob := some ⟨0, 7, 9, [1, 2], 0x0C, [], 0⟩ }
/-- The ICV that the key of that job gives. -/
def secureTag : List Byte :=
  gcmTag 9 [1, 2] (List.replicate 12 0x02 ++ [0x88, 0xE5, 0x0C, 3, 0, 0, 0, 7]) [0xA1, 0xA2, 0xA3]
def secureState (tag : List Byte) : State :=
  (committedState.setFrame 5 (some (secureFrame tag))).cipher fun x => { x with verdicts := [(5, 2)] }
theorem test_verdict_witness : let s := secureState []
    s.frame 5 = some (secureFrame []) ∧ s.verifyOlder (secureFrame []) = false ∧ s.cph.verdicts.find? (fun v => v.1 = 5) = some (5, 2) ∧
    (∀ k : Fin 4, s.panJob k = none) ∧ s.eccAt .cph (2 * 1024) = 0 ∧ secTag (secureFrame []).bytes = some ⟨0x0C, 3, 7, none⟩ ∧
    s.replayLate 5 0 7 = false ∧ ((s.cphPut 2 0 (putBytes (s.cphAt 2 0) 8 (bytesLE 8 9))).cphPut 0 5
      (putBytes (s.cphAt 0 5) 0 (List.replicate 4 0xFF))).replayLate 5 0 7 = true := by decide +kernel
theorem test_icv_witness : (SecJob.open ⟨0, 7, 9, [1, 2], 0x0C, [], 0⟩ ⟨0x0C, 3, 7, none⟩ (secureFrame secureTag).bytes).1 = true := by
  unfold SecJob.open
  exact beq_self_eq_true secureTag

/-- A known-answer test that waits for its Pan, or not; ICV_ISOLATE; a recirculated copy whose cells are readable. -/
theorem test_test_job_witness : (committedState.jobRequest (.kat 2 false true)).jobNext = some (.kat 2 false true, false) ∧
    ((committedState.panStart 2 (.other 3 none) none []).jobRequest (.kat 2 false true)).jobNext = none ∧
    (committedState.wf .CPH_CFG_ICV_ISOLATE 1).on .CPH_CFG_ICV_ISOLATE = true ∧
    (let s := ((committedState.wf .TOP_STATE_FWD_EN 1).setFrame 5 (some threeBytes)).setWire 28 (some (Copy.plain 5 28 0 0 0))
     (s.readCopy 28).1 = false ∧ (s.readCopy 28).2.onWire 28 = some (Copy.plain 5 28 0 0 0) ∧ s.held 28 = false) := by decide +kernel

/-- A CAN message that fits the MODE and one that does not; a LIN response that waits; a TEC one error below bus-off. -/
theorem test_bus_witness : gateState.rxFits 3 ⟨3, 0, 0, 5, 0, 0, 1, 0, 0, 0, [7]⟩ = true ∧ gateState.rxFits 3 ⟨3, 1, 0, 5, 0, 0, 1, 0, 0, 0, [7]⟩ = false ∧
    gateState.linTaken 17 9 false (gateState.linResponse 17 9 [1, 2]) = (0, [1, 2]) ∧ (gateState.linTaken 17 9 false [5]).1 = 1 ∧
    255 < tecNext ((gateState.wf (.GWE_CAN_ERR_TEC 3) 250).rf (.GWE_CAN_ERR_TEC 3)) ⟨1, false⟩ ∧
    (Chan.fresh.post (Msg.blank 5 5 2 0 0) 7).posted = (7, 1) := by decide +kernel

/-- A ring whose buffer read waits; HAT in block reset; a push that has been refused once; a Hatch with 16 lines in its region. -/
theorem test_spill_witness : (ringState.setRing 6 ⟨some (.buf 0 64 8 0x80), [], [], false⟩ |>.ring 6).wait = some (.buf 0 64 8 0x80) ∧
    State.blockOff { hatchState with blockRst := 2 ^ 19 } 19 = true ∧ hatchState.eccAt .dram 3 = 0 ∧
    (hatchState.setHatch 2 { Hatch.fresh with told := true } |>.hatch 2).told = true ∧
    (let s := { hatchState with dram := { hatchState.dram with cfg := some ⟨64, 1, 0, 0, 0, []⟩, up := true } }
     let t := (s.setHatch 1 { Hatch.fresh with spill := 16 })
     0 < (t.hatch 1).spill ∧ t.dramServes = true ∧ ((damaged t .dram (t.spillAddr 1 3 / 64) 2).spillCheck 1 0 16).1 = true ∧
     (hatchState.hatch 1).cut = false) := by decide +kernel

/-- A bound of 0 s that has passed for the open incident by distance; a due checkpoint, and one to come. -/
theorem test_due_witness : (strongState.inc 1).map (fun x => decide (x.unit = 1 ∧ x.began + x.limit * 1000000000 ≤ strongState.cycles)) = some true ∧
    complexState.ccx.turn = 0 ∧ complexState.ccx.due ≤ complexState.cycles + 50000 ∧
    (complexState.complex fun x => { x with due := 60000 }).cycles + 50000 < (complexState.complex fun x => { x with due := 60000 }).ccx.due ∧
    complexState.ccx.due ≤ complexState.cycles ∧ 0 < complexState.rf .CCX_CFG_CKPT_MS ∧ committedState.ckptCurrent = none := by decide +kernel

/-- A restart of a paired unit; a partner's time frame, a conflict of sides, and a crate that waits. -/
theorem test_pair_more_witness : let r := pairState.wf .TOP_STATE_CCX_RESTART 1
    r.pairUnit = true ∧ r.on .TOP_STATE_CCX_RESTART = true ∧ pairState.eccAt .tcm 3 = 0 ∧
    (pairState.wf .PAIR_STATUS_SIDE_CONFLICT 1).on .PAIR_STATUS_SIDE_CONFLICT = true ∧ pairState.sec.ident = some 0 ∧
    (pairState.pairing fun p => { p with link := .hello }).pair.link = .hello ∧
    (pairState.pairing fun p => { p with timeSent := some 5 }).pair.timeSent = some 5 ∧ crateParse 32 (bytesLE 8 0xFF) = some [] := by decide +kernel
/-- A management frame in a restart, and the mailbox then. -/
theorem test_restart_input_witness : let s := ((mgtState.wf .TOP_STATE_CCX_RESTART 1).wf .TOP_STATE_FWD_EN 1).wf .MGT_CFG_ETH_EN 1
    s.serves 22 = true ∧ s.on .TOP_STATE_CCX_RESTART = true ∧ s.mgtOpen 1 = true ∧ viaMbox = 2 ∧ mgtState.on .TOP_STATE_CCX_RESTART = false ∧
    (mgtState.setMgtSess 1 none).slotLocked (mgtState.mgtSlot 1) = false := by decide +kernel

end Sys2Proof.Tests
end

/-!
PROOFS. Register accesses (R6 to R12): what REGISTER_WRITE, RC_READ, COUNTER_LOW_READ and FULL_TIME_READ leave.
-/
namespace Sys2Proof.Machine

/-! REGISTER_WRITE. -/

@[simp] theorem State.written_begun (s : State) (q : Requester) (a : Nat) (w : Word) : (s.begun q).written a w = s.written a w := by
  unfold State.written
  rw [State.committed_begun, State.rword_begun]

@[simp] theorem State.lockKept_begun (s : State) (q : Requester) (a : Nat) (w : Word) : (s.begun q).lockKept a w = s.lockKept a w := by
  unfold State.lockKept
  rw [State.committed_begun, State.rword_begun]

theorem sender_req_ne_boot (q : Sender) : (q.req != .boot) = true := by cases q <;> rfl

/-- R6, R8: a register without an act of its own takes the word of its access types; a changed LK field is reported. -/
theorem State.regWrite_stores (s : State) (q : Sender) (a : Nat) (w : Word) (aux : Nat) (hrow : (regRowAt a).isSome = true)
    (hact : actsOnWrite a = false) :
    s.regWrite q.req a w aux = (if s.lockKept a w then s else s.refuse 0x022 0x0D).wword a (s.written a w) := by
  obtain ⟨r, hr⟩ := Option.isSome_iff_exists.mp hrow
  have hcase (t : State) (n : Word) : caseAt (t.writeCases q.req w n aux) a = none := caseAt_writeCases_none t _ w n aux a hact
  unfold State.regWrite State.lockKept State.written
  simp only [hr, sender_req_ne_boot, Bool.and_true, hcase, Option.getD_none]
  cases (r.next s.committed (s.rword a) w).2 <;> rfl

theorem exec_registerWrite_stores (s : State) (q : Sender) (a : Nat) (w : Word) (h : s.reaches q a) (hs : regSpace a = true)
    (h4 : a % 4 = 0) (hrow : (regRowAt a).isSome = true) (hact : actsOnWrite a = false) :
    exec (.registerWrite q a w) s = .next (s.did q a
      ((if s.lockKept a w then s.begun q.req else (s.begun q.req).refuse 0x022 0x0D).wword a (s.written a w))) := by
  obtain ⟨hw, hm, ho⟩ := h
  have hstore : (s.begun q.req).busStore q.req a w 0 =
      (if s.lockKept a w then s.begun q.req else (s.begun q.req).refuse 0x022 0x0D).wword a (s.written a w) := by
    rw [State.busStore_reg _ _ _ _ _ hs h4 (by simpa using hm) (by simpa using ho), State.regWrite_stores _ _ _ _ _ hrow hact]
    simp only [State.lockKept_begun, State.written_begun]
  show s.regCmd q a w = _
  unfold State.regCmd State.busWriteAux State.did
  rw [State.acting_of _ _ hw, hstore]

/-- R6: each field of the word that a write makes, by its access type. -/
theorem State.fldGet_written (s : State) (a : Nat) (w : Word) {r : RegRow} {f : FieldRow} (hr : regRowAt a = some r)
    (hf : f ∈ r.fields) :
    fldGet (s.written a w) f.lo f.width =
      match f.acc with
      | .rw | .wo => fldGet w f.lo f.width
      | .ro | .rc => fldGet (s.rword a) f.lo f.width
      | .w1c => fldGet (s.rword a &&& ~~~w) f.lo f.width
      | .w1s => fldGet (s.rword a ||| w) f.lo f.width
      | .lk => if s.committed then fldGet (s.rword a) f.lo f.width else fldGet w f.lo f.width := by
  obtain ⟨hd, hw⟩ := rows_disjoint a r hr
  unfold State.written
  rw [hr]
  exact (next_field r s.committed (s.rword a) w f hf hd hw).trans (by cases f.acc <;> rfl)

/-- R8: a write breaks the lock when it carries, after commit, another value in an LK field. -/
theorem State.lockKept_eq_false_iff (s : State) (a : Nat) (w : Word) {r : RegRow} (hr : regRowAt a = some r) :
    s.lockKept a w = false ↔ s.committed = true ∧
      ∃ f ∈ r.fields, f.acc = .lk ∧ fldGet w f.lo f.width ≠ fldGet (s.rword a) f.lo f.width := by
  unfold State.lockKept
  simp only [hr, Bool.not_eq_false']
  exact next_lock r s.committed (s.rword a) w

/-- Settles O10: the shared write path stores the word of the access types, and `next_field` and `next_lock` read that word and
the lock off the fields of a row, which do not overlap. -/
theorem registerWriteByAccessType : Obligations.RegisterWriteByAccessType := by
  refine ⟨exec_registerWrite_stores, ?_, ?_, ?_⟩
  · intro s a w r f hr hf
    exact (s.fldGet_written a w hr hf).trans (by cases f.acc <;> rfl)
  · intro s a w r hr
    exact s.lockKept_eq_false_iff a w hr
  · intro s
    exact ⟨slot_refuse s 0x022 0x0D, rfl⟩

/-! Reads of registers that have a row. -/

/-- A read command that reaches a register tells its reader what the register answers. -/
theorem State.readCmd_told (s : State) {q : Sender} {a : Nat} {w : Word} {t : State} (h : s.readable q a) (hs : regSpace a = true)
    (h4 : a % 4 = 0) (hread : s.regRead q.req a = (false, w, t)) : s.readCmd q a = .next (s.told q w t) := by
  rw [readCmd_next s h hs h4, hread]
  rfl

/-- A read of a row that no act and no fault record changes shows the row. -/
theorem State.regRead_row (s : State) (q : Requester) {a : Nat} {r : RegRow} (hrow : regRowAt a = some r)
    (hact : actsOnRead a = false) (hrec : arrayAt (Reg.FLT_SRC_STATUS 0) 4 6144 a = none) :
    s.regRead q a = (false, s.rowRead q r a) := by
  unfold State.regRead
  rw [caseAt_readCases_none s q a hact, hrow]
  simp only [hrec]

/-- R6, R7: an RC_READ shows the register with its WO fields at 0 and clears its RC fields as `State.rcClear` does. -/
theorem exec_rcRead (s : State) {q : Sender} {a : Nat} {r : RegRow} (h : s.readable q a) (hrow : regRowAt a = some r)
    (hrc : r.maskOf .rc ≠ 0) :
    exec (.rcRead q a) s = .next (s.told q (s.regShow a &&& ~~~(r.maskOf .wo)) (s.rcClear r a)) := by
  have hp := rc_plain a r hrow hrc
  have hlatch := latchOf_plain s a hp
  unfold plainRead at hp
  simp only [Bool.and_eq_true, decide_eq_true_eq, Bool.not_eq_true', Option.isNone_iff_eq_none] at hp
  obtain ⟨⟨⟨⟨⟨hs, h4⟩, hact⟩, hlat⟩, -⟩, hrec⟩ := hp
  refine s.readCmd_told h hs h4 ?_
  rw [s.regRead_row q.req hrow hact hrec]
  unfold State.rowRead
  rw [hlat, hlatch]
  rfl

/-! A read of SCH_QMAX does not leave its MAX_CELLS at 0 while the queue holds cells (R311). -/

/-- A read is no due moment, no held sender and no waiting job. -/
theorem State.quiet_emit_inbound (s : State) (q : Requester) (i : Nat) (o : Out) (h : s.quiet) : ((s.inbound q i).emit o).quiet := by
  unfold State.inbound
  split <;> exact h

/-- What a read leaves in a field that nothing after a command changes. -/
theorem State.rf_told (s : State) (q : Sender) (w : Word) {t : State} (ht : t.quiet) (f : Fld) (h1 : f.addr ≠ Reg.TOP_INT_STATUS)
    (h2 : f.addr ≠ Reg.RAK_WAIT) : (s.told q w t).rf f = t.rf f := by
  unfold State.told
  rw [State.rf_after s (t.quiet_emit_inbound _ _ _ ht) f h1 h2]
  unfold State.inbound
  split <;> rfl

/-- The clear of RC fields writes registers alone. -/
theorem State.quiet_rcClear (s : State) (r : RegRow) (a : Nat) (h : s.quiet) : (s.rcClear r a).quiet := by
  unfold State.rcClear
  dsimp only
  split
  · exact h
  · split <;> exact h

theorem arrayAt_schQmax {n : Nat} (hn : n < 240) : arrayAt (Reg.SCH_QMAX 0) 4 240 (Reg.SCH_QMAX n) = some n := by
  have h : Reg.SCH_QMAX n - Reg.SCH_QMAX 0 = 4 * n := by
    unfold Reg.SCH_QMAX
    omega
  have hb : Reg.SCH_QMAX 0 ≤ Reg.SCH_QMAX n := by
    unfold Reg.SCH_QMAX
    omega
  unfold arrayAt
  rw [h, if_pos (by simp [hb, hn]), Nat.mul_div_cancel_left n (by decide)]

/-- R311: the clear of SCH_QMAX[n] leaves MAX_CELLS at the queue's present CELLS. -/
theorem State.rf_rcClear_maxCells (s : State) {n : Nat} {r : RegRow} (hn : n < 240) (hrow : regRowAt (Reg.SCH_QMAX n) = some r)
    (hrc : r.maskOf .rc ≠ 0) (hf : ⟨16, 16, .rc, 0⟩ ∈ r.fields) :
    (s.rcClear r (Reg.SCH_QMAX n)).rf (.SCH_QMAX_MAX_CELLS n) = satTo 16 (s.queueCells n) := by
  have hzero : (s.wword (Reg.SCH_QMAX n) (s.rword (Reg.SCH_QMAX n) &&& ~~~(r.maskOf .rc))).rf (.SCH_QMAX_MAX_CELLS n) = 0 := by
    have hclear := fldGet_clear r _ (s.rword (Reg.SCH_QMAX n)) _ hrow hf
    unfold State.rf
    rw [show (Fld.SCH_QMAX_MAX_CELLS n).addr = Reg.SCH_QMAX n from rfl, State.rword_wword_self]
    exact hclear
  have hlt : satTo 16 (s.queueCells n) < 2 ^ 16 := by
    unfold satTo
    omega
  unfold State.rcClear
  simp only [hrc, if_false, arrayAt_schQmax hn]
  unfold State.maxCells
  rw [hzero, State.rf_wf_self _ _ _ (by decide : (16 : Nat) + 16 ≤ 32), Nat.zero_max]
  exact Nat.mod_eq_of_lt hlt

/-- The row of SCH_QMAX. -/
def schQmaxRow : RegRow := ⟨0x283000, 0x4, 240, 0, [⟨16, 16, .rc, 0⟩, ⟨0, 16, .rc, 0⟩]⟩

/-- A frame of three bytes that has ended and waits in a queue. -/
def queuedFrame : Frame :=
  ⟨0, [1, 2, 3], true, false, 3, 0, 0, 0, 0, false, false, 0, 0, 0, [], false, 0, false, .queued, 0, 0, none, false, none, none, 0, 0,
    Key.empty, [], Verdict.empty, 0, [], none⟩

/-- An awake device whose queue 0 holds one copy of one cell. -/
def oneCellQueued : State :=
  ((State.reset.power fun p => { p with porst := false }).setFrame 5 (some queuedFrame)).setQueue 0 [Copy.plain 5 0 0 0 0]

theorem queueCells_oneCellQueued : oneCellQueued.queueCells 0 = 1 := by decide

/-- Refutes O11: queue 0 of `oneCellQueued` holds one cell, so after an RC_READ of SCH_QMAX[0] the RC field MAX_CELLS reads 1
again (R311), and not the 0 that the statement gives. -/
theorem not_registerReadShowsFields : ¬ Obligations.RegisterReadShowsFields := by
  intro h
  have hread : oneCellQueued.readable .ccx (Reg.SCH_QMAX 0) := by
    unfold State.readable
    decide
  have hrow : regRowAt (Reg.SCH_QMAX 0) = some schQmaxRow := by decide
  have hrc : schQmaxRow.maskOf .rc ≠ 0 := by decide
  have hf : ⟨16, 16, .rc, 0⟩ ∈ schQmaxRow.fields := by decide
  obtain ⟨hexec, hzero, -⟩ := h oneCellQueued .ccx (Reg.SCH_QMAX 0) schQmaxRow hread hrow hrc
  rw [exec_rcRead oneCellQueued hread hrow hrc] at hexec
  have hstates := Host.Outcome.next.inj hexec
  have hcells := congrArg (fun t : State => t.rf (.SCH_QMAX_MAX_CELLS 0)) hstates
  have hquiet : oneCellQueued.quiet := ⟨rfl, rfl, rfl⟩
  rw [State.rf_told _ _ _ (oneCellQueued.quiet_rcClear _ _ hquiet) _ (by decide) (by decide),
    State.rf_told _ _ _ (t := oneCellQueued.wword _ _) hquiet _ (by decide) (by decide),
    State.rf_rcClear_maxCells _ (by decide) hrow hrc hf, queueCells_oneCellQueued] at hcells
  have hone : satTo 16 1 = 0 := hcells.trans (hzero _ hf rfl)
  exact absurd hone (by decide)

/-! Counters. -/

theorem counterLow_iff (a : Nat) : counterLow a = true ↔ regSpace a = true ∧ a % 8 = 0 ∧ regRowAt a = none ∧
    (a < gatWin ∨ 0x87000 ≤ a) ∧ actsOnRead a = false := by
  unfold counterLow
  simp only [Bool.and_eq_true, Bool.or_eq_true, decide_eq_true_eq, Bool.not_eq_true', Option.isNone_iff_eq_none, and_assoc]

/-- Outside the entry windows of GAT no address is an entry's. -/
theorem State.gatEntry_none (s : State) {a : Nat} (h : a < gatWin ∨ 0x87000 ≤ a) : s.gatEntry a = none := by
  unfold State.gatEntry
  exact if_pos (by simpa using h)

/-- R9, R10: an address without a row and outside the entry windows reads as a counter. -/
theorem State.regRead_counter (s : State) (q : Requester) {a : Nat} (hact : actsOnRead a = false) (hrow : regRowAt a = none)
    (hgat : s.gatEntry a = none) : s.regRead q a = (false, s.counterRead q a) := by
  unfold State.regRead
  rw [caseAt_readCases_none s q a hact, hrow, hgat]

theorem State.counterRead_low (s : State) (q : Requester) {a : Nat} (h : a % 8 = 0) :
    s.counterRead q a = (BitVec.ofNat 32 (s.cget a), s.setLatch q (a + 4) (BitVec.ofNat 32 (s.cget a / 2 ^ 32))) := by
  unfold State.counterRead
  exact if_pos h

theorem State.counterRead_high (s : State) (q : Requester) {a : Nat} (h : a % 8 = 0) :
    s.counterRead q (a + 4) = (s.latched q (a + 4), s) := by
  unfold State.counterRead
  exact if_neg (by omega)

/-- Each requester has a latch of its own for each word. -/
theorem latchKey_inj {p q : Requester} {a b : Nat} : latchKey q b = latchKey p a ↔ q = p ∧ b = a := by
  constructor
  · intro h
    unfold latchKey at h
    cases p <;> cases q <;> simp at h ⊢ <;> omega
  · rintro ⟨rfl, rfl⟩
    rfl

theorem State.latched_setLatch (s : State) (p q : Requester) (a b : Nat) (w : Word) :
    (s.setLatch p a w).latched q b = if q = p ∧ b = a then w else s.latched q b := by
  unfold State.latched State.setLatch
  rw [spGet_spSet]
  simp only [latchKey_inj]

theorem State.cget_cadd (s : State) (a b n : Nat) : (s.cadd a n).cget b = if b = a then (s.cget a + n) % 2 ^ 64 else s.cget b := by
  by_cases h : b = a
  · rw [if_pos h, h, State.cget_cadd_self]
  · rw [if_neg h, State.cget_cadd_of_ne _ _ h]

/-- Settles O12: a low word is read by `counterRead` at a multiple of 8, its high word 4 above it, and the latches of two
requesters or of two words have different keys. -/
theorem counterReadLatchesPerRequester : Obligations.CounterReadLatchesPerRequester := by
  refine ⟨?low, ?high, fun _ _ => rfl, State.latched_setLatch, State.cget_cadd⟩
  case low =>
    intro s q a hread hlow
    obtain ⟨hs, h8, hrow, hgat, hact⟩ := (counterLow_iff a).mp hlow
    exact s.readCmd_told hread hs (by omega)
      ((s.regRead_counter q.req hact hrow (s.gatEntry_none hgat)).trans (by rw [s.counterRead_low q.req h8]))
  case high =>
    intro s q a hread hlow hgat hrow hs hact
    obtain ⟨-, h8, -, -, -⟩ := (counterLow_iff a).mp hlow
    exact s.readCmd_told hread hs (by omega)
      ((s.regRead_counter q.req hact hrow hgat).trans (by rw [s.counterRead_high q.req h8]))

/-! Full time values. -/

/-- The register of each nanoseconds word is in register space, acts on no read, and has no RC and no WO field. -/
theorem fullTimeReg_plain (c : Fin 3) : regSpace (fullTimeReg c) = true ∧ fullTimeReg c % 4 = 0 ∧ actsOnRead (fullTimeReg c) = false ∧
    latchedReg (fullTimeReg c) = false ∧ arrayAt (Reg.FLT_SRC_STATUS 0) 4 6144 (fullTimeReg c) = none ∧
    (regRowAt (fullTimeReg c)).any (fun r => r.maskOf .rc = 0 && r.maskOf .wo = 0) = true := by
  revert c
  decide

theorem State.regShow_fullTimeReg (s : State) (c : Fin 3) : s.regShow (fullTimeReg c) = (fullTime (s.clock c)).1 := by
  match c with
  | 0 => exact regShowP s (p := (16, 0)) (by decide)
  | 1 => exact regShowP s (p := (17, 0)) (by decide)
  | 2 => exact regShowP s (p := (18, 0)) (by decide)

/-- The case of one register, at the head of a list of cases. -/
theorem caseAt_one_cons {α : Type} (a b : Nat) (v : α) (l : List (RegCase α)) :
    caseAt (one a v :: l) b = if (arrayAt a 4 1 b).isSome then some v else caseAt l b := by
  unfold caseAt one
  rw [List.findSome?_cons]
  cases arrayAt a 4 1 b <;> rfl

/-- R12: the nanoseconds word of a clock latches the two words above it. -/
theorem State.latchOf_fullTimeReg (s : State) (c : Fin 3) : s.latchOf (fullTimeReg c) =
    [(fullTimeReg c + 4, (fullTime (s.clock c)).2.1), (fullTimeReg c + 8, (fullTime (s.clock c)).2.2)] := by
  unfold State.latchOf
  simp only [caseAt_one_cons]
  match c with
  | 0 => rfl
  | 1 => rfl
  | 2 => rfl

theorem State.rowRead_fullTimeReg (s : State) (q : Requester) (c : Fin 3) {r : RegRow} (hrc : r.maskOf .rc = 0) (hwo : r.maskOf .wo = 0) :
    s.rowRead q r (fullTimeReg c) = ((fullTime (s.clock c)).1,
      (s.setLatch q (fullTimeReg c + 4) (fullTime (s.clock c)).2.1).setLatch q (fullTimeReg c + 8) (fullTime (s.clock c)).2.2) := by
  obtain ⟨-, -, -, hlat, -, -⟩ := fullTimeReg_plain c
  unfold State.rowRead State.rcClear
  rw [hlat, s.latchOf_fullTimeReg, s.regShow_fullTimeReg, hwo, and_full, hrc]
  rfl

/-- Settles O13: the three words are those of `fullTime`, taken of one clock value. -/
theorem fullTimeReadLatchesOtherWords : Obligations.FullTimeReadLatchesOtherWords := by
  intro s q c hread
  obtain ⟨hs, h4, hact, -, hrec, hany⟩ := fullTimeReg_plain c
  obtain ⟨r, hrow, hmask⟩ := (Option.any_eq_true _ _).mp hany
  simp only [Bool.and_eq_true, decide_eq_true_eq] at hmask
  obtain ⟨hrc, hwo⟩ := hmask
  exact s.readCmd_told hread hs h4
    ((s.regRead_row q.req hrow hact hrec).trans (by rw [s.rowRead_fullTimeReg q.req c hrc hwo]; rfl))

end Sys2Proof.Machine

/-!
PROOFS. What the change of FWD_EN, and the frames, incidents and channels that it ends, leave untouched (R273, R383, R449).
-/
namespace Sys2Proof.Machine

/-- Registers up to here belong to TOP, PWR, BOOT, SEC, CCX, FLT, PAIR, TIM, GAT, MAC, PHY and RAK. -/
def controlTop : Nat := 0x190000

/-- What neither the Cellar, the Strongroom nor the gateway touches: power manager, boot process, complex, the state of the DRAM
port, and the registers below `controlTop` (which `State.beyondCel` does not cover). -/
structure Control where
  pwr : Pwr
  boot : Boot
  ccx : Ccx
  cfg : Option DramCfg
  up : Bool
  selfRefresh : Bool
  low : Fin controlTop → Word

def State.control (s : State) : Control :=
  ⟨s.pwr, s.boot, s.ccx, s.dram.cfg, s.dram.up, s.dram.selfRefresh, fun a => s.rword a⟩

namespace State

variable (s : State)

theorem rf_of_control {s t : State} (h : s.control = t.control) (f : Fld) (hf : f.addr < controlTop) : s.rf f = t.rf f := by
  have hw : s.rword f.addr = t.rword f.addr := congrFun (congrArg Control.low h) ⟨f.addr, hf⟩
  unfold rf
  rw [hw]

/-- A register of another block. -/
theorem control_wf (f : Fld) (v : Nat) (hf : controlTop ≤ f.addr) : (s.wf f v).control = s.control := by
  have hlow : (fun a : Fin controlTop => (s.wf f v).rword a) = fun a : Fin controlTop => s.rword a :=
    funext fun a => s.rword_wf_of_ne f v (by omega)
  unfold control
  rw [hlow]
  rfl

theorem control_each {α : Type} (l : List α) (g : State → α → State) (h : ∀ u x, (g u x).control = u.control) :
    (s.each l g).control = s.control := each_keep State.control g h l s

/-! Frames and copies. -/

theorem control_modFrame (n : Nat) (g : Frame → Frame) : (s.modFrame n g).control = s.control := by
  unfold modFrame
  split <;> rfl

theorem control_checkOldFree : s.checkOldFree.control = s.control := by
  unfold checkOldFree
  split
  · rw [control_wf _ _ _ (by decide), control_wf _ _ _ (by decide)]
  · rfl

theorem control_releaseRef (n : Nat) : (s.releaseRef n).control = s.control := by
  unfold releaseRef
  split
  · rw [control_checkOldFree, control_wf _ _ _ (by decide)]
  · rfl

theorem control_dropRef (n : Nat) : (s.dropRef n).control = s.control := by
  unfold dropRef
  split
  · split
    · exact control_releaseRef _ _
    · rfl
  · rfl

theorem control_freeCells (f : Frame) : (s.freeCells f).control = s.control :=
  s.control_each _ _ fun _ _ => rfl

theorem control_xoffPort (n : Nat) : (s.xoffPort n).control = s.control := by
  unfold xoffPort
  dsimp only
  split
  · rfl
  · exact control_wf s _ _ (Nat.le_add_right_of_le (by decide))

theorem control_xoffAll : s.xoffAll.control = s.control := s.control_each _ _ control_xoffPort

theorem control_settle (n : Nat) : (s.settle n).control = s.control := by
  unfold settle
  split
  · rfl
  · split
    · rfl
    · dsimp only
      rw [control_xoffAll]
      split
      · exact (control_freeCells _ _).trans (control_dropRef _ _)
      · rw [control_modFrame, control_freeCells, control_dropRef]

theorem control_giveDesc : s.giveDesc.control = s.control := by
  unfold giveDesc
  dsimp only
  split
  · exact control_xoffAll _
  · rfl

theorem control_giveMirror : s.giveMirror.control = s.control := control_giveDesc _

theorem control_releaseCopy (c : Copy) : (s.releaseCopy c).control = s.control := by
  unfold releaseCopy
  dsimp only
  rw [control_settle, control_modFrame]
  have h : (if (decide (c.port = 28) && !c.mirror) = true then s.dropRef c.fid else s).control = s.control := by
    split
    · exact control_dropRef _ _
    · rfl
  split
  · rw [control_giveMirror, h]
  · rw [control_giveDesc, h]

theorem control_flushQueues (e : Nat) : (s.flushQueues e).control = s.control := by
  have hstaged : (s.unstage e (fun _ => true) fun u => u.cinc (Ctr.port e 4)).control = s.control := by
    refine s.control_each _ _ fun u k => ?_
    dsimp only
    split
    · exact control_releaseCopy _ _
    · rfl
  refine (control_each _ _ _ fun u k => ?_).trans hstaged
  exact control_each (u.setQueue (e * 8 + k) []) _ _ fun v c => control_releaseCopy _ c

/-! The Strongroom. -/

theorem control_pfTouch (a n : Nat) : (s.pfTouch a n).control = s.control := by
  refine s.control_each _ _ fun u i => ?_
  split
  · split
    · unfold pfDiscard
      split <;> rfl
    · rfl
  · rfl

theorem control_dramPuts (l : List Byte) (a : Nat) : (s.dramPuts a l).control = s.control := by
  induction l generalizing s a with
  | nil => rfl
  | cons b l ih => exact (ih (s.dramPut a b) (a + 1)).trans rfl

theorem control_dramWrite (a : Nat) (b : List Byte) : (s.dramWrite a b).control = s.control := by
  unfold dramWrite
  dsimp only
  rw [control_dramPuts, control_pfTouch]
  exact s.control_each _ _ fun _ _ => rfl

theorem control_incClose (i : Nat) (g : State → State) (hg : ∀ u, (g u).control = u.control) :
    (s.incClose i g).control = s.control := by
  unfold incClose
  split
  · unfold putInc
    rw [control_dramWrite, control_wf _ _ _ (by decide), hg, control_wf _ _ _ (Nat.le_add_right_of_le (by decide)),
      control_wf _ _ _ (Nat.le_add_right_of_le (by decide))]
  · rfl

theorem control_exportEnd : s.exportEnd.control = s.control := by
  unfold exportEnd
  split
  · rfl
  · unfold putInc
    rw [control_dramWrite, control_wf _ _ _ (by decide), control_wf _ _ _ (Nat.le_add_right_of_le (by decide))]
    rfl

theorem control_stgFwdOff : s.stgFwdOff.control = s.control := by
  unfold stgFwdOff
  rw [control_exportEnd]
  refine control_each _ _ _ fun u i => control_incClose _ _ _ fun v => ?_
  exact control_wf v _ _ (Nat.le_add_right_of_le (by decide))

/-! The gateway. -/

theorem control_wf_chState (c v : Nat) : (s.wf (.GWE_CH_STATUS_STATE c) v).control = s.control :=
  s.control_wf _ _ (Nat.le_add_right_of_le (by decide))

theorem control_serialStop (c : Nat) : (s.serialStop c).control = s.control := by
  unfold serialStop
  split <;> rfl

theorem control_postEvent (c : Nat) (m : Msg) : (s.postEvent c m).control = s.control := by
  unfold postEvent
  dsimp only
  split
  · rfl
  · split
    · rfl
    · split
      · exact control_wf (s.cinc (Ctr.gwe c 3)) .GWE_INT_RX_OVERFLOW 1 (by decide)
      · rfl

theorem control_gweFwdOff : s.gweFwdOff.control = s.control := by
  refine s.control_each _ _ fun u c => ?_
  dsimp only
  split
  · rw [control_wf_chState]
    exact (control_serialStop (u.chFlush c) c).trans rfl
  · rfl

theorem control_gweFwdOn : s.gweFwdOn.control = s.control := by
  refine s.control_each _ _ fun u c => ?_
  dsimp only
  split
  · rw [control_postEvent]
    exact control_wf_chState u c 2
  · rfl

theorem control_chUpdate (c : Nat) : (s.chUpdate c).control = s.control := by
  unfold chUpdate
  split
  · exact control_wf_chState s c 0
  · split
    · exact control_wf_chState s c _
    · rfl

theorem control_virtualStart : s.virtualStart.control = s.control := s.control_each _ _ control_chUpdate

/-! FWD_EN and the power state. -/

theorem control_setFwd (b : Bool) : (s.setFwd b).control = (s.wf .TOP_STATE_FWD_EN (b2n b)).control := by
  unfold setFwd
  dsimp only
  split
  · exact control_each _ _ _ control_flushQueues
  · rfl

theorem control_setForward (b : Bool) : (s.setForward b).control = (s.wf .TOP_STATE_FWD_EN (b2n b)).control := by
  rw [← control_setFwd]
  unfold setForward
  dsimp only
  split
  · rw [control_gweFwdOff, control_stgFwdOff]
  · split
    · exact control_gweFwdOn _
    · rfl

theorem control_trigRelease : s.trigRelease.control = s.control :=
  s.control_each _ (fun u k => u.emit (.triggerEdge k (u.on (.TIM_TRIG_CFG_POL k)))) fun _ _ => rfl

end State

end Sys2Proof.Machine

/-!
PROOFS. Power states, sleep entry and wake (R77 to R95): what each operation of the power manager leaves.
-/
namespace Sys2Proof.Machine.State

variable (s : State)

/-! The power state. -/

/-- A change of the power state leaves everything of the control state but registers. -/
theorem control_powerTo (st : Nat) : { (s.powerTo st).control with low := s.control.low } = s.control := by
  have key : ∀ (u : State) (b : Bool), { (u.setForward b).control with low := s.control.low } = { u.control with low := s.control.low } :=
    fun u b => congrArg (fun c : Control => { c with low := s.control.low }) (u.control_setForward b)
  unfold powerTo
  split
  · rfl
  · dsimp only
    rw [key]
    split
    · rfl
    · rw [control_trigRelease]
      rfl

@[simp] theorem pwr_powerTo (st : Nat) : (s.powerTo st).pwr = s.pwr := (congrArg Control.pwr (s.control_powerTo st) :)
@[simp] theorem boot_powerTo (st : Nat) : (s.powerTo st).boot = s.boot := (congrArg Control.boot (s.control_powerTo st) :)
@[simp] theorem ccx_powerTo (st : Nat) : (s.powerTo st).ccx = s.ccx := (congrArg Control.ccx (s.control_powerTo st) :)
@[simp] theorem cfg_powerTo (st : Nat) : (s.powerTo st).dram.cfg = s.dram.cfg := (congrArg Control.cfg (s.control_powerTo st) :)
@[simp] theorem up_powerTo (st : Nat) : (s.powerTo st).dram.up = s.dram.up := (congrArg Control.up (s.control_powerTo st) :)
@[simp] theorem selfRefresh_powerTo (st : Nat) : (s.powerTo st).dram.selfRefresh = s.dram.selfRefresh :=
  (congrArg Control.selfRefresh (s.control_powerTo st) :)

theorem powerTo_of_eq {st : Nat} (h : s.rf .TOP_STATE_PWR_STATE = st) : s.powerTo st = s := by
  unfold powerTo
  rw [if_pos h]

/-- TOP_STATE.PWR_STATE shows the state that the device goes to (R77). -/
theorem rf_powerTo {st : Nat} (h : st < 8) : (s.powerTo st).rf .TOP_STATE_PWR_STATE = st := by
  by_cases hst : s.rf .TOP_STATE_PWR_STATE = st
  · rw [s.powerTo_of_eq hst, hst]
  · have key : ∀ (u : State) (b : Bool), u.rf .TOP_STATE_PWR_STATE = st → (u.setForward b).rf .TOP_STATE_PWR_STATE = st := by
      intro u b hu
      rw [rf_of_control (u.control_setForward b) _ (by decide), rf_wf_of_ne _ _ _ _ (by decide), hu]
    have hv : (((s.wf .TOP_STATE_PREV_PWR (s.rf .TOP_STATE_PWR_STATE)).wf .TOP_STATE_PWR_STATE st).wf .PWR_STATUS_STATE st).rf
        .TOP_STATE_PWR_STATE = st := by
      rw [rf_wf_of_ne _ _ _ _ (by decide), rf_wf_self _ _ _ (by decide)]
      exact Nat.mod_eq_of_lt h
    unfold powerTo
    rw [if_neg hst]
    refine key _ _ ?_
    split
    · exact hv
    · rwa [rf_of_control (control_trigRelease _) _ (by decide)]

end Sys2Proof.Machine.State

namespace Sys2Proof.Machine.State

variable (s : State)

/-! Sleep entry (R79). -/

theorem pwr_refreshEntry (up : Bool) : (s.refreshEntry up).pwr = s.pwr := by
  unfold refreshEntry
  split <;> rfl

theorem dram_refreshEntry (up : Bool) : (s.refreshEntry up).dram = s.dram := by
  unfold refreshEntry
  split <;> rfl

theorem pwr_tc10Request (p : Nat) : (s.tc10Request p).pwr = s.pwr := by
  unfold tc10Request
  split <;> rfl

theorem dram_tc10Request (p : Nat) : (s.tc10Request p).dram = s.dram := by
  unfold tc10Request
  split <;> rfl

/-- A request goes to the partners of the ports in a list that ask for it: no other part of the state sees it. -/
def sleepRequests (l : List Nat) : State := s.each l fun u p => if u.on (.PHY_CFG_TC10_SLEEP p) then u.tc10Request p else u

theorem pwr_sleepRequests (l : List Nat) : (s.sleepRequests l).pwr = s.pwr := by
  refine each_keep State.pwr _ (fun u p => ?_) l s
  split
  · exact pwr_tc10Request u p
  · rfl

theorem dram_sleepRequests (l : List Nat) : (s.sleepRequests l).dram = s.dram := by
  refine each_keep State.dram _ (fun u p => ?_) l s
  split
  · exact dram_tc10Request u p
  · rfl

/-- The DRAM goes into self-refresh when it was up, and the unit stop is next (R79 step 3). -/
theorem entrySettle_does : s.entrySettle.dram.selfRefresh = s.dram.up ∧ s.entrySettle.dram.up = false ∧
    s.entrySettle.pwr.entry = s.pwr.entry.map fun x => { x with step := .stopUnits } := by
  obtain ⟨u, hu⟩ : ∃ u, u = s.refreshEntry s.dram.up := ⟨_, rfl⟩
  have hpwr : u.pwr = s.pwr := hu ▸ s.pwr_refreshEntry _
  have hdram : u.dram = s.dram := hu ▸ s.dram_refreshEntry _
  have h : s.entrySettle = (sleepRequests { u with dram := { u.dram with selfRefresh := u.dram.up, up := false } }
      ((List.range 12).map (fun i => 12 + i))).setEntry fun x => { x with step := .stopUnits } := by
    rw [hu]
    rfl
  rw [h]
  unfold setEntry
  simp only [dram_power, pwr_power, pwr_sleepRequests, dram_sleepRequests, hpwr, hdram, and_self]

/-- A sequence step goes down (R84, R89), and the next one that is to go down is the next lower (R79 step 5). -/
theorem lowerStep_does (t i : Nat) (u : State) (hu : u = (s.pmbOperation i 0x00).stepDown t i) :
    u.pwr = { s.pwr with pwrEn := s.pwr.pwrEn ||| s.rf (.PWR_SEQ_EN_MASK i), downSteps := s.pwr.downSteps ||| 2 ^ i, ramp := s.banksOff t } ∧
    u.entryAfter t i = s.entryAfter t i := by
  have hregs := s.regs_pmbOperation i 0x00
  subst hu
  refine ⟨?_, entryAfter_congr hregs t i⟩
  unfold stepDown banksOff
  simp only [pwr_power, pwr_pmbOperation, rf_congr hregs]

/-- The sleep state is reached, where no wake is held (R79 step 6). -/
theorem sleepReach_does (e : SleepEntry) (hw : e.wakeHeld = false) (ht : e.target < 8) :
    (s.sleepReach e).rf .TOP_STATE_PWR_STATE = e.target ∧ (s.sleepReach e).pwr.asleep = e.target ∧
    (s.sleepReach e).pwr.entry = none ∧ (s.sleepReach e).pwr.inh = s.inhIn e.target ∧ (s.sleepReach e).pwr.ramp = 0 := by
  unfold sleepReach
  dsimp only
  rw [hw, if_neg Bool.false_ne_true, rf_wf_self _ _ _ (by decide)]
  exact ⟨Nat.mod_eq_of_lt ht, rfl, rfl, rfl, rfl⟩

theorem awake_of_asleep (h : s.pwr.asleep ≠ 0) : s.awake = false := by
  unfold awake powered
  simp [h]

/-- Past its commit point a sleep entry has stopped the units (R79 step 4). -/
theorem awake_of_committed {e : SleepEntry} (he : s.pwr.entry = some e) (hc : e.committed = true) : s.awake = false := by
  unfold awake unitsStopped
  simp [he, hc]

/-! One step of a sleep entry, for each of its steps. -/

section
variable {s : State} {e : SleepEntry} (he : s.pwr.entry = some e)
include he

theorem entryStep_stopAdmission (hs : e.step = .stopAdmission) :
    s.entryStep = ((s.powerTo pwrStandby).updStop false).setEntry fun x => { x with step := .checkpoint } := by
  simp only [entryStep, he, hs]

/-- SLEEP-R in a device with a committed image asks for a checkpoint first. -/
theorem entryStep_checkpoint_asks (hs : e.step = .checkpoint) (ht : e.target = pwrSleepR) (hc : (s.powerTo pwrStandby).committed = true) :
    s.entryStep = ((s.powerTo pwrStandby).complex fun x => { x with unscheduled := true }).setEntry fun x => { x with step := .awaitCheckpoint } := by
  simp only [entryStep, he, hs, ht, hc, decide_true, Bool.and_self, if_true]

theorem entryStep_checkpoint_settles (hs : e.step = .checkpoint) (h : e.target ≠ pwrSleepR ∨ (s.powerTo pwrStandby).committed = false) :
    s.entryStep = (s.powerTo pwrStandby).entrySettle := by
  have hneg : ¬(decide (e.target = pwrSleepR) && (s.powerTo pwrStandby).committed) = true := by
    rcases h with h | h <;> simp [h]
  simp only [entryStep, he, hs, if_neg hneg]

theorem entryStep_await_waits (hs : e.step = .awaitCheckpoint)
    (h : ((s.powerTo pwrStandby).ccx.unscheduled || (s.powerTo pwrStandby).on .TOP_STATE_CCX_RESTART) = true) :
    s.entryStep = s.powerTo pwrStandby := by
  simp only [entryStep, he, hs, h, if_true]

theorem entryStep_await_settles (hs : e.step = .awaitCheckpoint) (hu : (s.powerTo pwrStandby).ccx.unscheduled = false)
    (hr : (s.powerTo pwrStandby).on .TOP_STATE_CCX_RESTART = false) : s.entryStep = (s.powerTo pwrStandby).entrySettle := by
  simp only [entryStep, he, hs, hu, hr, Bool.or_self, Bool.false_eq_true, if_false]

theorem entryStep_stopUnits (hs : e.step = .stopUnits) :
    s.entryStep = (((s.powerTo pwrStandby).mgtEndAll).power fun p => { p with started := 0 }).setEntry fun x =>
      { x with step := (s.powerTo pwrStandby).entryAfter e.target 8, committed := true } := by
  simp only [entryStep, he, hs]

theorem entryStep_lower {i : Nat} (hs : e.step = .lower i) : ∃ u, u = ((s.powerTo pwrStandby).pmbOperation i 0x00).stepDown e.target i ∧
    s.entryStep = u.setEntry fun x => { x with step := u.entryAfter e.target i } := by
  refine ⟨_, rfl, ?_⟩
  simp only [entryStep, he, hs]

theorem entryStep_reachSleep (hs : e.step = .reachSleep) : s.entryStep = (s.powerTo pwrStandby).sleepReach e := by
  simp only [entryStep, he, hs]

end

end Sys2Proof.Machine.State

namespace Sys2Proof.Machine

/-- Settles O24: STANDBY comes first (`rf_powerTo`), and each step of an entry has its lemma. -/
theorem sleepEntrySteps : Obligations.SleepEntrySteps := by
  refine ⟨fun s hp => s.acting_of _ hp, fun s => ⟨s.rf_powerTo (by decide), fun h => s.powerTo_of_eq h⟩, ?_,
    fun s e he hc => s.awake_of_committed he hc⟩
  intro s e he
  refine ⟨State.entryStep_stopAdmission he, State.entryStep_checkpoint_asks he, State.entryStep_await_waits he, ?settle,
    State.entryStep_stopUnits he, ?lower, ?reach⟩
  case settle =>
    rintro (⟨hs, h⟩ | ⟨hs, hu, hr⟩)
    · rw [State.entryStep_checkpoint_settles he hs h]
      exact State.entrySettle_does _
    · rw [State.entryStep_await_settles he hs hu hr]
      exact State.entrySettle_does _
  case lower =>
    intro i hs
    obtain ⟨u, hu, ht⟩ := State.entryStep_lower he hs
    obtain ⟨hpwr, hnext⟩ := State.lowerStep_does _ _ _ u hu
    rw [ht, hnext]
    unfold State.setEntry
    rw [State.pwr_power, hpwr]
    exact ⟨rfl, rfl, rfl, rfl⟩
  case reach =>
    intro hs hw htarget
    rw [State.entryStep_reachSleep he hs]
    obtain ⟨hst, hasleep, hentry, hinh, hramp⟩ := (s.powerTo pwrStandby).sleepReach_does e hw htarget
    exact ⟨hst, hasleep, hentry, hinh, hramp, fun h => State.awake_of_asleep _ (hasleep ▸ h)⟩

end Sys2Proof.Machine

namespace Sys2Proof.Machine

/-- The registers that the wake sequence reads: the sequence and its configuration, and the enabled wake sources. -/
def seqReg (a : Nat) : Bool := Reg.PWR_SEQ_CFG ≤ a || a = Reg.PWR_WAKE_EN

theorem seqReg_pwrSeq (i : Nat) : seqReg (Reg.PWR_SEQ i) = true := by
  unfold seqReg Reg.PWR_SEQ Reg.PWR_SEQ_CFG
  simp only [Bool.or_eq_true, decide_eq_true_eq]
  omega

theorem sameRegs_of_regs {s t : State} (h : t.regs = s.regs) (p : Nat → Bool) : sameRegs s t p := fun a _ => State.rword_congr h a

theorem sameRegs.wword {s t : State} {p : Nat → Bool} (h : sameRegs s t p) {a : Nat} (w : Word) (ha : p a = false) :
    sameRegs s (t.wword a w) p := by
  intro b hb
  have hne : b ≠ a := fun e => by rw [e, ha] at hb; exact Bool.false_ne_true hb
  rw [State.rword_wword_of_ne t w hne, h b hb]

theorem sameRegs.wf {s t : State} {p : Nat → Bool} (h : sameRegs s t p) {f : Fld} (v : Nat) (hf : p f.addr = false) :
    sameRegs s (t.wf f v) p := h.wword _ hf

theorem sameRegs.rf {s t : State} {p : Nat → Bool} (h : sameRegs s t p) (f : Fld) (hf : p f.addr = true) : t.rf f = s.rf f := by
  unfold State.rf
  rw [h f.addr hf]

namespace State

/-! What the sequence reads. -/

theorem downSet_of_sameRegs {s t : State} (h : sameRegs s t seqReg) (n : Nat) : t.downSet n = s.downSet n := by
  have hd (i : Nat) : t.on (.PWR_SEQ_DOWN_D i) = s.on (.PWR_SEQ_DOWN_D i) := congrArg (· == 1) (h.rf _ (seqReg_pwrSeq i))
  have hr (i : Nat) : t.on (.PWR_SEQ_DOWN_R i) = s.on (.PWR_SEQ_DOWN_R i) := congrArg (· == 1) (h.rf _ (seqReg_pwrSeq i))
  unfold downSet
  simp only [hd, hr, h.rf .PWR_SEQ_CFG_NSEQ (by decide)]

theorem banksOff_of_sameRegs {s t : State} (h : sameRegs s t seqReg) (n : Nat) : t.banksOff n = s.banksOff n := by
  unfold banksOff
  rw [h.rf .PWR_WAKE_EN_TC10 (by decide)]

theorem inhIn_of_sameRegs {s t : State} (h : sameRegs s t seqReg) (n : Nat) : t.inhIn n = s.inhIn n := by
  unfold inhIn on
  rw [h.rf .PWR_SEQ_CFG_INH_R (by decide)]

/-! The wake sequence (R84, R86). -/

/-- The sequence of `s` goes on, in `e`, with the down steps `l`: the first of them is raised, or with none every rail is up. -/
def goesOn (s e : State) (l : List Nat) : Prop :=
  match l with
  | i :: _ => e.pwr.wake = .pgood i ∧ e.pwr.pwrEn = s.pwr.pwrEn &&& (255 - s.rf (.PWR_SEQ_EN_MASK i)) ∧ e.pwr.ramp = s.banksOff s.pwr.asleep
  | [] => e.pwr.wake = (if s.pwr.asleep = 1 then .coldReset else .start 0) ∧ e.pwr.pwrEn = s.pwr.pwrEn ∧ e.pwr.ramp = 0

theorem goesOn_of_pwr {s e e' : State} (h : e'.pwr = e.pwr) (l : List Nat) (hg : s.goesOn e l) : s.goesOn e' l := by
  unfold goesOn at *
  rw [h]
  exact hg

section
variable {s t : State} (hregs : sameRegs s t seqReg) (hen : t.pwr.pwrEn = s.pwr.pwrEn) (has : t.pwr.asleep = s.pwr.asleep)
include hregs hen has

theorem goesOn_stepUp (i : Nat) (l : List Nat) : s.goesOn (t.stepUp i) (i :: l) := by
  refine ⟨rfl, ?_, ?_⟩
  · show t.pwr.pwrEn &&& (255 - t.rf (.PWR_SEQ_EN_MASK i)) = _
    rw [hen, hregs.rf _ (seqReg_pwrSeq i)]
  · show t.banksOff t.pwr.asleep = _
    rw [has, banksOff_of_sameRegs hregs]

omit hregs in
theorem goesOn_railsUp : s.goesOn t.railsUp [] := by
  refine ⟨?_, hen, rfl⟩
  show (if t.pwr.asleep = pwrSleepD then WakeStep.coldReset else .start 0) = _
  rw [has]
  rfl

theorem goesOn_wakeAttempt : s.goesOn t.wakeAttempt (s.downSet s.pwr.asleep) := by
  have hdown (u : State) (hu : sameRegs s u seqReg) (hua : u.pwr.asleep = s.pwr.asleep) :
      u.downSet u.pwr.asleep = s.downSet s.pwr.asleep := by
    rw [hua, downSet_of_sameRegs hu]
  unfold wakeAttempt
  dsimp only
  rw [hdown (t.power fun p => { p with inh := true }) hregs has]
  cases s.downSet s.pwr.asleep with
  | nil => exact goesOn_railsUp (t := t.power fun p => { p with inh := true }) hen has
  | cons i l => exact goesOn_stepUp (t := t.power fun p => { p with inh := true }) hregs hen has i l

end

variable (s : State)

theorem wakeStart_does : s.wakeStart.regs = (s.wf .PWR_STATUS_SEQ_FAILS 0).regs ∧
    s.wakeStart.pwr = (s.wf .PWR_STATUS_SEQ_FAILS 0).wakeAttempt.pwr := by
  obtain ⟨hregs, -⟩ := (s.wf .PWR_STATUS_SEQ_FAILS 0).wakeAttempt_does
  unfold wakeStart
  rw [regs_booting, pwr_booting]
  exact ⟨hregs, rfl⟩

/-! Wake sources (R80 to R83). -/

/-- The first source is recorded with the travel count. -/
theorem wakeRecord_first (c : Nat) (h : s.rf .PWR_WAKE_CAUSE_FIRST = 0) :
    s.wakeRecord c = ((s.wf .PWR_WAKE_CAUSE_FIRST c).wword (Reg.PWR_WAKE_D48 0) (BitVec.ofNat 32 s.d48)).wword (Reg.PWR_WAKE_D48 1)
      (BitVec.ofNat 32 (s.d48 / 2 ^ 32)) := by
  unfold wakeRecord
  rw [if_pos h]

theorem wakeRecord_more (c : Nat) (h : s.rf .PWR_WAKE_CAUSE_FIRST ≠ 0) (hc : s.rf .PWR_WAKE_CAUSE_FIRST ≠ c) :
    s.wakeRecord c = s.wf .PWR_WAKE_CAUSE_MORE 1 := by
  unfold wakeRecord
  rw [if_neg h, if_neg hc]

theorem pwr_wakeRecord (c : Nat) : (s.wakeRecord c).pwr = s.pwr := by
  unfold wakeRecord
  split
  · rfl
  · split <;> rfl

section
variable {s : State} {c : Nat} (hp : s.pwr.porst = false) (hc : s.wakeEnabled c = true)
include hp hc

/-- In STANDBY and ACTIVE a source has no effect. -/
theorem wakeConfirm_awake (he : s.pwr.entry = none) (ha : s.pwr.asleep = 0) : s.wakeConfirm c = s := by
  simp only [wakeConfirm, hp, hc, he, ha, Bool.not_true, Bool.or_self, Bool.false_eq_true, if_false, if_true]

theorem wakeConfirm_asleep (he : s.pwr.entry = none) (ha : s.pwr.asleep ≠ 0) (hw : s.pwr.wake = .none) :
    s.wakeConfirm c = ((s.wakeRecord c).power fun p => { p with wakePending := true }).wakeStart := by
  simp only [wakeConfirm, hp, hc, he, ha, pwr_wakeRecord, hw, Bool.not_true, Bool.or_self, Bool.false_eq_true, if_false, if_true]

theorem wakeConfirm_waking (he : s.pwr.entry = none) (ha : s.pwr.asleep ≠ 0) (hw : s.pwr.wake ≠ .none) :
    s.wakeConfirm c = s.wakeRecord c := by
  simp only [wakeConfirm, hp, hc, he, ha, pwr_wakeRecord, hw, Bool.not_true, Bool.or_self, Bool.false_eq_true, if_false]

theorem wakeConfirm_entering {x : SleepEntry} (he : s.pwr.entry = some x) (hx : x.committed = false) :
    s.wakeConfirm c = (s.wakeRecord c).entryAbandon x := by
  simp only [wakeConfirm, hp, hc, he, hx, Bool.not_true, Bool.or_self, Bool.false_eq_true, if_false]

theorem wakeConfirm_entered {x : SleepEntry} (he : s.pwr.entry = some x) (hx : x.committed = true) :
    s.wakeConfirm c = (((s.wakeRecord c).wf .PWR_WAKE_CAUSE_EARLY 1).power fun p => { p with wakePending := true }).setEntry
      fun x => { x with wakeHeld := true } := by
  simp only [wakeConfirm, hp, hc, he, hx, Bool.not_true, Bool.or_self, Bool.false_eq_true, if_false, if_true]

/-- What a confirmed source leaves in a sleep state with no wake under way. -/
theorem wakeConfirm_wakes (he : s.pwr.entry = none) (ha : s.pwr.asleep ≠ 0) (hw : s.pwr.wake = .none)
    (hf : s.rf .PWR_WAKE_CAUSE_FIRST = 0) (hlt : c < 256) : let e := s.wakeConfirm c
    e.rf .PWR_WAKE_CAUSE_FIRST = c ∧ e.rword (Reg.PWR_WAKE_D48 0) = BitVec.ofNat 32 s.d48 ∧
    e.rword (Reg.PWR_WAKE_D48 1) = BitVec.ofNat 32 (s.d48 / 2 ^ 32) ∧ e.rf .PWR_STATUS_SEQ_FAILS = 0 ∧ e.pwr.inh = true ∧
    e.pwr.wakePending = true ∧ s.goesOn e (s.downSet s.pwr.asleep) := by
  obtain ⟨r, hr⟩ : ∃ r, r = s.wakeRecord c := ⟨_, rfl⟩
  have hrpwr : r.pwr = s.pwr := hr ▸ s.pwr_wakeRecord c
  rw [wakeRecord_first s c hf] at hr
  have hsame : sameRegs s r seqReg := by
    rw [hr]
    exact (((sameRegs_of_regs (s := s) (t := s) rfl seqReg).wf c (by decide)).wword _ (by decide)).wword _ (by decide)
  intro e
  have hee : e = (r.power fun p => { p with wakePending := true }).wakeStart := by
    rw [hr, ← wakeRecord_first s c hf]
    exact wakeConfirm_asleep hp hc he ha hw
  obtain ⟨hregs, hpwr⟩ := (r.power fun p => { p with wakePending := true }).wakeStart_does
  rw [← hee] at hregs hpwr
  have hword (a : Nat) (h : a ≠ Reg.PWR_STATUS) : e.rword a = r.rword a :=
    (rword_congr hregs a).trans (rword_wf_of_ne r _ _ h)
  obtain ⟨-, hinh, hpend, -⟩ := ((r.power fun p => { p with wakePending := true }).wf .PWR_STATUS_SEQ_FAILS 0).wakeAttempt_does
  refine ⟨?_, ?_, ?_, ?_, hpwr ▸ hinh, by rw [hpwr, hpend]; rfl, goesOn_of_pwr hpwr _ ?_⟩
  · have hcause : e.rword Reg.PWR_WAKE_CAUSE = (s.wf .PWR_WAKE_CAUSE_FIRST c).rword Reg.PWR_WAKE_CAUSE := by
      rw [hword _ (by decide), hr, rword_wword_of_ne _ _ (by decide), rword_wword_of_ne _ _ (by decide)]
    have hfirst : e.rf .PWR_WAKE_CAUSE_FIRST = (s.wf .PWR_WAKE_CAUSE_FIRST c).rf .PWR_WAKE_CAUSE_FIRST := congrArg (fldGet · 0 8) hcause
    rw [hfirst, rf_wf_self _ _ _ (by decide)]
    exact Nat.mod_eq_of_lt hlt
  · rw [hword _ (by decide), hr, rword_wword_of_ne _ _ (by decide), rword_wword_self]
  · rw [hword _ (by decide), hr, rword_wword_self]
  · rw [rf_congr hregs, rf_wf_self _ _ _ (by decide)]
    rfl
  · refine goesOn_wakeAttempt ?_ ?_ ?_
    · exact sameRegs.wf (t := r.power fun p => { p with wakePending := true }) hsame 0 (by decide)
    · show r.pwr.pwrEn = _
      rw [hrpwr]
    · show r.pwr.asleep = _
      rw [hrpwr]

end

/-- Source 0x40 is the timer. -/
theorem wakeEnabled_timer : s.wakeEnabled 0x40 = s.on .PWR_WAKE_EN_TIMER := rfl

theorem wakeTimer_asleep (h : s.pwr.asleep ≠ 0) : s.wakeTimer = s.wakeConfirm 0x40 := by
  unfold wakeTimer
  rw [if_neg h]

/-- What an abandoned sleep entry leaves (R80). -/
theorem entryAbandon_does (x : SleepEntry) : let e := s.entryAbandon x
    e.pwr.entry = none ∧ e.dram.selfRefresh = false ∧ e.dram.up = (s.dram.up || s.dram.selfRefresh) ∧
    (x.fromState = pwrStandby → e.rf .TOP_STATE_PWR_STATE = pwrStandby) := by
  obtain ⟨u, hu⟩ : ∃ u, u = s.refreshEntry s.dram.selfRefresh := ⟨_, rfl⟩
  have hdram : u.dram = s.dram := hu ▸ s.dram_refreshEntry _
  obtain ⟨v, hv⟩ : ∃ v, v = State.wf (State.power { u with dram := { u.dram with up := u.dram.up || u.dram.selfRefresh, selfRefresh := false } }
      fun p => { p with entry := none }) .PWR_STATUS_BUSY 0 := ⟨_, rfl⟩
  have hstandby (w : State) (h : x.fromState = pwrStandby) : w.abandonTo x = pwrStandby := by
    unfold abandonTo
    rw [h]
    rfl
  have he : ∃ w : State, s.entryAbandon x = v.powerTo (w.abandonTo x) := by
    rw [hv, hu]
    exact ⟨_, rfl⟩
  obtain ⟨w, hw⟩ := he
  intro e
  have hee : e = v.powerTo (w.abandonTo x) := hw
  rw [hee, pwr_powerTo, selfRefresh_powerTo, up_powerTo, ← hdram, hv]
  exact ⟨rfl, rfl, rfl, fun h => by rw [hstandby w h]; exact rf_powerTo _ (by decide)⟩

end State

end Sys2Proof.Machine

namespace Sys2Proof.Machine.State

variable (s : State)

/-! The steps of the wake sequence (R86, R87, R89). -/

/-- PMBus commands depend on the registers alone. -/
theorem pmbOperation_power (g : Pwr → Pwr) (i d : Nat) : (s.power g).pmbOperation i d = (s.pmbOperation i d).power g := by
  have key : ∀ (l : List Nat) (u : State),
      (u.power g).each l (fun v k => v.emit (.pmbus (v.rf (.PWR_PMB_DEV_ADDR k)) 0x01 d)) =
        (u.each l fun v k => v.emit (.pmbus (v.rf (.PWR_PMB_DEV_ADDR k)) 0x01 d)).power g := by
    intro l
    induction l with
    | nil => intro u; rfl
    | cons k l ih => intro u; exact ih (u.emit (.pmbus (u.rf (.PWR_PMB_DEV_ADDR k)) 0x01 d))
  unfold pmbOperation
  exact key _ s

/-- Step `i` is marked up: its rails are on, and its devices are told to operate. -/
def stepRaised (i : Nat) : State :=
  (s.power fun p => { p with downSteps := if bitAt p.downSteps i then p.downSteps - 2 ^ i else p.downSteps,
                             pgood := p.pgood ||| s.rf (.PWR_SEQ_PG_MASK i) }).pmbOperation i 0x80

theorem pgoodDone_of_pgood {i : Nat} (h : s.pwr.wake = .pgood i) : s.pgoodDone =
    match ((s.stepRaised i).downSet (s.stepRaised i).pwr.asleep).filter (fun j => i < j) with
    | j :: _ => (s.stepRaised i).stepUp j
    | [] => (s.stepRaised i).railsUp := by
  simp only [pgoodDone, h]
  rfl

/-- The next down step above `i` is raised, or every rail is up. -/
theorem pgoodDone_does {i : Nat} (h : s.pwr.wake = .pgood i) : let e := s.pgoodDone
    e.regs = s.regs ∧ e.out = (s.pmbOperation i 0x80).out ∧
    e.pwr.downSteps = (if bitAt s.pwr.downSteps i then s.pwr.downSteps - 2 ^ i else s.pwr.downSteps) ∧
    e.pwr.pgood = s.pwr.pgood ||| s.rf (.PWR_SEQ_PG_MASK i) ∧ s.goesOn e ((s.downSet s.pwr.asleep).filter (fun j => i < j)) := by
  obtain ⟨u, hu⟩ : ∃ u, u = s.stepRaised i := ⟨_, rfl⟩
  have hregs : u.regs = s.regs := hu ▸ regs_pmbOperation _ i 0x80
  have hout : u.out = (s.pmbOperation i 0x80).out := by
    rw [hu]
    unfold stepRaised
    rw [pmbOperation_power, out_power]
  have hpwr := congrArg State.pwr hu
  unfold stepRaised at hpwr
  rw [pwr_pmbOperation, pwr_power] at hpwr
  have hasleep : u.pwr.asleep = s.pwr.asleep := by rw [hpwr]
  have hen : u.pwr.pwrEn = s.pwr.pwrEn := by rw [hpwr]
  intro e
  have he : e = _ := s.pgoodDone_of_pgood h
  rw [← hu, hasleep, downSet_congr hregs] at he
  cases hl : (s.downSet s.pwr.asleep).filter (fun j => i < j) with
  | nil =>
    rw [hl] at he
    rw [he]
    exact ⟨hregs, hout, congrArg Pwr.downSteps hpwr, congrArg Pwr.pgood hpwr, goesOn_railsUp hen hasleep⟩
  | cons j l =>
    rw [hl] at he
    rw [he]
    exact ⟨hregs, hout, congrArg Pwr.downSteps hpwr, congrArg Pwr.pgood hpwr,
      goesOn_stepUp (sameRegs_of_regs hregs _) hen hasleep j l⟩

/-- A failed attempt takes the steps of a list down again. -/
def stepsDown (l : List Nat) : State := s.each l fun u j => (u.pmbOperation j 0x00).stepDown u.pwr.asleep j

theorem stepsDown_does (l : List Nat) : (s.stepsDown l).regs = s.regs ∧
    (s.stepsDown l).pwr.pwrEn = l.foldl (fun m j => m ||| s.rf (.PWR_SEQ_EN_MASK j)) s.pwr.pwrEn ∧
    (s.stepsDown l).pwr.downSteps = l.foldl (fun m j => m ||| 2 ^ j) s.pwr.downSteps ∧
    (s.stepsDown l).pwr.asleep = s.pwr.asleep ∧ (s.stepsDown l).pwr.unreported = s.pwr.unreported := by
  induction l generalizing s with
  | nil => exact ⟨rfl, rfl, rfl, rfl, rfl⟩
  | cons j l ih =>
    obtain ⟨u, hu⟩ : ∃ u, u = (s.pmbOperation j 0x00).stepDown s.pwr.asleep j := ⟨_, rfl⟩
    have hregs : u.regs = s.regs := hu ▸ s.regs_pmbOperation j 0x00
    obtain ⟨hpwr, -⟩ := s.lowerStep_does _ _ u hu
    have hcons : s.stepsDown (j :: l) = u.stepsDown l := hu ▸ rfl
    obtain ⟨h1, h2, h3, h4, h5⟩ := ih u
    rw [hcons, h1, h2, h3, h4, h5, hpwr]
    simp only [rf_congr hregs, hregs, List.foldl_cons, and_self]

/-- The end of a failed attempt (R87). -/
def seqFailed : State :=
  let n := s.rf .PWR_STATUS_SEQ_FAILS + 1
  let s := (s.wf .PWR_STATUS_SEQ_FAIL 1).wf .PWR_STATUS_SEQ_FAILS n
  s.power fun p =>
    { p with unreported := p.unreported + 1, inh := s.inhIn p.asleep, wake := if n < 3 then .retry else .none,
             wakePending := n < 3, ramp := 0 }

theorem pgoodTimeout_of_pgood {i : Nat} (h : s.pwr.wake = .pgood i) (ht : s.rf (.PWR_SEQ_TIMEOUT i) ≠ 0) :
    s.pgoodTimeout = (s.stepsDown ((s.downSet s.pwr.asleep).filter (fun j => j ≤ i)).reverse).seqFailed := by
  simp only [pgoodTimeout, h, if_neg ht]
  rfl

/-- A step without a TIMEOUT waits on. -/
theorem pgoodTimeout_of_none {i : Nat} (h : s.pwr.wake = .pgood i) (ht : s.rf (.PWR_SEQ_TIMEOUT i) = 0) : s.pgoodTimeout = s := by
  simp only [pgoodTimeout, h, if_pos ht]

theorem seqFailed_does : let e := s.seqFailed
    e.rf .PWR_STATUS_SEQ_FAIL = 1 ∧ e.rf .PWR_STATUS_SEQ_FAILS = (s.rf .PWR_STATUS_SEQ_FAILS + 1) % 4 ∧
    e.pwr = { s.pwr with
      unreported := s.pwr.unreported + 1, inh := s.inhIn s.pwr.asleep, ramp := 0
      wake := if s.rf .PWR_STATUS_SEQ_FAILS + 1 < 3 then .retry else .none
      wakePending := decide (s.rf .PWR_STATUS_SEQ_FAILS + 1 < 3) } := by
  have hsame : sameRegs s ((s.wf .PWR_STATUS_SEQ_FAIL 1).wf .PWR_STATUS_SEQ_FAILS (s.rf .PWR_STATUS_SEQ_FAILS + 1)) seqReg :=
    ((sameRegs_of_regs (s := s) rfl seqReg).wf 1 (by decide)).wf _ (by decide)
  unfold seqFailed
  dsimp only
  rw [rf_power, rf_power, rf_wf_of_ne _ _ _ _ (by decide), rf_wf_self _ _ _ (by decide), rf_wf_self _ _ _ (by decide), pwr_power,
    pwr_wf, pwr_wf, inhIn_of_sameRegs hsame]
  exact ⟨rfl, rfl, rfl⟩

/-- The steps raised so far go down again, and the attempt has failed. -/
theorem pgoodTimeout_does {i : Nat} (h : s.pwr.wake = .pgood i) (ht : s.rf (.PWR_SEQ_TIMEOUT i) ≠ 0) : let e := s.pgoodTimeout
    let l := ((s.downSet s.pwr.asleep).filter (fun j => j ≤ i)).reverse
    e.rf .PWR_STATUS_SEQ_FAIL = 1 ∧ e.rf .PWR_STATUS_SEQ_FAILS = (s.rf .PWR_STATUS_SEQ_FAILS + 1) % 4 ∧
    e.pwr.pwrEn = l.foldl (fun m j => m ||| s.rf (.PWR_SEQ_EN_MASK j)) s.pwr.pwrEn ∧
    e.pwr.downSteps = l.foldl (fun m j => m ||| 2 ^ j) s.pwr.downSteps ∧ e.pwr.ramp = 0 ∧
    e.pwr.wake = (if s.rf .PWR_STATUS_SEQ_FAILS + 1 < 3 then .retry else .none) ∧
    e.pwr.wakePending = decide (s.rf .PWR_STATUS_SEQ_FAILS + 1 < 3) ∧ e.pwr.inh = s.inhIn s.pwr.asleep ∧
    e.pwr.unreported = s.pwr.unreported + 1 := by
  intro e l
  obtain ⟨hregs, hen, hdown, hasleep, hun⟩ := s.stepsDown_does l
  obtain ⟨hfail, hfails, hpwr⟩ := (s.stepsDown l).seqFailed_does
  have he : e = (s.stepsDown l).seqFailed := s.pgoodTimeout_of_pgood h ht
  have hinh : (s.stepsDown l).inhIn (s.stepsDown l).pwr.asleep = s.inhIn s.pwr.asleep := by
    rw [hasleep, inhIn_of_sameRegs (sameRegs_of_regs hregs _)]
  rw [hinh, hun, rf_congr hregs] at hpwr
  rw [rf_congr hregs] at hfails
  rw [he, hpwr]
  exact ⟨hfail, hfails, hen, hdown, rfl, rfl, rfl, rfl, rfl⟩

theorem seqRetry_of_retry (h : s.pwr.wake = .retry) : s.seqRetry = s.wakeAttempt := by
  unfold seqRetry
  rw [if_pos h]

/-! The start table (R91, R95). -/

/-- Reset held by the temperature sensor or a clock, or cold reset, starts no unit. -/
theorem tableStep_held (h : s.pwr.tempHold = true ∨ s.pwr.clockHold = true ∨ s.on .PWR_MON_STATUS_PLL = true ∨ s.pwr.porst = true) :
    s.tableStep = s := by
  have hheld : (s.pwr.tempHold || s.pwr.clockHold || s.on .PWR_MON_STATUS_PLL || s.pwr.porst) = true := by
    simpa only [Bool.or_eq_true, or_assoc] using h
  unfold tableStep
  split
  · rw [if_pos hheld]
  · rfl

theorem tableStep_of_start {k : Nat} (h : s.pwr.wake = .start k) (ht : s.pwr.tempHold = false) (hc : s.pwr.clockHold = false)
    (hp : s.on .PWR_MON_STATUS_PLL = false) (hr : s.pwr.porst = false) : s.tableStep = s.power fun p => { p with
      started := ((stepHead (s.startList.drop k)).filter (fun x => x.unit ≠ 0)).foldl (fun m x => m ||| 2 ^ x.unit) s.pwr.started,
      wake := if ((s.startList.drop k).drop (stepHead (s.startList.drop k)).length).isEmpty then
          (if s.pwr.asleep = 0 then .none else .restore)
        else .start (k + (stepHead (s.startList.drop k)).length) } := by
  simp only [tableStep, h, ht, hc, hp, hr, Bool.or_self, Bool.false_eq_true, if_false]

/-! The end of a wake from SLEEP-R (R95, R125, R126). -/

theorem control_reportFails : s.reportFails.control = (s.power fun p => { p with unreported := 0 }).control := by
  have h := s.control_each (List.range s.pwr.unreported) (fun u _ => u.draw.2.notify 0x018 (1 + Config.free u.draw.1 % 19)) fun _ _ => rfl
  exact congrArg (fun c : Control => { c with pwr := { c.pwr with unreported := 0 } }) h

theorem control_generate : s.generate.2.control = s.control := by
  unfold generate
  dsimp only
  split <;> rfl

theorem control_hashKeyDraw : s.hashKeyDraw.control = s.control :=
  (control_generate s.generate.2).trans s.control_generate

theorem control_deriveKeys : s.deriveKeys.control = s.control := by
  unfold deriveKeys
  split <;> rfl

/-- What is reached of a wake before the complex and the DRAM go on: STANDBY, with the failed attempts reported. -/
theorem wokenUp_eq (late : Bool) : ∃ w : State,
    w.control = (((s.power fun p => { p with wake := .none, asleep := 0, wakePending := false }).powerTo pwrStandby).power
      fun p => { p with unreported := 0 }).control ∧
    s.wokenUp late = { w with
      ccx := { w.ccx with live := w.ccx.buf0.getD w.ccx.live, text := some Config.fwVersion }
      dram := { w.dram with up := w.dram.cfg.isSome, selfRefresh := false }
      boot := { w.boot with stage := .resume, train := some true, sealed0 := w.cph.tab } } := by
  refine ⟨_, ?_, rfl⟩
  have hnotify : ∀ (b : Bool) (u : State), (if b = true then u.notify 0x2A6 0x05 else u).control = u.control := by
    intro b u
    split <;> rfl
  have hkeys : ∀ u : State, (if u.on .SEC_STATUS_ZEROIZED = true then u else u.deriveKeys).control = u.control := by
    intro u
    split
    · rfl
    · exact u.control_deriveKeys
  refine (hkeys _).trans ((control_hashKeyDraw _).trans (?_ : State.control (State.reseed _) = _))
  refine Eq.trans (b := State.control (State.virtualStart _)) ?_ ((control_virtualStart _).trans (control_reportFails _))
  exact hnotify _ _

/-- What a woken device holds. -/
theorem wokenUp_does (late : Bool) : let u := s.wokenUp late
    u.rf .TOP_STATE_PWR_STATE = pwrStandby ∧
    u.pwr = { s.pwr with wake := .none, asleep := 0, wakePending := false, unreported := 0 } ∧
    u.dram.cfg = s.dram.cfg ∧ u.dram.up = s.dram.cfg.isSome ∧ u.dram.selfRefresh = false ∧
    u.ccx = { s.ccx with live := s.ccx.buf0.getD s.ccx.live, text := some Config.fwVersion } ∧
    u.boot.stage = .resume ∧ u.boot.parts = s.boot.parts := by
  obtain ⟨w, hw, hu⟩ := s.wokenUp_eq late
  have hst : w.rf .TOP_STATE_PWR_STATE = pwrStandby :=
    (rf_of_control hw _ (by decide)).trans (rf_powerTo _ (by decide))
  have hpwr : w.pwr = _ := congrArg Control.pwr hw
  have hcfg : w.dram.cfg = _ := congrArg Control.cfg hw
  have hccx : w.ccx = _ := congrArg Control.ccx hw
  have hboot : w.boot = _ := congrArg Control.boot hw
  simp only [control, pwr_power, dram_power, ccx_power, boot_power, pwr_powerTo, cfg_powerTo, ccx_powerTo, boot_powerTo] at hpwr hcfg hccx hboot
  rw [hu]
  exact ⟨hst, hpwr, hcfg, by rw [hcfg], rfl, by rw [hccx], rfl, by rw [hboot]⟩

theorem internalReady_of_restore (h : s.pwr.wake = .restore) (tagOk late : Bool) :
    s.internalReady tagOk late = (s.wokenUp late).resume tagOk := by
  unfold internalReady
  rw [if_pos h]

theorem internalReady_of_ne (h : s.pwr.wake ≠ .restore) (tagOk late : Bool) : s.internalReady tagOk late = s := by
  unfold internalReady
  rw [if_neg h]

/-- Without a resume region, or without DRAM, a resume fails with code 0xE. -/
theorem resume_of_missing (tagOk : Bool) (h : s.boot.parts = [] ∨ s.dram.up = false) : s.resume tagOk = s.resumeFail 0xE := by
  unfold resume
  cases hp : s.boot.parts with
  | nil => rfl
  | cons p l =>
    have hup : s.dram.up = false := h.resolve_left fun hn => by simp [hn] at hp
    simp only [List.map_cons, hup, Bool.not_false, if_true]

/-- A tag that does not verify fails a resume with code 0x8. -/
theorem resume_of_badTag (h : s.boot.parts ≠ []) (hup : s.dram.up = true) :
    s.resume false = (s.resumeUse s.boot.parts.length).2.resumeFail 0x8 := by
  unfold resume
  cases hp : s.boot.parts with
  | nil => exact absurd hp h
  | cons p l => simp only [List.map_cons, hup, Bool.not_true, Bool.not_false, Bool.true_or, Bool.false_eq_true, if_false, if_true]

/-- A failed resume shows its code, and the boot from flash follows. -/
theorem resumeFail_does {c : Nat} (hc : c < 16) : (s.resumeFail c).rf .BOOT_STATUS_RESUME_CODE = c ∧
    (s.resumeFail c).rf .TOP_STATE_PWR_STATE = s.rf .TOP_STATE_PWR_STATE ∧ (s.resumeFail c).boot.stage = .start := by
  have hrf (f : Fld) : (s.resumeFail c).rf f = ((s.wf .BOOT_STATUS_RESUME_CODE c).wf .SEC_STATUS_CERT 0).rf f := rfl
  rw [hrf, hrf, rf_wf_of_ne _ _ _ _ (by decide), rf_wf_self _ _ _ (by decide), rf_wf_of_ne _ _ _ _ (by decide), rf_wf_of_ne _ _ _ _ (by decide)]
  exact ⟨Nat.mod_eq_of_lt hc, rfl, rfl⟩

end Sys2Proof.Machine.State

namespace Sys2Proof.Machine

/-! The commands of a wake are their operations, in every state of the device. -/

theorem exec_wakeConfirmed (s : State) (c : Fin 66) : exec (.wakeConfirmed c) s = .next (s.after (s.wakeConfirm c)) := rfl
theorem exec_wakeTimerExpiry (s : State) : exec .wakeTimerExpiry s = .next (s.after s.wakeTimer) := rfl
theorem exec_pgoodWaitDone (s : State) : exec .pgoodWaitDone s = .next (s.after s.pgoodDone) := rfl
theorem exec_pgoodTimeout (s : State) : exec .pgoodTimeout s = .next (s.after s.pgoodTimeout) := rfl
theorem exec_sequenceRetry (s : State) : exec .sequenceRetry s = .next (s.after s.seqRetry) := rfl
theorem exec_startTableStep (s : State) : exec .startTableStep s = .next (s.after s.tableStep) := rfl
theorem exec_internalReady (s : State) (tagOk late : Bool) :
    exec (.internalReady tagOk late) s = .next (s.after (s.internalReady tagOk late)) := rfl

/-- Settles O25: a clause for each command of the wake, each from the lemma about that command's operation. -/
theorem wakeSequence : Obligations.WakeSequence := by
  refine ⟨?source, ?timer, ?other, ?entering, State.entryAbandon_does, ?pgood, ?timeout, ?waits, ?retry, ?table, ?held, ?ready, ?missing,
    ?badTag, ?notReady⟩
  case source =>
    intro s c hp hc he ha hw hf
    exact ⟨s.wakeConfirm c, exec_wakeConfirmed s c, State.wakeConfirm_wakes hp hc he ha hw hf (by omega)⟩
  case timer =>
    intro s hp hon he ha hw hf
    refine ⟨s.wakeConfirm 0x40, ?_, State.wakeConfirm_wakes hp (s.wakeEnabled_timer.trans hon) he ha hw hf (by decide)⟩
    rw [exec_wakeTimerExpiry, s.wakeTimer_asleep ha]
  case other =>
    intro s c hp hc he
    rw [exec_wakeConfirmed]
    refine ⟨fun ha => ?_, fun ha hw hf hne => ?_⟩
    · rw [State.wakeConfirm_awake hp hc he ha]
    · rw [State.wakeConfirm_waking hp hc he ha hw, s.wakeRecord_more c hf hne]
  case entering =>
    intro s c x hp hc he
    rw [exec_wakeConfirmed]
    refine ⟨fun hx => ?_, fun hx => ⟨_, rfl, ?_⟩⟩
    · rw [State.wakeConfirm_entering hp hc he hx]
    · rw [State.wakeConfirm_entered hp hc he hx]
      refine ⟨State.rf_wf_self (s.wakeRecord c) .PWR_WAKE_CAUSE_EARLY 1 (by decide), ?_⟩
      unfold State.setEntry
      simp only [State.pwr_power, State.pwr_wf, State.pwr_wakeRecord, he, Option.map_some]
  case pgood =>
    intro s i h
    exact ⟨exec_pgoodWaitDone s, s.pgoodDone_does h⟩
  case timeout =>
    intro s i h ht
    exact ⟨exec_pgoodTimeout s, s.pgoodTimeout_does h ht⟩
  case waits =>
    intro s i h ht
    rw [exec_pgoodTimeout, s.pgoodTimeout_of_none h ht]
  case retry =>
    intro s h
    obtain ⟨hregs, hinh, -⟩ := s.wakeAttempt_does
    rw [exec_sequenceRetry, s.seqRetry_of_retry h]
    exact ⟨rfl, hregs, hinh, State.goesOn_wakeAttempt (sameRegs_of_regs rfl _) rfl rfl⟩
  case table =>
    intro s k h ht hc hp hr
    exact ⟨exec_startTableStep s, s.tableStep_of_start h ht hc hp hr⟩
  case held =>
    intro s h
    rw [exec_startTableStep, s.tableStep_held h]
  case ready =>
    intro s tagOk late h
    obtain ⟨hst, hpwr, -, hup, hself, hccx, hstage, -⟩ := s.wokenUp_does late
    rw [exec_internalReady, s.internalReady_of_restore h]
    exact ⟨rfl, hst, congrArg Pwr.wake hpwr, congrArg Pwr.asleep hpwr, congrArg Pwr.wakePending hpwr, congrArg Pwr.unreported hpwr,
      hup, hself, congrArg Ccx.live hccx, congrArg Ccx.text hccx, hstage⟩
  case missing =>
    intro s tagOk late h hno
    obtain ⟨hst, -, -, hup, -, -, -, hparts⟩ := s.wokenUp_does late
    obtain ⟨hcode, htop, hstart⟩ := (s.wokenUp late).resumeFail_does (c := 0xE) (by decide)
    have hno' : (s.wokenUp late).boot.parts = [] ∨ (s.wokenUp late).dram.up = false :=
      hno.imp (fun h => hparts.trans h) (fun h => by rw [hup, h]; rfl)
    refine ⟨_, ?_, rfl, hcode, htop.trans hst, hstart⟩
    rw [exec_internalReady, s.internalReady_of_restore h, State.resume_of_missing _ _ hno']
  case badTag =>
    intro s late h hparts hcfg
    obtain ⟨-, -, -, hup, -, -, -, hp⟩ := s.wokenUp_does late
    rw [exec_internalReady, s.internalReady_of_restore h, State.resume_of_badTag _ (by rwa [hp]) (hup.trans hcfg)]
  case notReady =>
    intro s tagOk late h
    rw [exec_internalReady, s.internalReady_of_ne h]

end Sys2Proof.Machine

/-!
PROOFS. A response of the management service leaves the power manager as it was (R425, R507, R513, R514).
-/
namespace Sys2Proof.Machine.State

variable (s : State)

/-- A fold of steps that each keep a projection keeps it. -/
theorem foldl_keep {α β γ : Type} (π : β → γ) (g : β → α → β) (h : ∀ b x, π (g b x) = π b) (l : List α) (b : β) :
    π (l.foldl g b) = π b := by
  induction l generalizing b with
  | nil => rfl
  | cons x l ih => rw [List.foldl_cons, ih, h]

theorem pwr_ite {s u v : State} (c : Bool) (hu : u.pwr = s.pwr) (hv : v.pwr = s.pwr) : (if c = true then u else v).pwr = s.pwr := by
  split
  · exact hu
  · exact hv

@[simp] theorem pwr_setHatch (h : Nat) (x : Hatch) : (s.setHatch h x).pwr = s.pwr := rfl

theorem pwr_msix (v : Nat) : (s.msix v).pwr = s.pwr := by have h := congrArg State.pwr (s.core_msix v); exact h

/-! A message that enters a Hatch. -/

theorem pwr_hatSignal (h : Nat) : (s.hatSignal h).pwr = s.pwr := by
  unfold hatSignal
  exact pwr_ite _ (by rw [pwr_msix, pwr_wf]) rfl

theorem pwr_dramCheck (o n : Nat) : (s.dramCheck o n).2.pwr = s.pwr := by
  unfold dramCheck
  refine foldl_keep (fun r : Bool × State => r.2.pwr) _ (fun r x => ?_) _ (false, s)
  split <;> rfl

/-- The result of one check beside that of the checks before it. -/
theorem pwr_either {r x : Bool × State} (h : x.2.pwr = r.2.pwr) : ((r.1 || x.1, x.2) : Bool × State).2.pwr = r.2.pwr := h

theorem pwr_spillCheck (h i n : Nat) : (s.spillCheck h i n).2.pwr = s.pwr := by
  have hnotify {u : State} (c : Bool) (k : Nat) (hu : u.pwr = s.pwr) : (if c = true then u.notify (0x220 + h) k else u).pwr = s.pwr :=
    pwr_ite c hu hu
  unfold spillCheck
  dsimp only
  refine hnotify _ _ (hnotify _ _ ?_)
  exact foldl_keep (fun r : Bool × State => r.2.pwr) _ (fun r k => pwr_either (pwr_dramCheck _ _ _)) _ (false, s)

theorem pwr_hatRefill (h : Nat) : (s.hatRefill h).pwr = s.pwr := by
  unfold hatRefill
  dsimp only
  split
  · exact pwr_spillCheck _ _ _ _
  · exact pwr_spillCheck _ _ _ _

theorem pwr_dramWrite (a : Nat) (b : List Byte) : (s.dramWrite a b).pwr = s.pwr := congrArg Control.pwr (s.control_dramWrite a b)

theorem pwr_hatStore (h : Nat) : (s.hatStore h).pwr = s.pwr := by
  unfold hatStore
  dsimp only
  split
  · rw [pwr_setHatch]
    exact foldl_keep State.pwr _ (fun u k => pwr_dramWrite u _ _) _ _
  · rfl

theorem pwr_hatShift (h : Nat) : (s.hatShift h).pwr = s.pwr := by
  unfold hatShift
  dsimp only
  rw [pwr_hatStore]
  split
  · rfl
  · split
    · exact pwr_hatRefill _ _
    · rfl

theorem pwr_hatSink (h n : Nat) : (hatSink h n s).pwr = s.pwr := by
  induction n generalizing s with
  | zero => rfl
  | succ n ih =>
    unfold hatSink
    split
    · rfl
    · rw [ih, pwr_hatShift]

theorem pwr_hatPut (h : Nat) (b : List Byte) : (s.hatPut h b).pwr = s.pwr := by
  unfold hatPut
  dsimp only
  rw [pwr_hatSignal, pwr_hatSink]
  rfl

theorem pwr_hatEnter (k h : Nat) (b : List Byte) : (s.hatEnter k h b).2.pwr = s.pwr := by
  unfold hatEnter
  split
  · rfl
  · split
    · exact pwr_hatPut _ _ _
    · rfl

/-! A response. -/

theorem pwr_mgtPost (via addr : Nat) (b : List Byte) : (s.mgtPost via addr b).pwr = s.pwr := by
  unfold mgtPost
  split
  · exact pwr_hatEnter _ _ _ _
  · rfl

theorem pwr_keyUse (k u : Nat) : (s.keyUse k u).2.pwr = s.pwr := by
  unfold keyUse
  split <;> rfl

theorem pwr_mgtSend (k kind : Nat) (body : List Byte) : (s.mgtSend k kind body).pwr = s.pwr := by
  unfold mgtSend
  split
  · dsimp only
    split
    · rw [pwr_mgtPost]
      exact pwr_keyUse _ _ _
    · exact pwr_keyUse _ _ _
  · rfl

theorem pwr_mgtAnswer (k : Nat) (r : MgtResp) : (s.mgtAnswer k r).pwr = s.pwr := by
  unfold mgtAnswer
  dsimp only
  have hcount : (if r.status = 1 then s.cinc (Ctr.mgt 5) else s).pwr = s.pwr := by split <;> rfl
  split
  · exact (pwr_mgtSend _ _ _ _).trans hcount
  · exact hcount

theorem pwr_mgtPop (status detail : Nat) (result : List Word) : (s.mgtPop status detail result).pwr = s.pwr := by
  unfold mgtPop
  split
  · exact (pwr_mgtAnswer _ _ _).trans rfl
  · rfl

theorem pwr_mgtSettle (n : Nat) : (mgtSettle n s).pwr = s.pwr := by
  induction n generalizing s with
  | zero => rfl
  | succ n ih =>
    unfold mgtSettle
    split
    · split
      · rw [ih, pwr_mgtPop]
      · rfl
    · rfl

@[simp] theorem pwr_mgtReply (status detail : Nat) (result : List Word) : (s.mgtReply status detail result).pwr = s.pwr := by
  unfold mgtReply
  rw [pwr_mgtSettle, pwr_mgtPop]

end Sys2Proof.Machine.State

/-!
PROOFS. PWR_CMD and the management command POWER (R78, R82, R519).
-/
namespace Sys2Proof.Machine.State

variable (s : State)

/-! Why a power command is refused, in the order of R78. -/

section
variable {s : State} {t : Nat}

theorem pwrRefusal_wake (h1 : (s.wakeActive || s.pwr.wakePending) = true) : s.pwrRefusal t = 1 := by
  unfold pwrRefusal
  rw [if_pos h1]

variable (h1 : (s.wakeActive || s.pwr.wakePending) = false)
include h1

theorem pwrRefusal_gap (h2 : decide (s.rf .TOP_STATE_PAIR_ROLE = 3) = true) : s.pwrRefusal t = 2 := by
  unfold pwrRefusal
  rw [h1, if_neg Bool.false_ne_true, if_pos (of_decide_eq_true h2)]

variable (h2 : decide (s.rf .TOP_STATE_PAIR_ROLE = 3) = false)
include h2

theorem pwrRefusal_of_role : s.pwrRefusal t =
    if decide (t = 4) && !s.committed then 3
    else if decide (t = 4) && s.paired && !s.on .TOP_STATE_LEASE then 4
    else if s.inTransition || (decide (t ≤ 2) && s.on .TOP_STATE_CCX_RESTART) then 5 else 0 := by
  unfold pwrRefusal
  rw [h1, if_neg Bool.false_ne_true, if_neg (of_decide_eq_false h2)]
  rfl

theorem pwrRefusal_uncommitted (h3 : (decide (t = 4) && !s.committed) = true) : s.pwrRefusal t = 3 := by
  rw [pwrRefusal_of_role h1 h2, if_pos h3]

variable (h3 : (decide (t = 4) && !s.committed) = false)
include h3

theorem pwrRefusal_unleased (h4 : (decide (t = 4) && s.paired && !s.on .TOP_STATE_LEASE) = true) : s.pwrRefusal t = 4 := by
  rw [pwrRefusal_of_role h1 h2, h3, if_neg Bool.false_ne_true, if_pos h4]

variable (h4 : (decide (t = 4) && s.paired && !s.on .TOP_STATE_LEASE) = false)
include h4

theorem pwrRefusal_busy (h5 : (s.inTransition || (decide (t ≤ 2) && s.on .TOP_STATE_CCX_RESTART)) = true) : s.pwrRefusal t = 5 := by
  rw [pwrRefusal_of_role h1 h2, h3, h4, if_neg Bool.false_ne_true, if_neg Bool.false_ne_true, if_pos h5]

theorem pwrRefusal_none (h5 : (s.inTransition || (decide (t ≤ 2) && s.on .TOP_STATE_CCX_RESTART)) = false) : s.pwrRefusal t = 0 := by
  rw [pwrRefusal_of_role h1 h2, h3, h4, h5]
  rfl

end

/-! What a power command does. -/

section
variable {s : State} {t : Nat} (ht1 : 1 ≤ t) (ht4 : t ≤ 4)
include ht1 ht4

theorem pwrCmd_of_target : s.pwrCmd t =
    if s.pwrRefusal t ≠ 0 then s.wf .PWR_STATUS_REFUSE (s.pwrRefusal t) else if t ≤ pwrSleepR then s.sleepBegin t else s.powerTo t := by
  have hneg : ¬(decide (t = 0) || decide (4 < t)) = true := by
    simp only [Bool.or_eq_true, decide_eq_true_eq]
    omega
  unfold pwrCmd
  rw [if_neg hneg]

/-- The code of the refusal is recorded, and nothing else is done. -/
theorem pwrCmd_refused {k : Nat} (hk : k ≠ 0) (h : s.pwrRefusal t = k) : s.pwrCmd t = s.wf .PWR_STATUS_REFUSE k := by
  rw [pwrCmd_of_target ht1 ht4, h, if_pos hk]

theorem pwrCmd_sleeps (h : s.pwrRefusal t = 0) (h2 : t ≤ 2) : s.pwrCmd t = s.sleepBegin t := by
  rw [pwrCmd_of_target ht1 ht4, h, if_neg (not_not_intro rfl)]
  exact if_pos h2

theorem pwrCmd_changes (h : s.pwrRefusal t = 0) (h3 : 3 ≤ t) : s.pwrCmd t = s.powerTo t := by
  rw [pwrCmd_of_target ht1 ht4, h, if_neg (not_not_intro rfl)]
  exact if_neg (Nat.not_le_of_lt h3)

end

/-- Step 1 of R79. -/
theorem sleepBegin_does (t : Nat) : (s.sleepBegin t).on .PWR_STATUS_BUSY = true ∧ (s.sleepBegin t).rf .PWR_WAKE_CAUSE_FIRST = 0 ∧
    (s.sleepBegin t).pwr = { s.pwr with entry := some ⟨t, s.rf .TOP_STATE_PWR_STATE, .stopAdmission, false, false⟩, distDone := false } := by
  unfold sleepBegin
  dsimp only
  rw [on_power, rf_power, on_wf_of_ne _ _ _ _ (by decide), on_wf_self _ _ _ (by decide), rf_wf_self _ _ _ (by decide)]
  exact ⟨rfl, rfl, rfl⟩

theorem powerTo_active (h : s.rf .TOP_STATE_PWR_STATE ≠ 4) : s.powerTo 4 =
    (((s.wf .TOP_STATE_PREV_PWR (s.rf .TOP_STATE_PWR_STATE)).wf .TOP_STATE_PWR_STATE 4).wf .PWR_STATUS_STATE 4).setForward true := by
  unfold powerTo
  rw [if_neg h]
  rfl

/-- Outside ACTIVE the triggers drive nothing (R51). -/
theorem powerTo_standby (h : s.rf .TOP_STATE_PWR_STATE ≠ 3) : s.powerTo 3 =
    (((s.wf .TOP_STATE_PREV_PWR (s.rf .TOP_STATE_PWR_STATE)).wf .TOP_STATE_PWR_STATE 3).wf .PWR_STATUS_STATE 3).trigRelease.setForward false := by
  unfold powerTo
  rw [if_neg h]
  rfl

/-- An enabled WAKE_IN is active at its level (R82). -/
theorem wakeActive_iff : s.wakeActive = true ↔ ∃ n, n < 4 ∧ bitAt (s.rf .PWR_WAKE_EN_WAKE_IN) n = true ∧
    (s.rf (.PWR_WAKE_IN_CFG_MODE n) = 0 ∧ bitAt s.pwr.wakeIn n = true ∨ s.rf (.PWR_WAKE_IN_CFG_MODE n) = 1 ∧ bitAt s.pwr.wakeIn n = false) := by
  unfold wakeActive
  simp only [List.any_eq_true, List.mem_range, Bool.and_eq_true, Bool.or_eq_true, decide_eq_true_eq, Bool.not_eq_true']

/-- The levels that a command carries are those that the power manager samples. -/
theorem wakeSample_wakeAux (pins : BitVec 4) : s.wakeSample (wakeAux pins.toNat) = s.power fun p => { p with wakeIn := pins.toNat } := by
  have hbit : bitAt (wakeAux pins.toNat) 4 = true := by
    unfold bitAt wakeAux
    rw [beq_iff_eq]
    omega
  have hpins : wakeAux pins.toNat % 16 = pins.toNat := by
    unfold wakeAux
    omega
  unfold wakeSample
  rw [if_pos hbit, hpins]

/-- A write of PWR_CMD with its key reaches the power manager. -/
theorem pwrCmdOf_next {q : Sender} (h : s.reaches q Reg.PWR_CMD) {t : Nat} (ht : t < 8) (pins : BitVec 4) :
    s.pwrCmdOf q t pins = .next (s.did q Reg.PWR_CMD (((s.begun q.req).power fun p => { p with wakeIn := pins.toNat }).pwrCmd t)) := by
  have htarget : fldGet (cmdWord 0x5A1E t) 0 3 = t := by
    unfold fldGet cmdWord
    simp only [BitVec.extractLsb'_toNat, BitVec.toNat_ofNat, Nat.shiftRight_eq_div_pow]
    omega
  unfold pwrCmdOf
  rw [keyAct s h (p := (2, 0)) (g := fun u => (u.wakeSample (wakeAux pins.toNat)).pwrCmd (fldGet (cmdWord 0x5A1E t) 0 3))
    (by decide) (by decide) (by omega) (by decide) rfl, htarget, wakeSample_wakeAux]

/-! The management command POWER. -/

/-- The oldest request is executed where its parameters have a length that the command takes (R514, R515). -/
theorem mgtRun_of_asked {op : Nat} {r : MgtReq} (h : s.asked op r) (len : Nat → Bool) (g : State → MgtReq → State) :
    s.mgtRun op len g = if len r.params.length then g s r else s.mgtReply 3 0 [] := by
  obtain ⟨hserves, hcommitted, hrestart, hqueue, hop, b, hpriv, hbit⟩ := h
  obtain ⟨l, hl⟩ : ∃ l, s.mgt.queue = r :: l := List.head?_eq_some_iff.mp hqueue
  have hoff : s.blockOff 22 = false := by
    unfold serves at hserves
    simpa using (Bool.and_eq_true_iff.mp hserves).2
  simp only [mgtRun, hcommitted, hrestart, hoff, hl, hop, hpriv, hbit, Option.getD_some, ne_eq, not_true_eq_false, Bool.not_true, Bool.or_self,
    Bool.false_eq_true, if_false]
  cases len r.params.length <;> rfl

theorem exec_power_of_asked {r : MgtReq} (h : s.asked 0x0081 r) : exec .power s = .next (s.after s.powerReq) :=
  s.acting_of _ h.1

/-- A write of PWR_CMD with target `t` by the firmware, at the sampled levels `pins` of WAKE_IN. -/
def fwPower (pins t : Nat) : State := (s.fwWrite Reg.PWR_CMD (cmdWord 0x5A1E t) (wakeAux pins)).2

section
variable {s : State} {r : MgtReq} (h : s.asked 0x0081 r) (hlen : r.params.length = 1)
include h hlen

theorem powerReq_badTarget (ht : le r.params 0 1 = 0 ∨ 5 ≤ le r.params 0 1) : s.powerReq = s.mgtReply 3 0 [] := by
  have hbad : (decide (le r.params 0 1 = 0) || decide (4 < le r.params 0 1)) = true := by
    simp only [Bool.or_eq_true, decide_eq_true_eq]
    exact ht
  unfold powerReq
  rw [s.mgtRun_of_asked h, if_pos (decide_eq_true hlen)]
  exact if_pos hbad

/-- A target that exists is judged at the levels that the power manager samples, and the answer to a sleep target leaves first. -/
theorem powerReq_target (ht1 : 1 ≤ le r.params 0 1) (ht4 : le r.params 0 1 ≤ 4) : s.powerReq =
    let t := le r.params 0 1
    let u := s.wakeSample 0
    if u.pwrRefusal t ≠ 0 then (u.fwPower u.pwr.wakeIn t).mgtReply 4 (u.pwrRefusal t) []
    else if t ≤ 2 then (u.mgtReply 0 0 []).fwPower u.pwr.wakeIn t else (u.fwPower u.pwr.wakeIn t).mgtReply 0 0 [] := by
  have hgood : ¬(decide (le r.params 0 1 = 0) || decide (4 < le r.params 0 1)) = true := by
    simp only [Bool.or_eq_true, decide_eq_true_eq]
    omega
  unfold powerReq
  rw [s.mgtRun_of_asked h, if_pos (decide_eq_true hlen)]
  refine (if_neg hgood).trans ?_
  dsimp only [fwPower, mgtOk]
  rw [pwr_mgtReply]
  rfl

end

end Sys2Proof.Machine.State

namespace Sys2Proof.Machine

/-- Settles O23: the order of R78's codes, what a command that none of them refuses does, and the firmware's use of it. -/
theorem powerCommandRefusal : Obligations.PowerCommandRefusal := by
  refine ⟨?write, ?refusal, State.wakeActive_iff, ?request⟩
  case write =>
    intro s q pins h
    exact ⟨s.pwrCmdOf_next h (by decide) pins, s.pwrCmdOf_next h (by decide) pins, s.pwrCmdOf_next h (by decide) pins,
      s.pwrCmdOf_next h (by decide) pins⟩
  case refusal =>
    intro u t ht1 ht4
    have refused {k : Nat} (hk : k ≠ 0) (h : u.pwrRefusal t = k) := State.pwrCmd_refused ht1 ht4 hk h
    refine ⟨fun h1 => refused (by decide) (State.pwrRefusal_wake h1), fun h1 h2 => refused (by decide) (State.pwrRefusal_gap h1 h2),
      fun h1 h2 h3 => refused (by decide) (State.pwrRefusal_uncommitted h1 h2 h3),
      fun h1 h2 h3 h4 => refused (by decide) (State.pwrRefusal_unleased h1 h2 h3 h4),
      fun h1 h2 h3 h4 h5 => refused (by decide) (State.pwrRefusal_busy h1 h2 h3 h4 h5), fun h1 h2 h3 h4 h5 => ?_⟩
    have hnone := State.pwrRefusal_none h1 h2 h3 h4 h5
    refine ⟨fun h => ?_, fun h hne => ⟨fun h4' => ?_, fun h3' => ?_⟩⟩
    · rw [State.pwrCmd_sleeps ht1 ht4 hnone h]
      exact u.sleepBegin_does t
    · subst h4'
      rw [State.pwrCmd_changes ht1 ht4 hnone h, u.powerTo_active hne]
    · subst h3'
      rw [State.pwrCmd_changes ht1 ht4 hnone h, u.powerTo_standby hne]
  case request =>
    intro s r h hlen
    rw [s.exec_power_of_asked h]
    refine ⟨fun ht => by rw [State.powerReq_badTarget h hlen ht], fun ht1 ht4 hcode => ?_, fun ht hcode => ?_, fun ht hcode => ?_⟩
    · rw [State.powerReq_target h hlen ht1 ht4, if_pos hcode]
      rfl
    · rw [State.powerReq_target h hlen (by omega) (by omega), if_neg (not_not_intro hcode), if_pos (by omega)]
      rfl
    · rw [State.powerReq_target h hlen (by omega) (by omega), if_neg (not_not_intro hcode), if_neg (by omega)]
      rfl

end Sys2Proof.Machine

/-!
PROOFS. Who may write and read where (R101, R132, R135), and what becomes of an access that its requester may not make.
-/
namespace Sys2Proof.Machine

/-- Registers that the host writes whatever SEC_ACCESS holds. -/
def hostAlways (a : Nat) : Bool :=
  a = Reg.SEC_ZEROIZE || a = Reg.SEC_DEBUG_CMD || (Reg.SEC_DEBUG_TOKEN 0 ≤ a && a < Reg.SEC_DEBUG_TOKEN 62)

theorem hostAlways_iff (a : Nat) : hostAlways a = true ↔
    a = Reg.SEC_ZEROIZE ∨ a = Reg.SEC_DEBUG_CMD ∨ (Reg.SEC_DEBUG_TOKEN 0 ≤ a ∧ a < Reg.SEC_DEBUG_TOKEN 62) := by
  unfold hostAlways
  simp only [Bool.or_eq_true, Bool.and_eq_true, decide_eq_true_eq, or_assoc]

/-- The host may write those registers before commit too. -/
theorem earlyWrite_of_hostAlways {a : Nat} (h : hostAlways a = true) : earlyWrite a = true := by
  unfold earlyWrite mailboxReg
  simp only [Bool.or_eq_true, Bool.and_eq_true, decide_eq_true_eq]
  rcases (hostAlways_iff a).mp h with hz | hd | ht
  · exact .inl (.inr hz)
  · exact .inr (.inl (.inr hd))
  · exact .inr (.inl (.inl (.inr ht)))

namespace State

variable (s : State)

/-! A blocked access. -/

theorem busStore_blocked {q : Requester} {a : Nat} (w : Word) (aux : Nat) (hmap : mappedAddr a = true) (hno : s.mayWrite q a = false) :
    s.busStore q a w aux = s.secBlocked := by
  unfold mappedAddr at hmap
  unfold busStore
  rw [hmap, hno]
  rfl

theorem exec_registerWrite_blocked {q : Sender} {a : Nat} (w : Word) (hawake : s.awake = true) (hmap : mappedAddr a = true)
    (hno : s.mayWrite q.req a = false) : exec (.registerWrite q a w) s = .next (s.did q a (s.begun q.req).secBlocked) := by
  show s.regCmd q a w = _
  unfold regCmd busWriteAux did
  rw [s.acting_of _ hawake, busStore_blocked _ w 0 hmap (by rwa [mayWrite_begun])]

/-- A block is not asked for the data of a read that its requester may not make. -/
theorem busRead_blocked {q : Requester} {a : Nat} (hno : s.mayRead q a = false) : s.busRead q a = (false, 0, s) := by
  unfold busRead
  rw [hno]
  rfl

theorem exec_rcRead_blocked {q : Sender} {a : Nat} (hawake : s.awake = true) (hno : s.mayRead q.req a = false) :
    exec (.rcRead q a) s = .next (s.told q 0 s) := by
  show s.readCmd q a = _
  unfold readCmd told
  rw [s.acting_of _ hawake, s.busRead_blocked hno]

/-! The rights of the host (R101, R132). -/

theorem mayWrite_host_before_commit {a : Nat} (hc : s.committed = false) (he : earlyWrite a = false) : s.mayWrite .host a = false := by
  unfold mayWrite
  rw [hc, he]
  rfl

/-- Past R101, the host's rights are those of SEC_ACCESS but for the registers that it always writes. -/
theorem mayWrite_host {a : Nat} (h : s.committed = true ∨ earlyWrite a = true) : s.mayWrite .host a =
    if hostAlways a then true
    else match ownerOf a with
      | some b => bitAt (s.rf .SEC_ACCESS_HOST_WR) b &&
          (a != Reg.TOP_RESET_CMD || s.on .SEC_ACCESS_HOST_RESET) && (a != Reg.PWR_CMD || s.on .SEC_ACCESS_HOST_PWR)
      | none => true := by
  have hopen : (!s.committed && !earlyWrite a) = false := by
    rcases h with h | h <;> simp [h]
  unfold mayWrite
  dsimp only
  rw [hopen]
  rfl

theorem mayWrite_host_always {a : Nat} (h : hostAlways a = true) : s.mayWrite .host a = true := by
  rw [s.mayWrite_host (.inr (earlyWrite_of_hostAlways h)), h]
  rfl

theorem mayWrite_host_iff {a b : Nat} (h : s.committed = true ∨ earlyWrite a = true) (hn : hostAlways a = false) (hb : ownerOf a = some b) :
    s.mayWrite .host a = true ↔ bitAt (s.rf .SEC_ACCESS_HOST_WR) b = true ∧
      (a = Reg.TOP_RESET_CMD → s.on .SEC_ACCESS_HOST_RESET = true) ∧ (a = Reg.PWR_CMD → s.on .SEC_ACCESS_HOST_PWR = true) := by
  rw [s.mayWrite_host h, hn, hb]
  simp only [Bool.false_eq_true, if_false, Bool.and_eq_true, Bool.or_eq_true, bne_iff_ne, ne_eq, ← Decidable.imp_iff_not_or, and_assoc]

/-! The rights of the debug port (R132, R135). -/

theorem mayWrite_debug (a : Nat) : s.mayWrite .debug a = if s.debugOpen then s.committed || earlyWrite a else mailboxWrite a := rfl

theorem mayRead_debug_locked {a : Nat} (hd : s.debugOpen = false) (ha : mailboxReg a = false) : s.mayRead .debug a = false := by
  unfold mayRead
  rw [hd, ha]
  rfl

end State

/-- Settles O15: a blocked write stops at the check of rights, and the rights of each requester read off `State.mayWrite`. -/
theorem blockedAccessIgnoredAndReported : Obligations.BlockedAccessIgnoredAndReported := by
  refine ⟨?write, ?report, fun _ _ => rfl, fun s a => s.mayWrite_host_before_commit, ?host, ?always, ?locked, ?opened, ?read⟩
  case write => exact fun s q a w => s.exec_registerWrite_blocked w
  case report => exact fun s => ⟨slot_refuse s 0x02A 0x0D, rfl, rfl, rfl, rfl, rfl, rfl⟩
  case host =>
    intro s a b h hz hd ht hb
    refine s.mayWrite_host_iff h ?_ hb
    rw [← Bool.not_eq_true, hostAlways_iff]
    omega
  case always => exact fun s a ha => s.mayWrite_host_always ((hostAlways_iff a).mpr ha)
  case locked =>
    intro s a hd
    rw [s.mayWrite_debug, hd]
    rfl
  case opened =>
    intro s a hd
    rw [s.mayWrite_debug, hd]
    rfl
  case read => exact fun s a hawake hd ha => s.exec_rcRead_blocked hawake (s.mayRead_debug_locked hd ha)

end Sys2Proof.Machine

/-!
PROOFS. The commands of the update machine (R127 to R129), and the management commands that run them (R517).
-/
namespace Sys2Proof.Machine
namespace State

variable (s : State)

/-! The registers that the update machine shows. -/

theorem rf_setUpd_of_ne (st code : Nat) (busy : Bool) {f : Fld} (hf : f.addr ≠ Reg.BOOT_UPDATE_STATUS) :
    (s.setUpd st code busy).rf f = s.rf f := by
  unfold setUpd
  rw [rf_wf_of_ne _ _ _ _ (.inl hf), rf_wf_of_ne _ _ _ _ (.inl hf), rf_wf_of_ne _ _ _ _ (.inl hf)]

theorem on_setUpd_of_ne (st code : Nat) (busy : Bool) {f : Fld} (hf : f.addr ≠ Reg.BOOT_UPDATE_STATUS) :
    (s.setUpd st code busy).on f = s.on f := congrArg (· == 1) (s.rf_setUpd_of_ne st code busy hf)

theorem updState_setUpd {st : Nat} (hst : st < 8) (code : Nat) (busy : Bool) : (s.setUpd st code busy).updState = st := by
  unfold updState setUpd
  rw [rf_wf_of_ne _ _ _ _ (by decide), rf_wf_of_ne _ _ _ _ (by decide), rf_wf_self _ _ _ (by decide)]
  exact Nat.mod_eq_of_lt hst

theorem code_setUpd (st code : Nat) (busy : Bool) : (s.setUpd st code busy).rf .BOOT_UPDATE_STATUS_CODE = code % 16 := by
  unfold setUpd
  rw [rf_wf_of_ne _ _ _ _ (by decide), rf_wf_self _ _ _ (by decide)]
  rfl

theorem busy_setUpd (st code : Nat) (busy : Bool) : (s.setUpd st code busy).on .BOOT_UPDATE_STATUS_BUSY = busy := by
  unfold setUpd
  rw [on_wf_self _ _ _ (by decide)]
  cases busy <;> rfl

@[simp] theorem boot_setUpd (st code : Nat) (busy : Bool) : (s.setUpd st code busy).boot = s.boot := rfl
@[simp] theorem sec_setUpd (st code : Nat) (busy : Bool) : (s.setUpd st code busy).sec = s.sec := rfl

@[simp] theorem updState_booting (g : Boot → Boot) : (s.booting g).updState = s.updState := rfl

theorem rf_stageClear_of_ne {f : Fld} (hf : f.addr ≠ Reg.BOOT_STAGE_STATUS) : s.stageClear.rf f = s.rf f := by
  unfold stageClear
  rw [rf_wf_of_ne _ _ _ _ (.inl hf), rf_wf_of_ne _ _ _ _ (.inl hf), rf_booting]

theorem on_stageClear_of_ne {f : Fld} (hf : f.addr ≠ Reg.BOOT_STAGE_STATUS) : s.stageClear.on f = s.on f :=
  congrArg (· == 1) (s.rf_stageClear_of_ne hf)

theorem updState_stageClear : s.stageClear.updState = s.updState := s.rf_stageClear_of_ne (by decide)

theorem ready_stageClear : s.stageClear.on .BOOT_STAGE_STATUS_READY = true := by
  unfold stageClear
  rw [on_wf_of_ne _ _ _ _ (by decide), on_wf_self _ _ _ (by decide)]
  rfl

theorem next_stageClear : s.stageClear.rf .BOOT_STAGE_STATUS_NEXT = 0 := by
  unfold stageClear
  rw [rf_wf_self _ _ _ (by decide)]
  rfl

@[simp] theorem boot_stageClear : s.stageClear.boot = { s.boot with chunk := none } := rfl

/-! The slot that did not load. -/

theorem slotB_setSlotB (b : List Byte) : (s.setSlotB b).slotB = b := by
  unfold slotB setSlotB
  by_cases h : s.boot.slot = 0 <;> simp [h]

/-! The control record (R97, R98). -/

theorem rf_recShow_of_ne {f : Fld} (h1 : f.addr ≠ Reg.BOOT_STATUS) (h2 : f.addr ≠ Reg.BOOT_CTRL_REC) : s.recShow.rf f = s.rf f := by
  unfold recShow
  rw [rf_wf_of_ne _ _ _ _ (.inl h2), rf_wf_of_ne _ _ _ _ (.inl h2), rf_wf_of_ne _ _ _ _ (.inl h2), rf_wf_of_ne _ _ _ _ (.inl h2),
    rf_wf_of_ne _ _ _ _ (.inl h1)]

theorem trial_recShow : s.recShow.on .BOOT_STATUS_TRIAL = s.onTrial := by
  unfold recShow
  rw [on_wf_of_ne _ _ _ _ (by decide), on_wf_of_ne _ _ _ _ (by decide), on_wf_of_ne _ _ _ _ (by decide), on_wf_of_ne _ _ _ _ (by decide),
    on_wf_self _ _ _ (by decide)]
  cases s.onTrial <;> rfl

@[simp] theorem boot_recShow : s.recShow.boot = s.boot := rfl

/-- A write of the control record shows it; what it records stands as it was, under a new SEQ. -/
theorem recWrite_does : s.recWrite.sec = s.sec ∧ s.recWrite.boot.pref = s.boot.pref ∧ s.recWrite.boot.trial = s.boot.trial ∧
    s.recWrite.boot.tries = s.boot.tries ∧ s.recWrite.on .BOOT_STATUS_TRIAL = s.onTrial ∧
    ∀ f : Fld, f.addr ≠ Reg.BOOT_STATUS → f.addr ≠ Reg.BOOT_CTRL_REC → s.recWrite.rf f = s.rf f := by
  unfold recWrite
  dsimp only
  rw [trial_recShow]
  by_cases h : (if s.boot.recAt = some 0 then 1 else 0) = 0
  · simp only [h, if_true]
    exact ⟨rfl, rfl, rfl, rfl, rfl, fun f h1 h2 => rf_recShow_of_ne _ h1 h2⟩
  · simp only [h, if_false]
    exact ⟨rfl, rfl, rfl, rfl, rfl, fun f h1 h2 => rf_recShow_of_ne _ h1 h2⟩

/-! When an update command is refused (R127 to R129). -/

/-- The complex restarts, the update machine is busy, or nothing is committed: every update command is refused. -/
def updShut : Bool := s.on .TOP_STATE_CCX_RESTART || s.on .BOOT_UPDATE_STATUS_BUSY || !s.committed

theorem updCmd_of_shut {s : State} (h : s.updShut = true) (ok : Bool) (g : State → State) :
    s.updCmd ok g = s.wf .BOOT_UPDATE_STATUS_REFUSED 1 := by
  unfold updShut at h
  unfold updCmd
  rw [h]
  rfl

theorem updCmd_of_open {s : State} (h : s.updShut = false) (ok : Bool) (g : State → State) :
    s.updCmd ok g = if ok then g s else s.wf .BOOT_UPDATE_STATUS_REFUSED 1 := by
  unfold updShut at h
  unfold updCmd
  rw [h]
  cases ok <;> rfl

theorem updIdle_iff : s.updIdle = true ↔ s.updState = 0 ∨ s.updState = 6 ∨ s.updState = 7 := by
  unfold updIdle
  simp only [Bool.or_eq_true, decide_eq_true_eq, or_assoc]

/-! The update commands where none of that holds. -/

section
variable {s : State} (h : s.updShut = false)
include h

theorem beginImage_of_pcie (hslot : s.boot.slot = 2) : s.beginImage = s.wf .BOOT_UPDATE_STATUS_REFUSED 1 := by
  unfold beginImage
  rw [updCmd_of_open h, if_neg (by simp [hslot])]

/-- The inactive slot is erased (R127). -/
theorem beginImage_does (hidle : s.updIdle = true) (hslot : s.boot.slot ≠ 2) : s.beginImage.updState = 1 ∧
    s.beginImage.on .BOOT_UPDATE_STATUS_BUSY = true ∧ s.beginImage.slotB = [] ∧ s.beginImage.on .BOOT_STAGE_STATUS_READY = true ∧
    s.beginImage.rf .BOOT_STAGE_STATUS_NEXT = 0 ∧ s.beginImage.boot.upd = some ⟨false, 0⟩ := by
  have hok : (s.updIdle && s.boot.slot ≠ 2) = true := by simp [hidle, hslot]
  unfold beginImage
  rw [updCmd_of_open h, if_pos hok, updState_stageClear, updState_setUpd _ (by decide), on_stageClear_of_ne _ (by decide), busy_setUpd,
    ready_stageClear, next_stageClear]
  exact ⟨rfl, rfl, s.slotB_setSlotB [], rfl, rfl, rfl⟩

theorem beginRuntime_of_noRegion (hr : s.stagingRegion.2 = 0) : s.beginRuntime = s.wf .BOOT_UPDATE_STATUS_REFUSED 1 := by
  unfold beginRuntime
  rw [updCmd_of_open h, if_neg (by simp [hr])]

/-- A run-time capsule is received in the staging region (R128). -/
theorem beginRuntime_does (hidle : s.updIdle = true) (hup : s.dram.up = true) (hr : 0 < s.stagingRegion.2) : s.beginRuntime.updState = 2 ∧
    s.beginRuntime.on .BOOT_UPDATE_STATUS_BUSY = false ∧ s.beginRuntime.boot.upd = some ⟨true, 0⟩ := by
  unfold beginRuntime
  rw [updCmd_of_open h, if_pos (by simp [hidle, hup, hr]), updState_stageClear, updState_setUpd _ (by decide),
    on_stageClear_of_ne _ (by decide), busy_setUpd]
  exact ⟨rfl, rfl, rfl⟩

theorem updEnd_does (hst : s.updState = 2) (hc : s.boot.chunk = none) :
    s.updEnd.updState = 3 ∧ s.updEnd.on .BOOT_UPDATE_STATUS_BUSY = true := by
  unfold updEnd
  rw [updCmd_of_open h, if_pos (by simp [hst, hc]), updState_setUpd _ (by decide), busy_setUpd]
  exact ⟨rfl, rfl⟩

/-- The inactive slot is preferred, on trial (R127). -/
theorem updCommit_of_image (n : Nat) {len : Nat} (hst : s.updState = 4) (hu : s.boot.upd = some ⟨false, len⟩) :
    (s.updCommit n).updState = 6 ∧ (s.updCommit n).boot.pref = 1 - s.boot.slot ∧ (s.updCommit n).boot.trial = true ∧
    (s.updCommit n).boot.tries = (if n = 0 then 3 else n) := by
  obtain ⟨-, hpref, htrial, htries, -, -⟩ :=
    (s.booting fun b => { b with pref := 1 - b.slot, trial := true, tries := if n = 0 then 3 else n }).recWrite_does
  unfold updCommit
  rw [updCmd_of_open h, if_pos (by simp [hst]), hu]
  dsimp only
  rw [updState_booting, updState_setUpd _ (by decide), boot_booting, boot_setUpd]
  exact ⟨rfl, hpref, htrial, htries⟩

theorem updCommit_of_runtime (n : Nat) {len : Nat} (hst : s.updState = 4) (hu : s.boot.upd = some ⟨true, len⟩) :
    (s.updCommit n).updState = 5 ∧ (s.updCommit n).on .BOOT_UPDATE_STATUS_BUSY = true := by
  unfold updCommit
  rw [updCmd_of_open h, if_pos (by simp [hst]), hu]
  dsimp only
  rw [updState_setUpd _ (by decide), busy_setUpd]
  exact ⟨rfl, rfl⟩

/-- The running slot's trial ends, and the anti-rollback floor rises to its version (R127). -/
theorem updConfirm_of_trial (ht : s.onTrial = true) : s.updConfirm.sec.floor = max s.sec.floor (s.rf .BOOT_VERSION_RUN) ∧
    s.updConfirm.boot.trial = false ∧ s.updConfirm.on .BOOT_STATUS_TRIAL = false := by
  have hnot : (s.booting fun b => { b with trial := false }).onTrial = false := by
    unfold onTrial
    rw [boot_booting, Bool.and_false]
    rfl
  obtain ⟨hsec, -, htrial, -, hshown, hrf⟩ := (s.booting fun b => { b with trial := false }).recWrite_does
  unfold updConfirm
  rw [updCmd_of_open h, if_pos rfl, if_pos ht, sec_secure, boot_secure, on_secure, hsec, htrial, hshown, hnot, hrf _ (by decide) (by decide)]
  exact ⟨rfl, rfl, rfl⟩

theorem updConfirm_of_noTrial (ht : s.onTrial = false) :
    s.updConfirm = s.secure fun x => { x with floor := max x.floor (s.rf .BOOT_VERSION_RUN) } := by
  unfold updConfirm
  rw [updCmd_of_open h, if_pos rfl, ht]
  rfl

theorem updCancel_eq : s.updCancel = s.updAbandon := updCmd_of_open h true _

end

/-- An abandoned update (R129). -/
theorem updAbandon_does : s.updAbandon.updState = 0 ∧ s.updAbandon.rf .BOOT_UPDATE_STATUS_CODE = 0xE ∧
    s.updAbandon.on .BOOT_UPDATE_STATUS_BUSY = false := by
  unfold updAbandon updState
  dsimp only
  refine ⟨?_, ?_, ?_⟩
  · rw [rf_wf_of_ne _ _ _ _ (by decide), rf_wf_of_ne _ _ _ _ (by decide), rf_wf_of_ne _ _ _ _ (by decide), rf_wf_of_ne _ _ _ _ (by decide),
      rf_wf_self _ _ _ (by decide)]
    rfl
  · rw [rf_wf_of_ne _ _ _ _ (by decide), rf_wf_of_ne _ _ _ _ (by decide), rf_wf_of_ne _ _ _ _ (by decide), rf_wf_self _ _ _ (by decide)]
    rfl
  · rw [on_wf_of_ne _ _ _ _ (by decide), on_wf_of_ne _ _ _ _ (by decide), on_wf_self _ _ _ (by decide)]
    rfl

/-! Writes of BOOT_UPDATE_CMD. -/

/-- A write of BOOT_UPDATE_CMD with its key reaches the update machine. -/
theorem keyCmd_updAction {q : Sender} (h : s.reaches q Reg.BOOT_UPDATE_CMD) {action tries v : Nat} (ha : action < 8) (ht : tries < 8)
    (hv : v = tries * 256 + action) : s.keyCmd q Reg.BOOT_UPDATE_CMD 0x3C91 v =
      .next (s.did q Reg.BOOT_UPDATE_CMD ((s.begun q.req).updAction action tries)) := by
  have haction : fldGet (cmdWord 0x3C91 v) 0 3 = action := by
    unfold fldGet cmdWord
    simp only [BitVec.extractLsb'_toNat, BitVec.toNat_ofNat, Nat.shiftRight_eq_div_pow]
    omega
  have htries : fldGet (cmdWord 0x3C91 v) 8 3 = tries := by
    unfold fldGet cmdWord
    simp only [BitVec.extractLsb'_toNat, BitVec.toNat_ofNat, Nat.shiftRight_eq_div_pow]
    omega
  rw [keyAct s h (p := (4, 0)) (g := fun u => u.updAction (fldGet (cmdWord 0x3C91 v) 0 3) (fldGet (cmdWord 0x3C91 v) 8 3))
    (by decide) (by decide) (by omega) (by decide) rfl, haction, htries]

/-! The management commands (R515, R517). -/

section
variable {s : State} {op : Nat} {r : MgtReq} (h : s.asked op r) {len : Nat → Bool} (hlen : len r.params.length = true)
  (g : State → MgtReq → State)
include h hlen

/-- While another session's update is in progress. -/
theorem updReq_of_other (hb : s.ownerBusy = true) (ho : s.mgt.owner ≠ some r.session) :
    s.updReq op len g = (s.cinc (Ctr.mgt 6)).mgtReply 5 0 [] := by
  unfold updReq
  rw [s.mgtRun_of_asked h, if_pos hlen, if_pos (by simp [hb, ho])]

theorem updReq_of_free (ho : s.ownerBusy = false ∨ s.mgt.owner = some r.session) : s.updReq op len g = g s r := by
  unfold updReq
  rw [s.mgtRun_of_asked h, if_pos hlen, if_neg (by rcases ho with ho | ho <;> simp [ho])]

end

/-! UPDATE_BEGIN. -/

section
variable {s : State} {r : MgtReq} (h : s.asked 0x0030 r) (hlen : r.params.length = 1) (ho : s.ownerBusy = false ∨ s.mgt.owner = some r.session)
include h hlen ho

theorem updBeginReq_badKind (hk : 2 ≤ le r.params 0 1) : s.updBeginReq = s.mgtReply 3 0 [] := by
  unfold updBeginReq
  rw [updReq_of_free h (decide_eq_true hlen) _ ho]
  exact if_pos hk

theorem updBeginReq_noDram (hk : le r.params 0 1 = 1) (hd : s.dram.up = false ∨ s.stagingRegion.2 = 0) :
    s.updBeginReq = s.mgtReply 8 0 [] := by
  unfold updBeginReq
  rw [updReq_of_free h (decide_eq_true hlen) _ ho, hk]
  refine (if_neg (by decide)).trans (if_pos ?_)
  rcases hd with hd | hd <;> simp [hd]

theorem updBeginReq_runs {k : Nat} (hk : le r.params 0 1 = k) (hd : k = 0 ∨ k = 1 ∧ s.dram.up = true ∧ 0 < s.stagingRegion.2) :
    s.updBeginReq = let u := s.fwUpdate (1 + k) 0
      if u.1 then u.2.mgtReply 4 (u.2.rf .BOOT_UPDATE_STATUS_CODE) []
      else (u.2.manage fun m => { m with owner := if r.session < 8 then some r.session else none, hold := [], total := 0 }).mgtReply 0 0 [] := by
  unfold updBeginReq
  rw [updReq_of_free h (decide_eq_true hlen) _ ho, hk]
  refine (if_neg (by omega)).trans (if_neg ?_)
  rcases hd with hk | ⟨hk, hup, hr⟩
  · simp [hk]
  · simp [hk, hup, hr]

end

/-! UPDATE_COMMIT, UPDATE_CONFIRM and UPDATE_CANCEL. -/

section
variable {s : State} {r : MgtReq} (ho : s.ownerBusy = false ∨ s.mgt.owner = some r.session)
include ho

theorem updCommitReq_badTries (h : s.asked 0x0033 r) (hlen : r.params.length = 1) (ht : 8 ≤ le r.params 0 1) :
    s.updCommitReq = s.mgtReply 3 0 [] := by
  unfold updCommitReq
  rw [updReq_of_free h (decide_eq_true hlen) _ ho]
  exact if_pos ht

theorem updCommitReq_runs (h : s.asked 0x0033 r) (hlen : r.params.length = 1) (ht : le r.params 0 1 < 8) :
    s.updCommitReq = s.updReply 4 (le r.params 0 1) := by
  unfold updCommitReq
  rw [updReq_of_free h (decide_eq_true hlen) _ ho]
  exact if_neg (by omega)

theorem updConfirmReq_runs (h : s.asked 0x0034 r) (hlen : r.params.length = 0) : s.updConfirmReq = s.updReply 5 0 :=
  updReq_of_free h (decide_eq_true hlen) _ ho

theorem updCancelReq_runs (h : s.asked 0x0035 r) (hlen : r.params.length = 0) : s.updCancelReq = s.updReply 6 0 :=
  updReq_of_free h (decide_eq_true hlen) _ ho

end

end State

theorem exec_updateBegin (s : State) {r : MgtReq} (h : s.asked 0x0030 r) : exec .updateBegin s = .next (s.after s.updBeginReq) :=
  s.acting_of _ h.1

theorem exec_updateCommit (s : State) {r : MgtReq} (h : s.asked 0x0033 r) : exec .updateCommit s = .next (s.after s.updCommitReq) :=
  s.acting_of _ h.1

theorem exec_updateConfirm (s : State) {r : MgtReq} (h : s.asked 0x0034 r) : exec .updateConfirm s = .next (s.after s.updConfirmReq) :=
  s.acting_of _ h.1

theorem exec_updateCancel (s : State) {r : MgtReq} (h : s.asked 0x0035 r) : exec .updateCancel s = .next (s.after s.updCancelReq) :=
  s.acting_of _ h.1

/-- Settles O28: a write of BOOT_UPDATE_CMD runs `State.updAction`, each of whose actions is an update command behind
`State.updCmd`, and the management commands run the same write behind `State.updReq`. -/
theorem updateCommands : Obligations.UpdateCommands := by
  refine ⟨?write, ?shut, ?opened, ?busy, ?begins, ?runs⟩
  case write =>
    intro s q h
    have acts {action v : Nat} (ha : action < 8) (hv : v = action) := s.keyCmd_updAction h ha (tries := 0) (by decide) (hv.trans (Nat.zero_add _).symm)
    exact ⟨acts (action := 1) (by decide) rfl, acts (action := 2) (by decide) rfl, acts (action := 3) (by decide) rfl,
      fun n => s.keyCmd_updAction h (action := 4) (tries := n) (by decide) n.isLt rfl, acts (action := 5) (by decide) rfl,
      acts (action := 6) (by decide) rfl⟩
  case shut =>
    intro u n h
    exact ⟨State.updCmd_of_shut h _ _, State.updCmd_of_shut h _ _, State.updCmd_of_shut h _ _, State.updCmd_of_shut h _ _,
      State.updCmd_of_shut h _ _, State.updCmd_of_shut h _ _⟩
  case opened =>
    intro u h
    refine ⟨fun hst => ?_, State.updEnd_does h, fun n len => State.updCommit_of_image h n, fun n len => State.updCommit_of_runtime h n, ?_, ?_⟩
    · have hidle := u.updIdle_iff.mpr hst
      exact ⟨State.beginImage_of_pcie h, State.beginImage_does h hidle, State.beginRuntime_of_noRegion h, State.beginRuntime_does h hidle⟩
    · cases ht : u.onTrial with
      | true =>
        obtain ⟨hfloor, hends⟩ := State.updConfirm_of_trial h ht
        exact ⟨hfloor, fun _ => hends, nofun⟩
      | false =>
        rw [State.updConfirm_of_noTrial h ht]
        exact ⟨rfl, nofun, fun _ => ⟨rfl, rfl⟩⟩
    · rw [State.updCancel_eq h]
      exact u.updAbandon_does
  case busy =>
    intro s r late n hb ho hn
    have refused {op : Nat} {len : Nat → Bool} {g : State → MgtReq → State} (hlen : len n = true) (h : s.asked op r) :
        s.acting (s.serves 22) (fun u => u.updReq op len g) = .next (s.after ((s.cinc (Ctr.mgt 6)).mgtReply 5 0 [])) := by
      rw [s.acting_of _ h.1, State.updReq_of_other h (hn ▸ hlen) g hb ho]
    simp only [List.forall_mem_cons]
    exact ⟨fun hl => refused (decide_eq_true hl), fun hl => refused (by simp [hl]), fun hl => refused (decide_eq_true hl),
      fun hl => refused (decide_eq_true hl), fun hl => refused (decide_eq_true hl), fun hl => refused (decide_eq_true hl),
      fun _ he => absurd he List.not_mem_nil⟩
  case begins =>
    intro s r h hlen ho k
    rw [exec_updateBegin s h]
    refine ⟨fun hk => by rw [State.updBeginReq_badKind h hlen ho hk], fun hk hd => by rw [State.updBeginReq_noDram h hlen ho hk hd],
      fun hd => ?_⟩
    rw [State.updBeginReq_runs h hlen ho rfl hd]
    exact ⟨fun hu => by dsimp only; rw [if_pos hu], fun hu => by dsimp only; rw [if_neg (by rw [hu]; decide)]⟩
  case runs =>
    intro s r action tries ho u t
    have ht : s.updReply action tries = t := rfl
    refine ⟨fun h hlen => ⟨fun hbad => ?_, fun ha htries hlt => ?_⟩, fun h hlen ha htries => ?_, fun h hlen ha htries => ?_⟩
    · rw [exec_updateCommit s h, State.updCommitReq_badTries ho h hlen hbad]
    · rw [exec_updateCommit s h, State.updCommitReq_runs ho h hlen (htries ▸ hlt), ← htries, ← ha, ht]
    · rw [exec_updateConfirm s h, State.updConfirmReq_runs ho h hlen, ← ht, ha, htries]
    · rw [exec_updateCancel s h, State.updCancelReq_runs ho h hlen, ← ht, ha, htries]

end Sys2Proof.Machine

/-!
PROOFS. Chunks, and the ends of an update's stages (R119, R120, R127 to R130), with the management commands that pass chunks on
(R517).
-/
namespace Sys2Proof.Machine

/-- A length of 0 stands for 32,768 bytes (R119). -/
def chunkLen (v : Nat) : Nat := if v = 0 then 32768 else v

namespace State

variable (s : State)

/-! A chunk is submitted (R119, R120). -/

/-- BOOT takes a submission of `n` bytes. -/
def chunkFits (n : Nat) : Prop :=
  (s.updState = 2 ∨ s.rf .BOOT_STAGE_STATUS_PASS ≠ 0) ∧ s.on .BOOT_STAGE_STATUS_READY = true ∧ n ≤ 32768 ∧
    s.rf .BOOT_STAGE_STATUS_NEXT % 4 = 0 ∧ s.stageRoom n = true

theorem chunkSubmit_fits {v : Nat} (h : s.chunkFits (chunkLen v)) : s.chunkSubmit v =
    (s.booting fun b => { b with chunk := some (chunkLen v) }).wf .BOOT_STAGE_STATUS_READY 0 := by
  unfold chunkSubmit
  exact if_pos (by simpa [chunkFits, chunkLen, and_assoc] using h)

theorem chunkSubmit_misfits {v : Nat} (h : ¬ s.chunkFits (chunkLen v)) :
    s.chunkSubmit v = (s.wf .BOOT_STAGE_STATUS_ORDER_ERR 1).refuse 0x264 0x06 := by
  unfold chunkSubmit
  exact if_neg (by simpa [chunkFits, chunkLen, and_assoc] using h)

theorem exec_stageChunkSubmit {q : Sender} (w : Word) (h : s.reaches q Reg.BOOT_STAGE_LEN) :
    exec (.stageChunkSubmit q w) s = .next (s.did q Reg.BOOT_STAGE_LEN ((s.begun q.req).chunkSubmit (fldGet w 0 16))) :=
  regActP s h (by decide) (p := (5, 0)) (by decide) rfl

/-! The commands of an awake device. -/

section
variable {s : State} (h : s.awake = true)
include h

theorem exec_stageChunkTaken (inOrder keyOk sigOk : Bool) :
    exec (.stageChunkTaken inOrder keyOk sigOk) s = .next (s.after (s.chunkTaken inOrder (keyOk && sigOk))) :=
  s.acting_of (fun u => u.chunkTaken inOrder (keyOk && sigOk)) h

theorem exec_updateEraseDone : exec .updateEraseDone s = .next (s.after s.eraseDone) := s.acting_of _ h

theorem exec_updateVerifyDone (readOk hashOk keyOk sigOk : Bool) :
    exec (.updateVerifyDone readOk hashOk keyOk sigOk) s = .next (s.after (s.verifyDone readOk hashOk (keyOk && sigOk))) :=
  s.acting_of (fun u => u.verifyDone readOk hashOk (keyOk && sigOk)) h

theorem exec_runtimeApplyDone (refused : Option Nat) : exec (.runtimeApplyDone refused) s = .next (s.after (s.applyDone refused)) :=
  s.acting_of (fun u => u.applyDone refused) h

theorem exec_flashTimeout : exec .flashTimeout s = .next (s.after s.flashTimeout) := s.acting_of _ h

end

/-! A chunk is taken. -/

/-- The device has taken the chunk and is ready for the next. -/
def chunkGone : State := (s.booting fun x => { x with chunk := none }).wf .BOOT_STAGE_STATUS_READY 1

theorem chunkTaken_outOfOrder {n : Nat} (hc : s.boot.chunk = some n) (sigOk : Bool) :
    s.chunkTaken false sigOk = s.chunkGone.wf .BOOT_STAGE_STATUS_ORDER_ERR 1 := by
  unfold chunkTaken
  rw [hc]
  rfl

theorem chunkTaken_outOfOrder_does {n : Nat} (hc : s.boot.chunk = some n) (sigOk : Bool) : let e := s.chunkTaken false sigOk
    e.on .BOOT_STAGE_STATUS_READY = true ∧ e.on .BOOT_STAGE_STATUS_ORDER_ERR = true ∧
    e.rf .BOOT_STAGE_STATUS_NEXT = s.rf .BOOT_STAGE_STATUS_NEXT ∧ e.boot = { s.boot with chunk := none } := by
  dsimp only
  rw [s.chunkTaken_outOfOrder hc, on_wf_self _ _ _ (by decide), on_wf_of_ne _ _ _ _ (by decide), rf_wf_of_ne _ _ _ _ (by decide), boot_wf]
  unfold chunkGone
  rw [on_wf_self _ _ _ (by decide), rf_wf_of_ne _ _ _ _ (by decide), rf_booting, boot_wf, boot_booting]
  exact ⟨rfl, rfl, rfl, rfl⟩

/-- The chunk's bytes follow those of the image capsule in the inactive slot (R127). -/
theorem chunkTaken_image {n len : Nat} (hc : s.boot.chunk = some n) (hst : s.updState = 2) (hu : s.boot.upd = some ⟨false, len⟩)
    (sigOk : Bool) : s.chunkTaken true sigOk =
      let t := (s.chunkGone.wf .BOOT_STAGE_STATUS_NEXT (s.rf .BOOT_STAGE_STATUS_NEXT + n)).booting fun x => { x with upd := some ⟨false, len + n⟩ }
      (t.setSlotB (t.slotB ++ s.stageBytes n)).emit (.flashWrite (1 - s.boot.slot) [len, n]) := by
  have hgone : (s.chunkGone.wf .BOOT_STAGE_STATUS_NEXT (s.rf .BOOT_STAGE_STATUS_NEXT + n)).updState = 2 := by
    unfold chunkGone updState
    rw [rf_wf_of_ne _ _ _ _ (by decide), rf_wf_of_ne _ _ _ _ (by decide)]
    exact hst
  unfold chunkTaken
  rw [hc]
  refine (if_neg (by decide)).trans ((if_pos hgone).trans ?_)
  simp only [boot_wf, boot_booting, hu]
  rfl

theorem chunkTaken_image_does {n len : Nat} (hc : s.boot.chunk = some n) (hst : s.updState = 2) (hu : s.boot.upd = some ⟨false, len⟩)
    (sigOk : Bool) : let e := s.chunkTaken true sigOk
    e.on .BOOT_STAGE_STATUS_READY = true ∧ e.rf .BOOT_STAGE_STATUS_NEXT = (s.rf .BOOT_STAGE_STATUS_NEXT + n) % 2 ^ 24 ∧
    e.boot.chunk = none ∧ e.boot.upd = some ⟨false, len + n⟩ ∧ e.slotB = s.slotB ++ s.stageBytes n := by
  intro e
  obtain ⟨t, ht⟩ : ∃ t, t = (s.chunkGone.wf .BOOT_STAGE_STATUS_NEXT (s.rf .BOOT_STAGE_STATUS_NEXT + n)).booting
    fun x => { x with upd := some ⟨false, len + n⟩ } := ⟨_, rfl⟩
  have he : e = (t.setSlotB (t.slotB ++ s.stageBytes n)).emit (.flashWrite (1 - s.boot.slot) [len, n]) :=
    (s.chunkTaken_image hc hst hu sigOk).trans (by rw [ht])
  have hready : t.on .BOOT_STAGE_STATUS_READY = true := by
    rw [ht, on_booting, on_wf_of_ne _ _ _ _ (by decide)]
    unfold chunkGone
    rw [on_wf_self _ _ _ (by decide)]
    rfl
  have hnext : t.rf .BOOT_STAGE_STATUS_NEXT = (s.rf .BOOT_STAGE_STATUS_NEXT + n) % 2 ^ 24 := by
    rw [ht, rf_booting, rf_wf_self _ _ _ (by decide)]
    rfl
  obtain ⟨hchunk, hupd, hslot⟩ : t.boot.chunk = none ∧ t.boot.upd = some ⟨false, len + n⟩ ∧ t.slotB = s.slotB := by
    rw [ht]
    exact ⟨rfl, rfl, rfl⟩
  have hboot : ∀ b, (t.setSlotB b).boot.chunk = t.boot.chunk ∧ (t.setSlotB b).boot.upd = t.boot.upd := by
    intro b
    unfold setSlotB
    rw [boot_booting]
    split <;> exact ⟨rfl, rfl⟩
  obtain ⟨hchunk', hupd'⟩ := hboot (t.slotB ++ s.stageBytes n)
  rw [he]
  exact ⟨hready, hnext, hchunk'.trans hchunk, hupd'.trans hupd, (t.slotB_setSlotB _).trans (by rw [hslot])⟩

/-! The ends of the update's stages (R127, R128, R130). -/

theorem eraseDone_does (hst : s.updState = 1) : s.eraseDone.updState = 2 ∧ s.eraseDone.on .BOOT_UPDATE_STATUS_BUSY = false := by
  unfold eraseDone
  rw [if_pos hst, updState_setUpd _ (by decide), busy_setUpd]
  exact ⟨rfl, rfl⟩

/-- Reads of the flash leave the flash controller's mode and the reads on its wires. -/
theorem core_flashRead (m : FlashMode) (what len : Nat) : ∃ mode out,
    s.flashRead m what len = { s with boot := { s.boot with flashMode := mode }, out := out } := ⟨_, _, rfl⟩

theorem core_verifyRead (u : Upd) (sigOk : Bool) : ∃ mode out,
    s.verifyRead u sigOk = { s with boot := { s.boot with flashMode := mode }, out := out } := by
  unfold verifyRead
  dsimp only
  split
  · exact ⟨s.boot.flashMode, s.out, rfl⟩
  · split
    · exact ⟨_, _, rfl⟩
    · exact ⟨_, _, rfl⟩

/-- The result of a verification. -/
def verified (c : Nat) : State :=
  if c = 0 then s.setUpd 4 0 false else ((s.setUpd 7 c false).notify 0x023 0x0E).booting fun b => { b with upd := none }

theorem verifyDone_eq {u : Upd} (hst : s.updState = 3) (hu : s.boot.upd = some u) (readOk hashOk sigOk : Bool) :
    s.verifyDone readOk hashOk sigOk = (s.verifyRead u sigOk).verified (s.verifyCode u readOk hashOk sigOk) := by
  unfold verifyDone
  rw [hu]
  exact if_neg (not_not_intro hst)

theorem verified_does (c : Nat) : (s.verified c).on .BOOT_UPDATE_STATUS_BUSY = false ∧
    (s.verified c).rf .BOOT_UPDATE_STATUS_CODE = c % 16 ∧ (c = 0 → (s.verified c).updState = 4 ∧ (s.verified c).boot.upd = s.boot.upd) ∧
    (c ≠ 0 → (s.verified c).updState = 7 ∧ (s.verified c).boot.upd = none ∧
      (s.verified c).slot 0x023 = some (Slot.event (s.slot 0x023) 0x0E (Config.free s.draws) s.now)) := by
  by_cases hc : c = 0
  · unfold verified
    rw [if_pos hc, busy_setUpd, code_setUpd, updState_setUpd _ (by decide), hc]
    exact ⟨rfl, rfl, fun _ => ⟨rfl, rfl⟩, fun hn => absurd rfl hn⟩
  · unfold verified
    rw [if_neg hc, on_booting, on_notify, busy_setUpd, rf_booting, rf_notify, code_setUpd, updState_booting]
    refine ⟨rfl, rfl, fun h0 => absurd h0 hc, fun _ => ⟨?_, rfl, slot_notify (s.setUpd 7 c false) 0x023 0x0E⟩⟩
    exact updState_setUpd _ (by decide) _ _

theorem verifyDone_does {u : Upd} (hst : s.updState = 3) (hu : s.boot.upd = some u) (readOk hashOk sigOk : Bool) :
    let c := s.verifyCode u readOk hashOk sigOk
    let e := s.verifyDone readOk hashOk sigOk
    e.on .BOOT_UPDATE_STATUS_BUSY = false ∧ e.rf .BOOT_UPDATE_STATUS_CODE = c % 16 ∧ (c = 0 → e.updState = 4 ∧ e.boot.upd = some u) ∧
    (c ≠ 0 → e.updState = 7 ∧ e.boot.upd = none ∧
      e.slot 0x023 = some (Slot.event (s.slot 0x023) 0x0E (Config.free s.draws) s.now)) := by
  obtain ⟨mode, out, hread⟩ := s.core_verifyRead u sigOk
  have h := (s.verifyRead u sigOk).verified_does (s.verifyCode u readOk hashOk sigOk)
  rw [← s.verifyDone_eq hst hu, hread] at h
  rw [← hu]
  exact h

/-- A capsule is applied, or its application stops at a refused entry (R128). -/
theorem applyDone_does {len : Nat} (hst : s.updState = 5) (hu : s.boot.upd = some ⟨true, len⟩) (refused : Option Nat) :
    let e := s.applyDone refused
    let r := s.applyUpTo (s.capsule ⟨true, len⟩) refused
    (r.1 = 0 → e.updState = 6) ∧
    (r.1 ≠ 0 → e.updState = 7 ∧ e.rf .BOOT_UPDATE_STATUS_CODE = 0xA ∧ e.boot.parts = [] ∧ e.boot.partialRun = true) := by
  intro e r
  have he : e = if r.1 = 0 then
        (((r.2.2.booting fun x => { x with upd := none }).resumeAppend (s.capsule ⟨true, len⟩)).setUpd 6 0 false).booting
          fun x => { x with chain := chainNext x.chain (s.capsule ⟨true, len⟩) }
      else ((((r.2.2.booting fun x => { x with upd := none }).setUpd 7 0xA false).report 0x023 0x0E r.2.1).booting
        fun x => { x with parts := [], partialRun := true }) := by
    show s.applyDone refused = _
    unfold applyDone
    rw [hu]
    exact if_neg (by simp [hst])
  refine ⟨fun h0 => ?_, fun h0 => ?_⟩
  · rw [he, if_pos h0, updState_booting, updState_setUpd _ (by decide)]
  · rw [he, if_neg h0, updState_booting, rf_booting, rf_report, code_setUpd]
    exact ⟨updState_setUpd _ (by decide) _ _, rfl, rfl, rfl⟩

/-- The erase of the inactive slot runs out of time (R130). -/
theorem flashTimeout_does {len : Nat} (hst : s.updState = 1) (hu : s.boot.upd = some ⟨false, len⟩) :
    s.flashTimeout.updState = 7 ∧ s.flashTimeout.rf .BOOT_UPDATE_STATUS_CODE = 1 ∧
    s.flashTimeout.slot 0x026 = some (Slot.event (s.slot 0x026) 0x05 (Config.free s.draws) s.now) := by
  have he : s.flashTimeout = ((s.setUpd 7 1 false).stageClear).notify 0x026 0x05 := by
    unfold flashTimeout
    rw [hu]
    exact if_pos (by simp [hst])
  rw [he, slot_notify, rf_notify, rf_stageClear_of_ne _ (by decide), code_setUpd]
  refine ⟨?_, rfl, rfl⟩
  exact (updState_stageClear _).trans (updState_setUpd _ (by decide) _ _)

/-! UPDATE_CHUNK (R517). -/

/-- A submission that BOOT took is answered OK, another REFUSED with its code. -/
def pushReply (p : Bool × State) : State := if p.1 then p.2.mgtReply 0 0 [] else p.2.mgtReply 4 (p.2.rf .BOOT_UPDATE_STATUS_CODE) []

/-- Room for a chunk among the bytes that the firmware holds, made where 32,768 are held. -/
def holdRoom : Bool × State := if s.mgt.hold.length < 32768 then (true, s) else s.stagePush

/-- The bytes of a request's chunk join those held. -/
def holdChunk (params : List Byte) : State :=
  s.manage fun m => { m with hold := m.hold ++ params.drop 4, total := m.total + (params.length - 4) }

section
variable {s : State} {r : MgtReq} (h : s.asked 0x0031 r) (hmin : 5 ≤ r.params.length) (hmax : r.params.length ≤ 1028)
  (ho : s.ownerBusy = false ∨ s.mgt.owner = some r.session)
include h hmin hmax ho

theorem updChunkReq_refused (hno : s.mgt.owner ≠ some r.session ∨ s.updState ≠ 1 ∧ s.updState ≠ 2) :
    s.updChunkReq = s.mgtReply 4 (s.rf .BOOT_UPDATE_STATUS_CODE) [] := by
  unfold updChunkReq
  rw [updReq_of_free h (by simp [hmin, hmax]) _ ho]
  refine if_pos ?_
  rcases hno with hno | ⟨h1, h2⟩
  · simp [hno]
  · simp [h1, h2]

variable (hown : s.mgt.owner = some r.session) (hst : s.updState = 1 ∨ s.updState = 2)
include hown hst

omit h hmin hmax ho in
theorem not_chunkRefused : ¬(decide (s.mgt.owner ≠ some r.session) || !(decide (s.updState = 1) || decide (s.updState = 2))) = true := by
  rcases hst with hst | hst <;> simp [hown, hst]

theorem updChunkReq_outOfOrder (hoff : le r.params 0 4 ≠ s.mgt.total) : s.updChunkReq = s.mgtReply 7 0 [] := by
  unfold updChunkReq
  rw [updReq_of_free h (by simp [hmin, hmax]) _ ho]
  exact (if_neg (not_chunkRefused hown hst)).trans (if_pos hoff)

variable (hoff : le r.params 0 4 = s.mgt.total)
include hoff

theorem updChunkReq_full (hfull : 32768 ≤ s.mgt.hold.length) (hno : s.stageTakes = false) :
    s.updChunkReq = (s.cinc (Ctr.mgt 6)).mgtReply 5 0 [] := by
  unfold updChunkReq
  rw [updReq_of_free h (by simp [hmin, hmax]) _ ho]
  exact (if_neg (not_chunkRefused hown hst)).trans ((if_neg (not_not_intro hoff)).trans (if_pos (by simp [hfull, hno])))

/-- A chunk in order that finds room is held, and 32,768 bytes are passed on where BOOT takes them. -/
theorem updChunkReq_held (hroom : s.mgt.hold.length < 32768 ∨ s.stageTakes = true) : s.updChunkReq =
    let t := s.holdRoom.2.holdChunk r.params
    if s.holdRoom.1 then pushReply (if 32768 ≤ t.mgt.hold.length && t.stageTakes then t.stagePush else (true, t))
    else pushReply s.holdRoom := by
  have hpush : (if 32768 ≤ s.mgt.hold.length then s.stagePush else (true, s)) = s.holdRoom := by
    unfold holdRoom
    by_cases hl : s.mgt.hold.length < 32768
    · rw [if_pos hl, if_neg (Nat.not_le_of_lt hl)]
    · rw [if_neg hl, if_pos (Nat.le_of_not_lt hl)]
  have hfits : ¬(decide (32768 ≤ s.mgt.hold.length) && !s.stageTakes) = true := by
    rcases hroom with hl | ht
    · simp [Nat.not_le_of_lt hl]
    · simp [ht]
  unfold updChunkReq
  rw [updReq_of_free h (by simp [hmin, hmax]) _ ho]
  refine (if_neg (not_chunkRefused hown hst)).trans ((if_neg (not_not_intro hoff)).trans ((if_neg hfits).trans ?_))
  dsimp only
  rw [hpush, List.length_drop]
  unfold pushReply
  cases hp : s.holdRoom.1 <;> rfl

end

/-! UPDATE_END (R517, R518). -/

/-- The result of END is awaited, for 100 ms. -/
def awaitEnd (late : Bool) : State := if late then s.mgtReply 9 0 [] else s

section
variable {s : State} {r : MgtReq} (h : s.asked 0x0032 r) (hlen : r.params.length = 0) (ho : s.ownerBusy = false ∨ s.mgt.owner = some r.session)
include h hlen ho

theorem updEndReq_verifying (late : Bool) (hb : s.mgt.begun = true) (hst : s.updState = 3) : s.updEndReq late = s.awaitEnd late := by
  unfold updEndReq
  rw [updReq_of_free h (decide_eq_true hlen) _ ho]
  exact (if_pos hb).trans (if_pos hst)

theorem updEndReq_verified (late : Bool) (hb : s.mgt.begun = true) (hst : s.updState ≠ 3) :
    s.updEndReq late = s.mgtReply 0 (s.rf .BOOT_UPDATE_STATUS_CODE) [] := by
  unfold updEndReq
  rw [updReq_of_free h (decide_eq_true hlen) _ ho]
  exact (if_pos hb).trans (if_neg hst)

variable (hb : s.mgt.begun = false)
include hb

/-- BOOT still erases, or has not taken the last chunk passed. -/
theorem updEndReq_waits (late : Bool) (hw : s.updState = 1 ∨ s.updState = 2 ∧ s.boot.chunk.isSome = true) : s.updEndReq late = s.awaitEnd late := by
  unfold updEndReq
  rw [updReq_of_free h (decide_eq_true hlen) _ ho]
  refine (if_neg (by simp [hb])).trans (if_pos ?_)
  rcases hw with hw | ⟨hst, hc⟩
  · simp [hw]
  · simp [hst, hc]

theorem updEndReq_passes (late : Bool) (hst : s.updState = 2) (hc : s.boot.chunk = none) (hh : s.mgt.hold ≠ []) : s.updEndReq late =
    if s.stagePush.1 then s.stagePush.2.awaitEnd late else s.stagePush.2.mgtReply 4 (s.stagePush.2.rf .BOOT_UPDATE_STATUS_CODE) [] := by
  unfold updEndReq
  rw [updReq_of_free h (decide_eq_true hlen) _ ho]
  exact (if_neg (by simp [hb])).trans ((if_neg (by simp [hst, hc])).trans (if_pos (by simp [hst, hh])))

theorem updEndReq_ends (late : Bool) (h1 : s.updState ≠ 1) (h2 : s.updState = 2 → s.boot.chunk = none ∧ s.mgt.hold = []) : s.updEndReq late =
    let u := s.fwUpdate 3 0
    if u.1 then u.2.mgtReply 4 (u.2.rf .BOOT_UPDATE_STATUS_CODE) [] else (u.2.setBegun true).awaitEnd late := by
  have hwait : ¬(decide (s.updState = 1) || (decide (s.updState = 2) && s.boot.chunk.isSome)) = true := by
    by_cases hst : s.updState = 2
    · simp [hst, (h2 hst).1]
    · simp [h1, hst]
  have hpass : ¬(decide (s.updState = 2) && !s.mgt.hold.isEmpty) = true := by
    by_cases hst : s.updState = 2
    · simp [(h2 hst).2]
    · simp [hst]
  unfold updEndReq
  rw [updReq_of_free h (decide_eq_true hlen) _ ho]
  exact (if_neg (by simp [hb])).trans ((if_neg hwait).trans (if_neg hpass))

end

end State

theorem exec_updateChunk (s : State) {r : MgtReq} (h : s.asked 0x0031 r) : exec .updateChunk s = .next (s.after s.updChunkReq) :=
  s.acting_of _ h.1

theorem exec_updateEnd (s : State) {r : MgtReq} (h : s.asked 0x0032 r) (late : Bool) :
    exec (.updateEnd late) s = .next (s.after (s.updEndReq late)) := s.acting_of (fun u => u.updEndReq late) h.1

/-- Settles O29: each command runs one operation of the update machine or of the management service, whose result is that of
its branch. -/
theorem updateProgress : Obligations.UpdateProgress := by
  refine ⟨fun s q w => s.exec_stageChunkSubmit w, ?submit, ?outOfOrder, ?taken, ?erased, ?verified, ?applied, ?timeout, ?chunk, ?ended⟩
  case submit =>
    intro u v n
    refine ⟨fun hfits => ?_, fun hno => u.chunkSubmit_misfits hno⟩
    rw [u.chunkSubmit_fits hfits, State.on_wf_self _ _ _ (by decide)]
    exact ⟨rfl, rfl⟩
  case outOfOrder =>
    exact fun s n keyOk sigOk hawake hc => ⟨State.exec_stageChunkTaken hawake false keyOk sigOk, s.chunkTaken_outOfOrder_does hc _⟩
  case taken =>
    exact fun s keyOk sigOk n len hawake hc hst hu => ⟨State.exec_stageChunkTaken hawake true keyOk sigOk, s.chunkTaken_image_does hc hst hu _⟩
  case erased => exact fun s hawake hst => ⟨State.exec_updateEraseDone hawake, s.eraseDone_does hst⟩
  case verified =>
    exact fun s readOk hashOk keyOk sigOk u hawake hst hu =>
      ⟨State.exec_updateVerifyDone hawake readOk hashOk keyOk sigOk, s.verifyDone_does hst hu _ _ _⟩
  case applied => exact fun s len refused hawake hst hu => ⟨State.exec_runtimeApplyDone hawake refused, s.applyDone_does hst hu refused⟩
  case timeout => exact fun s len hawake hst hu => ⟨State.exec_flashTimeout hawake, s.flashTimeout_does hst hu⟩
  case chunk =>
    intro s r h hmin hmax ho run
    have runs {t : State} (ht : s.updChunkReq = t) : run t := (exec_updateChunk s h).trans (by rw [ht])
    refine ⟨fun hno => runs (State.updChunkReq_refused h hmin hmax ho hno), fun hown hst =>
      ⟨fun hoff => runs (State.updChunkReq_outOfOrder h hmin hmax ho hown hst hoff),
        fun hoff hfull hno => runs (State.updChunkReq_full h hmin hmax ho hown hst hoff hfull hno), fun hoff hroom => ?_⟩⟩
    have hheld := State.updChunkReq_held h hmin hmax ho hown hst hoff hroom
    intro p t
    refine ⟨fun hp => runs ?_, fun hp hleft => runs ?_, fun hp hfull htakes => runs ?_⟩
    · have hp' : s.holdRoom.1 = false := hp
      rw [hheld, if_neg (Bool.eq_false_iff.mp hp')]
      exact if_neg (Bool.eq_false_iff.mp hp')
    · have hleft' : ¬(32768 ≤ t.mgt.hold.length ∧ t.stageTakes = true) := by
        rcases hleft with hl | ht
        · exact fun hfull => absurd hl (by omega)
        · exact fun hfull => absurd hfull.2 (Bool.eq_false_iff.mp ht)
      rw [hheld, if_pos (show s.holdRoom.1 = true from hp)]
      exact congrArg State.pushReply (if_neg (by rw [Bool.and_eq_true, decide_eq_true_eq]; exact hleft'))
    · have hfull' : 32768 ≤ t.mgt.hold.length ∧ t.stageTakes = true := ⟨hfull, htakes⟩
      rw [hheld, if_pos (show s.holdRoom.1 = true from hp)]
      exact congrArg State.pushReply (if_pos (by rw [Bool.and_eq_true, decide_eq_true_eq]; exact hfull'))
  case ended =>
    intro s r late h hlen ho run wait
    have runs {t : State} (ht : s.updEndReq late = t) : run t := (exec_updateEnd s h late).trans (by rw [ht])
    exact ⟨fun hb hst => runs (State.updEndReq_verifying h hlen ho late hb hst), fun hb hst => runs (State.updEndReq_verified h hlen ho late hb hst),
      fun hb hw => runs (State.updEndReq_waits h hlen ho hb late hw), fun hb hst hc hh => runs (State.updEndReq_passes h hlen ho hb late hst hc hh),
      fun hb h1 h2 => runs (State.updEndReq_ends h hlen ho hb late h1 h2)⟩

end Sys2Proof.Machine

/-!
PROOFS. The boot sequence (R99, R103, R113 to R118, R121 to R125): which way each of its commands goes on, and what commit records.
-/
namespace Sys2Proof.Machine
namespace State

/-! BOOT_START (R99, R103, R150, R457). -/

/-- The start of the boot: phase 1, and the text of the firmware's version. -/
def startUp (s : State) : State := (s.wf .TOP_STATE_BOOT_PHASE 1).complex fun x => { x with text := some Config.fwVersion }

/-- A companion start-up test with injection `i` fails. -/
def companionFail (s : State) (i : Nat) : State := ((s.wf .CCX_TEST_STATUS_LAST_INJ i).wf .CCX_INT_TEST_FAIL 1).notify 0x051 0x13

/-- The boot once its start-up and health tests have passed: the DRBG is seeded, and the per-boot values and the keys are there. -/
def seeded (s : State) : State := (s.startUp.wf .CCX_TEST_STATUS_START_PASS 1).reseed.hashKeyDraw.deriveKeys.wf .TOP_STATE_BOOT_PHASE 2

/-- The code of a slot whose header bytes are `b`. -/
def headerCode (s : State) (b : List Byte) (read sig : Bool) : Nat := if read then s.hdrCode (flashTake b 352) false sig else 0x1

/-- The control record and both headers are read. -/
def headersRead (s : State) (readA readB sigA sigB : Bool) : State :=
  (((s.recRead (readA || readB)).flashRead s.romMode 0 352).flashRead s.romMode 1 352).booting fun b =>
    { b with hdrA := s.headerCode b.flashA readA sigA, hdrB := s.headerCode b.flashB readB sigB }

/-- The preferred slot, the other and, where BOOT_MODE allows it, PCIe are tried in this order. -/
def trySources (s : State) : State := s.nextSource ([s.boot.pref + 1, 2 - s.boot.pref] ++ (if s.bootMode = 1 then [3] else []))

section
variable {s : State} (hawake : s.awake = true) (hstage : s.boot.stage = .start) (hwake : s.pwr.wake = .none)
  (htemp : s.pwr.tempHold = false) (hclock : s.pwr.clockHold = false)
include hawake hstage hwake htemp hclock

/-- Nothing holds the boot. -/
theorem not_bootHeld : ¬(decide (s.boot.stage ≠ .start) || decide (s.pwr.wake ≠ .none) || !s.awake || s.pwr.tempHold || s.pwr.clockHold) = true := by
  simp [hawake, hstage, hwake, htemp, hclock]

theorem bootStart_of_companionsFail (i j trngBad : Nat) (fuseBad readA readB sigA sigB : Bool) :
    s.bootStart (some i) (some j) trngBad fuseBad readA readB sigA sigB = ((s.startUp.companionFail i).companionFail j).bootDead :=
  if_neg (not_bootHeld hawake hstage hwake htemp hclock)

variable (comp2 : Option Nat) (readA readB sigA sigB : Bool)

theorem bootStart_of_healthFail {trngBad : Nat} (hbad : 4 ≤ trngBad) : s.bootStart none comp2 trngBad false readA readB sigA sigB =
    ((s.startUp.wf .CCX_TEST_STATUS_START_PASS 1).each (List.range 4) fun t _ => t.notify 0x028 0x0E).bootFailed := by
  refine (if_neg (not_bootHeld hawake hstage hwake htemp hclock)).trans ((if_pos hbad).trans ?_)
  rw [Nat.min_eq_right hbad]
  rfl

theorem bootStart_of_pcieOnly (hmode : s.seeded.bootMode = 2) : s.bootStart none comp2 0 false readA readB sigA sigB = s.seeded.nextSource [3] :=
  (if_neg (not_bootHeld hawake hstage hwake htemp hclock)).trans (if_pos hmode)

/-- With no trial under way, the sources are tried as the record and BOOT_MODE order them. -/
theorem bootStart_of_noTrial (hmode : s.seeded.bootMode ≠ 2) (htrial : (s.seeded.headersRead readA readB sigA sigB).boot.trial = false) :
    s.bootStart none comp2 0 false readA readB sigA sigB = (s.seeded.headersRead readA readB sigA sigB).trySources := by
  refine (if_neg (not_bootHeld hawake hstage hwake htemp hclock)).trans ((if_neg hmode).trans ?_)
  exact congrArg trySources (if_pos (congrArg (!·) htrial))

end

/-! The failed phase (R118, R457). -/

theorem phase_bootDead (s : State) : s.bootDead.rf .TOP_STATE_BOOT_PHASE = 0xF := by
  unfold bootDead
  rw [rf_booting, rf_notify, rf_wf_self _ _ _ (by decide)]
  rfl

theorem slot_bootDead (s : State) : s.bootDead.slot 0x021 = some (Slot.event (s.slot 0x021) 0x0E (Config.free s.draws) s.now) :=
  slot_notify (s.wf .TOP_STATE_BOOT_PHASE 0xF) 0x021 0x0E

/-! The end of pass 1, DRAM training and the time-out of a PCIe source (R113, R117, R121). -/

section
variable {s : State} {l : Load} (hl : s.boot.load = some l)
include hl

section
variable (hstage : s.boot.stage = .pass1) (hsrc : l.source ≠ 3)
include hstage hsrc

omit hl hstage in
/-- The bytes of a slot are all there. -/
theorem not_receiving : ¬(decide (l.source = 3) && (!l.checked || decide (l.bytes.length < le l.bytes 8 4))) = true := by
  simp [hsrc]

theorem pass1Done_of_timeout (hashOk : Bool) : s.pass1Done false hashOk = s.sourceFail 0x1 := by
  unfold pass1Done
  rw [hl]
  dsimp only
  rw [if_neg (not_not_intro hstage), if_neg (not_receiving hsrc)]
  rfl

theorem pass1Done_of_badHash : s.pass1Done true false = s.sourceFail 0x8 := by
  unfold pass1Done
  rw [hl]
  dsimp only
  rw [if_neg (not_not_intro hstage), if_neg (not_receiving hsrc)]
  rfl

/-- Pass 2 of a slot begins at once, and reads the slot again. -/
theorem pass1Done_passes {x : List Section} (hx : sections l.bytes = some x) (hok : structureOk l.bytes x true = true) :
    s.pass1Done true true = State.pass2Go
      (((s.wf .TOP_STATE_BOOT_PHASE 3).booting fun b => { b with stage := .pass2, sealed0 := s.cph.tab, train := none }).collector
        (fun x => { x with misfit := false }) |>.flashRead (slotMode l.bytes) (l.source - 1) (le l.bytes 8 4)) := by
  unfold pass1Done
  rw [hl]
  dsimp only
  rw [if_neg (not_not_intro hstage), if_neg (not_receiving hsrc), hx]
  exact (if_neg (by decide)).trans ((if_neg (by decide)).trans ((if_neg (by simp [hok])).trans (if_neg hsrc)))

end

theorem pcieTimeout_fails (hsrc : l.source = 3) (hchunk : s.boot.chunk = none) (hstage : s.boot.stage = .pass1 ∨ s.boot.stage = .pass2) :
    s.pcieTimeout = s.sourceFail 0xF := by
  unfold pcieTimeout
  rw [hl]
  refine if_pos ?_
  rcases hstage with hstage | hstage <;> simp [hsrc, hchunk, hstage]

end

theorem trained_in_pass2 {s : State} (hstage : s.boot.stage = .pass2) (hcfg : s.dram.cfg.isSome = true) (htrain : s.boot.train = none) (ok : Bool) :
    s.trained ok =
      let t := s.refreshEntry s.dram.selfRefresh
      if ok then State.pass2Go { t with dram := { t.dram with up := true, selfRefresh := false }, boot := { t.boot with train := some true } }
      else ((s.notify 0x2A2 0x08).booting fun b => { b with train := some false }).sourceFail 0xC :=
  if_neg (by simp [hstage, htrain, Option.isSome_iff_ne_none.mp hcfg])

/-! IMAGE_COMMIT (R111, R122). -/

section
variable {s : State} {l : Load} {x : List Section} (hl : s.boot.load = some l) (hstage : s.boot.stage = .pass2)
  (hx : sections l.bytes = some x) (hne : x ≠ []) (hpos : x.length ≤ l.pos) (hlen : le l.bytes 8 4 ≤ l.bytes.length)
  (htrain : s.dram.cfg.isSome = true → s.boot.train.isSome = true)
include hl hstage hx hne hpos hlen htrain

/-- At the end of pass 2 the checks of the image follow one another. -/
theorem imageCommit_at_end (readOk hashOk : Bool) : s.imageCommit readOk hashOk =
    if s.flt.misfit then s.sourceFail 0xA
    else if !readOk then s.sourceFail 0x1
    else if !hashOk then s.sourceFail 0xB
    else if s.paired && s.dram.cfg.isNone then s.sourceFail 0xC
    else if s.certBroken l.bytes then s.sourceFail 0xD
    else (s.commitMark l.source l.bytes).commitStart l.source l.bytes := by
  have hend : ¬(decide (s.boot.stage ≠ .pass2) || decide (l.bytes.length < le l.bytes 8 4) || decide (x.length = 0) ||
      decide (l.pos < x.length) || (s.dram.cfg.isSome && s.boot.train.isNone)) = true := by
    cases hc : s.dram.cfg.isSome with
    | false => simp [hstage, hne, hpos, hlen]
    | true => simp [hstage, hne, hpos, hlen, Option.isSome_iff_ne_none.mp (htrain hc)]
  unfold imageCommit
  rw [hl]
  dsimp only
  rw [hx]
  exact if_neg hend

end

/-! What commit records (R122, R123). -/

/-- A field of BOOT_STATUS beside TRIAL, or of another register than the record's, is not shown by the record. -/
theorem rf_recShow_beside (s : State) {f : Fld} (h1 : f.addr ≠ Reg.BOOT_STATUS ∨ f.lo + f.width ≤ 24 ∨ 25 ≤ f.lo)
    (h2 : f.addr ≠ Reg.BOOT_CTRL_REC) : s.recShow.rf f = s.rf f := by
  unfold recShow
  rw [rf_wf_of_ne _ _ _ _ (.inl h2), rf_wf_of_ne _ _ _ _ (.inl h2), rf_wf_of_ne _ _ _ _ (.inl h2), rf_wf_of_ne _ _ _ _ (.inl h2),
    rf_wf_of_ne _ _ _ _ h1]

theorem rword_setRegBytes_of_ne (s : State) {a n r : Nat} (b : List Byte) (h : ∀ i < n, r ≠ a + 4 * i) :
    (s.setRegBytes a n b).rword r = s.rword r := by
  unfold setRegBytes each
  induction n with
  | zero => rfl
  | succ n ih =>
    rw [List.range_succ, List.foldl_append, List.foldl_cons, List.foldl_nil, rword_wword_of_ne _ _ (h n (by omega)),
      ih fun i hi => h i (by omega)]

theorem rf_setRegBytes_of_ne (s : State) {a n : Nat} (b : List Byte) {f : Fld} (h : ∀ i < n, f.addr ≠ a + 4 * i) :
    (s.setRegBytes a n b).rf f = s.rf f := by
  unfold rf
  rw [rword_setRegBytes_of_ne _ _ h]

theorem rf_with_cph (s : State) (c : Cph) (f : Fld) : ({ s with cph := c } : State).rf f = s.rf f := rfl

/-- The registers that commit sets before the image's ID. -/
def commitStatus (s : State) (src : Nat) (img : List Byte) : State :=
  ((((s.wf .TOP_STATE_COMMITTED 1).wf .TOP_STATE_BOOT_PHASE 5).wf .BOOT_STATUS_SOURCE src).wf .BOOT_VERSION_RUN (le img 24 4)).wf
    .BOOT_TIME_US ((s.cycles - s.boot.born) / 1000)

section
variable (s : State) (src : Nat) (img : List Byte)

theorem rf_commitMark {f : Fld} (h1 : f.addr ≠ Reg.BOOT_STATUS ∨ f.lo + f.width ≤ 24 ∨ 25 ≤ f.lo) (h2 : f.addr ≠ Reg.BOOT_CTRL_REC) :
    (s.commitMark src img).rf f =
      (((s.commitStatus src img).setRegBytes (Reg.BOOT_IMAGE_ID 0) 4 ((img.drop 64).take 16)).wf .SEC_STATUS_CERT (b2n (imgFlag img 1))).rf f := by
  unfold commitMark commitStatus
  dsimp only
  rw [rf_recShow_beside _ h1 h2, rf_booting, rf_with_cph]
  simp only [cycles_wf, boot_wf]

/-- Neither the image's ID nor CERT is in the register of the field. -/
theorem rf_commitMark_status {f : Fld} (h1 : f.addr ≠ Reg.BOOT_STATUS ∨ f.lo + f.width ≤ 24 ∨ 25 ≤ f.lo) (h2 : f.addr ≠ Reg.BOOT_CTRL_REC)
    (h3 : f.addr ≠ Reg.SEC_STATUS) (h4 : ∀ i < 4, f.addr ≠ Reg.BOOT_IMAGE_ID 0 + 4 * i) :
    (s.commitMark src img).rf f = (s.commitStatus src img).rf f := by
  rw [s.rf_commitMark src img h1 h2, rf_wf_of_ne _ _ _ _ (.inl h3), rf_setRegBytes_of_ne _ _ h4]

theorem committed_commitMark : (s.commitMark src img).committed = true := by
  have hrf : (s.commitMark src img).rf .TOP_STATE_COMMITTED = 1 := by
    rw [s.rf_commitMark_status src img (by decide) (by decide) (by decide) (by decide)]
    unfold commitStatus
    rw [rf_wf_of_ne _ _ _ _ (by decide), rf_wf_of_ne _ _ _ _ (by decide), rf_wf_of_ne _ _ _ _ (by decide), rf_wf_of_ne _ _ _ _ (by decide),
      rf_wf_self _ _ _ (by decide)]
    rfl
  exact congrArg (· == 1) hrf

theorem phase_commitMark : (s.commitMark src img).rf .TOP_STATE_BOOT_PHASE = 5 := by
  rw [s.rf_commitMark_status src img (by decide) (by decide) (by decide) (by decide)]
  unfold commitStatus
  rw [rf_wf_of_ne _ _ _ _ (by decide), rf_wf_of_ne _ _ _ _ (by decide), rf_wf_of_ne _ _ _ _ (by decide), rf_wf_self _ _ _ (by decide)]
  rfl

theorem source_commitMark (hsrc : src < 8) : (s.commitMark src img).rf .BOOT_STATUS_SOURCE = src := by
  rw [s.rf_commitMark_status src img (by decide) (by decide) (by decide) (by decide)]
  unfold commitStatus
  rw [rf_wf_of_ne _ _ _ _ (by decide), rf_wf_of_ne _ _ _ _ (by decide), rf_wf_self _ _ _ (by decide)]
  exact Nat.mod_eq_of_lt hsrc

theorem run_commitMark : (s.commitMark src img).rf .BOOT_VERSION_RUN = le img 24 4 % 256 := by
  rw [s.rf_commitMark_status src img (by decide) (by decide) (by decide) (by decide)]
  unfold commitStatus
  rw [rf_wf_of_ne _ _ _ _ (by decide), rf_wf_self _ _ _ (by decide)]
  rfl

theorem cert_commitMark : (s.commitMark src img).rf .SEC_STATUS_CERT = b2n (imgFlag img 1) := by
  rw [s.rf_commitMark src img (by decide) (by decide), rf_wf_self _ _ _ (by decide)]
  cases imgFlag img 1 <;> rfl

theorem boot_commitMark : (s.commitMark src img).boot.stage = .committed ∧ (s.commitMark src img).boot.header = img.take 352 ∧
    (s.commitMark src img).boot.chain = List.replicate 48 0 := by
  unfold commitMark
  rw [boot_recShow, boot_booting]
  exact ⟨rfl, rfl, rfl⟩

end

/-! RESUME_RETAG_DONE (R125). -/

/-- The re-tagging under a new key of slot 255 ends where the DRBG runs. -/
theorem retagDone_does {s : State} (hretag : s.boot.retag = true) (hdrbg : s.on .SEC_STATUS_DRBG_HALT = false) :
    s.retagDone.on .PWR_STATUS_BUSY = false ∧ s.retagDone.boot.retag = false := by
  have hgo : (s.boot.retag && !s.on .SEC_STATUS_DRBG_HALT) = true := by simp [hretag, hdrbg]
  unfold retagDone
  rw [if_pos hgo, on_wf_self _ _ _ (by decide)]
  exact ⟨rfl, rfl⟩

/-! The boot commands of an awake device. -/

section
variable {s : State} (h : s.awake = true)
include h

theorem exec_bootStart (comp1 comp2 : Option Nat) (trngBad : Nat) (fuseBad readA readB sigA sigB : Bool) :
    exec (.bootStart comp1 comp2 trngBad fuseBad readA readB sigA sigB) s =
      .next (s.after (s.bootStart comp1 comp2 trngBad fuseBad readA readB sigA sigB)) :=
  s.acting_of (fun u => u.bootStart comp1 comp2 trngBad fuseBad readA readB sigA sigB) h

theorem exec_pass1Complete (answers inTime hashOk : Bool) :
    exec (.pass1Complete answers inTime hashOk) s = .next (s.after (s.pass1Done (answers && inTime) hashOk)) :=
  s.acting_of (fun u => u.pass1Done (answers && inTime) hashOk) h

theorem exec_dramTrainingDone (ok inTime : Bool) :
    exec (.dramTrainingDone ok inTime) s = .next (s.after (s.trained (ok && inTime))) :=
  s.acting_of (fun u => u.trained (ok && inTime)) h

theorem exec_imageCommit (readOk hashOk : Bool) :
    exec (.imageCommit readOk hashOk) s = .next (s.after (s.imageCommit readOk hashOk)) :=
  s.acting_of (fun u => u.imageCommit readOk hashOk) h

theorem exec_resumeRetagDone : exec .resumeRetagDone s = .next (s.after s.retagDone) := s.acting_of _ h

theorem exec_pcieImageTimeout : exec .pcieImageTimeout s = .next (s.after s.pcieTimeout) := s.acting_of _ h

end

end State

/-- Settles O30: each command runs one operation of the boot, whose result is that of the branch its hypotheses select; what commit
records is read off the registers that the mark sets. -/
theorem bootSequence : Obligations.BootSequence := by
  refine ⟨?start, ?failed, ?pass1, ?train, ?commit, ?mark, ?retag, ?timeout⟩
  case start =>
    intro s comp1 comp2 trngBad fuseBad readA readB sigA sigB hawake hstage hwake htemp hclock run bad one ready
    have runs {t : State} (ht : s.bootStart comp1 comp2 trngBad fuseBad readA readB sigA sigB = t) : run t :=
      (State.exec_bootStart hawake comp1 comp2 trngBad fuseBad readA readB sigA sigB).trans (by rw [ht])
    refine ⟨fun i j hc1 hc2 => runs ?_, fun hc1 hfuse hbad => runs ?_, fun hc1 hfuse hbad hmode => runs ?_, ?_⟩
    · rw [hc1, hc2]
      exact State.bootStart_of_companionsFail hawake hstage hwake htemp hclock i j trngBad fuseBad readA readB sigA sigB
    · rw [hc1, hfuse]
      exact State.bootStart_of_healthFail hawake hstage hwake htemp hclock comp2 readA readB sigA sigB hbad
    · rw [hc1, hfuse, hbad]
      exact State.bootStart_of_pcieOnly hawake hstage hwake htemp hclock comp2 readA readB sigA sigB hmode
    · intro hc1 hfuse hbad hmode code read htrial
      refine runs ?_
      rw [hc1, hfuse, hbad]
      exact State.bootStart_of_noTrial hawake hstage hwake htemp hclock comp2 readA readB sigA sigB hmode htrial
  case failed => exact fun u => ⟨u.phase_bootDead, rfl, rfl, u.slot_bootDead, rfl⟩
  case pass1 =>
    intro s answers inTime hashOk l hawake hl hstage hsrc run
    have runs {t : State} (ht : s.pass1Done (answers && inTime) hashOk = t) : run t :=
      (State.exec_pass1Complete hawake answers inTime hashOk).trans (by rw [ht])
    refine ⟨fun hread => runs ?_, fun hread hhash => runs ?_, fun hread hhash x hx hok => runs ?_⟩
    · rw [hread, State.pass1Done_of_timeout hl hstage hsrc]
    · rw [hread, hhash, State.pass1Done_of_badHash hl hstage hsrc]
    · rw [hread, hhash]
      exact State.pass1Done_passes hl hstage hsrc hx hok
  case train =>
    intro s ok inTime hawake hstage hcfg htrain t
    exact (State.exec_dramTrainingDone hawake ok inTime).trans (by rw [State.trained_in_pass2 hstage hcfg htrain])
  case commit =>
    intro s readOk hashOk l x hawake hl hstage hx hne hpos hlen htrain run
    have runs {t : State} (ht : s.imageCommit readOk hashOk = t) : run t :=
      (State.exec_imageCommit hawake readOk hashOk).trans (by rw [ht])
    have hend := State.imageCommit_at_end hl hstage hx hne hpos hlen htrain readOk hashOk
    refine ⟨fun hmis => runs ?_, fun hmis => ⟨fun hread => runs ?_, fun hread hhash => runs ?_, fun hread hhash hpair hcfg => runs ?_,
      fun hread hhash hdram => ?_⟩⟩
    · rw [hend, if_pos hmis]
    · rw [hend, hmis, hread]
      rfl
    · rw [hend, hmis, hread, hhash]
      rfl
    · rw [hend, hmis, hread, hhash, hpair, hcfg]
      rfl
    · have hready : ¬(s.paired && s.dram.cfg.isNone) = true := by
        rcases hdram with hpair | hcfg
        · simp [hpair]
        · simp [Option.isSome_iff_ne_none.mp hcfg]
      refine ⟨fun hcert => runs ?_, fun hcert => runs ?_⟩
      · rw [hend, hmis, hread, hhash]
        exact (if_neg hready).trans (if_pos hcert)
      · rw [hend, hmis, hread, hhash]
        exact (if_neg hready).trans (if_neg (Bool.eq_false_iff.mp hcert))
  case mark =>
    exact fun s src img hsrc => ⟨s.committed_commitMark src img, s.phase_commitMark src img, s.source_commitMark src img hsrc,
      s.run_commitMark src img, s.cert_commitMark src img, s.boot_commitMark src img⟩
  case retag => exact fun s hawake hretag hdrbg => ⟨State.exec_resumeRetagDone hawake, State.retagDone_does hretag hdrbg⟩
  case timeout =>
    exact fun s l hawake hl hsrc hchunk hstage =>
      (State.exec_pcieImageTimeout hawake).trans (by rw [State.pcieTimeout_fails hl hsrc hchunk hstage])

end Sys2Proof.Machine

/-!
PROOFS. Security functions (R131 to R155): zeroization, debug unlock, the lifecycle, key slots and the DRBG.
-/
namespace Sys2Proof.Machine

/-- The last event of a slot is the one that it has just taken (R472). -/
theorem Slot.lastKind_event (x : Option Slot) (kind addr time : Nat) : (Slot.event x kind addr time).lastKind = kind := by
  unfold Slot.event
  split
  · rfl
  · split <;> rfl

namespace State

variable (s : State)

theorem lastKind_notify (n kind : Nat) : ((s.notify n kind).slot n).map (·.lastKind) = some kind := by
  rw [slot_notify]
  exact congrArg some (Slot.lastKind_event _ _ _ _)

/-! What the end of a management session leaves (R519). -/

/-- The write of a register outside the key attributes. -/
theorem slotValid_wf_outside (f : Fld) (v : Nat) {k : Nat} (hk : k < 256) (hf : f.addr < 0x31000 ∨ 0x31400 ≤ f.addr) :
    (s.wf f v).slotValid k = s.slotValid k := by
  have hne : Reg.SEC_KEY_ATTR k ≠ f.addr := by
    unfold Reg.SEC_KEY_ATTR
    omega
  exact s.on_wf_of_ne f _ v (.inl hne)

theorem slotValid_updAbandon {k : Nat} (hk : k < 256) : s.updAbandon.slotValid k = s.slotValid k := by
  unfold updAbandon
  dsimp only
  rw [slotValid_wf_outside _ _ _ hk (.inl (by decide)), slotValid_wf_outside _ _ _ hk (.inl (by decide)),
    slotValid_wf_outside _ _ _ hk (.inl (by decide)), slotValid_wf_outside _ _ _ hk (.inl (by decide)),
    slotValid_wf_outside _ _ _ hk (.inl (by decide))]
  split <;> split <;> rfl

theorem slotValid_slotErase_of_not (i : Nat) {k : Nat} (h : s.slotValid k = false) : (s.slotErase i).slotValid k = false := by
  unfold slotErase
  split
  · exact h
  · split
    · exact h
    · by_cases hi : k = i
      · exact hi ▸ slotValid_slotClear_self s k
      · exact slotValid_slotClear_of_not s k i hi h

theorem mgt_slotErase (i : Nat) : (s.slotErase i).mgt = s.mgt := by
  unfold slotErase
  split
  · rfl
  · split <;> rfl

theorem mgt_updAbandon : s.updAbandon.mgt = s.mgt := by
  unfold updAbandon
  simp only [mgt_wf, mgt_booting]
  split <;> split <;> rfl

/-- Session `k` is forgotten, with its key and the session number of its requests. -/
def sessGone (k : Nat) : State :=
  ((s.setMgtSess k none).keyStore k 0).manage fun m =>
    { m with queue := m.queue.map fun r => if r.session = k then { r with session := 8 } else r }

/-- The two slots of session `k` are cleared, and MGT_STATUS shows its end. -/
def sessSlotsErase (k : Nat) : State :=
  ((s.slotErase (s.mgtSlot k)).slotErase (s.mgtSlot k + 1)).wf .MGT_STATUS_SESSIONS (maskSet (s.rf .MGT_STATUS_SESSIONS) k false)

/-- The end of a session forgets it, and may clear its slots and abandon its update: what these three leave, the end leaves. -/
theorem mgtEnd_keeps {P : State → Prop} {k : Nat} (hnone : s.mgtSess k = none → P s) (hgone : P (s.sessGone k))
    (herase : ∀ t, P t → P (t.sessSlotsErase k)) (habandon : ∀ t, P t → P t.updAbandon) : P (s.mgtEnd k) := by
  have last (b : Bool) (t : State) (ht : P t) : P (if b then t.updAbandon else t) := by
    cases b
    · exact ht
    · exact habandon t ht
  unfold mgtEnd
  split
  · exact hnone ‹_›
  · refine last _ _ ?_
    split
    · exact herase _ hgone
    · exact hgone

theorem mgtSess_sessGone (k j : Nat) : (s.sessGone k).mgtSess j = if j = k then none else s.mgtSess j :=
  spGet_spSet (fun _ => none) s.mgt.sess j k none

theorem mgtSess_sessSlotsErase (k j : Nat) : (s.sessSlotsErase k).mgtSess j = s.mgtSess j := by
  unfold mgtSess sessSlotsErase
  rw [mgt_wf, mgt_slotErase, mgt_slotErase]

theorem mgtSess_mgtEnd (k j : Nat) : (s.mgtEnd k).mgtSess j = if j = k then none else s.mgtSess j := by
  refine s.mgtEnd_keeps (P := fun t => t.mgtSess j = if j = k then none else s.mgtSess j) (fun hnone => ?_) (s.mgtSess_sessGone k j)
    (fun t ht => (t.mgtSess_sessSlotsErase k j).trans ht) (fun t ht => ?_)
  · split
    · rw [‹j = k›, hnone]
    · rfl
  · unfold mgtSess at ht ⊢
    rw [mgt_updAbandon, ht]

theorem slotValid_mgtEnd_of_not (i : Nat) {k : Nat} (hk : k < 256) (h : s.slotValid k = false) : (s.mgtEnd i).slotValid k = false := by
  refine s.mgtEnd_keeps (P := fun t => t.slotValid k = false) (fun _ => h) h (fun t ht => ?_) (fun t ht => ?_)
  · unfold sessSlotsErase
    rw [slotValid_wf_outside _ _ _ hk (.inr (by decide))]
    exact slotValid_slotErase_of_not _ _ (t.slotValid_slotErase_of_not _ ht)
  · rwa [t.slotValid_updAbandon hk]

/-- Every session of a list ends. -/
theorem mgtSess_mgtEnds (l : List Nat) (j : Nat) : (s.each l mgtEnd).mgtSess j = if j ∈ l then none else s.mgtSess j := by
  induction l generalizing s with
  | nil => simp [each]
  | cons i l ih =>
    refine (ih (s.mgtEnd i)).trans ?_
    rw [mgtSess_mgtEnd]
    by_cases hl : j ∈ l <;> by_cases hi : j = i <;> simp [hl, hi]

theorem slotValid_mgtEnds_of_not (l : List Nat) {k : Nat} (hk : k < 256) (h : s.slotValid k = false) :
    (s.each l mgtEnd).slotValid k = false := by
  induction l generalizing s with
  | nil => exact h
  | cons i l ih => exact ih (s.mgtEnd i) (s.slotValid_mgtEnd_of_not i hk h)

/-! What zeroization leaves (R154). Each lemma names `t`, in which the slots are cleared and the sessions ended. -/

theorem sec_zeroize : let x := s.zeroize.sec
    x.mat = [] ∧ x.unitKek = none ∧ x.classKek = none ∧ x.ident = none ∧ x.requests = 0 := by
  obtain ⟨t, ht⟩ : ∃ t, t = (s.each (List.range 256) slotClear).mgtEndAll := ⟨_, rfl⟩
  rw [s.zeroize_eq ht]
  exact ⟨rfl, rfl, rfl, rfl, rfl⟩

theorem zeroized_zeroize : s.zeroize.on .SEC_STATUS_ZEROIZED = true := by
  rw [s.zeroize_eq rfl]
  dsimp only
  rw [on_notify, on_wf_self _ _ _ (by decide)]
  rfl

theorem lastKind_zeroize : (s.zeroize.slot 0x02F).map (·.lastKind) = some 0x0D := by
  rw [s.zeroize_eq rfl]
  exact lastKind_notify _ _ _

theorem slotValid_zeroize {k : Nat} (hk : k < 256) : s.zeroize.slotValid k = false := by
  obtain ⟨t, ht⟩ : ∃ t, t = (s.each (List.range 256) slotClear).mgtEndAll := ⟨_, rfl⟩
  have hvalid : t.slotValid k = false :=
    ht ▸ slotValid_mgtEnds_of_not _ _ hk (slotValid_slotClears _ _ _ (.inl (List.mem_range.mpr hk)))
  rw [s.zeroize_eq ht]
  exact (slotValid_wf_outside _ _ _ hk (.inl (by decide))).trans hvalid

theorem mgtSess_zeroize {k : Nat} (hk : k < 8) : s.zeroize.mgtSess k = none := by
  obtain ⟨t, ht⟩ : ∃ t, t = (s.each (List.range 256) slotClear).mgtEndAll := ⟨_, rfl⟩
  have hended : t.mgtSess k = none := ht ▸ (mgtSess_mgtEnds _ _ k).trans (if_pos (List.mem_range.mpr hk))
  rw [s.zeroize_eq ht]
  exact hended

end State

/-! The command registers of SEC, written with their keys. -/

theorem exec_secZeroize {s : State} {q : Sender} (h : s.reaches q Reg.SEC_ZEROIZE) :
    exec (.secZeroize q) s = .next (s.did q Reg.SEC_ZEROIZE (s.begun q.req).zeroize) :=
  keyAct s h (p := (8, 0)) (g := fun u => if (cmdWord 0x0D1E 1).getLsbD 0 then u.zeroize else u) (by decide) (by decide) (by decide)
    (by decide) rfl

theorem exec_zeroize_of_asked {s : State} {r : MgtReq} (h : s.asked 0x0080 r) (hlen : r.params.length = 0) :
    exec .zeroize s = .next (s.after ((s.mgtReply 0 0 []).fwWrite Reg.SEC_ZEROIZE (cmdWord 0x0D1E 1)).2) := by
  have hrun : s.zeroizeReq = ((s.mgtReply 0 0 []).fwWrite Reg.SEC_ZEROIZE (cmdWord 0x0D1E 1)).2 := by
    unfold State.zeroizeReq
    rw [s.mgtRun_of_asked h, if_pos (decide_eq_true hlen)]
    rfl
  exact (s.acting_of _ h.1).trans (by rw [hrun])

/-- Settles O31: the slots are cleared first and the sessions ended then, and neither a session's end nor what follows makes a slot
valid or begins a session. -/
theorem zeroizationClears : Obligations.ZeroizationClears := by
  refine ⟨fun s q h => exec_secZeroize h, fun s => ?_, fun s => ⟨s.mayWrite_host_always (by decide), rfl⟩, fun s r h hlen =>
    exec_zeroize_of_asked h hlen⟩
  obtain ⟨hmat, hunit, hclass, hident, hrequests⟩ := s.sec_zeroize
  exact ⟨hmat, hunit, hclass, hident, hrequests, s.zeroized_zeroize, s.lastKind_zeroize, fun _ => s.slotValid_zeroize,
    fun _ => s.mgtSess_zeroize⟩

end Sys2Proof.Machine

/-!
PROOFS. Debug unlock (R151 to R153).
-/
namespace Sys2Proof.Machine
namespace State

variable (s : State)

/-! The words of the challenge. -/

theorem secDebugChal_inj {n k : Nat} : Reg.SEC_DEBUG_CHAL n = Reg.SEC_DEBUG_CHAL k ↔ n = k := by
  unfold Reg.SEC_DEBUG_CHAL
  omega

/-- The words of the challenge whose indices are in a list are written. -/
def chalWrites (w : Nat → Word) (l : List Nat) : State := s.each l fun u n => u.wword (Reg.SEC_DEBUG_CHAL n) (w n)

theorem rword_chalWrites (w : Nat → Word) (l : List Nat) (k : Nat) :
    (s.chalWrites w l).rword (Reg.SEC_DEBUG_CHAL k) = if k ∈ l then w k else s.rword (Reg.SEC_DEBUG_CHAL k) := by
  induction l generalizing s with
  | nil => simp [chalWrites, each]
  | cons n l ih =>
    refine (ih (s.wword _ (w n))).trans ?_
    rw [rword_wword]
    simp only [secDebugChal_inj, List.mem_cons]
    by_cases hl : k ∈ l <;> by_cases hn : k = n <;> simp [hl, hn]

/-- Every register below the challenge's words keeps its fields. -/
theorem rf_chalWrites (w : Nat → Word) (l : List Nat) {f : Fld} (hf : f.addr < Reg.SEC_DEBUG_CHAL 0) : (s.chalWrites w l).rf f = s.rf f := by
  refine each_keep (fun u => u.rf f) _ (fun u n => ?_) l s
  have hne : f.addr ≠ Reg.SEC_DEBUG_CHAL n := by
    unfold Reg.SEC_DEBUG_CHAL at hf ⊢
    omega
  unfold rf
  rw [rword_wword_of_ne _ _ hne]

theorem core_chalWrites (w : Nat → Word) (l : List Nat) : { s.chalWrites w l with regs := s.regs } = s := by
  unfold chalWrites
  exact each_keep (fun u => { u with regs := s.regs }) (fun u n => u.wword (Reg.SEC_DEBUG_CHAL n) (w n)) (fun _ _ => rfl) l s

@[simp] theorem sec_chalWrites (w : Nat → Word) (l : List Nat) : (s.chalWrites w l).sec = s.sec :=
  (congrArg State.sec (s.core_chalWrites w l) :)
@[simp] theorem draws_chalWrites (w : Nat → Word) (l : List Nat) : (s.chalWrites w l).draws = s.draws :=
  (congrArg State.draws (s.core_chalWrites w l) :)
@[simp] theorem flt_chalWrites (w : Nat → Word) (l : List Nat) : (s.chalWrites w l).flt = s.flt :=
  (congrArg State.flt (s.core_chalWrites w l) :)
@[simp] theorem tim_chalWrites (w : Nat → Word) (l : List Nat) : (s.chalWrites w l).tim = s.tim :=
  (congrArg State.tim (s.core_chalWrites w l) :)

theorem chalVoid_eq : s.chalVoid = (s.chalWrites (fun _ => 0) (List.range 8)).secure fun x => { x with chal := false } := rfl

/-! The token (R151, R152). -/

/-- A token that fails a check: the challenge is void, challenges are shut, and source 0x02D reports. -/
def tokenRefused : State :=
  ((s.chalWrites (fun _ => 0) (List.range 8)).secure fun x => { x with chal := false, chalShut := true }).notify 0x02D 0x0D

theorem tokenCheck_of_fail {sigOk : Bool} (h : (s.tokenOk && sigOk) = false) : s.tokenCheck sigOk = s.tokenRefused := by
  unfold tokenCheck
  rw [h, chalVoid_eq]
  rfl

theorem rword_tokenRefused {n : Nat} (hn : n < 8) : s.tokenRefused.rword (Reg.SEC_DEBUG_CHAL n) = 0 := by
  unfold tokenRefused
  rw [rword_notify, rword_secure, rword_chalWrites, if_pos (List.mem_range.mpr hn)]

theorem rf_tokenRefused {f : Fld} (hf : f.addr < Reg.SEC_DEBUG_CHAL 0) : s.tokenRefused.rf f = s.rf f := by
  unfold tokenRefused
  rw [rf_notify, rf_secure, rf_chalWrites _ _ _ hf]

theorem sec_tokenRefused : s.tokenRefused.sec = { s.sec with chal := false, chalShut := true } := by
  unfold tokenRefused
  rw [sec_notify, sec_secure, sec_chalWrites]

theorem slot_tokenRefused :
    s.tokenRefused.slot 0x02D = some (Slot.event (s.slot 0x02D) 0x0D (Config.free s.draws) s.now) := by
  unfold tokenRefused
  rw [slot_notify]
  unfold slot now
  rw [flt_secure, tim_secure, draws_secure, flt_chalWrites, tim_chalWrites, draws_chalWrites]

/-- No challenge is drawn while challenges are shut (R152). -/
theorem chalRead_of_shut (h : s.sec.chalShut = true) : s.chalRead = (0, s) := by
  unfold chalRead
  rw [h]
  rfl

/-- A drawn challenge stands in its eight words, which follow the draw of the generate request. -/
def chalWords : State :=
  { s.generate.2 with draws := s.generate.2.draws + 8 }.chalWrites (fun n => Config.random (s.generate.2.draws + n)) (List.range 8)

def chalDrawn : State := s.chalWords.secure fun x => { x with chal := true }

theorem draws_chalDrawn : s.chalDrawn.draws = s.generate.2.draws + 8 := by
  unfold chalDrawn chalWords
  rw [draws_secure, draws_chalWrites]

theorem chalRead_of_open (hshut : s.sec.chalShut = false) (hhalt : s.on .SEC_STATUS_DRBG_HALT = false) :
    s.chalRead = (Config.random s.generate.2.draws, s.chalDrawn) := by
  have hword : s.chalWords.rword (Reg.SEC_DEBUG_CHAL 0) = Config.random s.generate.2.draws :=
    (rword_chalWrites _ _ _ 0).trans (if_pos (by decide))
  have hread : s.chalRead = (s.chalWords.rword (Reg.SEC_DEBUG_CHAL 0), s.chalDrawn) := by
    unfold chalRead
    rw [hshut, hhalt]
    exact if_neg Bool.false_ne_true
  rw [hread, hword]

end State

theorem exec_debugTokenCheck {s : State} {q : Sender} (h : s.reaches q Reg.SEC_DEBUG_CMD) (keyOk sigOk : Bool) :
    exec (.debugTokenCheck q keyOk sigOk) s =
      .next (s.did q Reg.SEC_DEBUG_CMD ((s.begun q.req).tokenCheck (keyOk && sigOk))) := by
  have hbit : bitAt (b2n (keyOk && sigOk)) 0 = (keyOk && sigOk) := by cases keyOk && sigOk <;> rfl
  have hgo := keyAct s h (p := (9, 0)) (aux := b2n (keyOk && sigOk)) (key := 0xDB61) (v := 1)
    (g := fun u => if (cmdWord 0xDB61 1).getLsbD 0 then u.tokenCheck (bitAt (b2n (keyOk && sigOk)) 0) else u) (by decide) (by decide)
    (by decide) (by decide) rfl
  rw [hbit] at hgo
  exact hgo

/-- Settles O32: a failed check writes 0 to the eight words, shuts challenges and reports; CHALLENGE_REFUSAL_END opens them again, so
that the next read draws. -/
theorem debugTokenRefused : Obligations.DebugTokenRefused := by
  refine ⟨fun s q keyOk sigOk h => exec_debugTokenCheck h keyOk sigOk, ?refused, ?reopened⟩
  case refused =>
    intro s sigOk h e
    have he : e = s.tokenRefused := s.tokenCheck_of_fail h
    rw [he]
    have hsec := s.sec_tokenRefused
    exact ⟨(congrArg Sec.chal hsec :), fun n => s.rword_tokenRefused, s.rf_tokenRefused (by decide), (congrArg Sec.level hsec :),
      s.slot_tokenRefused, s.tokenRefused.chalRead_of_shut (congrArg Sec.chalShut hsec :)⟩
  case reopened =>
    intro s hawake
    refine ⟨s.acting_of (fun u => u.chalOpen) hawake, rfl, fun hhalt => ?_⟩
    rw [s.chalOpen.chalRead_of_open rfl hhalt]
    rfl

end Sys2Proof.Machine

/-!
PROOFS. The lifecycle (R136, R137), key slots (R144, R146), the DRBG (R149, R150) and attestation (R141, R142).
-/
namespace Sys2Proof.Machine
namespace State

variable (s : State)

/-! The lifecycle. -/

@[simp] theorem flt_begun (q : Requester) : (s.begun q).flt = s.flt := (congrArg State.flt (s.core_begun q) :)
@[simp] theorem draws_begun (q : Requester) : (s.begun q).draws = s.draws := (congrArg State.draws (s.core_begun q) :)
@[simp] theorem tim_begun (q : Requester) : (s.begun q).tim = s.tim := (congrArg State.tim (s.core_begun q) :)
@[simp] theorem slot_begun (q : Requester) (n : Nat) : (s.begun q).slot n = s.slot n := by
  unfold slot
  rw [flt_begun]
@[simp] theorem now_begun (q : Requester) : (s.begun q).now = s.now := by
  unfold now
  rw [tim_begun]

@[simp] theorem lifeAllowed_begun (q : Requester) (t : Nat) : (s.begun q).lifeAllowed t = s.lifeAllowed t := by
  unfold lifeAllowed
  rw [sec_begun]

/-- R136: the host changes no lifecycle, and no requester makes a change that does not exist. -/
theorem lifecycle_refused (q : Sender) {t : Nat} (h : q = .host ∨ s.lifeAllowed t = false) : s.lifecycle q.req t = s.secBlocked := by
  unfold lifecycle
  refine if_neg ?_
  rcases h with rfl | h
  · exact Bool.false_ne_true
  · rw [h, Bool.and_false]
    exact Bool.false_ne_true

theorem lifecycle_allowed {q : Sender} {t : Nat} (hq : q ≠ .host) (h : s.lifeAllowed t = true) : s.lifecycle q.req t = s.lifeBlow t := by
  unfold lifecycle
  rw [h, Bool.and_true]
  refine if_pos ?_
  cases q
  case host => exact absurd rfl hq
  case ccx => rfl
  case debug => rfl

theorem blowing_lifeBlow (t : Nat) : (s.lifeBlow t).sec.blowing = some t := rfl

/-- Entry into RETURNED zeroizes first (R137). -/
theorem lifeBlow_returned : s.lifeBlow 3 = s.zeroize.secure fun x => { x with blowing := some 3 } := rfl

theorem fuse_lifeBlow (t : Nat) : (s.lifeBlow t).sec.fuse = s.sec.fuse := by
  have hsec : (s.lifeBlow t).sec.fuse = (if t = 3 then s.zeroize else s).sec.fuse := rfl
  rw [hsec]
  split
  · exact s.fuse_zeroize
  · rfl

theorem fuseDone_of_blowing {t : Nat} (h : s.sec.blowing = some t) :
    s.fuseDone = s.secure fun x => { x with fuse := x.fuse ||| 2 ^ (t - 1), blowing := none } := by
  unfold fuseDone
  rw [h]

/-! The DRBG: a reseed and a generate request touch only its own state and the count of draws. -/

theorem core_generate : { s.generate.2 with sec := s.sec, draws := s.draws } = s := by
  unfold generate
  dsimp only
  split <;> rfl

theorem mat_generate : s.generate.2.sec.mat = s.sec.mat := by
  unfold generate
  dsimp only
  split <;> rfl

theorem drbgReseed_of_running (h : s.on .SEC_STATUS_DRBG_HALT = false) : s.drbgReseed = s.reseed := by
  unfold drbgReseed
  rw [h]
  rfl

/-- A halted DRBG starts again with a fresh seed. -/
theorem drbgRestart_of_halted (h : s.on .SEC_STATUS_DRBG_HALT = true) : s.drbgRestart = (s.wf .SEC_STATUS_DRBG_HALT 0).reseed := by
  have hclear : (s.wf .SEC_STATUS_DRBG_HALT 0).on .SEC_STATUS_DRBG_HALT = false := by
    rw [on_wf_self _ _ _ (by decide)]
    rfl
  unfold drbgRestart
  rw [if_pos h, drbgReseed_of_running _ hclear]

theorem trngFail_of_committed (h : s.committed = true) : s.trngFail = (s.wf .SEC_STATUS_DRBG_HALT 1).notify 0x028 0x0E := by
  unfold trngFail
  exact if_pos h

theorem chalExpire_of_chal (h : s.sec.chal = true) : s.chalExpire = s.chalVoid := by
  unfold chalExpire
  exact if_pos h

/-! Key slots. -/

/-- The draw of a slot's key, and the state in which it is drawn: of the DRBG, or of an agreed key. -/
def keyDraw (drawn : Bool) : Nat × State := if drawn then s.generateKey else s.draw

theorem keyDraw_fst (drawn : Bool) : (s.keyDraw drawn).1 = if drawn then s.generateKey.1 else s.draws := by cases drawn <;> rfl

theorem core_keyDraw (drawn : Bool) : { (s.keyDraw drawn).2 with sec := s.sec, draws := s.draws } = s := by
  cases drawn
  · rfl
  · exact (congrArg (fun u : State => { u with sec := s.sec, draws := s.draws }) s.reseed.core_generate :)

theorem mat_keyDraw (drawn : Bool) : (s.keyDraw drawn).2.sec.mat = s.sec.mat := by
  cases drawn
  · rfl
  · exact s.reseed.mat_generate

theorem regs_keyDraw (drawn : Bool) : (s.keyDraw drawn).2.regs = s.regs := (congrArg State.regs (s.core_keyDraw drawn) :)

/-- The references to a slot do not follow the DRBG. -/
theorem slotLocked_with_sec (x : Sec) (d k : Nat) : ({ s with sec := x, draws := d } : State).slotLocked k = s.slotLocked k := rfl

theorem slotLocked_keyDraw (drawn : Bool) (k : Nat) : (s.keyDraw drawn).2.slotLocked k = s.slotLocked k := by
  rw [← slotLocked_with_sec _ s.sec s.draws k, core_keyDraw]

/-- A slot that takes a key is valid with the attributes that it is given. -/
theorem slotFill_does (k alg usage : Nat) (lock kek : Bool) (mat : Nat) (husage : usage < 256) : let e := s.slotFill k alg usage lock kek mat
    e.slotValid k = true ∧ e.rf (.SEC_KEY_ATTR_USAGE k) = usage ∧ e.rf (.SEC_KEY_ATTR_ALG k) = alg % 4 ∧
    e.on (.SEC_KEY_ATTR_LOCK k) = lock ∧ e.on (.SEC_KEY_ATTR_KEK k) = kek ∧ spGet (fun _ => 0) e.sec.mat k = mat := by
  intro e
  obtain ⟨w, hw⟩ : ∃ w, w = fldSet (fldSet (fldSet (fldSet (fldSet (s.rword (Reg.SEC_KEY_ATTR k)) 31 1 1) 30 1 (b2n lock)) 29 1 (b2n kek))
    24 2 alg) 16 8 usage := ⟨_, rfl⟩
  have hrf (lo width : Nat) : e.rf ⟨Reg.SEC_KEY_ATTR k, lo, width⟩ = fldGet w lo width :=
    congrArg (fldGet · lo width) ((s.rword_wword_self (Reg.SEC_KEY_ATTR k) _).trans hw.symm)
  have hbit (b : Bool) : (b2n b % 2 ^ 1 == 1) = b := by cases b <;> rfl
  obtain ⟨hvalid, hlock, hkek, halg⟩ : fldGet w 31 1 = 1 % 2 ^ 1 ∧ fldGet w 30 1 = b2n lock % 2 ^ 1 ∧ fldGet w 29 1 = b2n kek % 2 ^ 1 ∧
      fldGet w 24 2 = alg % 2 ^ 2 := by
    simp (disch := decide) only [hw, fldGet_fldSet_of_disjoint, fldGet_fldSet_self, and_self]
  have husg : fldGet w 16 8 = usage := by
    rw [hw, fldGet_fldSet_self _ _ _ _ (by decide)]
    exact Nat.mod_eq_of_lt husage
  exact ⟨beq_iff_eq.mpr ((hrf 31 1).trans hvalid), (hrf 16 8).trans husg, (hrf 24 2).trans halg,
    (congrArg (· == 1) ((hrf 30 1).trans hlock)).trans (hbit lock), (congrArg (· == 1) ((hrf 29 1).trans hkek)).trans (hbit kek),
    spGet_spSet_self _ _ _ _⟩

theorem slotWrite_of_locked {s : State} {k : Nat} (h : s.slotLocked k = true) (alg usage : Nat) (lock kek : Bool) (mat : Nat) :
    s.slotWrite k alg usage lock kek mat = (false, s.notify 0x02B 0x0D) := if_pos h

theorem slotWrite_of_free {s : State} {k : Nat} (h : s.slotLocked k = false) (alg usage : Nat) (lock kek : Bool) (mat : Nat) :
    s.slotWrite k alg usage lock kek mat = (true, s.slotFill k alg usage lock kek mat) := if_neg (Bool.eq_false_iff.mp h)

theorem keySlotWrite_of_restart (h : s.on .TOP_STATE_CCX_RESTART = true) (k alg usage : Nat) (lock drawn : Bool) :
    s.keySlotWrite k alg usage lock drawn = s := by
  unfold keySlotWrite
  exact if_pos h

section
variable {s : State} {k : Nat} {drawn : Bool} (hrestart : s.on .TOP_STATE_CCX_RESTART = false) (hk : k ≠ 255)
  (hdrbg : drawn = false ∨ s.on .SEC_STATUS_DRBG_HALT = false)
include hrestart hk hdrbg

theorem keySlotWrite_of_running (alg usage : Nat) (lock : Bool) : s.keySlotWrite k alg usage lock drawn =
    let d := s.keyDraw drawn
    let w := d.2.slotWrite k alg usage lock false (Config.free d.1)
    if w.1 then w.2.keyStore (8 + k) (d.1 + 1) else w.2 := by
  have hruns : (drawn && s.on .SEC_STATUS_DRBG_HALT) = false := by
    rcases hdrbg with h | h
    · rw [h, Bool.false_and]
    · rw [h, Bool.and_false]
  unfold keySlotWrite
  rw [hrestart, hruns, if_neg Bool.false_ne_true, if_neg hk]
  rfl

/-- A slot that is not locked takes the key. -/
theorem keySlotWrite_fills (alg : Nat) {usage : Nat} (lock : Bool) (husage : usage < 256) (hfree : s.slotLocked k = false) :
    let e := s.keySlotWrite k alg usage lock drawn
    e.slotValid k = true ∧ e.rf (.SEC_KEY_ATTR_USAGE k) = usage ∧ e.rf (.SEC_KEY_ATTR_ALG k) = alg % 4 ∧
    e.on (.SEC_KEY_ATTR_LOCK k) = lock ∧ e.on (.SEC_KEY_ATTR_KEK k) = false ∧
    spGet (fun _ => 0) e.sec.mat k = Config.free (if drawn then s.generateKey.1 else s.draws) := by
  rw [keySlotWrite_of_running hrestart hk hdrbg, ← keyDraw_fst]
  dsimp only
  rw [slotWrite_of_free ((s.slotLocked_keyDraw drawn k).trans hfree)]
  exact (s.keyDraw drawn).2.slotFill_does k alg usage lock false _ husage

/-- R146: a slot that is locked or in use keeps its key, and the write is reported. -/
theorem keySlotWrite_refused (alg usage : Nat) (lock : Bool) (hlocked : s.slotLocked k = true) :
    let e := s.keySlotWrite k alg usage lock drawn
    e.regs = s.regs ∧ e.sec.mat = s.sec.mat ∧ (e.slot 0x02B).map (·.lastKind) = some 0x0D := by
  rw [keySlotWrite_of_running hrestart hk hdrbg]
  dsimp only
  rw [slotWrite_of_locked ((s.slotLocked_keyDraw drawn k).trans hlocked)]
  exact ⟨s.regs_keyDraw drawn, s.mat_keyDraw drawn, lastKind_notify _ _ _⟩

end

/-! Attestation. -/

section
variable {s : State} {r : MgtReq} (h : s.asked 0x0060 r) (hlen : r.params.length = 32)
include h hlen

theorem attest_unavailable (hno : s.sec.life = 3 ∨ s.on .SEC_STATUS_ZEROIZED = true ∨ s.sec.ident = none ∨
    s.on .SEC_STATUS_DRBG_HALT = true) : s.attest = s.mgtReply 8 0 [] := by
  unfold attest
  rw [s.mgtRun_of_asked h, if_pos (decide_eq_true hlen)]
  cases hident : s.sec.ident with
  | none => rfl
  | some id =>
    refine if_pos ?_
    rcases hno with h | h | h | h
    · simp [h]
    · simp [h]
    · exact absurd (hident.symm.trans h) (Option.some_ne_none id)
    · simp [h]

theorem attest_quotes {id : Nat} (hlife : s.sec.life ≠ 3) (hzero : s.on .SEC_STATUS_ZEROIZED = false) (hident : s.sec.ident = some id)
    (hhalt : s.on .SEC_STATUS_DRBG_HALT = false) : s.attest = s.generate.2.mgtReply 0 0
      (wordsOf 76 (s.quoteHead r.params ++ (List.range 96).map (Config.ecSign id (hash48 (s.quoteHead r.params)) s.generate.1))) := by
  unfold attest
  rw [s.mgtRun_of_asked h, if_pos (decide_eq_true hlen)]
  simp only [hident, hlife, hzero, hhalt, decide_false, Bool.or_self, Bool.false_eq_true, if_false]
  rfl

end

end State

/-! The commands. -/

theorem exec_lifecycleCmd {s : State} {q : Sender} (h : s.reaches q Reg.SEC_LIFECYCLE_CMD) (t : Fin 4) :
    exec (.lifecycleCmd q t) s = .next (s.did q Reg.SEC_LIFECYCLE_CMD ((s.begun q.req).lifecycle q.req t)) := by
  have htarget : fldGet (cmdWord 0x9E27 t) 0 2 = t := by revert t; decide
  have hgo := keyAct s h (p := (7, 0)) (aux := 0) (key := 0x9E27) (v := t) (g := fun u => u.lifecycle q.req (fldGet (cmdWord 0x9E27 t) 0 2))
    (by decide) (by decide) (by omega) (by decide) rfl
  rw [htarget] at hgo
  exact hgo

/-- A read of SEC_DEBUG_CHAL[0] draws a challenge and tells its first word. -/
theorem exec_debugChallengeRead {s : State} {q : Sender} (h : s.readable q (Reg.SEC_DEBUG_CHAL 0)) :
    exec (.debugChallengeRead q) s = .next (s.told q s.chalRead.1 s.chalRead.2) := by
  refine s.readCmd_told h (by decide) (by decide) ?_
  unfold State.regRead
  rw [caseAt_readCases s q.req _ (p := (0, 0)) (by decide)]
  rfl

theorem exec_attest {s : State} {r : MgtReq} (h : s.asked 0x0060 r) : exec .attest s = .next (s.after s.attest) := s.acting_of _ h.1

section
variable {s : State} (h : s.awake = true)
include h

theorem exec_fuseWriteDone : exec .fuseWriteDone s = .next (s.after s.fuseDone) := s.acting_of _ h

theorem exec_keySlotWrite (k : Fin 256) (alg : Fin 16) (usage : BitVec 8) (lock drawn : Bool) :
    exec (.keySlotWrite k alg usage lock drawn) s = .next (s.after (s.keySlotWrite k alg usage.toNat lock drawn)) :=
  s.acting_of (fun u => u.keySlotWrite k alg usage.toNat lock drawn) h

theorem exec_challengeExpiry : exec .challengeExpiry s = .next (s.after s.chalExpire) := s.acting_of _ h

theorem exec_trngHealthFail : exec .trngHealthFail s = .next (s.after s.trngFail) := s.acting_of _ h

theorem exec_drbgRestart : exec .drbgRestart s = .next (s.after s.drbgRestart.pairStart) :=
  s.acting_of (fun u => u.drbgRestart.pairStart) h

theorem exec_drbgReseed : exec .drbgReseed s = .next (s.after s.drbgReseed) := s.acting_of _ h

end

/-- The firmware of a restart writes no slot, whether the device is awake or not. -/
theorem exec_keySlotWrite_of_restart {s : State} (h : s.on .TOP_STATE_CCX_RESTART = true) (k : Fin 256) (alg : Fin 16) (usage : BitVec 8)
    (lock drawn : Bool) : exec (.keySlotWrite k alg usage lock drawn) s = .next (s.after s) := by
  cases hawake : s.awake with
  | false => exact s.acting_of_not (fun u => u.keySlotWrite k alg usage.toNat lock drawn) hawake
  | true => exact (exec_keySlotWrite hawake k alg usage lock drawn).trans (by rw [s.keySlotWrite_of_restart h])

/-- Settles O33: each command runs one operation of SEC, and the operation's lemma for the branch that the hypotheses select says what
it leaves. -/
theorem lifecycleKeysAndRandom : Obligations.LifecycleKeysAndRandom := by
  refine ⟨?lifecycle, ?fuse, ?slots, fun s k alg usage lock drawn h => exec_keySlotWrite_of_restart h k alg usage lock drawn, ?expiry, ?fail,
    ?restart, ?reseed, ?challenge, ?attest⟩
  case lifecycle =>
    intro s q t h e
    refine ⟨exec_lifecycleCmd h t, fun hno => ?_, fun hq hallowed => ?_⟩
    · have he : e = (s.begun q.req).secBlocked := State.lifecycle_refused _ q (by rwa [State.lifeAllowed_begun])
      rw [he]
      unfold State.secBlocked
      rw [State.regs_refuse, State.regs_begun, State.sec_refuse, State.sec_begun, slot_refuse, State.slot_begun, State.draws_begun,
        State.now_begun]
      exact ⟨rfl, rfl, rfl⟩
    · have he : e = (s.begun q.req).lifeBlow t := State.lifecycle_allowed _ hq (by rwa [State.lifeAllowed_begun])
      rw [he]
      refine ⟨State.blowing_lifeBlow _ _, (State.fuse_lifeBlow _ _).trans (by rw [State.sec_begun]), fun ht => ?_⟩
      obtain ⟨hmat, hunit, hclass, -⟩ := (s.begun q.req).sec_zeroize
      have hreturned : (s.begun q.req).lifeBlow (3 : Fin 4) = _ := State.lifeBlow_returned _
      rw [ht, hreturned]
      exact ⟨hmat, hunit, hclass⟩
  case fuse =>
    intro s t hawake hblow e
    have he : e = _ := s.fuseDone_of_blowing hblow
    rw [he]
    exact ⟨(exec_fuseWriteDone hawake).trans (by rw [s.fuseDone_of_blowing hblow]), rfl, rfl, rfl, rfl⟩
  case slots =>
    intro s k alg usage lock drawn hawake hrestart hk hdrbg e
    have hk' : (k : Nat) ≠ 255 := fun h => hk (Fin.ext h)
    exact ⟨exec_keySlotWrite hawake k alg usage lock drawn, State.keySlotWrite_fills hrestart hk' hdrbg alg lock usage.isLt,
      State.keySlotWrite_refused hrestart hk' hdrbg alg _ lock⟩
  case expiry =>
    exact fun s hawake hchal => ⟨exec_challengeExpiry hawake, by rw [s.chalExpire_of_chal hchal]; rfl⟩
  case fail =>
    intro s hawake hcommitted
    refine ⟨exec_trngHealthFail hawake, ?_⟩
    rw [s.trngFail_of_committed hcommitted]
    exact ⟨State.on_wf_self _ _ _ (by decide), slot_notify _ _ _⟩
  case restart =>
    intro s hawake hhalt
    refine ⟨exec_drbgRestart hawake, ?_⟩
    rw [s.drbgRestart_of_halted hhalt]
    exact ⟨State.on_wf_self _ _ _ (by decide), rfl, rfl⟩
  case reseed =>
    intro s hawake hhalt
    refine ⟨exec_drbgReseed hawake, ?_⟩
    rw [s.drbgReseed_of_running hhalt]
    exact ⟨rfl, rfl, rfl⟩
  case challenge =>
    intro s q hread hshut hhalt e
    have hdraw := s.chalRead_of_open hshut hhalt
    have he : e = s.chalDrawn := congrArg Prod.snd hdraw
    refine ⟨(exec_debugChallengeRead hread).trans (congrArg (fun w => Host.Outcome.next (s.told q w e)) (congrArg Prod.fst hdraw)), ?_⟩
    rw [he]
    exact ⟨rfl, s.draws_chalDrawn⟩
  case attest =>
    intro s r h hlen
    refine ⟨fun hno => ?_, fun id hlife hzero hident hhalt => ?_⟩
    · rw [exec_attest h, State.attest_unavailable h hlen hno]
    · rw [exec_attest h, State.attest_quotes h hlen hlife hzero hident hhalt]

end Sys2Proof.Machine

/-!
PROOFS. Flow control, preemption verification and rate windows (R165, R166, R168, R275, R366, R473).
-/
namespace Sys2Proof.Machine
namespace State

variable (s : State)

/-! Received PAUSE and PFC frames. -/

theorem pfcReceived_of_up {n : Nat} (h : s.portUp n = true) (vec : Nat) (quanta : List Nat) : s.pfcReceived n vec quanta =
    if s.on (.MAC_FC_CFG_PFC_RX_EN n) then (s.cinc (Ctr.mac n 10)).each ((List.range 8).filter (bitAt vec)) (fun t p =>
      if bitAt (t.rf (.MAC_FC_CFG_PFC_RX_MASK n)) p && !t.isProt n p then t.setPause n p ((quanta[p]?).getD 0 % 65536)
      else t.cinc (Ctr.mac n 11)) else s.cinc (Ctr.mac n 10) := by
  unfold pfcReceived
  dsimp only
  rw [h, on_cinc]
  cases s.on (.MAC_FC_CFG_PFC_RX_EN n) <;> rfl

theorem pauseReceived_of_up {n : Nat} (h : s.portUp n = true) (quanta : Nat) : s.pauseReceived n quanta =
    if s.on (.MAC_FC_CFG_PAUSE_RX_EN n) && !s.on (.MAC_FC_CFG_PFC_RX_EN n) then
      (s.cinc (Ctr.mac n 9)).each ((List.range 8).filter (fun c => !s.isProt n c)) (fun t c => t.setPause n c (quanta % 65536))
    else s.cinc (Ctr.mac n 9) := by
  unfold pauseReceived
  rw [h]
  rfl

/-- Quanta of the pause of each class of a port after one class takes a pause. -/
theorem pause_setPause (n c q k : Nat) :
    spGet (fun _ => 0) (s.setPause n c q).mac.pause k = if k = n * 8 + c then q else spGet (fun _ => 0) s.mac.pause k :=
  spGet_spSet _ _ _ _ _

/-- Quanta of the pause of each class of a port after the classes of a list take one. -/
theorem pause_setPauses (n q c : Nat) (l : List Nat) :
    spGet (fun _ => 0) (s.each l (fun t x => t.setPause n x q)).mac.pause (n * 8 + c) =
      if c ∈ l then q else spGet (fun _ => 0) s.mac.pause (n * 8 + c) := by
  induction l generalizing s with
  | nil => rfl
  | cons x l ih =>
    refine (ih (s.setPause n x q)).trans ?_
    rw [pause_setPause]
    by_cases hc : c = x
    · simp [hc]
    · simp [hc]

/-- A pause touches the ports' own state alone. -/
theorem core_setPauses (n q : Nat) (l : List Nat) : { s.each l (fun t x => t.setPause n x q) with mac := s.mac } = s :=
  each_keep (fun t => { t with mac := s.mac }) (fun t x => t.setPause n x q) (fun _ _ => rfl) l s

/-- R166: what a PAUSE frame leaves of a port in UP. -/
theorem pauseReceived_does {n quanta : Nat} (h : s.portUp n = true) (hq : quanta < 65536) : let e := s.pauseReceived n quanta
    e.cget (Ctr.mac n 9) = (s.cget (Ctr.mac n 9) + 1) % 2 ^ 64 ∧ e.regs = s.regs ∧ ∀ c, c < 8 →
      spGet (fun _ => 0) e.mac.pause (n * 8 + c) =
        if (s.on (.MAC_FC_CFG_PAUSE_RX_EN n) && !s.on (.MAC_FC_CFG_PFC_RX_EN n)) && !s.isProt n c then quanta
        else spGet (fun _ => 0) s.mac.pause (n * 8 + c) := by
  intro e
  have he : e = _ := s.pauseReceived_of_up h quanta
  rw [he, Nat.mod_eq_of_lt hq]
  cases s.on (.MAC_FC_CFG_PAUSE_RX_EN n) && !s.on (.MAC_FC_CFG_PFC_RX_EN n) with
  | false => exact ⟨cget_cadd_self _ _ _, rfl, fun _ _ => rfl⟩
  | true =>
    have hcore := (s.cinc (Ctr.mac n 9)).core_setPauses n quanta ((List.range 8).filter (fun c => !s.isProt n c))
    refine ⟨?_, (congrArg State.regs hcore :), fun c hc => ?_⟩
    · exact (congrArg (fun t => t.cget (Ctr.mac n 9)) hcore).trans (cget_cadd_self _ _ _)
    · refine (pause_setPauses _ _ _ _ _).trans ?_
      simp only [List.mem_filter, List.mem_range, hc, true_and, Bool.true_and]
      rfl

/-! PFC and PAUSE frames that are sent. -/

section
variable {s : State} {n : Nat} (hidle : s.onWire n = none)
include hidle

theorem ctlFree_of_idle : s.ctlFree n = true := by
  unfold ctlFree
  rw [hidle]

theorem ctlClear_of_idle : s.ctlClear n = s := by
  unfold ctlClear
  rw [hidle]

theorem pfcSend_of_idle (hdue : spGet (fun _ => false) s.cel.pfcDue n = true) (hup : s.portUp n = true) (hfwd : s.fwdEn = true) :
    s.pfcSend n = (s.sendXoff n (spGet (fun _ => 0) s.cel.xoffLeft n)).cellar fun x =>
      { x with pfcDue := spSet (fun _ => false) x.pfcDue n false, xoffLeft := spSet (fun _ => 0) x.xoffLeft n 0 } := by
  unfold pfcSend
  rw [hdue, hup, hfwd, ctlFree_of_idle hidle, ctlClear_of_idle hidle]
  rfl

theorem pauseRepeat_of_idle (hq : s.rf .SWC_CFG_QUANTA ≠ 0) (hx : s.rf (.SWC_PORT_STATUS_XOFF_OUT n) ≠ 0) (hup : s.portUp n = true)
    (hfwd : s.fwdEn = true) : s.pauseRepeat n = s.sendXoff n 0 := by
  unfold pauseRepeat
  rw [hup, hfwd, ctlFree_of_idle hidle, ctlClear_of_idle hidle, decide_eq_true hq, decide_eq_true hx]
  rfl

end

theorem regs_sendXoff (n left : Nat) : (s.sendXoff n left).regs = s.regs := by
  unfold sendXoff
  dsimp only
  split <;> rfl

/-- R275: a port of FC_MODE 2 sends a PFC frame with the classes in XOFF, and those that have left it with no quanta. -/
theorem out_sendXoff_pfc {n : Nat} (h : s.rf (.SWC_PORT_FC_MODE n) = 2) (left : Nat) : (s.sendXoff n left).out =
    .macControl n true (s.rf (.SWC_PORT_STATUS_XOFF_OUT n) ||| left)
      ((List.range 8).map (fun c => if bitAt (s.rf (.SWC_PORT_STATUS_XOFF_OUT n)) c then s.rf .SWC_CFG_QUANTA else 0)) :: s.out := by
  unfold sendXoff
  dsimp only
  rw [rf_cinc, if_pos h]
  rfl

/-! Preemption verification (R168). -/

section
variable {s : State} {n : Nat} (hup : s.portUp n = true) (hfwd : s.fwdEn = true) (hen : s.on (.MAC_PREEMPT_EN n) = true)
  (hdis : s.on (.MAC_PREEMPT_VERIFY_DIS n) = false)
  (hst : s.rf (.MAC_PREEMPT_VERIFY_STATUS n) = 1 ∨ s.rf (.MAC_PREEMPT_VERIFY_STATUS n) = 2)
include hup hfwd hen hdis hst

theorem verifyTimer_of_verifying : s.verifyTimer n =
    if spGet (fun _ => 0) s.mac.tries n < 3 then
      ((s.emit (.verify n false)).wf (.MAC_PREEMPT_VERIFY_STATUS n) 2).ports fun x =>
        { x with tries := spSet (fun _ => 0) x.tries n (spGet (fun _ => 0) s.mac.tries n + 1) }
    else ((s.wf (.MAC_PREEMPT_VERIFY_STATUS n) 4).wf (.MAC_INT_PREEMPT_FAIL n) 1).notify (0x083 + 4 * n) 0x06 := by
  unfold verifyTimer
  refine if_pos ?_
  rw [hup, hfwd, hen, hdis]
  simpa using hst

theorem verifyTimer_sends (hk : spGet (fun _ => 0) s.mac.tries n < 3) : let e := s.verifyTimer n
    e.rf (.MAC_PREEMPT_VERIFY_STATUS n) = 2 ∧ e.out = .verify n false :: s.out ∧
    spGet (fun _ => 0) e.mac.tries n = spGet (fun _ => 0) s.mac.tries n + 1 := by
  rw [verifyTimer_of_verifying hup hfwd hen hdis hst, if_pos hk]
  exact ⟨rf_wf_self _ (.MAC_PREEMPT_VERIFY_STATUS n) 2 (by decide : 0 + 3 ≤ 32), rfl, spGet_spSet_self (fun _ => 0) s.mac.tries n (spGet (fun _ => 0) s.mac.tries n + 1)⟩

theorem verifyTimer_fails (hk : 3 ≤ spGet (fun _ => 0) s.mac.tries n) : let e := s.verifyTimer n
    e.rf (.MAC_PREEMPT_VERIFY_STATUS n) = 4 ∧ e.rf (.MAC_INT_PREEMPT_FAIL n) = 1 := by
  have hreg : Reg.MAC_PREEMPT n ≠ Reg.MAC_INT n := by
    unfold Reg.MAC_PREEMPT Reg.MAC_INT
    omega
  rw [verifyTimer_of_verifying hup hfwd hen hdis hst, if_neg (by omega)]
  dsimp only
  rw [rf_notify, rf_notify, rf_wf_of_ne _ (.MAC_INT_PREEMPT_FAIL n) _ _ (.inl hreg)]
  exact ⟨rf_wf_self _ _ _ (by decide : 0 + 3 ≤ 32), rf_wf_self _ _ _ (by decide : 4 + 1 ≤ 32)⟩

end

theorem verifyResponse_does {n : Nat} (hup : s.portUp n = true) (hst : s.rf (.MAC_PREEMPT_VERIFY_STATUS n) = 2) :
    (s.verifyResponse n).rf (.MAC_PREEMPT_VERIFY_STATUS n) = 3 := by
  unfold verifyResponse
  rw [if_pos (by simp [hup, hst])]
  exact rf_wf_self _ _ _ (by decide : 0 + 3 ≤ 32)

/-! Rate windows (R366, R473). -/

/-- A window that ends clears the level where the count did not exceed the threshold, and counts from 0 again. -/
theorem rateWindow_does (src thr : Nat) : let e := s.rateWindow src thr
    e.regs = s.regs ∧ spGet (fun _ => 0) e.flt.rate src = 0 ∧
    (thr = 0 ∨ spGet (fun _ => 0) s.flt.rate src ≤ thr → e.level src = false) ∧
    (thr ≠ 0 → thr < spGet (fun _ => 0) s.flt.rate src → e.level src = s.level src) := by
  unfold rateWindow
  by_cases h : thr = 0 ∨ spGet (fun _ => 0) s.flt.rate src ≤ thr
  · dsimp only
    rw [if_pos (by simpa using h)]
    exact ⟨s.regs_lower src, spGet_spSet_self (fun _ => 0) (s.lower src).flt.rate src 0, fun _ => s.level_lower src, fun h0 hlt => by omega⟩
  · dsimp only
    rw [if_neg (by simpa using h)]
    exact ⟨rfl, spGet_spSet_self (fun _ => 0) s.flt.rate src 0, fun h' => absurd h' h, fun _ _ => rfl⟩

/-- A Pan's window leads to no isolation while ICV_ISOLATE is 0. -/
theorem panWindow_of_not_isolating (p : Nat) (h : s.on .CPH_CFG_ICV_ISOLATE = false) :
    ∃ g : Cph → Cph, s.panWindow p = (s.cipher g).rateWindow (0x1C2 + p) (s.rf .CPH_RATE_CFG_PAN_THR) := by
  unfold panWindow
  simp only [h, Bool.false_and, Bool.false_eq_true, if_false]
  exact ⟨_, rfl⟩

theorem windowEnd_pan {p : Nat} (h : p < 4) : s.windowEnd (0x1C2 + p) = s.panWindow p := by
  unfold windowEnd
  rw [if_neg (by omega), if_pos (by simp; omega), Nat.add_sub_cancel_left]

theorem rateThr_pan {p : Nat} (h : p < 4) : s.rateThr (0x1C2 + p) = some (s.rf .CPH_RATE_CFG_PAN_THR) := by
  unfold rateThr
  rw [if_neg (by simp; omega), if_neg (by simp; omega), if_pos (by simp; omega)]

/-- A window that ends without isolating a Pan is that of the source and its threshold. -/
theorem windowEnd_of_thr {src t : Nat} (h124 : src ≠ 0x124) (ht : s.rateThr src = some t)
    (hpan : src < 0x1C2 ∨ 0x1C5 < src ∨ s.on .CPH_CFG_ICV_ISOLATE = false) :
    ∃ g : Cph → Cph, s.windowEnd src = (s.cipher g).rateWindow src t := by
  by_cases hsrc : 0x1C2 ≤ src ∧ src ≤ 0x1C5
  · obtain ⟨p, rfl⟩ := Nat.exists_eq_add_of_le hsrc.1
    have hp : p < 4 := by omega
    rw [s.rateThr_pan hp] at ht
    rw [s.windowEnd_pan hp, ← Option.some.inj ht]
    exact s.panWindow_of_not_isolating p (hpan.resolve_left (by omega) |>.resolve_left (by omega))
  · refine ⟨id, ?_⟩
    unfold windowEnd
    rw [if_neg h124, if_neg (by simpa using hsrc), ht]
    rfl

end State

/-! The commands. -/

section
variable {s : State} (h : s.awake = true)
include h

theorem exec_pfcFrameReceived (n : Fin 24) (vec : BitVec 8) (quanta : List Nat) :
    exec (.pfcFrameReceived n vec quanta) s = .next (s.after (s.pfcReceived n vec.toNat quanta)) :=
  s.acting_of (fun u => u.pfcReceived n vec.toNat quanta) h

theorem exec_pauseFrameReceived (n : Fin 24) (quanta : BitVec 16) :
    exec (.pauseFrameReceived n quanta) s = .next (s.after (s.pauseReceived n quanta.toNat)) :=
  s.acting_of (fun u => u.pauseReceived n quanta.toNat) h

theorem exec_pauseTimerExpiry (n : Fin 24) (c : Fin 8) : exec (.pauseTimerExpiry n c) s = .next (s.after (s.setPause n c 0)) :=
  s.acting_of (fun u => u.setPause n c 0) h

theorem exec_pfcFrameSend (n : Fin 24) : exec (.pfcFrameSend n) s = .next (s.after (s.pfcSend n)) :=
  s.acting_of (fun u => u.pfcSend n) h

theorem exec_pauseRepeatTimer (n : Fin 24) : exec (.pauseRepeatTimer n) s = .next (s.after (s.pauseRepeat n)) :=
  s.acting_of (fun u => u.pauseRepeat n) h

theorem exec_preemptVerifyTimer (n : Fin 24) : exec (.preemptVerifyTimer n) s = .next (s.after (s.verifyTimer n)) :=
  s.acting_of (fun u => u.verifyTimer n) h

theorem exec_preemptVerifyResponse (n : Fin 24) : exec (.preemptVerifyResponse n) s = .next (s.after (s.verifyResponse n)) :=
  s.acting_of (fun u => u.verifyResponse n) h

theorem exec_rateWindowExpiry (src : Fin 768) : exec (.rateWindowExpiry src) s = .next (s.after (s.windowEnd src)) :=
  s.acting_of (fun u => u.windowEnd src) h

end

/-- Settles O35: each command runs one operation of the port, whose lemma says what it leaves under the hypotheses; a window that
ends is the source's own, and a Pan's while ICV_ISOLATE is 1. -/
theorem pauseAndPreemption : Obligations.PauseAndPreemption := by
  refine ⟨?pfc, ?pause, ?expiry, ?send, ?repeats, fun s n left hmode => s.out_sendXoff_pfc hmode left, ?verify, ?response, ?isolate, ?window⟩
  case pfc =>
    intro s n vec quanta hawake hup
    exact (exec_pfcFrameReceived hawake n vec quanta).trans (by rw [s.pfcReceived_of_up hup])
  case pause =>
    intro s n quanta hawake hup
    obtain ⟨hcount, hregs, hpause⟩ := s.pauseReceived_does hup quanta.isLt
    refine ⟨_, exec_pauseFrameReceived hawake n quanta, hcount, hregs, fun c hc => ⟨fun hrx hpfc hprot => ?_, fun hno => ?_⟩⟩
    · rw [hpause c hc, hrx, hpfc, hprot]
      rfl
    · rw [hpause c hc]
      refine if_neg ?_
      rcases hno with h | h | h <;> simp [h]
  case expiry =>
    intro s n c hawake
    refine ⟨_, exec_pauseTimerExpiry hawake n c, ?_, fun k hk => ?_⟩
    · unfold State.paused
      rw [State.pause_setPause, if_pos rfl]
      rfl
    · rw [State.pause_setPause, if_neg hk]
  case send =>
    intro s n hawake hdue hup hfwd hidle
    refine ⟨_, exec_pfcFrameSend hawake n, ?_⟩
    rw [State.pfcSend_of_idle hidle hdue hup hfwd]
    exact ⟨s.regs_sendXoff _ _, spGet_spSet_self (fun _ => false) (s.sendXoff _ _).cel.pfcDue n false, rfl, rfl⟩
  case repeats =>
    intro s n hawake hq hx hup hfwd hidle
    rw [exec_pauseRepeatTimer hawake, State.pauseRepeat_of_idle hidle hq hx hup hfwd]
  case verify =>
    intro s n hawake hup hfwd hen hdis hst
    exact ⟨_, exec_preemptVerifyTimer hawake n, State.verifyTimer_sends hup hfwd hen hdis hst,
      State.verifyTimer_fails hup hfwd hen hdis hst⟩
  case response =>
    intro s n hawake hup hst
    exact ⟨_, exec_preemptVerifyResponse hawake n, s.verifyResponse_does hup hst⟩
  case isolate =>
    intro s p hawake _
    have hsrc : ((Fin.ofNat 768 (0x1C2 + p) : Fin 768) : Nat) = 0x1C2 + p := Nat.mod_eq_of_lt (by omega)
    rw [exec_rateWindowExpiry hawake, hsrc, s.windowEnd_pan p.isLt]
  case window =>
    intro s src t hawake h124 ht hpan
    obtain ⟨g, hend⟩ := s.windowEnd_of_thr h124 ht hpan
    refine ⟨_, exec_rateWindowExpiry hawake src, ?_⟩
    rw [hend]
    exact (s.cipher g).rateWindow_does src t

end Sys2Proof.Machine

/-!
PROOFS. What the fall of a link leaves of the references and of the port's link state (R157, R160, R162, R279, R281).
-/
namespace Sys2Proof.Machine
namespace State

/-- The references that are lost, and the link state of port `n`. -/
def linkView (s : State) (n : Nat) : Nat × Nat := (s.mac.refLost, s.linkState n)

variable (s : State)

theorem linkView_wf {n : Nat} {f : Fld} (v : Nat) (hf : f.addr ≠ Reg.MAC_LINK_STATUS n ∨ 3 ≤ f.lo) :
    (s.wf f v).linkView n = s.linkView n :=
  Prod.ext rfl (rf_wf_of_ne s f (.MAC_LINK_STATUS_STATE n) v (hf.imp Ne.symm .inl))

/-- A branch leaves what both of its arms leave. -/
theorem linkView_ite {n : Nat} {v : Nat × Nat} {c : Prop} [Decidable c] {a b : State} (ha : a.linkView n = v) (hb : b.linkView n = v) :
    (if c then a else b).linkView n = v := by
  split
  · exact ha
  · exact hb

theorem linkView_notify (n src kind : Nat) : (s.notify src kind).linkView n = s.linkView n := rfl
theorem linkView_cinc (n a : Nat) : (s.cinc a).linkView n = s.linkView n := rfl
theorem linkView_clearPause (n m : Nat) : (s.clearPause m).linkView n = s.linkView n := rfl
theorem linkView_cellar (n : Nat) (g : Cel → Cel) : (s.cellar g).linkView n = s.linkView n := rfl

theorem linkView_each {α : Type} {n : Nat} {g : State → α → State} (l : List α) (h : ∀ u x, (g u x).linkView n = u.linkView n) :
    (s.each l g).linkView n = s.linkView n := each_keep (linkView · n) g h l s

theorem linkView_macError (n m : Nat) : (s.macError m).linkView n = s.linkView n := by
  have hrate : (s.rateEvent (0x081 + 4 * m) (s.rf (.MAC_LINK_CFG_ERR_THR m))).linkView n = s.linkView n :=
    Prod.ext (congrArg Mac.refLost (s.mac_rateEvent _ _)) (s.rf_rateEvent _ _ _)
  have hint : Reg.MAC_INT m ≠ Reg.MAC_LINK_STATUS n := by
    unfold Reg.MAC_INT Reg.MAC_LINK_STATUS
    omega
  exact linkView_ite ((linkView_wf _ 1 (.inl hint)).trans hrate) hrate

theorem linkView_preemptInit (n m : Nat) : (s.preemptInit m).linkView n = s.linkView n := by
  have hpre : Reg.MAC_PREEMPT m ≠ Reg.MAC_LINK_STATUS n := by
    unfold Reg.MAC_PREEMPT Reg.MAC_LINK_STATUS
    omega
  exact (linkView_wf _ _ (.inl hpre)).trans rfl

/-! FDB walks (R267, R281). -/

theorem linkView_fdbCheck (n i : Nat) : (s.fdbCheck i).2.linkView n = s.linkView n := by
  have hread : (s.eccRead .fdb i 0x142 none).2.linkView n = s.linkView n := by
    unfold eccRead
    dsimp only
    split <;> rfl
  unfold fdbCheck
  dsimp only
  split <;> exact hread

theorem linkView_walkTo (n : Nat) (w : FdbWalk) (bound : Nat) : (s.walkTo w bound).linkView n = s.linkView n := by
  refine s.linkView_each _ fun u x => ?_
  dsimp only
  split
  · exact linkView_ite (u.linkView_fdbCheck n x.1) (u.linkView_fdbCheck n x.1)
  · exact u.linkView_fdbCheck n x.1

theorem linkView_walkStart (n port : Nat) (all cmd : Bool) : (s.walkStart port all cmd).linkView n = s.linkView n := rfl

theorem linkView_walksUp (n : Nat) : s.walksUp.linkView n = s.linkView n :=
  s.linkView_each _ fun u w => u.linkView_walkTo n w _

/-! Frames and copies that go with the link. -/

section
variable {n : Nat} (hn : n < 24)
include hn

theorem addr_ne_linkStatus {a : Nat} (ha : a < 0x100000 ∨ 0x140000 ≤ a) : a ≠ Reg.MAC_LINK_STATUS n := by
  unfold Reg.MAC_LINK_STATUS
  omega

theorem linkState_of_control {s t : State} (h : s.control = t.control) : s.linkState n = t.linkState n := by
  refine rf_of_control h (.MAC_LINK_STATUS_STATE n) ?_
  show Reg.MAC_LINK_STATUS n < controlTop
  unfold Reg.MAC_LINK_STATUS controlTop
  omega

theorem linkView_congr {s t : State} (hb : s.beyondCel = t.beyondCel) (hc : s.control = t.control) : s.linkView n = t.linkView n :=
  Prod.ext (congrArg (fun u => u.mac.refLost) hb :) (linkState_of_control hn hc)

theorem linkView_modFrame (k : Nat) (g : Frame → Frame) : (s.modFrame k g).linkView n = s.linkView n :=
  linkView_congr hn (s.beyondCel_modFrame k g) (s.control_modFrame k g)

theorem linkView_dropRef (k : Nat) : (s.dropRef k).linkView n = s.linkView n :=
  linkView_congr hn (s.beyondCel_dropRef k) (s.control_dropRef k)

theorem linkView_settle (k : Nat) : (s.settle k).linkView n = s.linkView n :=
  linkView_congr hn (s.beyondCel_settle k) (s.control_settle k)

theorem linkView_giveDesc : s.giveDesc.linkView n = s.linkView n :=
  linkView_congr hn s.beyondCel_giveDesc s.control_giveDesc

theorem linkView_releaseCopy (c : Copy) : (s.releaseCopy c).linkView n = s.linkView n :=
  linkView_congr hn (s.beyondCel_releaseCopy c) (s.control_releaseCopy c)

theorem linkView_releaseOwn (k : Nat) : (s.releaseOwn k).linkView n = s.linkView n := by
  unfold releaseOwn
  split
  · exact linkView_ite ((linkView_settle _ hn k).trans (s.linkView_giveDesc hn)) rfl
  · rfl

theorem linkView_unstage (e : Nat) (p : Copy → Bool) {g : State → State} (hg : ∀ u, (g u).linkView n = u.linkView n) :
    (s.unstage e p g).linkView n = s.linkView n := by
  refine s.linkView_each _ fun u k => ?_
  split
  · exact linkView_ite ((linkView_releaseCopy _ hn _).trans (hg _)) rfl
  · rfl

theorem linkView_stomp (c : Copy) : (s.stomp c).linkView n = s.linkView n :=
  (linkView_releaseCopy _ hn c).trans (linkView_ite rfl rfl)

theorem linkView_removeCopies (k : Nat) : (s.removeCopies k).linkView n = s.linkView n := by
  unfold removeCopies
  dsimp only
  refine (linkView_each _ _ fun u e => ?_).trans (linkView_each _ _ fun u c => u.linkView_releaseCopy hn c)
  have hunstage := u.linkView_unstage hn e (fun c => c.fid = k) (g := id) fun _ => rfl
  generalize u.unstage e (fun c => c.fid = k) id = v at hunstage ⊢
  have hwire : (match v.onWire e with
      | some c => if c.fid = k then (if e < 24 then (v.setWire e none).stomp c else (v.setWire e none).releaseCopy c) else v
      | none => v).linkView n = u.linkView n := by
    split
    · exact linkView_ite (linkView_ite ((linkView_stomp _ hn _).trans hunstage) ((linkView_releaseCopy _ hn _).trans hunstage)) hunstage
    · exact hunstage
  split
  · exact linkView_ite ((linkView_stomp _ hn _).trans hwire) hwire
  · exact hwire

theorem linkView_killFrame (k : Nat) : (s.killFrame k).linkView n = s.linkView n := by
  unfold killFrame
  split
  · rfl
  · dsimp only
    rw [linkView_settle _ hn, linkView_releaseOwn _ hn, linkView_dropRef _ hn, linkView_removeCopies _ hn]
    rfl

theorem linkView_cutReceive (m : Nat) : (s.cutReceive m).linkView n = s.linkView n := by
  refine s.linkView_each _ fun u x => ?_
  rw [linkView_killFrame _ hn, linkView_macError]
  exact u.linkView_modFrame hn _ _

theorem linkView_cutTransmit (m : Nat) : (s.cutTransmit m).linkView n = s.linkView n := by
  have hcut (u : State) (c : Option Copy) :
      (match c with | some c => (u.cinc (Ctr.mac m 23)).releaseCopy c | none => u).linkView n = u.linkView n := by
    cases c with
    | none => rfl
    | some c => exact linkView_releaseCopy _ hn c
  exact (hcut _ _).trans ((hcut _ _).trans rfl)

theorem linkView_flushQueues (m : Nat) : (s.flushQueues m).linkView n = s.linkView n := by
  refine (linkView_each _ _ fun u c => ?_).trans (s.linkView_unstage hn m _ fun _ => rfl)
  exact linkView_each _ _ fun v x => linkView_releaseCopy _ hn x

/-- R162: what follows a port's leaving UP is neither a change of its link state nor of a reference. -/
theorem linkView_exitUp : (s.exitUp n).linkView n = s.linkView n := by
  have hint : Reg.MAC_INT n ≠ Reg.MAC_LINK_STATUS n := by
    unfold Reg.MAC_INT Reg.MAC_LINK_STATUS
    omega
  have hxoff : Reg.SWC_PORT_STATUS n ≠ Reg.MAC_LINK_STATUS n :=
    addr_ne_linkStatus hn (.inr (Nat.le_add_right_of_le (by decide)))
  obtain ⟨t, ht⟩ : ∃ t, t = ((s.cutTransmit n).cutReceive n).preemptInit n := ⟨_, rfl⟩
  have hcut : t.linkView n = s.linkView n := by
    rw [ht, linkView_preemptInit, linkView_cutReceive _ hn, linkView_cutTransmit _ hn]
  obtain ⟨u, hu⟩ : ∃ u, u = State.wf ((((((t.wf (.MAC_LINK_STATUS_CHANGE n) 1).wf (.MAC_INT_LINK_DOWN n) 1).notify (0x080 + 4 * n) 0x10).cinc
      (Ctr.mac n 27)).clearPause n)) (.SWC_PORT_STATUS_XOFF_OUT n) 0 := ⟨_, rfl⟩
  have hflags : u.linkView n = s.linkView n := by
    rw [hu, linkView_wf _ _ (.inl hxoff), linkView_clearPause, linkView_cinc, linkView_notify, linkView_wf _ _ (.inl hint),
      linkView_wf _ _ (.inr (by decide : 3 ≤ 31)), hcut]
  have hflushed (g : Cel → Cel) : ((u.cellar g).flushQueues n).linkView n = s.linkView n := by
    rw [linkView_flushQueues _ hn, linkView_cellar, hflags]
  unfold exitUp
  rw [← ht]
  dsimp only
  rw [← hu]
  refine linkView_ite ?_ (hflushed _)
  rw [linkView_walkStart, linkView_walksUp, hflushed]

/-- R160: the link state that a port is taken to. -/
theorem linkView_linkTo (st : Nat) : (s.linkTo n st).linkView n = (s.mac.refLost, st % 8) := by
  have hset : (s.setLink n st).linkView n = (s.mac.refLost, st % 8) :=
    Prod.ext rfl (rf_wf_self s (.MAC_LINK_STATUS_STATE n) st (by decide : 0 + 3 ≤ 32))
  obtain ⟨t, ht⟩ : ∃ t, t = if s.portUp n then (s.setLink n st).exitUp n else s.setLink n st := ⟨_, rfl⟩
  have hleft : t.linkView n = (s.mac.refLost, st % 8) := by
    rw [ht]
    exact linkView_ite ((linkView_exitUp _ hn).trans hset) hset
  obtain ⟨u, hu⟩ : ∃ u, u = (t.wf (.MAC_LINK_STATUS_SPEED n) 0).ports fun x => { x with locked := maskSet x.locked n false } := ⟨_, rfl⟩
  have hspeed : u.linkView n = (s.mac.refLost, st % 8) := by
    rw [hu]
    exact (linkView_wf t 0 (.inr (by decide : 3 ≤ 4))).trans hleft
  have hphy : (if 12 ≤ n then u.wf (.PHY_STATUS_TC10_STATE n) 0 else u).linkView n = (s.mac.refLost, st % 8) :=
    linkView_ite ((linkView_wf u 0 (.inr (by decide : 3 ≤ 4))).trans hspeed) hspeed
  unfold linkTo
  rw [← ht]
  dsimp only
  rw [← hu]
  exact linkView_ite hphy hphy

end

end State
end Sys2Proof.Machine

/-!
PROOFS. The PHYs, TC10 sleep and wake, and the MDIO master (R160, R169 to R173).
-/
namespace Sys2Proof.Machine
namespace State

variable (s : State)

@[simp] theorem mac_begun (q : Requester) : (s.begun q).mac = s.mac := (congrArg State.mac (s.core_begun q) :)
@[simp] theorem out_begun (q : Requester) : (s.begun q).out = s.out := (congrArg State.out (s.core_begun q) :)
@[simp] theorem linkState_begun (q : Requester) (n : Nat) : (s.begun q).linkState n = s.linkState n := s.rf_begun q _
@[simp] theorem portUp_begun (q : Requester) (n : Nat) : (s.begun q).portUp n = s.portUp n := by
  unfold portUp
  rw [rf_begun]

/-- What an awake device is not: held in cold reset, asleep, or in a sleep entry that has stopped the units. -/
theorem awake_iff : s.awake = true ↔ (s.pwr.porst = false ∧ s.pwr.asleep = 0) ∧ s.resetHeld = false ∧ s.pwr.wake = .none ∧
    s.unitsStopped = false := by
  unfold awake powered
  simp only [Bool.and_eq_true, Bool.not_eq_true', decide_eq_true_eq, and_assoc]

/-! PHYs. -/

theorem sqiUpdate_does {p sqi : Nat} (hup : s.portUp p = true) (hsqi : sqi < 8) : (s.sqiUpdate p sqi).rf (.PHY_STATUS_SQI p) = sqi := by
  unfold sqiUpdate
  rw [if_pos hup, rf_wf_self _ _ _ (by decide : 8 + 3 ≤ 32)]
  exact Nat.mod_eq_of_lt hsqi

/-- R170: a coordinator reports a beacon that it did not send. -/
theorem plcaConflict_does {p : Nat} (hen : s.on (.PHY_PLCA_EN p) = true) (hid : s.rf (.PHY_PLCA_NODE_ID p) = 0) : let e := s.plcaConflict p
    e.rf (.PHY_PLCA_STATUS_CONFLICT p) = 1 ∧
    e.slot (0x083 + 4 * p) = some (Slot.event (s.slot (0x083 + 4 * p)) 0x06 (Config.free s.draws) s.now) := by
  unfold plcaConflict
  rw [if_pos (by simp [hen, hid])]
  exact ⟨rf_wf_self s (.PHY_PLCA_STATUS_CONFLICT p) 1 (by decide : 30 + 1 ≤ 32), slot_notify _ _ _⟩

/-! TC10 (R171). -/

theorem tc10Request_of_up {p : Nat} (h : s.portUp p = true) :
    s.tc10Request p = (s.emit (.tc10Sleep p)).wf (.PHY_STATUS_TC10_STATE p) 1 := if_pos h

theorem tc10Request_of_not_up {p : Nat} (h : s.portUp p = false) : s.tc10Request p = s := if_neg (by simp [h])

theorem tc10Wake_of_asleep {p : Nat} (h : s.linkState p = 5) : s.tc10Wake p = (s.emit (.tc10Wake p)).tc10Training p := if_pos h

theorem tc10Wake_of_not_asleep {p : Nat} (h : s.linkState p ≠ 5) : s.tc10Wake p = s := if_neg h

theorem tc10Asleep_of_requested {p : Nat} (hup : s.portUp p = true) (hreq : s.rf (.PHY_STATUS_TC10_STATE p) = 1) (ack : Bool) :
    s.tc10Asleep p ack =
      if ack then (s.linkTo p 5).wf (.PHY_STATUS_TC10_STATE p) 2
      else ((s.linkTo p 5).wf (.PHY_STATUS_TC10_STATE p) 2).wf (.PHY_STATUS_TC10_NOACK p) 1 := by
  unfold tc10Asleep
  exact if_pos (by simp [hup, hreq])

/-- A wake-up detected on a port in SLEEP of a device that does not sleep: the wake-ups it forwards leave first. -/
theorem tc10Detect_of_asleep {p : Nat} (hs : s.pwr.asleep = 0) (h : s.linkState p = 5) :
    ∃ u : State, s.tc10Detect p = u.tc10Training p ∧ u.mac = s.mac := by
  have hwaits : s.tc10Waits p = true := by
    unfold tc10Waits
    rw [if_pos hs, h]
    rfl
  obtain ⟨l, hl⟩ : ∃ l, l = ((List.range 12).map (fun i => 12 + i)).filter (fun q => q ≠ p && s.tc10Waits q) := ⟨_, rfl⟩
  obtain ⟨u, hu⟩ : ∃ u, u = if s.tc10Forwards p then s.each l (fun s q => s.emit (.tc10Wake q)) else s := ⟨_, rfl⟩
  have hcore : { u with out := s.out } = s := by
    rw [hu]
    split
    · exact each_keep (fun t => { t with out := s.out }) (fun t q => t.emit (.tc10Wake q)) (fun _ _ => rfl) l s
    · rfl
  have hpwr : u.pwr = s.pwr := (congrArg State.pwr hcore :)
  refine ⟨u, ?_, (congrArg State.mac hcore :)⟩
  unfold tc10Detect
  rw [if_neg (by simp [hwaits]), ← hl]
  dsimp only
  rw [← hu, if_pos (hpwr ▸ hs)]

section
variable {p : Nat} (hp : p < 24)
include hp

theorem refDown_linkTo (st : Nat) : (s.linkTo p st).refDown p = s.refDown p :=
  congrArg (fun m => bitAt m (if p < 4 then 0 else 1)) (congrArg Prod.fst (s.linkView_linkTo hp st))

/-- A port leaves SLEEP for TRAINING. -/
theorem tc10Training_of_ref (h : s.refDown p = false) :
    (s.tc10Training p).linkState p = 2 ∧ (s.tc10Training p).rf (.PHY_STATUS_TC10_STATE p) = 3 := by
  have hphy : (Fld.PHY_STATUS_TC10_STATE p).addr ≠ Reg.MAC_LINK_STATUS p :=
    addr_ne_linkStatus hp (.inr (Nat.le_add_right_of_le (by decide)))
  unfold tc10Training
  dsimp only
  rw [s.refDown_linkTo hp 1, if_neg (by simp [h])]
  refine ⟨?_, rf_wf_self _ _ _ (by decide : 4 + 2 ≤ 32)⟩
  refine (congrArg Prod.snd (linkView_wf _ 3 (.inl hphy))).trans ?_
  exact rf_wf_self _ (.MAC_LINK_STATUS_STATE p) 2 (by decide : 0 + 3 ≤ 32)

/-- While its reference is lost it leaves SLEEP for DOWN (R157). -/
theorem tc10Training_of_refDown (h : s.refDown p = true) : (s.tc10Training p).linkState p = 1 := by
  unfold tc10Training
  dsimp only
  rw [s.refDown_linkTo hp 1, if_pos h]
  exact congrArg Prod.snd (s.linkView_linkTo hp 1)

end

/-! What the power manager makes of a wake-up changes no link state. -/

theorem linkState_wf_low {f : Fld} (n v : Nat) (hf : f.addr < 0x100000) : (s.wf f v).linkState n = s.linkState n := by
  have haddr : f.addr ≠ Reg.MAC_LINK_STATUS n := by
    unfold Reg.MAC_LINK_STATUS
    omega
  exact congrArg Prod.snd (s.linkView_wf v (.inl haddr))

theorem linkState_wword_low {a : Nat} (n : Nat) (w : Word) (ha : a < 0x100000) : (s.wword a w).linkState n = s.linkState n := by
  have haddr : Reg.MAC_LINK_STATUS n ≠ a := by
    unfold Reg.MAC_LINK_STATUS
    omega
  exact congrArg (fldGet · 0 3) (s.rword_wword_of_ne w haddr)

theorem linkState_wakeRecord (n c : Nat) : (s.wakeRecord c).linkState n = s.linkState n := by
  unfold wakeRecord
  split
  · rw [linkState_wword_low _ _ _ (by decide), linkState_wword_low _ _ _ (by decide), linkState_wf_low _ _ _ (by decide)]
  · split
    · rfl
    · exact s.linkState_wf_low _ _ (by decide)

theorem linkState_powerTo {n : Nat} (hn : n < 24) (st : Nat) : (s.powerTo st).linkState n = s.linkState n := by
  have hforward (u : State) (b : Bool) : (u.setForward b).linkState n = u.linkState n :=
    (linkState_of_control hn (u.control_setForward b)).trans (u.linkState_wf_low n _ (by decide))
  have hfields : (((s.wf .TOP_STATE_PREV_PWR (s.rf .TOP_STATE_PWR_STATE)).wf .TOP_STATE_PWR_STATE st).wf .PWR_STATUS_STATE st).linkState n =
      s.linkState n := by
    rw [linkState_wf_low _ _ _ (by decide), linkState_wf_low _ _ _ (by decide), linkState_wf_low _ _ _ (by decide)]
  unfold powerTo
  split
  · rfl
  · dsimp only
    rw [hforward]
    split
    · exact hfields
    · exact (linkState_of_control hn (control_trigRelease _)).trans hfields

theorem linkState_entryAbandon {n : Nat} (hn : n < 24) (x : SleepEntry) : (s.entryAbandon x).linkState n = s.linkState n := by
  have hrefresh (b : Bool) : (s.refreshEntry b).linkState n = s.linkState n := by
    unfold refreshEntry
    split <;> rfl
  unfold entryAbandon
  dsimp only
  rw [linkState_powerTo _ hn, linkState_wf_low _ _ _ (by decide)]
  exact hrefresh _

theorem linkState_wakeStart (n : Nat) : s.wakeStart.linkState n = s.linkState n :=
  (rf_congr s.wakeStart_does.1 (.MAC_LINK_STATUS_STATE n)).trans (s.linkState_wf_low n 0 (by decide))

theorem linkState_wakeConfirm {n : Nat} (hn : n < 24) (c : Nat) : (s.wakeConfirm c).linkState n = s.linkState n := by
  unfold wakeConfirm
  split
  · rfl
  · split
    · dsimp only
      split
      · exact (linkState_wf_low _ n 1 (by decide)).trans (s.linkState_wakeRecord n c)
      · exact (linkState_entryAbandon _ hn _).trans (s.linkState_wakeRecord n c)
    · split
      · rfl
      · dsimp only
        split
        · exact (linkState_wakeStart _ n).trans (s.linkState_wakeRecord n c)
        · exact s.linkState_wakeRecord n c

theorem tc10WakeCmd_does {p : Nat} (hp : p < 12) (hawake : s.awake = true) (h : s.linkState (12 + p) = 5)
    (href : s.refDown (12 + p) = false) : (s.tc10WakeCmd p).linkState (12 + p) = 2 := by
  obtain ⟨⟨hporst, hasleep⟩, -⟩ := s.awake_iff.mp hawake
  obtain ⟨u, hu, hmac⟩ := s.tc10Detect_of_asleep hasleep h
  have hrefu : u.refDown (12 + p) = false := by
    unfold refDown at href ⊢
    rwa [hmac]
  unfold tc10WakeCmd
  rw [if_neg (by simp [hporst]), linkState_wakeConfirm _ (by omega), hu]
  exact (u.tc10Training_of_ref (by omega) hrefu).1

/-! The MDIO master (R172, R173). -/

theorem regs_mdioSend (j : MdioJob) : (s.mdioSend j).regs = s.regs := by cases j <;> rfl

/-- A software command that finds the wire free goes out at once. -/
theorem mdioQueue_of_idle (w : Word) (hwire : s.mac.mdio = none) (hwait : s.mac.mdioWait = []) :
    ∃ u : State, s.mdioQueue (.cmd w) = u.mdioSend (.cmd w) ∧ u.regs = s.regs ∧ u.out = s.out := by
  unfold mdioQueue mdioNext
  simp only [mac_ports, hwire, hwait, List.nil_append, List.find?_cons]
  exact ⟨_, rfl, rfl, rfl⟩

theorem out_mdioSend_cmd (w : Word) : (s.mdioSend (.cmd w)).out =
    .mdio (fldGet w 28 2) (fldGet w 27 1 = 1) (fldGet w 22 5) (fldGet w 17 5) (fldGet w 0 16) :: s.out := rfl

/-- The word that a MAC_MDIO_CMD write of a frame makes of the register, with GO cleared. -/
def mdioTaken (op : Nat) (c45 : Bool) (prtad devad data : Nat) : Word :=
  fldSet (s.written Reg.MAC_MDIO_CMD (mdioGo op c45 prtad devad data)) 31 1 0

/-- What a write of MAC_MDIO_CMD with GO does. -/
def mdioAsked (q : Requester) (op : Nat) (c45 : Bool) (prtad devad data : Nat) : State :=
  (s.begun q).mdioCmd (s.mdioTaken op c45 prtad devad data) true

theorem mdioAsked_of_busy {q : Requester} {op prtad devad data : Nat} {c45 : Bool} (h : s.on .MAC_MDIO_CMD_BUSY = true) :
    s.mdioAsked q op c45 prtad devad data = (s.begun q).wf .MAC_MDIO_DATA_LOST 1 := by
  unfold mdioAsked mdioCmd
  rw [on_begun, if_pos h]

/-- The fields of the frame are those of the command. -/
theorem fldGet_mdioTaken {op prtad devad data : Nat} {c45 : Bool} (hop : op < 4) (hp : prtad < 32) (hd : devad < 32) (hdata : data < 65536) :
    let w := s.mdioTaken op c45 prtad devad data
    fldGet w 28 2 = op ∧ fldGet w 27 1 = b2n c45 ∧ fldGet w 22 5 = prtad ∧ fldGet w 17 5 = devad ∧ fldGet w 0 16 = data := by
  intro w
  have hkept (lo width : Nat) (h : lo + width ≤ 31)
      (hrow : (regRowAt Reg.MAC_MDIO_CMD).any (fun r => r.fields.any (fun f =>
        decide (f.lo = lo) && decide (f.width = width) && (f.acc = .rw || f.acc = .wo))) = true) :
      fldGet w lo width = fldGet (mdioWord op c45 prtad devad data) lo width := by
    refine (fldGet_fldSet_of_disjoint _ _ _ _ _ _ (.inl h)).trans ((written_fld s _ _ _ _ hrow).trans ?_)
    exact fldGet_fldSet_of_disjoint _ _ _ _ _ _ (.inl h)
  have hbit : b2n c45 < 2 ^ 1 := by cases c45 <;> decide
  rw [hkept 28 2 (by decide) (by decide), hkept 27 1 (by decide) (by decide), hkept 22 5 (by decide) (by decide),
    hkept 17 5 (by decide) (by decide), hkept 0 16 (by decide) (by decide)]
  unfold mdioWord
  simp (disch := decide) only [fldGet_fldSet_of_disjoint, fldGet_fldSet_self]
  exact ⟨Nat.mod_eq_of_lt hop, Nat.mod_eq_of_lt hbit, Nat.mod_eq_of_lt hp, Nat.mod_eq_of_lt hd, Nat.mod_eq_of_lt hdata⟩

theorem mdioAsked_of_idle {q : Requester} {op prtad devad data : Nat} {c45 : Bool} (hop : op < 4) (hp : prtad < 32) (hd : devad < 32)
    (hdata : data < 65536) (hbusy : s.on .MAC_MDIO_CMD_BUSY = false) (hwire : s.mac.mdio = none) (hwait : s.mac.mdioWait = []) :
    let e := s.mdioAsked q op c45 prtad devad data
    e.on .MAC_MDIO_CMD_BUSY = true ∧ e.out = .mdio op c45 prtad devad data :: s.out := by
  obtain ⟨w, hw⟩ : ∃ w, w = s.mdioTaken op c45 prtad devad data := ⟨_, rfl⟩
  obtain ⟨hfop, hfc, hfp, hfd, hfdata⟩ := s.fldGet_mdioTaken (c45 := c45) hop hp hd hdata
  obtain ⟨t, ht⟩ : ∃ t, t = ((s.begun q).wword Reg.MAC_MDIO_CMD w).wf .MAC_MDIO_CMD_BUSY 1 := ⟨_, rfl⟩
  have hout : t.out = s.out := by
    rw [ht]
    exact s.out_begun q
  obtain ⟨u, hu, huregs, huout⟩ := t.mdioQueue_of_idle w (by rw [ht]; simpa using hwire) (by rw [ht]; simpa using hwait)
  have he : s.mdioAsked q op c45 prtad devad data = u.mdioSend (.cmd w) := by
    rw [← hu, ht, hw]
    unfold mdioAsked mdioCmd
    rw [on_begun, if_neg (by simp [hbusy])]
    rfl
  have hc : decide (fldGet w 27 1 = 1) = c45 := by
    rw [hw, hfc]
    cases c45 <;> rfl
  rw [he]
  refine ⟨?_, ?_⟩
  · rw [on_congr ((regs_mdioSend u _).trans huregs), ht]
    exact on_wf_self _ _ _ (by decide)
  · rw [out_mdioSend_cmd, hc, hw, hfop, hfp, hfd, hfdata, huout, hout]

/-- R172: a software command's frame ends: BUSY clears, read data is valid, and what waits starts. -/
theorem mdioDone_of_cmd {w : Word} (data : BitVec 16) (h : s.mac.mdio = some (.cmd w)) : ∃ e : State,
    s.mdioDone data.toNat = e.mdioNext ∧ e.mac.mdio = none ∧ e.on .MAC_MDIO_CMD_BUSY = false ∧
    (2 ≤ fldGet w 28 2 → e.rf .MAC_MDIO_DATA_DATA = data.toNat ∧ e.on .MAC_MDIO_DATA_VALID = true) := by
  obtain ⟨t, ht⟩ : ∃ t, t = State.wf (s.ports fun x => { x with mdio := none }) .MAC_MDIO_CMD_BUSY 0 := ⟨_, rfl⟩
  have hbusy : t.on .MAC_MDIO_CMD_BUSY = false := by
    rw [ht]
    exact on_wf_self _ _ _ (by decide)
  have hmac : t.mac.mdio = none := by
    rw [ht]
    rfl
  have he : s.mdioDone data.toNat =
      (if 2 ≤ fldGet w 28 2 then (t.wf .MAC_MDIO_DATA_DATA data.toNat).wf .MAC_MDIO_DATA_VALID 1 else t).mdioNext := by
    unfold mdioDone
    rw [h, ht]
  refine ⟨_, he, ?_⟩
  by_cases hread : 2 ≤ fldGet w 28 2
  · rw [if_pos hread]
    refine ⟨hmac, ?_, fun _ => ⟨?_, on_wf_self _ _ _ (by decide)⟩⟩
    · rw [on_wf_of_ne _ _ _ _ (by decide), on_wf_of_ne _ _ _ _ (by decide), hbusy]
    · rw [rf_wf_of_ne _ _ _ _ (by decide), rf_wf_self _ _ _ (by decide)]
      exact Nat.mod_eq_of_lt data.isLt
  · rw [if_neg hread]
    exact ⟨hmac, hbusy, fun h => absurd h hread⟩

end State

/-! The commands. -/

section
variable {s : State} {q : Sender} {p : Fin 12} (h : s.reaches q (Reg.PHY_TC10_CMD (12 + p)))
include h

theorem reg_tc10Cmd (w : Word) : s.regCmd q (Reg.PHY_TC10_CMD (12 + p)) w =
    .next (s.did q (Reg.PHY_TC10_CMD (12 + p)) ((s.begun q.req).tc10Cmd (12 + p) (fldGet w 0 2))) := by
  have hrow : unlockedRow (Reg.PHY_TC10_CMD (12 + p)) = true := by
    clear h
    revert p
    decide
  have hpos : shapeAt writeShapes (Reg.PHY_TC10_CMD (12 + p)) = some (43, (p : Nat)) := by
    clear h
    revert p
    decide
  exact regActP s h hrow hpos rfl

theorem exec_tc10CmdSleep : exec (.tc10CmdSleep q p) s =
    .next (s.did q (Reg.PHY_TC10_CMD (12 + p)) ((s.begun q.req).tc10Request (12 + p))) := reg_tc10Cmd h 1

theorem exec_tc10CmdWake : exec (.tc10CmdWake q p) s =
    .next (s.did q (Reg.PHY_TC10_CMD (12 + p)) ((s.begun q.req).tc10Wake (12 + p))) := reg_tc10Cmd h 2

end

section
variable {s : State} {q : Sender} (h : s.reaches q Reg.MAC_MDIO_CMD)
include h

/-- A write of MAC_MDIO_CMD with GO. -/
theorem reg_mdioGo (op : Nat) (c45 : Bool) (prtad devad data : Nat) : s.regCmd q Reg.MAC_MDIO_CMD (mdioGo op c45 prtad devad data) =
    .next (s.did q Reg.MAC_MDIO_CMD (s.mdioAsked q.req op c45 prtad devad data)) := by
  have hgo : (mdioGo op c45 prtad devad data).getLsbD 31 = true := by
    unfold mdioGo
    rw [getLsbD_fldSet _ _ _ _ _ (by decide)]
    rfl
  rw [regActP s h (p := (41, 0)) (by decide) (by decide) rfl, hgo]
  rfl

end

section
variable {s : State} (h : s.awake = true)
include h

theorem exec_sqiUpdate (p : Fin 12) (sqi : Fin 8) : exec (.sqiUpdate p sqi) s = .next (s.after (s.sqiUpdate (12 + p) sqi)) :=
  s.acting_of (fun u => u.sqiUpdate (12 + p) sqi) h

theorem exec_plcaBeaconConflict (p : Fin 4) : exec (.plcaBeaconConflict p) s = .next (s.after (s.plcaConflict (20 + p))) :=
  s.acting_of (fun u => u.plcaConflict (20 + p)) h

theorem exec_tc10SleepAck (p : Fin 12) : exec (.tc10SleepAck p) s = .next (s.after (s.tc10Asleep (12 + p) true)) :=
  s.acting_of (fun u => u.tc10Asleep (12 + p) true) h

theorem exec_tc10SleepTimeout (p : Fin 12) : exec (.tc10SleepTimeout p) s = .next (s.after (s.tc10Asleep (12 + p) false)) :=
  s.acting_of (fun u => u.tc10Asleep (12 + p) false) h

theorem exec_mdioFrameDone (data : BitVec 16) : exec (.mdioFrameDone data) s = .next (s.after (s.mdioDone data.toNat)) :=
  s.acting_of (fun u => u.mdioDone data.toNat) h

theorem exec_mdioPoll : exec .mdioPoll s = .next (s.after (s.each (List.range 4) State.mdioPollPort)) :=
  s.acting_of State.mdioPoll h

theorem exec_extPhyInterrupt (n : Fin 4) :
    exec (.extPhyInterrupt n) s = .next (s.after ((s.wf (.MAC_INT_EXT_PHY n) 1).mdioPollPort n)) :=
  s.acting_of (fun u => u.extPhyInt n) h

end

/-- TC10_WAKE_DETECT acts in the sleep states as well. -/
theorem exec_tc10WakeDetect (s : State) (p : Fin 12) : exec (.tc10WakeDetect p) s = .next (s.after (s.tc10WakeCmd p)) := rfl

/-- Settles O36: each command runs one operation of a PHY or of the MDIO master, whose lemma says what it leaves; the link state
that TC10 gives outlasts what follows the port's leaving (`linkView_linkTo`) and the power manager (`linkState_wakeConfirm`). -/
theorem phyAndMdio : Obligations.PhyAndMdio := by
  refine ⟨?sqi, ?plca, ?tc10, ?training, ?asleep, ?wake, ?mdio, ?done, fun s hawake => exec_mdioPoll hawake, ?ext⟩
  case sqi => exact fun s p sqi hawake hup => ⟨_, exec_sqiUpdate hawake p sqi, s.sqiUpdate_does hup sqi.isLt⟩
  case plca => exact fun s p hawake hen hid => ⟨_, exec_plcaBeaconConflict hawake p, s.plcaConflict_does hen hid⟩
  case tc10 =>
    intro s q p h
    refine ⟨_, _, exec_tc10CmdSleep h, fun hup => ?_, fun hup => ?_, exec_tc10CmdWake h, fun hst => ?_, fun hst => ?_⟩
    · rw [State.tc10Request_of_up _ (by rwa [State.portUp_begun])]
      exact ⟨congrArg _ (s.out_begun q.req), State.rf_wf_self _ _ _ (by decide : 4 + 2 ≤ 32)⟩
    · rw [State.tc10Request_of_not_up _ (by rwa [State.portUp_begun])]
      exact ⟨s.regs_begun q.req, s.out_begun q.req⟩
    · exact State.tc10Wake_of_asleep _ (by rwa [State.linkState_begun])
    · rw [State.tc10Wake_of_not_asleep _ (by rwa [State.linkState_begun])]
      exact ⟨s.regs_begun q.req, s.out_begun q.req⟩
  case training =>
    exact fun s p => ⟨s.tc10Training_of_ref (by omega), s.tc10Training_of_refDown (by omega)⟩
  case asleep =>
    intro s p hawake hup hreq
    refine ⟨(exec_tc10SleepAck hawake p).trans ?_, (exec_tc10SleepTimeout hawake p).trans ?_⟩
    · rw [s.tc10Asleep_of_requested hup hreq]
      rfl
    · rw [s.tc10Asleep_of_requested hup hreq]
      rfl
  case wake => exact fun s p hawake hst href => ⟨_, exec_tc10WakeDetect s p, s.tc10WakeCmd_does p.isLt hawake hst href⟩
  case mdio =>
    intro s q c45 prtad devad data h
    refine ⟨fun op c d => s.mdioAsked q.req op c prtad devad d.toNat, reg_mdioGo h _ _ _ _ _, reg_mdioGo h _ _ _ _ _,
      reg_mdioGo h _ _ _ _ _, reg_mdioGo h _ _ _ _ _, fun op c d hop hbusy hwire hwait => ?_, fun op c d hbusy => s.mdioAsked_of_busy hbusy⟩
    exact s.mdioAsked_of_idle hop prtad.isLt devad.isLt d.isLt hbusy hwire hwait
  case done =>
    intro s w data hawake hwire
    obtain ⟨e, hdone, hleft⟩ := s.mdioDone_of_cmd data hwire
    exact ⟨e, (exec_mdioFrameDone hawake data).trans (by rw [hdone]), hleft⟩
  case ext =>
    exact fun s n hawake => ⟨_, exec_extPhyInterrupt hawake n, State.rf_wf_self _ (.MAC_INT_EXT_PHY n) 1 (by decide : 2 + 1 ≤ 32)⟩

end Sys2Proof.Machine

/-!
PROOFS. The header step, the end of a program, and the services of the gateway (R182, R212 to R218, R395).
-/
namespace Sys2Proof.Machine

/-- The first index below `n` that has a value: none before it has one. -/
theorem findSome?_range_first {β : Type} {f : Nat → Option β} {n : Nat} {b : β} (h : (List.range n).findSome? f = some b) :
    ∃ i, i < n ∧ f i = some b ∧ ∀ j, j < i → f j = none := by
  induction n with
  | zero => simp at h
  | succ n ih =>
    rw [List.range_succ, List.findSome?_append, Option.or_eq_some_iff] at h
    obtain h | ⟨hnone, h⟩ := h
    · obtain ⟨i, hi, hsome, hfirst⟩ := ih h
      exact ⟨i, Nat.lt_succ_of_lt hi, hsome, hfirst⟩
    · exact ⟨n, n.lt_succ_self, by simpa using h, fun j hj => List.findSome?_eq_none_iff.mp hnone j (List.mem_range.mpr hj)⟩

/-- R213: a header step takes nothing after a fragment or a SecTAG, and AUTO takes nothing with DONE = 1. -/
theorem hdrStep_takes_nothing (h : HdrCtx) {g : Eng} {t : Nat} (hg : g.key.frag = true ∨ g.secTag = true ∨ g.done = true ∧ t = 0) :
    hdrStep h g t = .nothing g := by
  unfold hdrStep
  exact if_pos (by simpa [or_assoc] using hg)

namespace State

/-- R216: MALF's codes end a pass at once, its length checks discarded (R193). -/
theorem passEnd_of_hard (s : State) (r : Fin 32) (g : Eng) {c : Nat} (hc : 0xB ≤ c) :
    s.passEnd r g (.malf c) = s.setEng (.rake r) (some { g with outcome := .malf c, checks := [], status := .ended }) := by
  unfold passEnd
  simp [hc]

theorem passEnd_of_unchecked (s : State) (r : Fin 32) {g : Eng} (hg : g.checks = []) :
    s.passEnd r g .normal = s.setEng (.rake r) (some { g with outcome := .normal, status := .ended }) := by
  unfold passEnd
  simp [hg]

/-- R395: a result other than 0 is that of the first entry that matches. -/
theorem lookup_first (s : State) {base count key mask r : Nat} (h : s.lookup base count key mask = r) (hr : r ≠ 0) :
    ∃ i, i < count ∧ s.pantryLE (base + 16 * i + 8) 4 = r ∧
      ((key ^^^ s.pantryLE (base + 16 * i) 4) &&& s.pantryLE (base + 16 * i + 4) 4 &&& mask) = 0 ∧
      ∀ j, j < i → ((key ^^^ s.pantryLE (base + 16 * j) 4) &&& s.pantryLE (base + 16 * j + 4) 4 &&& mask) ≠ 0 ∨
        s.pantryLE (base + 16 * j + 8) 4 = 0 := by
  have hsome : ∀ {o : Option Nat}, o.getD 0 = r → o = some r := by
    rintro (_ | _) ho
    · exact absurd ho.symm hr
    · exact congrArg some ho
  obtain ⟨i, hi, hmatch, hfirst⟩ := findSome?_range_first (hsome h)
  obtain ⟨⟨hkey, -⟩, hres⟩ := by simpa using hmatch
  exact ⟨i, hi, hres, hkey, fun j hj => by simpa [Decidable.or_iff_not_imp_left] using hfirst j hj⟩

/-- What AUTH leaves before it waits: the state of the service, with the event's new output length. -/
def authed (s : State) (v : GwEvent) (gen : Bool) : State :=
  (s.canAuth v gen).2.2.gway fun z => { z with event := some { v with olen := (s.canAuth v gen).2.1 } }

/-- The read of the Pantry words of the port 26 destination that SEND names (R400). -/
def sendCheck (s : State) (v : GwEvent) (x : IWord) : Bool × State :=
  s.pantryCheck (0x1E0 + v.chan) (0x8000 + 64 * (x.imm.toNat % 64)) 40

end State

/-! An instruction is its body on the instance that is about to execute it. -/

section
variable {s : State} {e : EngId} {op : Nat} {g : Eng} {x : IWord} (h : s.runs e op g x)
include h

theorem isa_of_runs (body : State → Eng → IWord → State) : s.isa e op body = body s g x := by
  obtain ⟨-, heng, hrun, hword, hop⟩ := h
  unfold State.isa
  simp only [heng, hword, hrun, hop, decide_true, Bool.and_self, if_true]

theorem acting_of_runs (f : State → State) {t : State} (hf : f s = t) : s.acting (s.engServes e) f = .next (s.after t) := by
  rw [s.acting_of f h.1, hf]

end

/-! HDR (R212, R214). -/

section
variable {s : State} {r : Fin 32} {g : Eng} {x : IWord} (h : s.runs (.rake r) 0x30 g x)
include h

theorem exec_hdr_reserved (ht : 18 < x.x % 32) : exec (.hdr (.rake r)) s = .next (s.after (s.isaFault (.rake r) g 3)) :=
  acting_of_runs h (State.isaHdr · (.rake r)) (by simp only [State.isaHdr, isa_of_runs h, if_pos ht])

theorem exec_hdr_took (ht : x.x % 32 ≤ 18) {g' : Eng} {len : Nat} (hstep : hdrStep (s.hdrCtx g) g (x.x % 32) = .took g' len) :
    exec (.hdr (.rake r)) s = .next (s.after (s.isaNext (.rake r)
      { g'.setReg x.rd (BitVec.ofNat 32 g'.sel) with z := g'.done, n := false, c := false } (2 + (len + 15) / 16))) :=
  acting_of_runs h (State.isaHdr · (.rake r)) (by simp only [State.isaHdr, isa_of_runs h, if_neg (Nat.not_lt.mpr ht), hstep]; rfl)

theorem exec_hdr_nothing (ht : x.x % 32 ≤ 18) {g' : Eng} (hstep : hdrStep (s.hdrCtx g) g (x.x % 32) = .nothing g') :
    exec (.hdr (.rake r)) s = .next (s.after (s.isaNext (.rake r)
      { g'.setReg x.rd (BitVec.ofNat 32 g'.sel) with z := true, n := false, c := false } 2)) :=
  acting_of_runs h (State.isaHdr · (.rake r)) (by simp only [State.isaHdr, isa_of_runs h, if_neg (Nat.not_lt.mpr ht), hstep])

theorem exec_hdr_stall (ht : x.x % 32 ≤ 18) {need : Nat} (hstep : hdrStep (s.hdrCtx g) g (x.x % 32) = .stall need) :
    exec (.hdr (.rake r)) s = .next (s.after
      (s.setEng (.rake r) (some { g with status := .stalled need, stallAt := s.cycles }))) :=
  acting_of_runs h (State.isaHdr · (.rake r)) (by simp only [State.isaHdr, isa_of_runs h, if_neg (Nat.not_lt.mpr ht), hstep])

theorem exec_hdr_stop (ht : x.x % 32 ≤ 18) {o : ParseEnd} (hstep : hdrStep (s.hdrCtx g) g (x.x % 32) = .stop o) :
    exec (.hdr (.rake r)) s = .next (s.after (s.passEnd r { g with icount := g.icount + 1, cycles := g.cycles + 2 } o)) :=
  acting_of_runs h (State.isaHdr · (.rake r)) (by simp only [State.isaHdr, isa_of_runs h, if_neg (Nat.not_lt.mpr ht), hstep])

end

/-! MALF, RECIRC and END (R216, R218). -/

section
variable {s : State} {r : Fin 32} {g : Eng} {x : IWord}

theorem exec_malf_code (h : s.runs (.rake r) 0x31 g x) (hlo : 0xB ≤ x.imm.toNat % 16) (hhi : x.imm.toNat % 16 ≤ 0xD) :
    exec (.malf (.rake r)) s = .next (s.after (s.setEng (.rake r) (some
      { g with icount := g.icount + 1, cycles := g.cycles + 1, outcome := .malf (x.imm.toNat % 16), checks := [], status := .ended }))) :=
  acting_of_runs h (State.isaMalf · (.rake r)) (by
    simp only [State.isaMalf, isa_of_runs h]
    rw [if_neg (by simp [hlo, hhi]), s.passEnd_of_hard r _ hlo])

theorem exec_malf_other (h : s.runs (.rake r) 0x31 g x) (hc : x.imm.toNat % 16 < 0xB ∨ 0xD < x.imm.toNat % 16) :
    exec (.malf (.rake r)) s = .next (s.after (s.isaFault (.rake r) g 7)) :=
  acting_of_runs h (State.isaMalf · (.rake r)) (by
    simp only [State.isaMalf, isa_of_runs h]
    exact if_pos (by simpa using hc))

theorem exec_recirc {e : EngId} (h : s.runs e 0x32 g x) : exec (.recirc e) s = .next (s.after
    (s.isaNext e { g with recirc := some (if x.i then some (x.imm.toNat % 64) else none) } 1)) :=
  acting_of_runs h (State.isaRecirc · e) (isa_of_runs h _)

theorem exec_endProg_pass (h : s.runs (.rake r) 0x14 g x) (hg : g.checks = []) :
    exec (.endProg (.rake r)) s = .next (s.after (s.setEng (.rake r) (some
      { g with icount := g.icount + 1, cycles := g.cycles + 1, outcome := .normal, status := .ended }))) :=
  acting_of_runs h (State.isaEnd · (.rake r)) ((isa_of_runs h _).trans (s.passEnd_of_unchecked r hg))

theorem exec_endProg_event {v : GwEvent} (h : s.runs .gateway 0x14 g x) (hv : s.gwe.event = some v) :
    exec (.endProg .gateway) s =
      .next (s.after (s.eventEnd { g with icount := g.icount + 1, cycles := g.cycles + 1 } v)) :=
  acting_of_runs h (State.isaEnd · .gateway) (by simp only [State.isaEnd, isa_of_runs h, hv])

end

/-! LKP, AUTH and SEND (R217, R395). -/

section
variable {s : State} {g : Eng} {x : IWord} {v : GwEvent} (hv : s.gwe.event = some v)
include hv

/-- LKP searches a table that lies inside its region. -/
theorem exec_lkp_table (h : s.runs .gateway 0x38 g x) {base count : Nat} (hbase : ofBytesLE ((v.ctx.drop 76).take 4) = base)
    (hcount : ofBytesLE ((v.ctx.drop 80).take 2) = count) (hmax : count ≤ 256) (halign : base % 16 = 0) (hlo : pantryProg ≤ base)
    (hhi : base + 16 * count ≤ pantryStage) :
    let q := s.pantryCheck (0x1E0 + v.chan) base (16 * count)
    let y := BitVec.ofNat 32 (s.lookup base count (g.reg x.ra).toNat (g.reg x.rb).toNat)
    exec (.lkp .gateway) s = .next (s.after
      (if q.1 then q.2.isaHard .gateway g else q.2.isaNext .gateway ((g.setReg x.rd y).flagsZ y) 6)) := by
  have hregion : ¬ (256 < count ∨ base % 16 ≠ 0 ∨ 0 < count ∧ (base < pantryProg ∨ pantryStage < base + 16 * count)) := by omega
  refine acting_of_runs h (State.isaLkp · .gateway) ?_
  simp only [State.isaLkp, isa_of_runs h, hv, hbase, hcount]
  exact if_neg (by simpa only [Bool.or_eq_true, Bool.and_eq_true, decide_eq_true_eq, or_assoc] using hregion)

section
variable (h : s.runs .gateway 0x39 g x)
include h

/-- AUTH with the key absent waits for no service. -/
theorem exec_auth_absent (hr : (s.canAuth v (bitAt x.x 0)).1 = 3) : exec (.auth .gateway) s = .next (s.after
    ((s.authed v (bitAt x.x 0)).isaNext .gateway ((g.setReg x.rd 3).flagsZ 3) 4)) :=
  acting_of_runs h (State.isaAuth · .gateway) (by simp only [State.isaAuth, isa_of_runs h, hv, hr]; rfl)

theorem exec_auth_waits (hr : (s.canAuth v (bitAt x.x 0)).1 ≠ 3) :
    let y := BitVec.ofNat 32 (s.canAuth v (bitAt x.x 0)).1
    let u := s.authed v (bitAt x.x 0)
    exec (.auth .gateway) s = .next (s.after
      (u.draw.2.isaNext .gateway ((g.setReg x.rd y).flagsZ y) (4 + Config.free u.draws))) :=
  acting_of_runs h (State.isaAuth · .gateway) (by simp only [State.isaAuth, isa_of_runs h, hv, if_neg hr]; rfl)

end

section
variable (h : s.runs .gateway 0x3A g x)
include h

theorem exec_send_uncorrectable (hx : x.x % 4 = 1 ∨ x.x % 4 = 2)
    (hq : (s.sendCheck v x).1 = true) : exec (.send .gateway) s = .next (s.after ((s.sendCheck v x).2.isaHard .gateway g)) := by
  unfold State.sendCheck at hq ⊢
  exact acting_of_runs h (State.isaSend · .gateway) (by simp [State.isaSend, isa_of_runs h, hv, hx, hq])

/-- The answer of each destination of X[1:0]. -/
theorem exec_send_answer {r : Bool × State} (hchannel : x.x % 4 = 0 → r = s.sendChannel (x.imm.toNat % 64) (s.outMsg v))
    (hacf : x.x % 4 = 1 → (s.sendCheck v x).1 = false ∧ r = (s.sendCheck v x).2.sendPort26 v.chan (x.imm.toNat % 64) false (s.outMsg v))
    (hudp : x.x % 4 = 2 → (s.sendCheck v x).1 = false ∧ r = (s.sendCheck v x).2.sendPort26 v.chan (x.imm.toNat % 64) true (s.outMsg v))
    (hhatch : x.x % 4 = 3 → r = s.sendHatch (x.imm.toNat % 64) (s.outMsg v)) :
    let y : Word := if r.1 then 0 else 1
    exec (.send .gateway) s = .next (s.after (r.2.isaNext .gateway ((g.setReg x.rd y).flagsZ y) 2)) := by
  unfold State.sendCheck at hacf hudp
  refine acting_of_runs h (State.isaSend · .gateway) ?_
  simp only [State.isaSend, isa_of_runs h, hv]
  obtain hx | hx | hx | hx : x.x % 4 = 0 ∨ x.x % 4 = 1 ∨ x.x % 4 = 2 ∨ x.x % 4 = 3 := by omega
  · simp [hx, hchannel hx]
  · obtain ⟨hq, hr⟩ := hacf hx
    simp [hx, hq, hr]
  · obtain ⟨hq, hr⟩ := hudp hx
    simp [hx, hq, hr]
  · simp [hx, hhatch hx]

end

end

/-- Settles O43: each instruction is its body on the instance that runs (`isa_of_runs`), and the branch of the body that the
clause's hypotheses select is the lemma above; LKP's answer is the first match of a search in order (`findSome?_range_first`). -/
theorem rakeProgramEndAndServices : Obligations.RakeProgramEndAndServices := by
  refine ⟨?hdr, fun h _ _ => hdrStep_takes_nothing h, ?malf, fun s e g x h => exec_recirc h, fun s r g x h => exec_endProg_pass h,
    fun s g x v h hv => ⟨exec_endProg_event h hv, rfl⟩, ?services, fun g y => ⟨rfl, rfl, rfl⟩,
    fun s base count key mask r => s.lookup_first⟩
  case hdr =>
    exact fun s r g x h => ⟨exec_hdr_reserved h, fun ht => ⟨fun _ _ => exec_hdr_took h ht, fun _ => exec_hdr_nothing h ht,
      fun _ => exec_hdr_stall h ht, fun _ => exec_hdr_stop h ht⟩⟩
  case malf => exact fun s r g x h => ⟨exec_malf_code h, exec_malf_other h⟩
  case services =>
    intro s g x v hv
    refine ⟨fun h hmax halign hlo hhi => ?lkp, fun h => ⟨fun hr => ?absent, exec_auth_waits hv h⟩,
      fun h => ⟨exec_send_uncorrectable hv h, fun _ => exec_send_answer hv h⟩⟩
    case lkp =>
      have hlkp := exec_lkp_table hv h rfl rfl hmax halign hlo hhi
      exact ⟨fun hq => hlkp.trans (by rw [if_neg (ne_true_of_eq_false hq)]), fun hq => hlkp.trans (by rw [if_pos hq])⟩
    case absent =>
      rw [hr]
      exact exec_auth_absent hv h hr

end Sys2Proof.Machine

/-!
PROOFS. The arithmetic, logic, move and special-register instructions (R202 to R206, R208, R215, R219).
-/
namespace Sys2Proof.Machine

/-! Where the next word is fetched (R200, R206, R215, R219). -/

namespace State

/-- A word within the program, intact and legal, within the instruction limit, is about to be executed. -/
theorem isaReady_of_fetchable {s : State} {e : EngId} {g : Eng} (h : s.fetchable e g.pc g.icount) :
    s.isaReady e g = s.setEng e (some { g with status := .run }) := by
  obtain ⟨hlen, hlimit, hecc, hlegal⟩ := h
  unfold isaReady
  simp only [if_neg (Nat.not_le.mpr hlen), if_neg (Nat.not_le.mpr hlimit), hecc, hlegal, Bool.false_eq_true, Bool.not_true, if_false]

theorem isaGo_of_fetchable {s : State} {e : EngId} {g : Eng} {pc : Nat} (h : s.fetchable e pc (g.icount + 1)) (n : Nat) :
    s.isaGo e g pc n =
      s.setEng e (some { g with pc := pc, icount := g.icount + 1, cycles := g.cycles + n, status := .run }) :=
  isaReady_of_fetchable (g := { g with pc := pc, icount := g.icount + 1, cycles := g.cycles + n }) h

theorem isaNext_of_fetchable {s : State} {e : EngId} {g : Eng} (h : s.fetchable e (g.pc + 1) (g.icount + 1)) (n : Nat) :
    s.isaNext e g n =
      s.setEng e (some { g with pc := g.pc + 1, icount := g.icount + 1, cycles := g.cycles + n, status := .run }) :=
  isaGo_of_fetchable h n

end State

/-! Registers and operands (R203 to R205). -/

namespace Eng

theorem reg_setReg {g : Eng} {i : Nat} (hi : i < g.w.length) (v : Word) (j : Nat) :
    (g.setReg i v).reg j = if j = i then v else g.reg j := by
  unfold reg setReg
  rw [List.getElem?_set]
  by_cases hji : j = i
  · rw [if_pos hji.symm, if_pos hi, if_pos hji]
    rfl
  · rw [if_neg (Ne.symm hji), if_neg hji]

theorem opB_of_imm (g : Eng) {x : IWord} (h : x.i = true) : g.opB x = x.imm := if_pos h

theorem opB_of_reg (g : Eng) {x : IWord} (h : x.i = false) : g.opB x = g.reg x.rb := if_neg (ne_true_of_eq_false h)

end Eng

section
variable {s : State} {e : EngId} {g : Eng} {x : IWord}

/-- R204, R206: an arithmetic or logic instruction sets the flags from its result and writes it to rd unless it only compares. -/
theorem isaAlu_of_runs {op : Nat} (h : s.runs e op g x) (wr : Bool) (f : Word → Word → Word × Bool) :
    let r := f (g.reg x.ra) (g.opB x)
    s.isaAlu e op wr f = s.isaNext e (if wr then (g.flags r.1 r.2).setReg x.rd r.1 else g.flags r.1 r.2) 1 :=
  isa_of_runs h _

theorem exec_mov (h : s.runs e 0x08 g x) :
    exec (.mov e) s = .next (s.after (s.isaNext e (g.setReg x.rd (g.opB x)) 1)) :=
  acting_of_runs h (State.isaMov · e) (isa_of_runs h _)

theorem exec_ext_field (h : s.runs e 0x09 g x) (hlo : 1 ≤ x.imm.toNat % 64) (hhi : x.imm.toNat % 64 ≤ 32) :
    exec (.ext e) s = .next (s.after (s.isaNext e
      (g.setReg x.rd ((g.reg x.ra >>> (x.x % 32)) &&& BitVec.ofNat 32 (2 ^ (x.imm.toNat % 64) - 1))) 1)) :=
  acting_of_runs h (State.isaExt · e) ((isa_of_runs h _).trans (if_neg (by simp; omega)))

theorem exec_ext_length (h : s.runs e 0x09 g x) (hlen : x.imm.toNat % 64 = 0 ∨ 32 < x.imm.toNat % 64) :
    exec (.ext e) s = .next (s.after (s.isaFault e g 3)) :=
  acting_of_runs h (State.isaExt · e) ((isa_of_runs h _).trans (if_pos (by simpa using hlen)))

theorem exec_rds_some (h : s.runs e 0x0C g x) {v : Nat} (hv : s.special e g x.x = some v) :
    exec (.rds e) s = .next (s.after (s.isaNext e (g.setReg x.rd (BitVec.ofNat 32 v)) 1)) :=
  acting_of_runs h (State.isaRds · e) (by simp only [State.isaRds, isa_of_runs h, hv])

theorem exec_rds_none (h : s.runs e 0x0C g x) (hv : s.special e g x.x = none) :
    exec (.rds e) s = .next (s.after (s.isaFault e g 3)) :=
  acting_of_runs h (State.isaRds · e) (by simp only [State.isaRds, isa_of_runs h, hv])

theorem exec_nop (h : s.runs e 0x15 g x) : exec (.nop e) s = .next (s.after (s.isaNext e g 1)) :=
  acting_of_runs h (State.isaNop · e) (isa_of_runs h _)

theorem exec_setcur (h : s.runs e 0x24 g x) : exec (.setcur e) s = .next (s.after (s.isaNext e
    { g with cur := (if x.cr then g.cur + (g.opB x).toNat else (g.opB x).toNat) % 65536, l2pos := false } 1)) :=
  acting_of_runs h (State.isaSetcur · e) (isa_of_runs h _)

section
variable (h : s.runs e 0x3B g x) {v : GwEvent} (hv : s.gwe.event = some v)
include h hv

theorem exec_olen_fits (hb : (g.opB x).toNat ≤ 2176) : exec (.olen e) s = .next (s.after
    ((s.gway fun y => { y with event := some { v with olen := (g.opB x).toNat } }).isaNext e g 1)) :=
  acting_of_runs h (State.isaOlen · e) (by simp only [State.isaOlen, isa_of_runs h, hv, if_neg (Nat.not_lt.mpr hb)])

theorem exec_olen_long (hb : 2176 < (g.opB x).toNat) : exec (.olen e) s = .next (s.after (s.isaFault e g 3)) :=
  acting_of_runs h (State.isaOlen · e) (by simp only [State.isaOlen, isa_of_runs h, hv, if_pos hb])

end

end

/-- Settles O40: each instruction is its body on the instance that runs (`isa_of_runs`); the nine of the arithmetic and logic unit
share one body (`isaAlu_of_runs`), and the word after each is reached by `isaNext_of_fetchable`. -/
theorem rakeArithmetic : Obligations.RakeArithmetic := by
  refine ⟨fun s e g x => ⟨?add, ?sub, ?and, ?or, ?xor, ?shl, ?shr, exec_mov, exec_ext_field, exec_ext_length, ?cmp, ?tst,
      fun h _ => exec_rds_some h, exec_rds_none, exec_nop, exec_setcur, fun h v hv => ⟨exec_olen_fits h hv, exec_olen_long h hv⟩⟩,
    fun g r c => ⟨rfl, rfl, rfl, rfl, rfl, rfl⟩, fun g i j v hw hi => Eng.reg_setReg (hw ▸ hi) v j,
    fun g x => ⟨g.opB_of_imm, g.opB_of_reg⟩, fun s e g n h => State.isaNext_of_fetchable h n⟩
  case add => exact fun h => acting_of_runs h (State.isaAlu · e 0x01 true addC) (isaAlu_of_runs h _ _)
  case sub => exact fun h => acting_of_runs h (State.isaAlu · e 0x02 true subC) (isaAlu_of_runs h _ _)
  case and => exact fun h => acting_of_runs h (State.isaAlu · e 0x03 true fun a b => (a &&& b, false)) (isaAlu_of_runs h _ _)
  case or => exact fun h => acting_of_runs h (State.isaAlu · e 0x04 true fun a b => (a ||| b, false)) (isaAlu_of_runs h _ _)
  case xor => exact fun h => acting_of_runs h (State.isaAlu · e 0x05 true fun a b => (a ^^^ b, false)) (isaAlu_of_runs h _ _)
  case shl =>
    exact fun h => acting_of_runs h (State.isaAlu · e 0x06 true fun a b => (a <<< (b.toNat % 32), false)) (isaAlu_of_runs h _ _)
  case shr =>
    exact fun h => acting_of_runs h (State.isaAlu · e 0x07 true fun a b => (a >>> (b.toNat % 32), false)) (isaAlu_of_runs h _ _)
  case cmp => exact fun h => acting_of_runs h (State.isaAlu · e 0x0A false subC) (isaAlu_of_runs h _ _)
  case tst => exact fun h => acting_of_runs h (State.isaAlu · e 0x0B false fun a b => (a &&& b, false)) (isaAlu_of_runs h _ _)

end Sys2Proof.Machine

/-!
PROOFS. Branches, calls, returns and indexed branches (R205, R207, R215).
-/
namespace Sys2Proof.Machine

theorem farImm_iff (x : IWord) : x.farImm = true ↔ 2 ^ 14 ≤ x.imm.toNat := decide_eq_true_iff

/-- The conditions of BR by the value of CX that names each (R207). -/
def Eng.conditions (g : Eng) : List (Nat × Bool) :=
  [(0, true), (1, g.z), (2, !g.z), (3, g.n), (4, !g.n), (5, g.c), (6, !g.c), (7, g.v), (8, !g.v)]

/-- R207: the table of the conditions is that of `Eng.cond`, and CX of each is allowed. -/
theorem Eng.cond_of_mem {g : Eng} {cx : Nat} {holds : Bool} (h : (cx, holds) ∈ g.conditions) : cx ≤ 8 ∧ g.cond cx = holds := by
  simp only [conditions, List.mem_cons, Prod.mk.injEq, List.not_mem_nil, or_false] at h
  obtain ⟨rfl, rfl⟩ | ⟨rfl, rfl⟩ | ⟨rfl, rfl⟩ | ⟨rfl, rfl⟩ | ⟨rfl, rfl⟩ | ⟨rfl, rfl⟩ | ⟨rfl, rfl⟩ | ⟨rfl, rfl⟩ | ⟨rfl, rfl⟩ := h <;>
    exact ⟨by decide, rfl⟩

section
variable {s : State} {e : EngId} {g : Eng} {x : IWord}

/-! BR (R207). -/

section
variable (h : s.runs e 0x10 g x)
include h

theorem exec_br_cond (himm : x.imm.toNat < 2 ^ 14) (hcx : x.cx ≤ 8) : exec (.br e) s = .next (s.after
    (if g.cond x.cx then s.isaGo e g x.imm.toNat 2 else s.isaGo e g (g.pc + 1) 1)) :=
  acting_of_runs h (State.isaBr · e) ((isa_of_runs h _).trans (if_neg (by simp [farImm_iff]; omega)))

theorem exec_br_fault (hx : 2 ^ 14 ≤ x.imm.toNat ∨ 8 < x.cx) : exec (.br e) s = .next (s.after (s.isaFault e g 3)) :=
  acting_of_runs h (State.isaBr · e) ((isa_of_runs h _).trans (if_pos (by simpa [farImm_iff] using hx)))

end

/-! CALL and RET (R215). -/

section
variable (h : s.runs e 0x11 g x)
include h

theorem exec_call_far (himm : 2 ^ 14 ≤ x.imm.toNat) : exec (.call e) s = .next (s.after (s.isaFault e g 3)) :=
  acting_of_runs h (State.isaCall · e) ((isa_of_runs h _).trans (if_pos ((farImm_iff x).mpr himm)))

theorem exec_call_near (himm : x.imm.toNat < 2 ^ 14) : exec (.call e) s = .next (s.after
    (if 4 ≤ g.stack.length then s.isaFault e g 5
     else s.isaGo e { g with stack := (g.pc + 1) :: g.stack } x.imm.toNat 2)) :=
  acting_of_runs h (State.isaCall · e) ((isa_of_runs h _).trans (if_neg (by rw [farImm_iff]; omega)))

end

section
variable (h : s.runs e 0x12 g x)
include h

theorem exec_ret_pops {p : Nat} {l : List Nat} (hl : g.stack = p :: l) :
    exec (.ret e) s = .next (s.after (s.isaGo e { g with stack := l } p 2)) :=
  acting_of_runs h (State.isaRet · e) (by simp only [State.isaRet, isa_of_runs h, hl])

theorem exec_ret_empty (hl : g.stack = []) : exec (.ret e) s = .next (s.after (s.isaFault e g 5)) :=
  acting_of_runs h (State.isaRet · e) (by simp only [State.isaRet, isa_of_runs h, hl])

end

/-! BRX (R206). -/

section
variable (h : s.runs e 0x13 g x)
include h

theorem exec_brx_far (himm : 2 ^ 14 ≤ x.imm.toNat) : exec (.brx e) s = .next (s.after (s.isaFault e g 3)) :=
  acting_of_runs h (State.isaBrx · e) ((isa_of_runs h _).trans (if_pos ((farImm_iff x).mpr himm)))

theorem exec_brx_near (himm : x.imm.toNat < 2 ^ 14) : exec (.brx e) s = .next (s.after
    (if (g.reg x.ra).toNat ≤ x.x then s.isaGo e g (x.imm.toNat + (g.reg x.ra).toNat) 2 else s.isaGo e g (g.pc + 1) 1)) :=
  acting_of_runs h (State.isaBrx · e) ((isa_of_runs h _).trans (if_neg (by rw [farImm_iff]; omega)))

end

end

/-- Settles O41: the table of R207 is that of `Eng.cond` (`cond_of_mem`), and each instruction takes the branch of its body that the
clause's hypotheses select. -/
theorem rakeBranchConditions : Obligations.RakeBranchConditions := by
  refine ⟨fun s e g x h himm => ⟨fun holds hfind => ?taken, fun hcx => exec_br_fault h (.inr hcx)⟩,
    fun s e g x h himm => exec_br_fault h (.inl himm),
    fun s e g x h => ⟨fun himm hroom => ?call, fun himm hfull => ?full, exec_call_far h⟩,
    fun s e g x h => ⟨fun _ _ => exec_ret_pops h, exec_ret_empty h⟩,
    fun s e g x h => ⟨fun himm hle => ?brx, fun himm hlt => ?past, exec_brx_far h⟩,
    fun s e g pc n h => State.isaGo_of_fetchable h n⟩
  case taken =>
    have hmem : (x.cx, holds) ∈ g.conditions := List.mem_of_find?_eq_some hfind
    obtain ⟨hcx, hcond⟩ := Eng.cond_of_mem hmem
    exact (exec_br_cond h himm hcx).trans (by rw [hcond])
  case call => exact (exec_call_near h himm).trans (by rw [if_neg (Nat.not_le.mpr hroom)])
  case full => exact (exec_call_near h himm).trans (by rw [if_pos hfull])
  case brx => exact (exec_brx_near h himm).trans (by rw [if_pos hle])
  case past => exact (exec_brx_near h himm).trans (by rw [if_neg (Nat.not_le.mpr hlt)])

end Sys2Proof.Machine

/-!
PROOFS. Loads and stores (R202, R209, R210, R386).
-/
namespace Sys2Proof.Machine

/-! What a load finds in each space (R209). -/

namespace State

variable (s : State)

section
variable (r : Fin 32) {g : Eng}

theorem isaLoad_window {f : Frame} (hf : s.frame g.fid = some f) (a : Int) (n : Nat) : s.isaLoad (.rake r) g 0 a n =
    if 0 ≤ a ∧ a.toNat + n ≤ s.winOf g then
      if a.toNat + n ≤ f.bytes.length then .value (fbe f.bytes a.toNat n)
      else if f.ended then .out else .stall (a.toNat + n)
    else .out := by
  have hframe : s.frameOf g = (f.bytes, f.ended) := by
    unfold frameOf
    rw [hf]
  unfold isaLoad
  by_cases hin : 0 ≤ a ∧ a.toNat + n ≤ s.winOf g
  · simp [hframe, hin]
  · rw [if_neg hin]
    exact if_pos (by simp; omega)

theorem isaLoad_key (a : Int) (n : Nat) : s.isaLoad (.rake r) g 1 a n =
    if 0 ≤ a ∧ a.toNat + n ≤ 64 then .value (ofBytesLE ((g.key.bytes.drop a.toNat).take n)) else .out := by
  simp [isaLoad]

theorem isaLoad_rake_bad {sp : Nat} (hsp : 2 ≤ sp) (a : Int) (n : Nat) : s.isaLoad (.rake r) g sp a n = .bad := by
  obtain ⟨k, rfl⟩ := Nat.exists_eq_add_of_le' hsp
  rfl

end

section
variable (g : Eng) {v : GwEvent} (hv : s.gwe.event = some v)
include hv

theorem isaLoad_input (a : Int) (n : Nat) : s.isaLoad .gateway g 0 a n =
    if 0 ≤ a ∧ a.toNat + n ≤ 2176 then .value (fbe v.input a.toNat n) else .out := by
  simp [isaLoad, hv]

theorem isaLoad_context (a : Int) (n : Nat) : s.isaLoad .gateway g 1 a n =
    if 0 ≤ a ∧ a.toNat + n ≤ 512 then .value (ofBytesLE ((v.ctx.drop a.toNat).take n)) else .out := by
  simp [isaLoad, hv]

theorem isaLoad_output (a : Int) (n : Nat) : s.isaLoad .gateway g 2 a n =
    if 0 ≤ a ∧ a.toNat + n ≤ 2176 then .value (ofBytesBE (s.outBytes a.toNat n)) else .out := by
  simp [isaLoad, hv]

theorem isaLoad_gateway_bad {sp : Nat} (hsp : 3 ≤ sp) (a : Int) (n : Nat) : s.isaLoad .gateway g sp a n = .bad := by
  obtain ⟨k, rfl⟩ := Nat.exists_eq_add_of_le' hsp
  unfold isaLoad
  simp only [hv]

end

end State

/-! LD (R209). -/

/-- How LD goes on from what its load finds. -/
def State.loadDone (s : State) (e : EngId) (g : Eng) (x : IWord) : LoadOut → State
  | .value v => s.isaNext e ({ g with v := false }.setReg x.rd (BitVec.ofNat 32 v)) 1
  | .out => s.isaNext e ({ g with v := true }.setReg x.rd 0) 1
  | .stall need => s.setEng e (some { g with status := .stalled need, stallAt := s.cycles })
  | .bad => s.isaFault e g 3

section
variable {s : State} {e : EngId} {g : Eng} {x : IWord} (h : s.runs e 0x20 g x)
include h

theorem exec_ld {a : Int} (hsz : x.sz < 3) (ha : accAddr e g x = some a) {l : LoadOut} (hl : s.isaLoad e g x.cx a x.size = l) :
    exec (.ld e) s = .next (s.after (s.loadDone e g x l)) := by
  refine acting_of_runs h (State.isaLd · e) ?_
  simp only [State.isaLd, isa_of_runs h, ha, if_neg (Nat.ne_of_lt hsz), hl]
  cases l <;> rfl

theorem exec_ld_size (hsz : x.sz = 3) : exec (.ld e) s = .next (s.after (s.isaFault e g 3)) := by
  refine acting_of_runs h (State.isaLd · e) ?_
  simp only [State.isaLd, isa_of_runs h, hsz, if_true]
  cases accAddr e g x <;> rfl

end

/-! ST (R210). -/

theorem exec_st_size {s : State} {e : EngId} {g : Eng} {x : IWord} (h : s.runs e 0x21 g x) (hsz : x.sz = 3) :
    exec (.st e) s = .next (s.after (s.isaFault e g 3)) := by
  refine acting_of_runs h (State.isaSt · e) ?_
  simp only [State.isaSt, isa_of_runs h, hsz, if_true]
  cases accAddr e g x <;> rfl

/-- The instance whose key record takes the store at byte 60 to 63: it makes USER (R182, R210). -/
def Eng.storeUser (g : Eng) (k : Nat) (b : List Byte) : Eng :=
  { g with key := { g.key with user := BitVec.ofNat 32 (ofBytesLE (putBytes (bytesLE 4 g.key.user.toNat) (k - 60) b)) } }

/-- The event whose context takes the store of `b` at byte `k` (R210, R386). -/
def GwEvent.store (v : GwEvent) (k : Nat) (b : List Byte) : GwEvent :=
  { v with ctx := putBytes v.ctx k b, dirty := v.dirty ++ (List.range b.length).map (fun i => k + i) }

theorem length_bytesLE (n v : Nat) : (bytesLE n v).length = n := by
  induction n generalizing v with
  | zero => rfl
  | succ n ih => exact congrArg (· + 1) (ih (v / 256))

theorem GwEvent.mem_dirty_store (v : GwEvent) (k : Nat) (b : List Byte) (i : Nat) :
    i ∈ (v.store k b).dirty ↔ i ∈ v.dirty ∨ k ≤ i ∧ i < k + b.length := by
  simp only [store, List.mem_append, List.mem_map, List.mem_range]
  refine or_congr_right ⟨?_, fun ⟨hlo, hhi⟩ => ⟨i - k, by omega, by omega⟩⟩
  rintro ⟨j, hj, rfl⟩
  omega

section
variable {s : State} {r : Fin 32} {g : Eng} {x : IWord} {a : Int} (h : s.runs (.rake r) 0x21 g x) (hsz : x.sz < 3)
  (ha : accAddr (.rake r) g x = some a)
include h hsz ha

theorem exec_st_key (hcx : x.cx = 1) : exec (.st (.rake r)) s = .next (s.after
    (if 60 ≤ a ∧ a.toNat + x.size ≤ 64 then
      s.isaNext (.rake r) (g.storeUser a.toNat (bytesLE x.size (g.reg x.rb).toNat)) 1
     else s.isaFault (.rake r) g 6)) := by
  refine acting_of_runs h (State.isaSt · (.rake r)) ?_
  simp only [State.isaSt, isa_of_runs h, ha, if_neg (Nat.ne_of_lt hsz), hcx, Bool.and_eq_true, decide_eq_true_eq]
  rfl

theorem exec_st_window (hcx : x.cx = 0) : exec (.st (.rake r)) s = .next (s.after (s.isaFault (.rake r) g 6)) := by
  refine acting_of_runs h (State.isaSt · (.rake r)) ?_
  simp only [State.isaSt, isa_of_runs h, ha, if_neg (Nat.ne_of_lt hsz), hcx]

theorem exec_st_rake_bad (hcx : 2 ≤ x.cx) : exec (.st (.rake r)) s = .next (s.after (s.isaFault (.rake r) g 3)) := by
  obtain ⟨k, hk⟩ := Nat.exists_eq_add_of_le' hcx
  refine acting_of_runs h (State.isaSt · (.rake r)) ?_
  simp only [State.isaSt, isa_of_runs h, ha, if_neg (Nat.ne_of_lt hsz), hk]

end

section
variable {s : State} {g : Eng} {x : IWord} {a : Int} (h : s.runs .gateway 0x21 g x) (hsz : x.sz < 3)
  (ha : accAddr .gateway g x = some a)
include h hsz ha

theorem exec_st_context {v : GwEvent} (hv : s.gwe.event = some v) (hcx : x.cx = 1) : exec (.st .gateway) s = .next (s.after
    (if 128 ≤ a ∧ a.toNat + x.size ≤ 512 then
      (s.gway fun y => { y with event := some (v.store a.toNat (bytesLE x.size (g.reg x.rb).toNat)) }).isaNext .gateway g 1
     else s.isaFault .gateway g 6)) := by
  refine acting_of_runs h (State.isaSt · .gateway) ?_
  simp only [State.isaSt, isa_of_runs h, ha, if_neg (Nat.ne_of_lt hsz), hcx, hv, Bool.and_eq_true, decide_eq_true_eq, GwEvent.store,
    length_bytesLE]

theorem exec_st_output (hcx : x.cx = 2) : exec (.st .gateway) s = .next (s.after
    (if 0 ≤ a ∧ a.toNat + x.size ≤ 2176 then (s.putOut a.toNat (bytesBE x.size (g.reg x.rb).toNat)).isaNext .gateway g 1
     else s.isaFault .gateway g 6)) := by
  refine acting_of_runs h (State.isaSt · .gateway) ?_
  simp only [State.isaSt, isa_of_runs h, ha, if_neg (Nat.ne_of_lt hsz), hcx, Bool.and_eq_true, decide_eq_true_eq]

theorem exec_st_input (hcx : x.cx = 0) : exec (.st .gateway) s = .next (s.after (s.isaFault .gateway g 6)) := by
  refine acting_of_runs h (State.isaSt · .gateway) ?_
  simp only [State.isaSt, isa_of_runs h, ha, if_neg (Nat.ne_of_lt hsz), hcx]

theorem exec_st_gateway_bad (hcx : 3 ≤ x.cx) : exec (.st .gateway) s = .next (s.after (s.isaFault .gateway g 3)) := by
  obtain ⟨k, hk⟩ := Nat.exists_eq_add_of_le' hcx
  refine acting_of_runs h (State.isaSt · .gateway) ?_
  simp only [State.isaSt, isa_of_runs h, ha, if_neg (Nat.ne_of_lt hsz), hk]

end

/-- Settles O42: what a load finds is one equation per space, what a store does another, and each clause takes the branch of its
equation that its address selects. -/
theorem rakeLoadsAndStores : Obligations.RakeLoadsAndStores := by
  refine ⟨fun s e g x a h hsz ha => ⟨fun _ => exec_ld h hsz ha, exec_ld h hsz ha, fun _ => exec_ld h hsz ha, exec_ld h hsz ha⟩,
    ?rakeLoads, ?gatewayLoads, ?rakeStores, ?gatewayStores, fun s e g x hsz => ⟨(exec_ld_size · hsz), (exec_st_size · hsz)⟩⟩
  case rakeLoads =>
    intro s r g f a n hf
    have hwindow := s.isaLoad_window r hf a n
    have hkey := s.isaLoad_key r (g := g) a n
    refine ⟨fun hout => hwindow.trans (if_neg (by omega)), fun h0 hlim hlen => ?arrived, fun h0 hlim hlen hend => ?ended,
      fun h0 hlim hlen hend => ?stalled, fun h0 hlim => hkey.trans (if_pos ⟨h0, hlim⟩), fun hout => hkey.trans (if_neg (by omega)),
      fun sp hsp => s.isaLoad_rake_bad r hsp a n⟩
    case arrived => rw [hwindow, if_pos ⟨h0, hlim⟩, if_pos hlen]
    case ended => rw [hwindow, if_pos ⟨h0, hlim⟩, if_neg (Nat.not_le.mpr hlen), hend, if_pos rfl]
    case stalled => rw [hwindow, if_pos ⟨h0, hlim⟩, if_neg (Nat.not_le.mpr hlen), hend, if_neg Bool.false_ne_true]
  case gatewayLoads =>
    intro s g v a n hv
    have hinput := s.isaLoad_input g hv a n
    have hcontext := s.isaLoad_context g hv a n
    have houtput := s.isaLoad_output g hv a n
    exact ⟨fun h0 hlim => ⟨hinput.trans (if_pos ⟨h0, hlim⟩), houtput.trans (if_pos ⟨h0, hlim⟩)⟩,
      fun hout => ⟨hinput.trans (if_neg (by omega)), houtput.trans (if_neg (by omega))⟩,
      fun h0 hlim => hcontext.trans (if_pos ⟨h0, hlim⟩), fun hout => hcontext.trans (if_neg (by omega)),
      fun sp hsp => s.isaLoad_gateway_bad g hv hsp a n⟩
  case rakeStores =>
    intro s r g x a h hsz ha
    refine ⟨fun hcx hlo hhi => ?user, fun hcx hout => ?outside, exec_st_window h hsz ha, exec_st_rake_bad h hsz ha⟩
    case user => rw [exec_st_key h hsz ha hcx, if_pos ⟨hlo, hhi⟩, Eng.storeUser]
    case outside => rw [exec_st_key h hsz ha hcx, if_neg (by omega)]
  case gatewayStores =>
    intro s g x a v h hsz ha hv
    refine ⟨fun hcx hlo hhi => ⟨v.store a.toNat (bytesLE x.size (g.reg x.rb).toNat), ?context, rfl, fun k => ?dirty⟩,
      fun hcx hlo hhi => ?output, fun hcx hout => ?contextOut, fun hcx hout => ?outputOut, exec_st_input h hsz ha,
      exec_st_gateway_bad h hsz ha⟩
    case context => rw [exec_st_context h hsz ha hv hcx, if_pos ⟨hlo, hhi⟩]
    case dirty => rw [GwEvent.mem_dirty_store, length_bytesLE]
    case output => rw [exec_st_output h hsz ha hcx, if_pos ⟨hlo, hhi⟩]
    case contextOut => rw [exec_st_context h hsz ha hv hcx, if_neg (by omega)]
    case outputOut => rw [exec_st_output h hsz ha hcx, if_neg (by omega)]

end Sys2Proof.Machine

/-!
PROOFS. The Pantry: its bytes, its damaged words, and the accesses of requesters (R385 to R388, R400).
-/
namespace Sys2Proof.Machine
namespace State

variable (s : State)

/-! A write of Pantry bytes changes the Pantry alone. -/

theorem core_pantryPuts (a : Nat) (b : List Byte) :
    { s.pantryPuts a b with gwe := { (s.pantryPuts a b).gwe with pantry := s.gwe.pantry } } = s := by
  induction b generalizing s a with
  | nil => rfl
  | cons x b ih => exact (congrArg (fun t : State => { t with gwe := { t.gwe with pantry := s.gwe.pantry } }) (ih _ (a + 1)) :)

@[simp] theorem regs_pantryPuts (a : Nat) (b : List Byte) : (s.pantryPuts a b).regs = s.regs :=
  (congrArg State.regs (s.core_pantryPuts a b) :)
@[simp] theorem ctr_pantryPuts (a : Nat) (b : List Byte) : (s.pantryPuts a b).ctr = s.ctr :=
  (congrArg State.ctr (s.core_pantryPuts a b) :)
@[simp] theorem flt_pantryPuts (a : Nat) (b : List Byte) : (s.pantryPuts a b).flt = s.flt :=
  (congrArg State.flt (s.core_pantryPuts a b) :)
@[simp] theorem tim_pantryPuts (a : Nat) (b : List Byte) : (s.pantryPuts a b).tim = s.tim :=
  (congrArg State.tim (s.core_pantryPuts a b) :)
@[simp] theorem event_pantryPuts (a : Nat) (b : List Byte) : (s.pantryPuts a b).gwe.event = s.gwe.event :=
  (congrArg (fun t : State => t.gwe.event) (s.core_pantryPuts a b) :)
@[simp] theorem last_pantryPuts (a : Nat) (b : List Byte) : (s.pantryPuts a b).gwe.last = s.gwe.last :=
  (congrArg (fun t : State => t.gwe.last) (s.core_pantryPuts a b) :)

@[simp] theorem on_pantryPuts (a : Nat) (b : List Byte) (f : Fld) : (s.pantryPuts a b).on f = s.on f :=
  on_congr (s.regs_pantryPuts a b) f

theorem pantryByte_of_pantryPuts (a : Nat) (b : List Byte) (k : Nat) :
    (s.pantryPuts a b).pantryByte k = if a ≤ k ∧ k < a + b.length then b[k - a]?.getD 0 else s.pantryByte k := by
  by_cases hin : a ≤ k ∧ k < a + b.length
  · obtain ⟨i, rfl⟩ := Nat.exists_eq_add_of_le hin.1
    have hi : i < b.length := by omega
    rw [if_pos hin, s.pantryByte_pantryPuts a b i hi, Nat.add_sub_cancel_left, List.getElem?_eq_getElem hi]
    rfl
  · rw [if_neg hin, s.pantryByte_pantryPuts_of_lt a k b (by omega)]

theorem pantryLE_congr {s t : State} (h : s.gwe.pantry = t.gwe.pantry) (a n : Nat) : s.pantryLE a n = t.pantryLE a n := by
  unfold pantryLE pantryBytes pantryByte
  rw [h]

theorem ctxValid_congr {s t : State} (h : s.gwe.pantry = t.gwe.pantry) (c : Nat) : s.ctxValid c = t.ctxValid c :=
  congrArg (bitAt · 7) (pantryLE_congr h _ _)

/-- A slice of the bytes read is the bytes of the slice. -/
theorem take_drop_pantryBytes {o k n : Nat} (h : o + k ≤ n) (a : Nat) :
    ((s.pantryBytes a n).drop o).take k = s.pantryBytes (a + o) k := by
  refine List.ext_getElem (by simp [pantryBytes]; omega) fun i _ _ => ?_
  simp [pantryBytes, Nat.add_assoc]

/-! Words without damage (R400). -/

theorem eccRead_of_intact {m : EccMem} {i : Nat} (h : s.eccAt m i = 0) (src : Nat) (addr : Option Nat) :
    s.eccRead m i src addr = (false, s) := by
  unfold eccRead
  simp only [h]

theorem pantryCheck_of_intact {a n : Nat} (h : ∀ k, a / 4 ≤ k → k < (a + n + 3) / 4 → s.eccAt .pantry k = 0) (src : Nat) :
    s.pantryCheck src a n = (false, s) := by
  have hread : ∀ i, i < (a + n + 3) / 4 - a / 4 → s.eccRead .pantry (a / 4 + i) src none = (false, s) :=
    fun i hi => s.eccRead_of_intact (h _ (Nat.le_add_right _ _) (by omega)) src none
  unfold pantryCheck
  generalize (a + n + 3) / 4 - a / 4 = m at hread ⊢
  induction m with
  | zero => rfl
  | succ m ih =>
    rw [List.range_succ, List.foldl_append, ih fun i hi => hread i (by omega)]
    simp [hread m m.lt_succ_self]

/-! Writes and reads of a requester (R387, R388). -/

section
variable {c o : Nat} (hc : c < 64) (ho : o < 128) (w : Word)
include hc ho

/-- Where byte `4 * o` of the context of channel `c` lies. -/
theorem contextWord_place : 512 * c + 4 * o < 0x8000 ∧ (512 * c + 4 * o) / 512 = c ∧ (512 * c + 4 * o) % 512 = 4 * o := by
  omega

/-- Bytes 64 to 95 are taken at any time. -/
theorem pantryWrite_control (hlo : 16 ≤ o) (hhi : o < 24) : s.pantryWrite (512 * c + 4 * o) w =
    let t := ((s.eccClear .pantry ((512 * c + 4 * o) / 4)).pantryPuts (512 * c + 4 * o) (bytesLE 4 w.toNat)).wf (.GWE_CH_STATUS_STOPPED c) 0
    let e := if 32 ≤ c then t.chUpdate c else t
    e.hatConsume (e.ctx c 65 1 % 64) := by
  obtain ⟨htop, hchan, hbyte⟩ := contextWord_place hc ho
  unfold pantryWrite
  simp only [if_pos htop, hchan, hbyte]
  exact if_pos (by simp; omega)

/-- Bytes 96 to 127 are the device's own. -/
theorem pantryWrite_statistics (hlo : 24 ≤ o) (hhi : o < 32) : s.pantryWrite (512 * c + 4 * o) w = s.refuse 0x264 0x06 := by
  obtain ⟨htop, hchan, hbyte⟩ := contextWord_place hc ho
  unfold pantryWrite
  simp only [if_pos htop, hchan, hbyte]
  rw [if_neg (by simp; omega), if_pos (by simp; omega)]

/-- The other bytes are taken only while the channel is not valid. -/
theorem pantryWrite_guarded (hout : o < 16 ∨ 32 ≤ o) : s.pantryWrite (512 * c + 4 * o) w =
    if s.ctxValid c then s.chRefused c
    else (s.eccClear .pantry ((512 * c + 4 * o) / 4)).pantryPuts (512 * c + 4 * o) (bytesLE 4 w.toNat) := by
  obtain ⟨htop, hchan, hbyte⟩ := contextWord_place hc ho
  unfold pantryWrite
  simp only [if_pos htop, hchan, hbyte]
  rw [if_neg (by simp; omega), if_neg (by simp; omega)]

end

theorem pantryWrite_free {a : Nat} (hlo : 0x8000 ≤ a) (hhi : a < pantryStage) (w : Word) :
    s.pantryWrite a w = (s.eccClear .pantry (a / 4)).pantryPuts a (bytesLE 4 w.toNat) := by
  unfold pantryWrite
  rw [if_neg (Nat.not_lt.mpr hlo), if_neg (Nat.not_le.mpr hhi)]

theorem pantryWrite_stage {a : Nat} (ha : pantryStage ≤ a) (w : Word) : s.pantryWrite a w = s.refuse 0x1E0 0x08 := by
  have hlo : ¬ a < 0x8000 := by
    unfold pantryStage at ha
    omega
  unfold pantryWrite
  rw [if_neg hlo, if_pos ha]
  rfl

/-- R388: WORD wraps past 1,048,575. -/
theorem rf_word_pantryNext : s.pantryNext.rf .GWE_PANTRY_ADDR_WORD = if s.on .GWE_PANTRY_ADDR_AUTO_INC then
    (if s.rf .GWE_PANTRY_ADDR_WORD = 1048575 then 0 else s.rf .GWE_PANTRY_ADDR_WORD + 1) else s.rf .GWE_PANTRY_ADDR_WORD := by
  have hlt : s.rf .GWE_PANTRY_ADDR_WORD < 2 ^ 20 := s.rf_lt .GWE_PANTRY_ADDR_WORD
  unfold pantryNext
  split
  · refine (rf_wf_self s .GWE_PANTRY_ADDR_WORD _ (by decide : 0 + 20 ≤ 32)).trans ((Nat.mod_mod _ (2 ^ 20)).trans ?_)
    split <;> omega
  · rfl

@[simp] theorem gwe_begun (q : Requester) : (s.begun q).gwe = s.gwe := (congrArg State.gwe (s.core_begun q) :)

/-- The context of a channel lies in the window of the Pantry, whose owner is the gateway (R31). -/
theorem busStore_context {q : Requester} {c o : Nat} (hc : c < 64) (ho : o < 128) (w : Word) (aux : Nat)
    (hmay : s.mayWrite q (pantryBase + 512 * c + 4 * o) = true) (hoff : s.blockOff 18 = false) :
    s.busStore q (pantryBase + 512 * c + 4 * o) w aux = s.pantryWrite (512 * c + 4 * o) w := by
  have hwindow : pantryBase ≤ pantryBase + 512 * c + 4 * o ∧ pantryBase + 512 * c + 4 * o < pantryTop := by
    unfold pantryTop pantryBase
    omega
  have hpop : pantryBase + 512 * c + 4 * o < popBase := by
    unfold pantryBase popBase
    omega
  have htree : ¬ pantryBase + 512 * c + 4 * o < treeEnd := by
    unfold pantryBase treeEnd
    omega
  have hreg : regSpace (pantryBase + 512 * c + 4 * o) = false := by
    unfold regSpace pantryBase
    simp
    omega
  have hword : (pantryBase + 512 * c + 4 * o) % 4 = 0 := by
    unfold pantryBase
    omega
  have howner : s.ownerOff (pantryBase + 512 * c + 4 * o) = false := by
    unfold ownerOff ownerOf
    simp [htree, hwindow, hoff]
  have hoffset : pantryBase + 512 * c + 4 * o - pantryBase = 512 * c + 4 * o := by omega
  unfold busStore
  simp [hreg, hwindow, hmay, howner, hword, hpop, Nat.not_lt.mpr hwindow.1, hoffset]

end State

theorem exec_contextWrite {s : State} {q : Sender} {c : Fin 64} {o : Fin 128} (w : Word) (hawake : s.awake = true)
    (hmay : s.mayWrite q.req (pantryBase + 512 * (c : Nat) + 4 * (o : Nat)) = true) (hoff : s.blockOff 18 = false) :
    exec (.contextWrite q c o w) s = .next (s.did q (pantryBase + 512 * (c : Nat) + 4 * (o : Nat))
      ((s.begun q.req).pantryWrite (512 * (c : Nat) + 4 * (o : Nat)) w)) := by
  refine (s.acting_of (fun t => t.busWriteAux q.req (pantryBase + 512 * (c : Nat) + 4 * (o : Nat)) w 0) hawake).trans ?_
  have hoff' : (s.begun q.req).blockOff 18 = false := by
    unfold State.blockOff at hoff ⊢
    rwa [State.blockRst_begun]
  unfold State.busWriteAux
  rw [State.busStore_context _ c.isLt o.isLt w 0 (by rwa [State.mayWrite_begun]) hoff']
  rfl

theorem exec_pantryDataWrite {s : State} {q : Sender} (h : s.reaches q Reg.GWE_PANTRY_DATA) (w : Word) :
    exec (.pantryDataWrite q w) s = .next (s.did q Reg.GWE_PANTRY_DATA
      ((s.begun q.req).pantryWrite (4 * s.rf .GWE_PANTRY_ADDR_WORD) w).pantryNext) := by
  have hdo := regActP s h (w := w) (aux := 0) (p := (75, 0)) (e := (s.begun q.req).pantryDataWrite w) (by decide) (by decide) rfl
  unfold State.pantryDataWrite at hdo
  rwa [State.rf_begun] at hdo

theorem exec_pantryDataRead {s : State} {q : Sender} (h : s.readable q Reg.GWE_PANTRY_DATA)
    (hecc : s.eccAt .pantry (s.rf .GWE_PANTRY_ADDR_WORD) = 0) :
    exec (.pantryDataRead q) s = .next (s.told q (BitVec.ofNat 32 (s.pantryLE (4 * s.rf .GWE_PANTRY_ADDR_WORD) 4)) s.pantryNext) := by
  refine s.readCmd_told h (by decide) (by decide) ?_
  have hcheck := s.pantryCheck_of_intact (a := 4 * s.rf .GWE_PANTRY_ADDR_WORD) (n := 4)
    (fun k hlo hhi => by rwa [show k = s.rf .GWE_PANTRY_ADDR_WORD by omega]) s.gweSrc
  have hread : s.regRead q.req Reg.GWE_PANTRY_DATA = s.pantryDataRead := by
    unfold State.regRead
    rw [caseAt_readCases s q.req _ (p := (5, 0)) (by decide)]
    rfl
  rw [hread]
  unfold State.pantryDataRead State.pantryRead
  rw [hcheck]
  rfl

end Sys2Proof.Machine

/-!
PROOFS. The slices of the gateway engine, its timer and decapsulation (R386, R391, R393, R399, R400).
-/
namespace Sys2Proof.Machine
namespace State

variable (s : State)

/-! The channel served next (R393). -/

/-- Channel `c` has a program that serves and an event for it. -/
def chanReady (s : State) (c : Nat) : Prop :=
  s.ctxValid c = true ∧ s.on (.GWE_CH_STATUS_STOPPED c) = false ∧ (s.chan c).fifo ≠ []

theorem nextChan_first {c : Nat} (h : s.nextChan = some c) :
    ∃ i, i < 64 ∧ c = (s.gwe.last + 1 + i) % 64 ∧ s.chanReady c ∧ ∀ j, j < i → ¬ s.chanReady ((s.gwe.last + 1 + j) % 64) := by
  unfold nextChan at h
  rw [List.find?_map, Option.map_eq_some_iff] at h
  obtain ⟨i, hfind, rfl⟩ := h
  obtain ⟨hready, hi, hfirst⟩ := List.find?_range_eq_some.mp hfind
  refine ⟨i, List.mem_range.mp hi, rfl, by simpa [chanReady, and_assoc] using hready, fun j hj => ?_⟩
  simpa [chanReady, and_assoc, Decidable.or_iff_not_imp_left] using hfirst j hj

theorem nextChan_lt {c : Nat} (h : s.nextChan = some c) : c < 64 := by
  obtain ⟨i, -, rfl, -⟩ := s.nextChan_first h
  exact Nat.mod_lt _ (by decide)

theorem sliceStart_of_idle (h : s.fwdEn = false ∨ s.gwe.event ≠ none) : s.sliceStart = s := by
  unfold sliceStart
  exact if_pos (by simpa [Option.isSome_iff_ne_none] using h)

/-! The program of an event runs until the event has ended. -/

theorem sliceRun_of_ended (h : s.gwe.event = none) (n : Nat) : s.sliceRun n = s := by
  cases n with
  | zero => rfl
  | succ n => exact if_neg (by simp [h])

theorem sliceRun_of_event (h : s.gwe.event ≠ none) (n : Nat) : s.sliceRun (n + 1) = (s.isaExec .gateway).sliceRun n :=
  if_pos (Option.isSome_iff_ne_none.mpr h)

/-! The engine loads an event (R386, R390). -/

theorem core_putOut (a : Nat) (b : List Byte) :
    { s.putOut a b with gwe := { (s.putOut a b).gwe with obuf := s.gwe.obuf } } = s := by
  induction b generalizing s a with
  | nil => rfl
  | cons x b ih => exact (congrArg (fun t : State => { t with gwe := { t.gwe with obuf := s.gwe.obuf } }) (ih _ (a + 1)) :)

@[simp] theorem ctr_putOut (a : Nat) (b : List Byte) : (s.putOut a b).ctr = s.ctr := (congrArg State.ctr (s.core_putOut a b) :)
@[simp] theorem flt_putOut (a : Nat) (b : List Byte) : (s.putOut a b).flt = s.flt := (congrArg State.flt (s.core_putOut a b) :)
@[simp] theorem tim_putOut (a : Nat) (b : List Byte) : (s.putOut a b).tim = s.tim := (congrArg State.tim (s.core_putOut a b) :)
@[simp] theorem ecc_putOut (a : Nat) (b : List Byte) : (s.putOut a b).ecc = s.ecc := (congrArg State.ecc (s.core_putOut a b) :)
@[simp] theorem pantry_putOut (a : Nat) (b : List Byte) : (s.putOut a b).gwe.pantry = s.gwe.pantry :=
  (congrArg (fun t : State => t.gwe.pantry) (s.core_putOut a b) :)
@[simp] theorem chans_putOut (a : Nat) (b : List Byte) : (s.putOut a b).gwe.chans = s.gwe.chans :=
  (congrArg (fun t : State => t.gwe.chans) (s.core_putOut a b) :)

/-- The event `m` of channel `c` with the context of the channel. -/
def sliceEvent (s : State) (c : Nat) (m : Msg) : GwEvent :=
  ⟨c, m, 0, s.pantryBytes (512 * c) 512, [], s.ctx c 68 4, s.ctx c 72 2, !s.gwe.cache.contains c⟩

/-- The head event of channel `c` is taken, the events `l` wait on, and the header of the output buffer is cleared. -/
def sliceTake (s : State) (c : Nat) (l : List Msg) : State :=
  (s.setChan c { s.chan c with fifo := l }).putOut 2048 (List.replicate 32 0)

/-- The engine has the event `v` and the instance `g`. -/
def loadEvent (s : State) (v : GwEvent) (g : Eng) : State :=
  ((s.wf .GWE_STATUS_CHANNEL v.chan).wf .GWE_STATUS_BUSY 1).gway fun x =>
    { x with event := some v, eng := some g, last := v.chan, cache := (v.chan :: x.cache.filter (fun k => k ≠ v.chan)).take 16 }

section
variable (c : Nat) (l : List Msg)

@[simp] theorem ctr_sliceTake : (s.sliceTake c l).ctr = s.ctr := ctr_putOut _ _ _
@[simp] theorem flt_sliceTake : (s.sliceTake c l).flt = s.flt := flt_putOut _ _ _
@[simp] theorem tim_sliceTake : (s.sliceTake c l).tim = s.tim := tim_putOut _ _ _
@[simp] theorem ecc_sliceTake : (s.sliceTake c l).ecc = s.ecc := ecc_putOut _ _ _
@[simp] theorem pantry_sliceTake : (s.sliceTake c l).gwe.pantry = s.gwe.pantry := pantry_putOut _ _ _

theorem fifo_sliceTake : ((s.sliceTake c l).chan c).fifo = l := by
  unfold chan
  rw [sliceTake, chans_putOut]
  exact congrArg Chan.fifo (spGet_spSet_self _ _ _ _)

end

section
variable (v : GwEvent) (g : Eng)

@[simp] theorem ctr_loadEvent : (s.loadEvent v g).ctr = s.ctr := (rfl)
@[simp] theorem flt_loadEvent : (s.loadEvent v g).flt = s.flt := (rfl)
@[simp] theorem tim_loadEvent : (s.loadEvent v g).tim = s.tim := (rfl)
@[simp] theorem ecc_loadEvent : (s.loadEvent v g).ecc = s.ecc := (rfl)
@[simp] theorem pantry_loadEvent : (s.loadEvent v g).gwe.pantry = s.gwe.pantry := (rfl)
@[simp] theorem event_loadEvent : (s.loadEvent v g).gwe.event = some v := (rfl)
@[simp] theorem last_loadEvent : (s.loadEvent v g).gwe.last = v.chan := (rfl)

theorem busy_loadEvent : (s.loadEvent v g).on .GWE_STATUS_BUSY = true :=
  on_wf_self (s.wf .GWE_STATUS_CHANNEL v.chan) .GWE_STATUS_BUSY 1 (by decide : 7 + 1 ≤ 32)

end

/-- R386, R387: where the program of an event lies is judged before its first word is fetched. The state after the output buffer is
cleared is kept opaque: its 32 stores are not to be computed. -/
theorem sliceStart_loads {c : Nat} {m : Msg} {l : List Msg} (hfwd : s.fwdEn = true) (hidle : s.gwe.event = none)
    (hnext : s.nextChan = some c) (hfifo : (s.chan c).fifo = m :: l) (hevent : s.eccAt .event c = 0)
    (hpantry : ∀ k, s.eccAt .pantry k = 0) :
    let v := s.sliceEvent c m
    ∃ g : Eng, s.sliceStart =
      (if v.base % 8 ≠ 0 || v.len = 0 || 4096 < v.len || v.base < pantryProg || pantryStage < v.base + 8 * v.len
       then ((s.sliceTake c l).loadEvent v g).isaFault .gateway g 4 else ((s.sliceTake c l).loadEvent v g).isaReady .gateway g) ∧
      g.w = wordsOf 16 (s.pantryBytes (512 * c) 512) ∧ g.pc = 0 ∧ g.icount = 0 := by
  have hparity : s.parityRead .event c (0x1E0 + c) = (false, s) := if_pos hevent
  have hbase : ofBytesLE (((s.pantryBytes (512 * c) 512).drop 68).take 4) = s.ctx c 68 4 :=
    congrArg ofBytesLE (s.take_drop_pantryBytes (by decide) _)
  have hlen : ofBytesLE (((s.pantryBytes (512 * c) 512).drop 72).take 2) = s.ctx c 72 2 :=
    congrArg ofBytesLE (s.take_drop_pantryBytes (by decide) _)
  have hcheck {t : State} (h : t.ecc = s.ecc) (src a n : Nat) : t.pantryCheck src a n = (false, t) := by
    refine t.pantryCheck_of_intact (fun k _ _ => ?_) src
    unfold eccAt
    rw [h]
    exact hpantry k
  unfold sliceStart
  simp only [hfwd, hidle, hnext, hfifo, hparity, hbase, hlen]
  rw [if_neg (by decide), if_neg Bool.false_ne_true]
  have htake : (s.setChan c { s.chan c with fifo := l }).putOut 2048 (List.replicate 32 0) = s.sliceTake c l := rfl
  have hecc := s.ecc_sliceTake c l
  rw [htake]
  generalize s.sliceTake c l = t at hecc ⊢
  simp only [hcheck, ecc_gway, ecc_wf, hecc, ite_self]
  apply Exists.intro
  exact ⟨if_neg Bool.false_ne_true, rfl, rfl, rfl⟩

/-! The first word of the program is fetched (R386, R387). -/

section
variable {s : State} {v : GwEvent} (hv : s.gwe.event = some v)
include hv

theorem progLen_of_event : s.progLen .gateway = v.len := by simp only [progLen, hv]

theorem fetchWord_of_event (pc : Nat) : s.fetchWord .gateway pc = BitVec.ofNat 64 (s.pantryLE (v.base + 8 * pc) 8) := by
  simp only [fetchWord, hv]

theorem fetchEcc_of_event (pc : Nat) : s.fetchEcc .gateway pc = s.pantryCheck (0x1E0 + v.chan) (v.base + 8 * pc) 8 := by
  simp only [fetchEcc, hv]

theorem isaFault_of_event (g : Eng) (n : Nat) : s.isaFault .gateway g n = s.eventFault g v n := by simp only [isaFault, hv]

end

/-! An event ends by an execution fault (R400). -/

theorem cget_congr {s t : State} (h : s.ctr = t.ctr) (a : Nat) : s.cget a = t.cget a := by
  unfold cget
  rw [h]

theorem slot_congr {s t : State} (h : s.flt = t.flt) (n : Nat) : s.slot n = t.slot n := by
  unfold slot
  rw [h]

theorem now_congr {s t : State} (h : s.tim = t.tim) : s.now = t.now := by
  unfold now
  rw [h]

/-- What is seen of the fault that ended the event of channel `c`: the event in service and the channel served last, EXEC_FAULT and
BUSY, the channel's fault counter, its pending slot, and the fault number in its context. -/
structure FaultView where
  event : Option GwEvent
  last : Nat
  raised : Bool
  busy : Bool
  count : Nat
  slot : Option Slot
  code : Nat

def faultView (s : State) (c : Nat) : FaultView :=
  ⟨s.gwe.event, s.gwe.last, s.on .GWE_INT_EXEC_FAULT, s.on .GWE_STATUS_BUSY, s.cget (Ctr.gwe c 8), s.slot (0x1E0 + c), s.ctx c 102 1⟩

theorem ctrGwe_ne (c : Nat) {i j : Nat} (h : i ≠ j) : Ctr.gwe c i ≠ Ctr.gwe c j := by
  unfold Ctr.gwe
  omega

theorem sliceEnd_does (g : Eng) (v : GwEvent) : let t := s.sliceEnd g v
    t.gwe.event = none ∧ t.gwe.last = s.gwe.last ∧ t.on .GWE_STATUS_BUSY = false ∧
    t.cget (Ctr.gwe v.chan 8) = s.cget (Ctr.gwe v.chan 8) ∧ t.flt = s.flt ∧ t.tim = s.tim := by
  obtain ⟨t, ht⟩ : ∃ t, t = s.pantryPuts (512 * v.chan + 96) (bytesLE 4 (s.ctx v.chan 96 4 + 1)) := ⟨_, rfl⟩
  obtain ⟨u, hu⟩ : ∃ u, u = t.pantryPuts (512 * v.chan + 104)
      (bytesLE 4 (max (t.ctx v.chan 104 4) (min g.cycles (2 ^ 32 - 1)))) := ⟨_, rfl⟩
  have hend : s.sliceEnd g v = State.gway (((u.cinc (Ctr.gwe v.chan 7)).wf .GWE_STATUS_MAX_SLICE (max (u.rf .GWE_STATUS_MAX_SLICE)
      (min (g.cycles + if v.miss then 48 else 0) 65535))).wf .GWE_STATUS_BUSY 0) fun x => { x with eng := none, event := none } := by
    rw [hu, ht]
    rfl
  have hlast : u.gwe.last = s.gwe.last := by rw [hu, last_pantryPuts, ht, last_pantryPuts]
  have hctr : u.ctr = s.ctr := by rw [hu, ctr_pantryPuts, ht, ctr_pantryPuts]
  have hflt : u.flt = s.flt := by rw [hu, flt_pantryPuts, ht, flt_pantryPuts]
  have htim : u.tim = s.tim := by rw [hu, tim_pantryPuts, ht, tim_pantryPuts]
  rw [hend]
  refine ⟨rfl, hlast, on_wf_self _ .GWE_STATUS_BUSY 0 (by decide : 7 + 1 ≤ 32), ?_, hflt, htim⟩
  exact (u.cget_cadd_of_ne 1 (ctrGwe_ne v.chan (by decide))).trans (cget_congr hctr _)

/-- The discard of a stopped channel's events changes nothing of what is seen of the fault. -/
theorem faultView_chStop {c : Nat} (hc : c < 64) : (s.chStop c).faultView c = s.faultView c := by
  have hstatus : Reg.GWE_STATUS ≠ Reg.GWE_CH_STATUS c := by
    unfold Reg.GWE_STATUS Reg.GWE_CH_STATUS
    omega
  have hint : Reg.GWE_INT ≠ Reg.GWE_CH_STATUS c := by
    unfold Reg.GWE_INT Reg.GWE_CH_STATUS
    omega
  have hraised : (s.chStop c).on .GWE_INT_EXEC_FAULT = s.on .GWE_INT_EXEC_FAULT := on_wf_of_ne _ _ _ 1 (.inl hint)
  have hbusy : (s.chStop c).on .GWE_STATUS_BUSY = s.on .GWE_STATUS_BUSY := on_wf_of_ne _ _ _ 1 (.inl hstatus)
  have hcount : (s.chStop c).cget (Ctr.gwe c 8) = s.cget (Ctr.gwe c 8) := cget_cadd_of_ne _ _ (ctrGwe_ne c (by decide))
  have hcode : (s.chStop c).ctx c 102 1 = s.ctx c 102 1 := pantryLE_congr rfl _ _
  unfold faultView
  rw [hraised, hbusy, hcount, hcode]
  rfl

/-- The fault `n` of channel `c` is counted, recorded in its context and reported. -/
def faultNoted (s : State) (c n : Nat) : State :=
  let s := (s.cinc (Ctr.gwe c 8)).wf .GWE_INT_EXEC_FAULT 1
  let s := s.pantryPuts (512 * c + 100) (bytesLE 2 (satInc 16 (s.ctx c 100 2)))
  (s.pantryPuts (512 * c + 102) (bytesLE 1 n)).report (0x1E0 + c) 0x06 n

theorem eventFault_of_pos (g : Eng) (v : GwEvent) {n : Nat} (hn : n ≠ 0) : s.eventFault g v n =
    if bitAt (ofBytesLE ((v.ctx.drop 64).take 1)) 6 then ((s.sliceEnd g v).faultNoted v.chan n).chStop v.chan
    else (s.sliceEnd g v).faultNoted v.chan n :=
  if_neg hn

theorem faultView_faultNoted (c : Nat) {n : Nat} (hn : n < 256) : (s.faultNoted c n).faultView c =
    ⟨s.gwe.event, s.gwe.last, true, s.on .GWE_STATUS_BUSY, (s.cget (Ctr.gwe c 8) + 1) % 2 ^ 64,
      some (Slot.event (s.slot (0x1E0 + c)) 0x06 n s.now), n⟩ := by
  obtain ⟨t, ht⟩ : ∃ t, t = (s.cinc (Ctr.gwe c 8)).wf .GWE_INT_EXEC_FAULT 1 := ⟨_, rfl⟩
  obtain ⟨u, hu⟩ : ∃ u, u = t.pantryPuts (512 * c + 100) (bytesLE 2 (satInc 16 (t.ctx c 100 2))) := ⟨_, rfl⟩
  have hnoted : s.faultNoted c n = (u.pantryPuts (512 * c + 102) (bytesLE 1 n)).report (0x1E0 + c) 0x06 n := by
    rw [hu, ht]
    rfl
  have hevent : (s.faultNoted c n).gwe.event = s.gwe.event := by simp [hnoted, hu, ht]
  have hlast : (s.faultNoted c n).gwe.last = s.gwe.last := by simp [hnoted, hu, ht]
  have hraised : (s.faultNoted c n).on .GWE_INT_EXEC_FAULT = true := by
    rw [hnoted, on_report, on_pantryPuts, hu, on_pantryPuts, ht]
    exact on_wf_self _ .GWE_INT_EXEC_FAULT 1 (by decide : 2 + 1 ≤ 32)
  have hbusy : (s.faultNoted c n).on .GWE_STATUS_BUSY = s.on .GWE_STATUS_BUSY := by
    rw [hnoted, on_report, on_pantryPuts, hu, on_pantryPuts, ht]
    exact on_wf_of_ne _ .GWE_INT_EXEC_FAULT .GWE_STATUS_BUSY 1 (.inl (by decide))
  have hcount : (s.faultNoted c n).cget (Ctr.gwe c 8) = (s.cget (Ctr.gwe c 8) + 1) % 2 ^ 64 := by
    have hctr : (s.faultNoted c n).ctr = (s.cinc (Ctr.gwe c 8)).ctr := by simp [hnoted, hu, ht]
    rw [cget_congr hctr]
    exact s.cget_cadd_self _ 1
  have hslot : (s.faultNoted c n).slot (0x1E0 + c) = some (Slot.event (s.slot (0x1E0 + c)) 0x06 n s.now) := by
    have hflt : (u.pantryPuts (512 * c + 102) (bytesLE 1 n)).flt = s.flt := by simp [hu, ht]
    have htim : (u.pantryPuts (512 * c + 102) (bytesLE 1 n)).tim = s.tim := by simp [hu, ht]
    rw [hnoted, slot_report, slot_congr hflt, now_congr htim]
  have hcode : (s.faultNoted c n).ctx c 102 1 = n := by
    have hbyte : (u.pantryPuts (512 * c + 102) (bytesLE 1 n)).pantryByte (512 * c + 102) = BitVec.ofNat 8 n :=
      u.pantryByte_pantryPuts (512 * c + 102) (bytesLE 1 n) 0 (by decide : 0 < 1)
    rw [hnoted]
    show ofBytesLE [(u.pantryPuts (512 * c + 102) (bytesLE 1 n)).pantryByte (512 * c + 102)] = n
    rw [hbyte]
    simp [ofBytesLE, hn]
  unfold faultView
  rw [hevent, hlast, hraised, hbusy, hcount, hslot, hcode]

/-- R400: an event that ends by fault `n`. -/
theorem faultView_eventFault (g : Eng) {v : GwEvent} (hc : v.chan < 64) {n : Nat} (hpos : n ≠ 0) (hn : n < 256) :
    (s.eventFault g v n).faultView v.chan =
      ⟨none, s.gwe.last, true, false, (s.cget (Ctr.gwe v.chan 8) + 1) % 2 ^ 64,
        some (Slot.event (s.slot (0x1E0 + v.chan)) 0x06 n s.now), n⟩ := by
  obtain ⟨hevent, hlast, hbusy, hcount, hflt, htim⟩ := s.sliceEnd_does g v
  have hnoted : ((s.sliceEnd g v).faultNoted v.chan n).faultView v.chan = _ := faultView_faultNoted _ v.chan hn
  rw [hevent, hlast, hbusy, hcount, slot_congr hflt, now_congr htim] at hnoted
  rw [s.eventFault_of_pos g v hpos]
  split
  · exact (faultView_chStop _ hc).trans hnoted
  · exact hnoted

/-! A slice starts (R386, R387, R393, R400). -/

/-- R387: the program of an event lies in the program region. -/
def progPlaced (base len : Nat) : Prop :=
  base % 8 = 0 ∧ 0 < len ∧ len ≤ 4096 ∧ pantryProg ≤ base ∧ base + 8 * len ≤ pantryStage

section
variable {s : State} {c : Nat} {m : Msg} {l : List Msg} (hfwd : s.fwdEn = true) (hidle : s.gwe.event = none)
  (hnext : s.nextChan = some c) (hfifo : (s.chan c).fifo = m :: l) (hevent : s.eccAt .event c = 0)
  (hpantry : ∀ k, s.eccAt .pantry k = 0)
include hfwd hidle hnext hfifo hevent hpantry

theorem sliceStart_ready (hplaced : progPlaced (s.ctx c 68 4) (s.ctx c 72 2))
    (hlegal : opLegal .gateway (decodeI (BitVec.ofNat 64 (s.pantryLE (s.ctx c 68 4) 8))).op = true) :
    ∃ g : Eng, s.sliceStart = ((s.sliceTake c l).loadEvent (s.sliceEvent c m) g).setEng .gateway (some { g with status := .run }) ∧
      g.w = wordsOf 16 (s.pantryBytes (512 * c) 512) ∧ g.pc = 0 := by
  obtain ⟨hbase, hpos, hmax, hlo, hhi⟩ := hplaced
  obtain ⟨g, hstart, hw, hpc, hicount⟩ := s.sliceStart_loads hfwd hidle hnext hfifo hevent hpantry
  obtain ⟨t, ht⟩ : ∃ t, t = (s.sliceTake c l).loadEvent (s.sliceEvent c m) g := ⟨_, rfl⟩
  have htev : t.gwe.event = some (s.sliceEvent c m) := by rw [ht, event_loadEvent]
  have htp : t.gwe.pantry = s.gwe.pantry := by rw [ht, pantry_loadEvent, pantry_sliceTake]
  have hte : t.ecc = s.ecc := by rw [ht, ecc_loadEvent, ecc_sliceTake]
  have hfetch : t.fetchable .gateway g.pc g.icount := by
    refine ⟨?len, ?limit, ?ecc, ?legal⟩
    case len => rwa [progLen_of_event htev, hpc]
    case limit => rw [hicount]; decide
    case ecc =>
      rw [fetchEcc_of_event htev]
      refine t.pantryCheck_of_intact (fun k _ _ => ?_) _
      unfold eccAt
      rw [hte]
      exact hpantry k
    case legal => rwa [fetchWord_of_event htev, hpc, pantryLE_congr htp]
  refine ⟨g, hstart.trans ?_, hw, hpc⟩
  rw [if_neg (by simp [sliceEvent]; omega), ← ht, isaReady_of_fetchable hfetch]

theorem sliceStart_unplaced (hunplaced : ¬ progPlaced (s.ctx c 68 4) (s.ctx c 72 2)) : s.sliceStart.faultView c =
    ⟨none, c, true, false, (s.cget (Ctr.gwe c 8) + 1) % 2 ^ 64, some (Slot.event (s.slot (0x1E0 + c)) 0x06 4 s.now), 4⟩ := by
  unfold progPlaced at hunplaced
  obtain ⟨g, hstart, -⟩ := s.sliceStart_loads hfwd hidle hnext hfifo hevent hpantry
  rw [if_pos (by simp [sliceEvent]; omega), isaFault_of_event (event_loadEvent _ _ _)] at hstart
  have hctr : ((s.sliceTake c l).loadEvent (s.sliceEvent c m) g).ctr = s.ctr := by rw [ctr_loadEvent, ctr_sliceTake]
  have hflt : ((s.sliceTake c l).loadEvent (s.sliceEvent c m) g).flt = s.flt := by rw [flt_loadEvent, flt_sliceTake]
  have htim : ((s.sliceTake c l).loadEvent (s.sliceEvent c m) g).tim = s.tim := by rw [tim_loadEvent, tim_sliceTake]
  have hfault := faultView_eventFault ((s.sliceTake c l).loadEvent (s.sliceEvent c m) g) g (v := s.sliceEvent c m) (s.nextChan_lt hnext)
    (by decide : 4 ≠ 0) (by decide)
  rw [hstart]
  refine hfault.trans ?_
  rw [last_loadEvent, cget_congr hctr, slot_congr hflt, now_congr htim]
  rfl

end

/-! The timer and decapsulation (R391, R399). -/

theorem gweTimer_posts {c : Nat} (hvalid : s.ctxValid c = true) (hus : s.ctx c 84 4 ≠ 0) (hactive : s.chState c = 2) :
    s.gweTimer c = s.postEvent c (Msg.blank c 5 0 0 s.now) := by
  unfold gweTimer postActive
  rw [if_pos (by simp [hvalid, hus]), if_pos hactive]

/-- R399: where no entry is damaged, the first entry that takes the frame is found. -/
theorem decapFind_of_intact (b : List Byte) (h : ∀ k, s.eccAt .pantry k = 0) (d n : Nat) :
    s.decapFind b d n = ((List.range n).findSome? (fun i => s.decapEntry (d + i) b), s) := by
  induction n generalizing d with
  | zero => rfl
  | succ n ih =>
    have hcheck := s.pantryCheck_of_intact (a := 0x9000 + 16 * d) (n := 16) (fun k _ _ => h k) s.gweSrc
    have hshift : (fun i => s.decapEntry (d + (i + 1)) b) = fun i => s.decapEntry (d + 1 + i) b := by
      funext i
      rw [Nat.add_right_comm, Nat.add_assoc]
    unfold decapFind
    simp only [hcheck, Bool.false_eq_true, if_false]
    rw [List.range_succ_eq_map, List.findSome?_cons, List.findSome?_map, ih (d + 1), Nat.add_zero]
    cases s.decapEntry d b with
    | some x => rfl
    | none => exact congrArg (fun f => ((List.range n).findSome? f, s)) hshift.symm

/-- R399: an entry that takes a frame is valid and names the channel. -/
theorem decapEntry_some {d : Nat} {b : List Byte} {x : Nat × List Msg × Bool} (h : s.decapEntry d b = some x) :
    bitAt (s.pantryLE (0x9000 + 16 * d + 10) 1) 7 = true ∧ x.1 = s.pantryLE (0x9000 + 16 * d + 11) 1 % 64 := by
  unfold decapEntry at h
  cases hvalid : bitAt (s.pantryLE (0x9000 + 16 * d + 10) 1) 7 with
  | false => simp [hvalid] at h
  | true =>
    refine ⟨rfl, ?_⟩
    cases hudp : bitAt (s.pantryLE (0x9000 + 16 * d + 10) 1) 6 with
    | false =>
      simp only [hvalid, hudp, Bool.not_true, Bool.false_eq_true, if_false, Option.ite_none_right_eq_some, Option.some.injEq] at h
      exact h.2 ▸ rfl
    | true =>
      simp only [hvalid, hudp, Bool.not_true, Bool.false_eq_true, if_false, if_true, Option.ite_none_right_eq_some,
        Option.some.injEq] at h
      exact h.2 ▸ rfl

/-- What decapsulation finds for the frame of the copy `x` that leaves on port 26, and the state that the reads of the entries leave. -/
def decapFound (s : State) (x : Copy) : Option (Nat × List Msg × Bool) × State :=
  (s.setWire 26 none).decapFind ((s.setWire 26 none).leaving x) 0 64

section
variable {s : State} {x : Copy} (hwire : s.onWire 26 = some x)
include hwire

theorem decap_of_unmatched (hnone : (s.decapFound x).1 = none) :
    s.decap = ((s.decapFound x).2.cinc (Ctr.gweAll 0)).releaseCopy x := by
  unfold decapFound at hnone ⊢
  unfold decap
  simp only [hwire, hnone]

theorem decap_of_matched {ch : Nat} {ms : List Msg} {ok : Bool} (hsome : (s.decapFound x).1 = some (ch, ms, ok)) :
    let u := (s.decapFound x).2.each ms (fun s m => s.postActive ch { m with kind := 2, time := s.now })
    s.decap = (if ok then u else u.cinc (Ctr.gweAll 1)).releaseCopy x := by
  unfold decapFound at hsome ⊢
  unfold decap
  simp only [hwire, hsome]

end

end State

section
variable {s : State} (h : s.serves 18 = true)
include h

theorem exec_gatewaySlice (run : Bool) :
    exec (.gatewaySlice run) s = .next (s.after (if run then s.sliceStart.sliceRun 1025 else s.sliceStart)) :=
  s.acting_of (State.slice · run) h

theorem exec_gatewayTimer (c : Fin 64) : exec (.gatewayTimer c) s = .next (s.after (s.gweTimer c)) :=
  s.acting_of (fun t => t.gweTimer c) h

theorem exec_decapsulation : exec .decapsulation s = .next (s.after s.decap) := s.acting_of State.decap h

end

/-- Settles O53: a slice starts with the first ready channel (`nextChan_first`) and loads its event (`sliceStart_loads`), after
which the program's place decides between its first word and execution fault 4; the Pantry's accesses take the branch of
`pantryWrite` that their address selects. -/
theorem gatewayEngine : Obligations.GatewayEngine := by
  refine ⟨fun s run h => exec_gatewaySlice h run, fun s n => ⟨(s.sliceRun_of_ended · n), (s.sliceRun_of_event · n)⟩,
    fun s => ⟨s.sliceStart_of_idle, fun c hnext => ?first⟩, ?start, ?timer, fun s => s.pantryByte_of_pantryPuts, ?context, ?data,
    fun s q h hecc => exec_pantryDataRead h hecc, fun s => s.rf_word_pantryNext, ?decap, fun s b h => ?find,
    fun s d b x => s.decapEntry_some⟩
  case first =>
    obtain ⟨i, hi, hc, ⟨hvalid, hrunning, hfifo⟩, hfirst⟩ := s.nextChan_first hnext
    exact ⟨s.nextChan_lt hnext, hvalid, hrunning, hfifo, i, hi, hc, hfirst⟩
  case start =>
    intro s c m l hfwd hidle hnext hfifo hevent hpantry
    refine ⟨fun hgood hlegal => ?_, fun hbad => ?_⟩
    · obtain ⟨g, hstart, hw, hpc⟩ := State.sliceStart_ready hfwd hidle hnext hfifo hevent hpantry hgood hlegal
      have htake := s.fifo_sliceTake c l
      rw [hstart]
      generalize s.sliceTake c l = t at htake ⊢
      exact ⟨rfl, htake, rfl, t.busy_loadEvent _ g, _, rfl, hw, hpc, rfl⟩
    · have hseen := State.sliceStart_unplaced hfwd hidle hnext hfifo hevent hpantry hbad
      obtain ⟨hnone, hlast, hraised, hbusy, hcount, hslot, hcode⟩ := State.FaultView.mk.inj hseen
      exact ⟨hnone, hlast, hraised, hbusy, hcount, hslot, hcode⟩
  case timer =>
    intro s c h hvalid hus hactive
    rw [exec_gatewayTimer h, s.gweTimer_posts hvalid hus hactive]
  case context =>
    intro s q c o w a p put _ hawake hmay hoff
    have hdo := exec_contextWrite w hawake hmay hoff
    have hvalid := State.ctxValid_congr (congrArg Gwe.pantry (s.gwe_begun q.req)) c
    refine ⟨fun hlo hhi => ⟨_, ?_, rfl⟩, fun hlo hhi => ?_, fun hout => ⟨fun hv => ?_, fun hv => ?_⟩⟩
    · rw [hdo, State.pantryWrite_control _ c.isLt o.isLt w hlo hhi]
    · rw [hdo, State.pantryWrite_statistics _ c.isLt o.isLt w hlo hhi]
    · rw [hdo, State.pantryWrite_guarded _ c.isLt o.isLt w hout, hvalid, if_pos hv]
      rfl
    · rw [hdo, State.pantryWrite_guarded _ c.isLt o.isLt w hout, hvalid, if_neg (ne_true_of_eq_false hv)]
  case data =>
    intro s q w h a
    have hdo := exec_pantryDataWrite h w
    refine ⟨fun _ => hdo, fun hlo hhi => ?_, fun hstage => ?_⟩
    · rw [hdo, State.pantryWrite_free _ hlo hhi]
    · rw [hdo, State.pantryWrite_stage _ hstage]
  case decap =>
    intro s x h hwire
    refine ⟨fun hnone => ?_, fun ch ms ok hsome => ?_⟩
    · rw [exec_decapsulation h, State.decap_of_unmatched hwire hnone]
      rfl
    · rw [exec_decapsulation h, State.decap_of_matched hwire hsome]
      rfl
  case find => exact (s.decapFind_of_intact b h 0 64).trans (by simp only [Nat.zero_add])

end Sys2Proof.Machine

/-!
PROOFS. The swap of rule-set banks and the accesses of tree memory (R227, R240 to R243, R515).
-/
namespace Sys2Proof.Machine
namespace State

variable (s : State)

/-! What a register write begins with leaves the memories as they were. -/

@[simp] theorem cls_begun (q : Requester) : (s.begun q).cls = s.cls := (congrArg State.cls (s.core_begun q) :)
@[simp] theorem ecc_begun (q : Requester) : (s.begun q).ecc = s.ecc := (congrArg State.ecc (s.core_begun q) :)
@[simp] theorem cycles_begun (q : Requester) : (s.begun q).cycles = s.cycles := (congrArg State.cycles (s.core_begun q) :)
@[simp] theorem blockOff_begun (q : Requester) (b : Nat) : (s.begun q).blockOff b = s.blockOff b := by
  unfold blockOff
  rw [blockRst_begun]

/-- A write of the host counts among the bridge's writes alone (R433). -/
theorem cget_begun {a : Nat} (ha : a ≠ Ctr.brg 1) (q : Requester) : (s.begun q).cget a = s.cget a := by
  unfold begun inbound
  split
  · exact s.cget_cadd_of_ne 1 ha
  · rfl

/-- A field just written with a value that fits it. -/
theorem rf_wf_fits (f : Fld) {v : Nat} (hf : f.lo + f.width ≤ 32) (hv : v < 2 ^ f.width) : (s.wf f v).rf f = v :=
  (s.rf_wf_self f v hf).trans (Nat.mod_eq_of_lt hv)

/-! The swap (R241). -/

/-- Why a swap is refused with a code: the first that holds. -/
def swapRefusal (code : Nat) : Prop :=
  (s.on .CLS_EPOCH_STATUS_OLD_FREE = false ∧ code = 1) ∨
  (s.on .CLS_EPOCH_STATUS_OLD_FREE = true ∧ s.rf .BOOT_UPDATE_STATUS_STATE = 5 ∧ code = 2) ∨
  (s.on .CLS_EPOCH_STATUS_OLD_FREE = true ∧ s.rf .BOOT_UPDATE_STATUS_STATE ≠ 5 ∧ s.on .CLS_CFG_BYPASS = true ∧ code = 3)

theorem epochSwap_of_refusal {code : Nat} (h : s.swapRefusal code) : s.epochSwap = s.swapRefused code := by
  unfold epochSwap
  obtain ⟨hfree, rfl⟩ | ⟨hfree, hboot, rfl⟩ | ⟨hfree, hboot, hbypass, rfl⟩ := h
  · rw [hfree]
    rfl
  · rw [hfree]
    exact if_pos hboot
  · rw [hfree]
    exact (if_neg hboot).trans (if_pos hbypass)

section
variable {s : State} (hfree : s.on .CLS_EPOCH_STATUS_OLD_FREE = true) (hboot : s.rf .BOOT_UPDATE_STATUS_STATE ≠ 5)
  (hbypass : s.on .CLS_CFG_BYPASS = false)
include hfree hboot hbypass

/-- The other bank becomes active under the next epoch, and the old one waits for its references. -/
theorem epochSwap_of_free : s.epochSwap =
    (((((s.wf .CLS_EPOCH_STATUS_ACTIVE (1 - s.rf .CLS_EPOCH_STATUS_ACTIVE)).wf .CLS_EPOCH_STATUS_EPOCH
      ((s.rf .CLS_EPOCH_STATUS_EPOCH + 1) % 256)).wf .CLS_EPOCH_STATUS_OLD_REFS (s.refsOf (s.rf .CLS_EPOCH_STATUS_EPOCH))).wf
      .CLS_EPOCH_STATUS_OLD_FREE 0).wf .CLS_EPOCH_STATUS_SWAP_PENDING 1).cinc (Ctr.cls 10) := by
  unfold epochSwap
  rw [hfree]
  exact (if_neg hboot).trans (if_neg (ne_true_of_eq_false hbypass))

theorem epochSwap_accepted : let e := s.epochSwap
    e.rf .CLS_EPOCH_STATUS_ACTIVE = 1 - s.rf .CLS_EPOCH_STATUS_ACTIVE ∧
    e.rf .CLS_EPOCH_STATUS_EPOCH = (s.rf .CLS_EPOCH_STATUS_EPOCH + 1) % 256 ∧ e.on .CLS_EPOCH_STATUS_OLD_FREE = false ∧
    e.on .CLS_EPOCH_STATUS_SWAP_PENDING = true ∧ e.cget (Ctr.cls 10) = (s.cget (Ctr.cls 10) + 1) % 2 ^ 64 := by
  have hactive : 1 - s.rf .CLS_EPOCH_STATUS_ACTIVE < 2 ^ Fld.CLS_EPOCH_STATUS_ACTIVE.width := by
    show _ < 2 ^ 1
    omega
  have hepoch : (s.rf .CLS_EPOCH_STATUS_EPOCH + 1) % 256 < 2 ^ Fld.CLS_EPOCH_STATUS_EPOCH.width := Nat.mod_lt _ (by decide)
  intro e
  unfold e
  rw [epochSwap_of_free hfree hboot hbypass]
  refine ⟨?_, ?_, ?_, ?_, cget_cadd_self _ _ 1⟩
  · simp (disch := decide) only [rf_cinc, rf_wf_of_ne]
    exact s.rf_wf_fits _ (by decide) hactive
  · simp (disch := decide) only [rf_cinc, rf_wf_of_ne]
    exact rf_wf_fits _ _ (by decide) hepoch
  · simp (disch := decide) only [on_cinc, on_wf_of_ne, on_wf_self]
    rfl
  · rw [on_cinc, on_wf_self _ _ _ (by decide)]
    rfl

end

/-- A refusal shows its code and reports on 0x113; the bank and the epoch stay. -/
theorem epochSwap_refused {code : Nat} (h : s.swapRefusal code) : let e := s.epochSwap
    e.rf .CLS_EPOCH_STATUS_REFUSE_CODE = code ∧ e.on .CLS_EPOCH_STATUS_REFUSED = true ∧
    e.rf .CLS_EPOCH_STATUS_ACTIVE = s.rf .CLS_EPOCH_STATUS_ACTIVE ∧ e.rf .CLS_EPOCH_STATUS_EPOCH = s.rf .CLS_EPOCH_STATUS_EPOCH ∧
    e.slot 0x113 = some (Slot.event (s.slot 0x113) 0x08 (Config.free s.draws) s.now) := by
  have hcode : code < 4 := by
    unfold swapRefusal at h
    omega
  rw [s.epochSwap_of_refusal h]
  unfold swapRefused
  refine ⟨rf_wf_fits _ _ (by decide) hcode, ?_, ?_, ?_, slot_refuse _ 0x113 0x08⟩
  · rw [on_refuse, on_wf_of_ne _ _ _ _ (by decide), on_wf_self _ _ _ (by decide)]
    rfl
  all_goals rw [rf_refuse, rf_wf_of_ne _ _ _ _ (by decide), rf_wf_of_ne _ _ _ _ (by decide)]

theorem pending_checkOldFree : s.checkOldFree.on .CLS_EPOCH_STATUS_SWAP_PENDING = s.on .CLS_EPOCH_STATUS_SWAP_PENDING := by
  unfold checkOldFree
  split
  · rw [on_wf_of_ne _ _ _ _ (by decide), on_wf_of_ne _ _ _ _ (by decide)]
  · rfl

/-- The old bank is free once its count is final and no reference is left (R240). -/
theorem free_checkOldFree (hfinal : s.on .CLS_EPOCH_STATUS_SWAP_PENDING = false) (hbusy : s.on .CLS_EPOCH_STATUS_OLD_FREE = false) :
    s.checkOldFree.on .CLS_EPOCH_STATUS_OLD_FREE = decide (s.rf .CLS_EPOCH_STATUS_OLD_REFS = 0) := by
  unfold checkOldFree
  by_cases hrefs : s.rf .CLS_EPOCH_STATUS_OLD_REFS = 0
  · rw [if_pos (by simp [hrefs, hfinal, hbusy]), on_wf_of_ne _ _ _ _ (by decide), on_wf_self _ _ _ (by decide), decide_eq_true hrefs]
    rfl
  · rw [if_neg (by simp [hrefs]), hbusy, decide_eq_false hrefs]

theorem swapSettled_does (hpending : s.on .CLS_EPOCH_STATUS_SWAP_PENDING = true) : let e := s.swapSettled
    e.on .CLS_EPOCH_STATUS_SWAP_PENDING = false ∧ (s.on .CLS_EPOCH_STATUS_OLD_FREE = false →
      (e.on .CLS_EPOCH_STATUS_OLD_FREE = true ↔ s.rf .CLS_EPOCH_STATUS_OLD_REFS = 0)) := by
  have hfinal : (s.wf .CLS_EPOCH_STATUS_SWAP_PENDING 0).on .CLS_EPOCH_STATUS_SWAP_PENDING = false := s.on_wf_self _ 0 (by decide)
  unfold swapSettled
  rw [if_pos hpending]
  refine ⟨(pending_checkOldFree _).trans hfinal, fun hbusy => ?_⟩
  rw [free_checkOldFree _ hfinal (by rw [on_wf_of_ne _ _ _ _ (by decide), hbusy]), rf_wf_of_ne _ _ _ _ (by decide), decide_eq_true_iff]

/-! Tree words (R227, R242, R243). -/

theorem treeWord_congr {s t : State} (h : s.cls.tree = t.cls.tree) (i : Nat) : s.treeWord i = t.treeWord i := by
  unfold treeWord
  rw [h]

theorem treeWrite_of_free {k : Nat} (h : s.treeWritable k = true) (v : Nat) : s.treeWrite k v = (true, s.treePut k v) := if_pos h

theorem treeWrite_of_used {k : Nat} (h : s.treeWritable k = false) (v : Nat) : s.treeWrite k v = (false, s.refuse 0x113 0x08) :=
  if_neg (ne_true_of_eq_false h)

/-- A word made of two halves changes the word it is written to, where that may be written. -/
theorem treeWord_treeWrite {w l : Nat} (hw : w < 2 ^ 32) (hl : l < 2 ^ 32) (k i : Nat) :
    (s.treeWrite k (w * 2 ^ 32 + l)).2.treeWord i =
      if i = k ∧ s.treeWritable k = true then w * 2 ^ 32 + l else s.treeWord i := by
  cases hk : s.treeWritable k with
  | true =>
    rw [s.treeWrite_of_free hk, treeWord_treePut, Nat.mod_eq_of_lt (by omega)]
    simp only [and_true]
  | false =>
    rw [s.treeWrite_of_used hk, if_neg (by simp)]
    rfl

theorem regs_treeWrite (k v : Nat) : (s.treeWrite k v).2.regs = s.regs := by
  unfold treeWrite
  split <;> rfl

theorem heldLo_treeWrite (k v : Nat) : (s.treeWrite k v).2.cls.heldLo = s.cls.heldLo := by
  unfold treeWrite
  split <;> rfl

/-- WORD advances and nothing else does. -/
theorem core_treeNext : { s.treeNext with regs := s.regs } = s := by
  unfold treeNext
  split <;> rfl

@[simp] theorem cls_treeNext : s.treeNext.cls = s.cls := (congrArg State.cls s.core_treeNext :)
@[simp] theorem flt_treeNext : s.treeNext.flt = s.flt := (congrArg State.flt s.core_treeNext :)
@[simp] theorem wfail_treeNext : s.treeNext.wfail = s.wfail := (congrArg State.wfail s.core_treeNext :)

theorem rf_word_treeNext : s.treeNext.rf .CLS_TREE_ADDR_WORD =
    if s.on .CLS_TREE_ADDR_AUTO_INC then (s.rf .CLS_TREE_ADDR_WORD + 1) % 262144 else s.rf .CLS_TREE_ADDR_WORD := by
  unfold treeNext
  split
  · exact s.rf_wf_fits _ (by decide) (Nat.mod_lt _ (by decide))
  · rfl

@[simp] theorem treeWritable_begun (q : Requester) (k : Nat) : (s.begun q).treeWritable k = s.treeWritable k := by
  unfold treeWritable
  rw [committed_begun, rf_begun, on_begun]

@[simp] theorem treeWord_begun (q : Requester) (k : Nat) : (s.begun q).treeWord k = s.treeWord k :=
  treeWord_congr (congrArg Cls.tree (s.cls_begun q)) k

theorem treeDataHi_does (w : Word) : let k := s.rf .CLS_TREE_ADDR_WORD
    let e := (s.treeDataHi w).2
    (∀ i, e.treeWord i = if i = k ∧ s.treeWritable k = true then w.toNat * 2 ^ 32 + s.cls.dataLo.toNat else s.treeWord i) ∧
    (s.treeWritable k = false → e.slot 0x113 = some (Slot.event (s.slot 0x113) 0x08 (Config.free s.draws) s.now) ∧
      e.wfail = some 0x08) ∧
    e.rf .CLS_TREE_ADDR_WORD = if s.on .CLS_TREE_ADDR_AUTO_INC then (s.rf .CLS_TREE_ADDR_WORD + 1) % 262144 else s.rf .CLS_TREE_ADDR_WORD := by
  have hregs := s.regs_treeWrite (s.rf .CLS_TREE_ADDR_WORD) (w.toNat * 2 ^ 32 + s.cls.dataLo.toNat)
  unfold treeDataHi
  refine ⟨fun i => ?_, fun hused => ?_, ?_⟩
  · rw [treeWord_congr (congrArg Cls.tree (cls_treeNext _))]
    exact s.treeWord_treeWrite w.isLt s.cls.dataLo.isLt _ i
  · rw [s.treeWrite_of_used hused]
    exact ⟨(slot_congr (flt_treeNext _) _).trans (slot_refuse s 0x113 0x08), wfail_treeNext _⟩
  · rw [rf_word_treeNext, rf_congr hregs, on_congr hregs]

/-- A word that is intact reads as it is stored. -/
theorem treeRead_of_intact {k : Nat} (h : s.eccAt .tree k = 0) : s.treeRead k = (false, s.treeWord k, s) := by
  unfold treeRead
  rw [s.eccRead_of_intact h]

/-! Direct accesses (R227). -/

/-- A low half is held; the word stays. -/
theorem treeDirectWrite_low_does (r : Requester) (k : Nat) (w : Word) : let e := (s.treeDirectWrite r k false w).2
    e.cls.tree = s.cls.tree ∧ spGet (fun _ => none) e.cls.heldLo (latchKey r 0) = some w :=
  ⟨rfl, spGet_spSet_self (fun _ => none) s.cls.heldLo (latchKey r 0) (some w)⟩

/-- The low half that a high half is written with: the one held, or the word's own. -/
def lowHalf (r : Requester) (k : Nat) : Nat :=
  match spGet (fun _ => none) s.cls.heldLo (latchKey r 0) with
  | some l => l.toNat
  | none => s.treeWord k % 2 ^ 32

theorem lowHalf_lt (r : Requester) (k : Nat) : s.lowHalf r k < 2 ^ 32 := by
  unfold lowHalf
  split
  · exact BitVec.isLt _
  · exact Nat.mod_lt _ (by decide)

/-- A high half writes the word in one step, and no low half is held after it. -/
theorem treeDirectWrite_high_does (r : Requester) (k : Nat) (w : Word) : let e := (s.treeDirectWrite r k true w).2
    (∀ i, e.treeWord i = if i = k ∧ s.treeWritable k = true then w.toNat * 2 ^ 32 + s.lowHalf r k else s.treeWord i) ∧
    spGet (fun _ => none) e.cls.heldLo (latchKey r 0) = none := by
  obtain ⟨t, ht⟩ : ∃ t : State, t = { s with cls := { s.cls with heldLo := spSet (fun _ => none) s.cls.heldLo (latchKey r 0) none } } :=
    ⟨_, rfl⟩
  have hwrite : s.treeDirectWrite r k true w = t.treeWrite k (w.toNat * 2 ^ 32 + s.lowHalf r k) := by
    rw [ht]
    rfl
  intro e
  unfold e
  rw [hwrite]
  refine ⟨fun i => (t.treeWord_treeWrite w.isLt (s.lowHalf_lt r k) k i).trans ?_, ?_⟩
  · rw [ht]
    rfl
  · rw [heldLo_treeWrite, ht]
    exact spGet_spSet_self (fun _ => none) s.cls.heldLo (latchKey r 0) none

theorem treeDirectRead_low {r : Requester} {k : Nat} (h : s.eccAt .tree k = 0) : s.treeDirectRead r k false =
    (false, BitVec.ofNat 32 (s.treeWord k), s.setLatch r (treeAddr 0) (BitVec.ofNat 32 (s.treeWord k / 2 ^ 32))) := by
  unfold treeDirectRead
  rw [s.treeRead_of_intact h]
  rfl

theorem treeDirectRead_high (r : Requester) (k : Nat) : s.treeDirectRead r k true = (false, s.latched r (treeAddr 0), s) := rfl

section
variable {k : Nat} (hk : k < 262144) (hi : Bool)
include hk

/-- Half `hi` of word `k` lies in the window of tree memory, whose owner is CLS (R31). -/
theorem treeHalf_place : let a := treeBase + 8 * k + 4 * b2n hi
    (treeBase ≤ a ∧ a < treeEnd) ∧ regSpace a = false ∧ a % 4 = 0 ∧ (a - treeBase) / 8 = k ∧ decide (a % 8 = 4) = hi ∧ a < pantryBase ∧
    ownerOf a = some 12 := by
  have hle : b2n hi ≤ 1 := by cases hi <;> decide
  have hwindow : treeBase ≤ treeBase + 8 * k + 4 * b2n hi ∧ treeBase + 8 * k + 4 * b2n hi < treeEnd := by
    unfold treeEnd treeBase
    omega
  refine ⟨hwindow, ?_, ?_, ?_, ?_, ?_, ?_⟩
  · unfold regSpace treeBase
    simp
    omega
  · unfold treeBase
    omega
  · omega
  · unfold treeBase
    cases hi
    · simp [b2n]
    · simp [b2n]
      omega
  · unfold pantryBase treeBase
    omega
  · unfold ownerOf
    exact if_pos (by simp [hwindow])

variable {r : Requester} (hoff : s.blockOff 12 = false)
include hoff

theorem busStore_treeHalf (w : Word) (aux : Nat) (hmay : s.mayWrite r (treeBase + 8 * k + 4 * b2n hi) = true) :
    s.busStore r (treeBase + 8 * k + 4 * b2n hi) w aux = (s.treeDirectWrite r k hi w).2 := by
  obtain ⟨hwindow, hreg, hword, hindex, hhalf, hbelow, howner⟩ := treeHalf_place hk hi
  unfold busStore ownerOff
  simp [hreg, hwindow, hmay, howner, hoff, hword, hbelow, hindex, hhalf]

theorem busRead_treeHalf (hr : r ≠ .host) (hmay : s.mayRead r (treeBase + 8 * k + 4 * b2n hi) = true) :
    s.busRead r (treeBase + 8 * k + 4 * b2n hi) = s.treeDirectRead r k hi := by
  obtain ⟨hwindow, hreg, hword, hindex, hhalf, -, howner⟩ := treeHalf_place hk hi
  unfold busRead ownerOff
  simp [hreg, hwindow, hmay, howner, hoff, hword, hindex, hhalf, hr]

end

/-! RULESET_SWAP (R515). -/

/-- The answer once the swap is requested: CLS_EPOCH_STATUS when its count is settled, TIMEOUT when that comes late. -/
def swapAnswer (late : Bool) : State :=
  if s.on .CLS_EPOCH_STATUS_SWAP_PENDING then (if late then s.mgtReply 9 0 [] else s.setBegun true)
  else (s.fwReads [Reg.CLS_EPOCH_STATUS]).2.mgtReply 0 0 (s.fwReads [Reg.CLS_EPOCH_STATUS]).1

theorem swapAnswer_eq (late : Bool) : s.swapAnswer late =
    if !s.on .CLS_EPOCH_STATUS_SWAP_PENDING then s.replyRegs [Reg.CLS_EPOCH_STATUS]
    else if late then s.mgtReply 9 0 [] else s.setBegun true := by
  unfold swapAnswer
  cases s.on .CLS_EPOCH_STATUS_SWAP_PENDING <;> rfl

/-- A write for a client that takes effect, and one that does not. -/
theorem replyWrite_of_taken {a aux : Nat} {w : Word} (h : (s.fwWrite a w aux).1 = none) (code : State → Nat → Nat) (ok : State → State) :
    s.replyWrite a w aux code ok = ok (s.fwWrite a w aux).2 := by
  unfold replyWrite
  simp only [h]

theorem replyWrite_of_refused {a aux : Nat} {w : Word} {kind : Nat} (h : (s.fwWrite a w aux).1 = some kind) (code : State → Nat → Nat)
    (ok : State → State) : s.replyWrite a w aux code ok = (s.fwWrite a w aux).2.mgtReply 4 (code (s.fwWrite a w aux).2 kind) [] := by
  unfold replyWrite
  simp only [h]
  rfl

section
variable {s : State} {r : MgtReq} (h : s.asked 0x0040 r) (hlen : r.params.length = 0) (late : Bool)
include h hlen

theorem rulesetSwap_of_begun (hb : s.mgt.begun = true) : s.rulesetSwap late = s.swapAnswer late := by
  unfold rulesetSwap
  rw [s.mgtRun_of_asked h, if_pos (decide_eq_true hlen), swapAnswer_eq]
  exact if_pos hb

theorem rulesetSwap_of_new (hb : s.mgt.begun = false) : s.rulesetSwap late =
    s.replyWrite Reg.CLS_EPOCH_CMD (cmdWord 0xE90C 1) 0 (fun u _ => u.rf .CLS_EPOCH_STATUS_REFUSE_CODE) fun u => u.swapAnswer late := by
  unfold rulesetSwap
  rw [s.mgtRun_of_asked h, if_pos (decide_eq_true hlen)]
  simp only [swapAnswer_eq]
  exact if_neg (ne_true_of_eq_false hb)

end

end State

/-! The commands. -/

theorem exec_epochSwap {s : State} {q : Sender} (h : s.reaches q Reg.CLS_EPOCH_CMD) :
    exec (.epochSwap q) s = .next (s.did q Reg.CLS_EPOCH_CMD (s.begun q.req).epochSwap) :=
  keyAct s h (p := (45, 0)) (g := fun u => if fldGet (cmdWord 0xE90C 1) 0 2 = 1 then u.epochSwap else u)
    (by decide) (by decide) (by decide) (by decide) rfl

theorem exec_treeDataHiWrite {s : State} {q : Sender} (h : s.reaches q Reg.CLS_TREE_DATA_HI) (w : Word) :
    exec (.treeDataHiWrite q w) s = .next (s.did q Reg.CLS_TREE_DATA_HI ((s.begun q.req).treeDataHi w).2) :=
  regActP s h (p := (47, 0)) (by decide) (by decide) rfl

theorem exec_treeDataLoRead {s : State} {q : Sender} (h : s.readable q Reg.CLS_TREE_DATA_LO)
    (hecc : s.eccAt .tree (s.rf .CLS_TREE_ADDR_WORD) = 0) :
    exec (.treeDataLoRead q) s = .next (s.told q (BitVec.ofNat 32 (s.treeWord (s.rf .CLS_TREE_ADDR_WORD)))
      (s.setLatch q.req Reg.CLS_TREE_DATA_HI (BitVec.ofNat 32 (s.treeWord (s.rf .CLS_TREE_ADDR_WORD) / 2 ^ 32)))) := by
  refine s.readCmd_told h (by decide) (by decide) ?_
  unfold State.regRead
  rw [caseAt_readCases s q.req _ (p := (3, 0)) (by decide)]
  show s.treeDataLo q.req = _
  unfold State.treeDataLo
  rw [s.treeRead_of_intact hecc]

/-- A read tells its reader what its address answers. -/
theorem State.readCmd_of_busRead (s : State) {q : Sender} {a : Nat} {w : Word} {t : State} (hawake : s.awake = true)
    (hread : s.busRead q.req a = (false, w, t)) : s.readCmd q a = .next (s.told q w t) := by
  unfold State.readCmd
  rw [s.acting_of _ hawake]
  dsimp only
  rw [hread]
  rfl

section
variable {s : State} {q : Sender} {k : Fin 262144} (hawake : s.awake = true) (hoff : s.blockOff 12 = false) (hi : Bool)
include hawake hoff

theorem exec_treeDirectWrite (w : Word) (hmay : s.mayWrite q.req (treeBase + 8 * (k : Nat) + 4 * b2n hi) = true) :
    exec (.treeDirectWrite q k hi w) s = .next (s.did q (treeBase + 8 * (k : Nat) + 4 * b2n hi)
      ((s.begun q.req).treeDirectWrite q.req k hi w).2) := by
  refine (s.acting_of (fun t => t.busWriteAux q.req (treeBase + 8 * (k : Nat) + 4 * b2n hi) w 0) hawake).trans ?_
  unfold State.busWriteAux
  rw [State.busStore_treeHalf _ k.isLt hi (by rwa [State.blockOff_begun]) w 0 (by rwa [State.mayWrite_begun])]
  rfl

theorem exec_treeDirectRead (hq : q ≠ .host) (hmay : s.mayRead q.req (treeBase + 8 * (k : Nat) + 4 * b2n hi) = true) {w : Word} {t : State}
    (hread : s.treeDirectRead q.req k hi = (false, w, t)) : exec (.treeDirectRead q k hi) s = .next (s.told q w t) := by
  have hr : q.req ≠ .host := by
    cases q
    case host => exact absurd rfl hq
    case ccx => decide
    case debug => decide
  exact s.readCmd_of_busRead hawake ((s.busRead_treeHalf k.isLt hi hoff hr hmay).trans hread)

end

theorem exec_rulesetSwap {s : State} {r : MgtReq} (h : s.asked 0x0040 r) (late : Bool) :
    exec (.rulesetSwap late) s = .next (s.after (s.rulesetSwap late)) :=
  s.acting_of (fun u => u.rulesetSwap late) h.1

/-- Settles O44: each access runs one operation of the classifier, whose lemma says what it leaves; a write, direct or through
CLS_TREE_DATA_HI, changes the one word that R242 lets it (`treeWord_treeWrite`). -/
theorem treeMemoryAndSwap : Obligations.TreeMemoryAndSwap := by
  refine ⟨?swap, ?settles, ?dataHi, fun s q h hecc => exec_treeDataLoRead h hecc, ?write, ?read, ?request⟩
  case swap =>
    intro s q h
    have haccept := @State.epochSwap_accepted (s.begun q.req)
    have hrefuse := @State.epochSwap_refused (s.begun q.req)
    unfold State.swapRefusal at hrefuse
    simp only [State.rf_begun, State.on_begun, State.slot_begun, State.draws_begun, State.now_begun,
      s.cget_begun (by decide : Ctr.cls 10 ≠ Ctr.brg 1)] at haccept hrefuse
    exact ⟨_, exec_epochSwap h, haccept, fun code => hrefuse⟩
  case settles => exact fun s hawake hpending => ⟨_, s.acting_of State.swapSettled hawake, s.swapSettled_does hpending⟩
  case dataHi =>
    intro s q w h
    have hdone := (s.begun q.req).treeDataHi_does w
    simp only [State.rf_begun, State.on_begun, State.treeWord_begun, State.treeWritable_begun, State.cls_begun, State.slot_begun,
      State.draws_begun, State.now_begun] at hdone
    obtain ⟨hword, hused, hnext⟩ := hdone
    refine ⟨_, exec_treeDataHiWrite h w, fun i hi => ?_, fun hfree => ?_, fun hno => ⟨?_, hused hno⟩, hnext⟩
    · rw [hword, if_neg (hi ·.1)]
    · rw [hword, if_pos ⟨rfl, hfree⟩]
    · rw [hword, if_neg (by simp [hno])]
  case write =>
    intro s q i w _ hawake hlow hhigh hoff
    obtain ⟨htree, hheld⟩ := (s.begun q.req).treeDirectWrite_low_does q.req i w
    have hdone := (s.begun q.req).treeDirectWrite_high_does q.req i w
    unfold State.lowHalf at hdone
    simp only [State.treeWord_begun, State.treeWritable_begun, State.cls_begun] at hdone htree
    obtain ⟨hword, hclear⟩ := hdone
    refine ⟨_, _, exec_treeDirectWrite hawake hoff false w hlow, htree, hheld, exec_treeDirectWrite hawake hoff true w hhigh,
      fun j hj => ?_, hclear, fun hfree => ?_, fun hno => ?_⟩
    · rw [hword, if_neg (hj ·.1)]
    · exact (hword i).trans (if_pos ⟨rfl, hfree⟩)
    · rw [hword, if_neg (by simp [hno])]
  case read =>
    exact fun s q i hq hawake hlow hhigh hoff hecc => ⟨exec_treeDirectRead hawake hoff false hq hlow (s.treeDirectRead_low hecc),
      exec_treeDirectRead hawake hoff true hq hhigh (s.treeDirectRead_high q.req i)⟩
  case request =>
    intro s r late h hlen run settled w
    refine ⟨fun hb => ?_, fun hb hok => ?_, fun hb hno => ?_⟩
    · exact (exec_rulesetSwap h late).trans (by rw [State.rulesetSwap_of_begun h hlen late hb]; rfl)
    · exact (exec_rulesetSwap h late).trans (by rw [State.rulesetSwap_of_new h hlen late hb, s.replyWrite_of_taken hok]; rfl)
    · obtain ⟨kind, hkind⟩ := Option.ne_none_iff_exists'.mp hno
      exact (exec_rulesetSwap h late).trans (by rw [State.rulesetSwap_of_new h hlen late hb, s.replyWrite_of_refused hkind])

end Sys2Proof.Machine

/-!
PROOFS. The commands of the session table, its flush walk, ageing and displacement (R245 to R252, R522).
-/
namespace Sys2Proof.Machine
namespace State

variable (s : State)

/-! Writes and reads of the table leave the registers and the creation unit. -/

/-- A read of a protected word touches the fault collector, the damage map and the number of the next free value. -/
theorem core_eccRead (m : EccMem) (i src : Nat) (addr : Option Nat) :
    { (s.eccRead m i src addr).2 with flt := s.flt, draws := s.draws, ecc := s.ecc } = s := by
  unfold eccRead
  dsimp only
  split
  · rfl
  · cases addr <;> rfl
  · cases addr <;> rfl

/-- A store into the table may raise 0x124 as well (R255). -/
theorem stashLevel_keeps : s.stashLevel.regs = s.regs ∧ s.stashLevel.cls = s.cls ∧ s.stashLevel.ecc = s.ecc := by
  unfold stashLevel
  dsimp only
  split
  · exact ⟨s.regs_raise _ _, s.cls_raise _ _, s.ecc_raise _ _⟩
  · exact ⟨rfl, rfl, rfl⟩

theorem sessPut_does (j : Nat) (x : Option Sess) : (s.sessPut j x).regs = s.regs ∧
    (s.sessPut j x).cls = { s.cls with sess := spSet (fun _ => none) s.cls.sess j x } ∧
    (s.sessPut j x).ecc = (s.eccClear .session j).ecc :=
  stashLevel_keeps _

/-- An entry is read as it was last written. -/
theorem sessAt_sessPut (j : Nat) (x : Option Sess) (i : Nat) : (s.sessPut j x).sessAt i = if i = j then x else s.sessAt i := by
  obtain ⟨-, hcls, -⟩ := s.sessPut_does j x
  unfold sessAt
  rw [hcls]
  exact spGet_spSet (fun _ => none) s.cls.sess i j x

/-- A store clears the damage of its own entry. -/
theorem eccAt_sessPut (j : Nat) (x : Option Sess) (i : Nat) :
    (s.sessPut j x).eccAt .session i = if i = j then 0 else s.eccAt .session i := by
  have hkey : eccKey .session i = eccKey .session j ↔ i = j := by
    unfold eccKey
    omega
  obtain ⟨-, -, hecc⟩ := s.sessPut_does j x
  unfold eccAt
  rw [hecc]
  refine (spGet_spSet (fun _ => 0) s.ecc (eccKey .session i) (eccKey .session j) 0).trans ?_
  simp only [hkey]

theorem sessCheck_of_intact {i : Nat} (h : s.eccAt .session i = 0) : s.sessCheck i = (true, s) := by
  unfold sessCheck
  rw [s.eccRead_of_intact h]
  rfl

theorem sessCheck_keeps (i : Nat) : (s.sessCheck i).2.regs = s.regs ∧ (s.sessCheck i).2.cls.held = s.cls.held := by
  have hread := s.core_eccRead .session i 0x120 none
  have hregs := congrArg State.regs hread
  have hheld := congrArg (fun u : State => u.cls.held) hread
  unfold sessCheck
  dsimp only
  split
  · obtain ⟨hput, hcls, -⟩ := (s.eccRead .session i 0x120 none).2.sessPut_does i none
    exact ⟨hput.trans hregs, (congrArg Cls.held hcls :).trans hheld⟩
  · exact ⟨hregs, hheld⟩

theorem regs_sessProbe (key : List Byte) : (s.sessProbe key).regs = s.regs :=
  each_keep State.regs _ (fun u i => (u.sessCheck_keeps i).1) (s.sessHurt key) s

theorem held_sessProbe (key : List Byte) : (s.sessProbe key).cls.held = s.cls.held :=
  each_keep (fun u => u.cls.held) _ (fun u i => (u.sessCheck_keeps i).2) (s.sessHurt key) s

/-- The entry that a command names lies in registers. -/
theorem fwlData_congr {s t : State} (h : s.regs = t.regs) : s.fwlData = t.fwlData := by
  unfold fwlData regBytes
  simp only [rword_congr h]

/-! What a command reads is not changed by the count that a write begins with. -/

theorem fwlData_begun (q : Requester) : (s.begun q).fwlData = s.fwlData := fwlData_congr (s.regs_begun q)

theorem sessAt_begun (q : Requester) (i : Nat) : (s.begun q).sessAt i = s.sessAt i := by
  unfold sessAt
  rw [cls_begun]

theorem eccAt_begun (q : Requester) (m : EccMem) (i : Nat) : (s.begun q).eccAt m i = s.eccAt m i := by
  unfold eccAt
  rw [ecc_begun]

/-! The ends of a command (R522). -/

/-- A command ends with BUSY clear, its result and index shown, and CMD_DONE. -/
theorem fwlDone_does {r i : Nat} (hr : r < 8) (hi : i < 65536) : let e := s.fwlDone r i
    e.rf .FWL_CMD_STATUS_RESULT = r ∧ e.rf .FWL_CMD_STATUS_INDEX = i ∧ e.on .FWL_CMD_STATUS_BUSY = false ∧
    e.on .FWL_INT_CMD_DONE = true ∧ e.cls = s.cls := by
  unfold fwlDone
  refine ⟨?_, ?_, ?_, ?_, rfl⟩
  · rw [rf_wf_of_ne _ _ _ _ (by decide), rf_wf_of_ne _ _ _ _ (by decide)]
    exact rf_wf_fits _ _ (by decide) hr
  · rw [rf_wf_of_ne _ _ _ _ (by decide)]
    exact rf_wf_fits _ _ (by decide) hi
  · simp (disch := decide) only [on_wf_of_ne, on_wf_self]
    rfl
  · exact on_wf_self _ _ 1 (by decide)

theorem fwlCmd_of_busy (h : s.on .FWL_CMD_STATUS_BUSY = true) (g : State → State) : s.fwlCmd g = s.refuse 0x123 0x08 := if_pos h

theorem fwlCmd_of_idle (h : s.on .FWL_CMD_STATUS_BUSY = false) (g : State → State) : s.fwlCmd g = g s :=
  if_neg (ne_true_of_eq_false h)

theorem fwl_of_busy (h : s.on .FWL_CMD_STATUS_BUSY = true) (all : Bool) : s.fwlLookup = s.refuse 0x123 0x08 ∧
    s.fwlRead = s.refuse 0x123 0x08 ∧ s.fwlInsert = s.refuse 0x123 0x08 ∧ s.fwlDelete = s.refuse 0x123 0x08 ∧
    s.fwlFlush all = s.refuse 0x123 0x08 :=
  ⟨s.fwlCmd_of_busy h _, s.fwlCmd_of_busy h _, s.fwlCmd_of_busy h _, s.fwlCmd_of_busy h _, s.fwlCmd_of_busy h _⟩

/-! The commands while the table is idle: `d` is the entry in FWL_CMD_DATA and `t` the state in which the entries that its key reads
are checked. -/

section
variable {s : State} (hidle : s.on .FWL_CMD_STATUS_BUSY = false)
include hidle

theorem fwlFlush_of_idle (all : Bool) : s.fwlFlush all =
    { s.wf .FWL_CMD_STATUS_BUSY 1 with cls := { s.cls with flush := some (all, s.cycles, 0) } } := s.fwlCmd_of_idle hidle _

theorem fwlRead_of_entry {i : Nat} {x : Sess} (hindex : s.rf .FWL_CMD_STATUS_INDEX = i) (hx : s.sessAt i = some x)
    (hecc : s.eccAt .session i = 0) : s.fwlRead = (s.setRegBytes (Reg.FWL_CMD_DATA 0) 16 x.bytes).fwlDone 0 i := by
  unfold fwlRead
  simp only [s.fwlCmd_of_idle hidle, hindex, s.sessCheck_of_intact hecc, hx]

variable {d : Sess} (hd : s.fwlData = d)
include hd

theorem fwlInsert_of_uncanonical {i : Nat} (hindex : s.rf .FWL_CMD_STATUS_INDEX = i) (hcanon : sessCanon d.key = false) :
    s.fwlInsert = s.fwlDone 4 i := by
  unfold fwlInsert
  simp only [s.fwlCmd_of_idle hidle, hd, hcanon, hindex, Bool.not_false, if_true]

variable {t : State} (ht : s.sessProbe d.key = t)
include ht

theorem fwlLookup_of_none {i : Nat} (hindex : s.rf .FWL_CMD_STATUS_INDEX = i) (hfind : t.sessFind d.key = none) :
    s.fwlLookup = t.fwlDone 1 i := by
  have hregs : t.regs = s.regs := by rw [← ht, regs_sessProbe]
  unfold fwlLookup
  simp only [s.fwlCmd_of_idle hidle, hd, ht, fwlData_congr hregs, hfind, rf_congr hregs, hindex]

theorem fwlLookup_of_entry {i : Nat} {x : Sess} (hfind : t.sessFind d.key = some i) (hx : t.sessAt i = some x)
    (hecc : t.eccAt .session i = 0) : s.fwlLookup = (t.setRegBytes (Reg.FWL_CMD_DATA 0) 16 x.bytes).fwlDone 0 i := by
  have hregs : t.regs = s.regs := by rw [← ht, regs_sessProbe]
  unfold fwlLookup
  simp only [s.fwlCmd_of_idle hidle, hd, ht, fwlData_congr hregs, hfind, t.sessCheck_of_intact hecc, hx]

/-- An entry is removed with the LAST that it was seen with (R252). -/
theorem fwlDelete_of_entry {i : Nat} {x : Sess} (hfind : t.sessFind d.key = some i) (hx : t.sessAt i = some x)
    (hecc : t.eccAt .session i = 0) : s.fwlDelete =
      if x.last = d.last then ((t.sessPut i none).cinc (Ctr.fwl 8)).fwlDone 0 i else t.fwlDone 2 i := by
  unfold fwlDelete
  simp only [s.fwlCmd_of_idle hidle, hd, ht, hfind, t.sessCheck_of_intact hecc, hx]

variable (hcanon : sessCanon d.key = true)
include hcanon

theorem fwlInsert_of_existing {j : Nat} (hfind : t.sessFind d.key = some j) (hecc : t.eccAt .session j = 0) :
    s.fwlInsert = t.fwlDone 5 j := by
  unfold fwlInsert
  simp only [s.fwlCmd_of_idle hidle, hd, hcanon, Bool.not_true, Bool.false_eq_true, if_false, ht, hfind, t.sessCheck_of_intact hecc, if_true]

/-- An entry that is new takes its free slot with VALID = 1 (R248). -/
theorem fwlInsert_of_new (hfind : t.sessFind d.key = none) (hheld : s.cls.held.any (fun h => h.key == d.key) = false)
    {j : Nat} (hfree : t.sessFree d.key = some j) : s.fwlInsert = ((t.sessPut j (some { d with
      flags := if bitAt d.flags 7 then d.flags else d.flags + 128 })).cinc (Ctr.fwl 2)).fwlDone 0 j := by
  have hkept : t.cls.held = s.cls.held := by rw [← ht, held_sessProbe]
  unfold fwlInsert sessPlace
  simp only [s.fwlCmd_of_idle hidle, hd, hcanon, Bool.not_true, Bool.false_eq_true, if_false, ht, hfind, hkept, hheld, hfree]

end

/-- The walk ends past the last index. -/
theorem fwlFlushDone_does {f : Bool × Nat × Nat} (h : s.cls.flush = some f) : let e := s.fwlFlushDone
    e.cls.sess = (s.flushTo 65536).cls.sess ∧ e.cls.flush = none ∧ e.on .FWL_CMD_STATUS_BUSY = false := by
  have hindex : (s.flushTo 65536).rf .FWL_CMD_STATUS_INDEX < 65536 := rf_lt _ _
  obtain ⟨-, -, hbusy, -, -⟩ := (s.flushTo 65536).fwlDone_does (by decide : 0 < 8) hindex
  unfold fwlFlushDone
  rw [h]
  exact ⟨rfl, rfl, hbusy⟩

/-! The firmware's scan (R251). -/

/-- An entry that the scan reads: one that is not STATIC. -/
def agesOut (x : Nat × Option Sess) : Bool :=
  match x.2 with
  | some e => !bitAt e.flags 5
  | none => false

/-- What the scan does to the entry at a key. -/
def ageEntry (x : Nat × Option Sess) : State :=
  match s.sessAt x.1 with
  | some e => if s.sessAged e then (s.sessPut x.1 none).cinc (Ctr.fwl 7) else s
  | none => s

/-- The scan damages no entry. -/
theorem eccAt_ageEntry (x : Nat × Option Sess) {i : Nat} (h : s.eccAt .session i = 0) : (s.ageEntry x).eccAt .session i = 0 := by
  unfold ageEntry
  split
  · split
    · refine (s.eccAt_sessPut x.1 none i).trans ?_
      rw [h, ite_self]
    · exact h
  · exact h

/-- Two steps that agree where `P` holds, which the second keeps, do the same over a list. -/
theorem each_congr_of_keeps {α : Type} (P : State → Prop) {g g' : State → α → State} {l : List α}
    (h : ∀ u, P u → ∀ x ∈ l, g u x = g' u x ∧ P (g' u x)) (hs : P s) : s.each l g = s.each l g' := by
  induction l generalizing s with
  | nil => rfl
  | cons x l ih =>
    obtain ⟨heq, hkeep⟩ := h s hs x List.mem_cons_self
    unfold each at ih ⊢
    rw [List.foldl_cons, List.foldl_cons, heq]
    exact ih _ (fun u hu y hy => h u hu y (List.mem_cons_of_mem x hy)) hkeep

/-- Where no entry is damaged, every read of the scan finds its entry. -/
theorem sessScan_of_intact (h : ∀ x ∈ s.flushUp.cls.sess, s.flushUp.eccAt .session x.1 = 0) :
    s.sessScan = s.flushUp.each (s.flushUp.cls.sess.filter agesOut) ageEntry := by
  refine s.flushUp.each_congr_of_keeps (fun u => ∀ x ∈ s.flushUp.cls.sess, u.eccAt .session x.1 = 0) (fun u hu x hx => ⟨?_, ?_⟩) h
  · rw [u.sessCheck_of_intact (hu x (List.mem_filter.mp hx).1)]
    rfl
  · exact fun y hy => u.eccAt_ageEntry x (hu y hy)

/-! Displacement (R249). -/

/-- A stash entry with a free way moves there. -/
theorem stashMove_of_free {i j : Nat} {x : Sess} (hflush : s.cls.flush = none) (hi : stashBase ≤ i) (hx : s.sessAt i = some x)
    (hecc : s.eccAt .session i = 0)
    (hfree : ((s.sessCands x.key).filter (fun j => !s.sessHeldSlots.contains j)).find? (fun j => (s.sessAt j).isNone) = some j) :
    s.stashMove i = ((s.sessPut j (some x)).sessPut i none).cinc (Ctr.fwl 9) := by
  unfold stashMove
  rw [if_neg (by simp [hflush, hi])]
  simp only [s.sessCheck_of_intact hecc, hx, hfree]

end State

/-! The commands. -/

section
variable {s : State} {q : Sender} (h : s.reaches q Reg.FWL_CMD)
include h

theorem keyCmd_fwl {v : Nat} (hv : v < 65536) : s.keyCmd q Reg.FWL_CMD 0x5E55 v =
    .next (s.did q Reg.FWL_CMD ((s.begun q.req).fwlCmdDo (cmdWord 0x5E55 v))) :=
  keyAct s h (p := (50, 0)) (g := fun u => u.fwlCmdDo (cmdWord 0x5E55 v)) (by decide) (by decide) hv (by decide) rfl

theorem exec_fwlLookup : exec (.fwlLookup q) s = .next (s.did q Reg.FWL_CMD (s.begun q.req).fwlLookup) := keyCmd_fwl h (by decide)
theorem exec_fwlRead : exec (.fwlRead q) s = .next (s.did q Reg.FWL_CMD (s.begun q.req).fwlRead) := keyCmd_fwl h (by decide)
theorem exec_fwlInsert : exec (.fwlInsert q) s = .next (s.did q Reg.FWL_CMD (s.begun q.req).fwlInsert) := keyCmd_fwl h (by decide)
theorem exec_fwlDelete : exec (.fwlDelete q) s = .next (s.did q Reg.FWL_CMD (s.begun q.req).fwlDelete) := keyCmd_fwl h (by decide)

theorem exec_fwlFlush (all : Bool) : exec (.fwlFlush q all) s = .next (s.did q Reg.FWL_CMD ((s.begun q.req).fwlFlush all)) := by
  cases all
  · exact keyCmd_fwl h (by decide)
  · exact keyCmd_fwl h (by decide)

end

theorem exec_sessionAgeingScan {s : State} (hawake : s.awake = true) (hrestart : s.on .TOP_STATE_CCX_RESTART = false) :
    exec .sessionAgeingScan s = .next (s.after s.sessScan) :=
  s.acting_of State.sessScan (by rw [hawake, hrestart]; rfl)

/-- Settles O45: each command runs one operation of the table, whose lemma says what it leaves; that a command's own key and index
outlast the check of the entries it reads is `regs_sessProbe`. -/
theorem sessionTableCommands : Obligations.SessionTableCommands := by
  refine ⟨?busy, ?idle, fun s j x i => s.sessAt_sessPut j x i, fun s r i hr hi => s.fwlDone_does hr hi, ?flushed, ?scan, ?move⟩
  case busy =>
    intro s q all h hbusy no
    obtain ⟨hlookup, hread, hinsert, hdelete, hflush⟩ := (s.begun q.req).fwl_of_busy (by rwa [State.on_begun]) all
    refine ⟨?_, ?_, ?_, ?_, ?_, s.cls_begun q.req⟩
    · rw [exec_fwlLookup h, hlookup]
    · rw [exec_fwlRead h, hread]
    · rw [exec_fwlInsert h, hinsert]
    · rw [exec_fwlDelete h, hdelete]
    · rw [exec_fwlFlush h, hflush]
  case idle =>
    intro s q h hbusy b k t put
    have hidle : b.on .FWL_CMD_STATUS_BUSY = false := (s.on_begun q.req _).trans hbusy
    have hdata : b.fwlData = s.fwlData := s.fwlData_begun q.req
    have hindex : b.rf .FWL_CMD_STATUS_INDEX = s.rf .FWL_CMD_STATUS_INDEX := s.rf_begun q.req _
    refine ⟨fun i x hfind hx hecc => ?_, fun hfind => ?_, fun x hx hecc => ?_, fun hcanon hfind hheld j hfree => ?_, fun hcanon => ?_,
      fun j hcanon hfind hecc => ?_, fun i x hfind hx hecc => ⟨fun hlast => ?_, fun hlast => ?_⟩, fun all => ?_⟩
    · rw [exec_fwlLookup h, State.fwlLookup_of_entry hidle hdata rfl hfind hx hecc]
    · rw [exec_fwlLookup h, State.fwlLookup_of_none hidle hdata rfl hindex hfind]
    · rw [exec_fwlRead h, State.fwlRead_of_entry hidle hindex ((s.sessAt_begun q.req _).trans hx) ((s.eccAt_begun q.req _ _).trans hecc)]
    · rw [exec_fwlInsert h, State.fwlInsert_of_new hidle hdata rfl hcanon hfind (by rwa [State.cls_begun]) hfree]
    · rw [exec_fwlInsert h, State.fwlInsert_of_uncanonical hidle hdata hindex hcanon]
    · rw [exec_fwlInsert h, State.fwlInsert_of_existing hidle hdata rfl hcanon hfind hecc]
    · rw [exec_fwlDelete h, State.fwlDelete_of_entry hidle hdata rfl hfind hx hecc, if_pos hlast]
    · rw [exec_fwlDelete h, State.fwlDelete_of_entry hidle hdata rfl hfind hx hecc, if_neg hlast]
    · rw [exec_fwlFlush h, State.fwlFlush_of_idle hidle, State.cls_begun, State.cycles_begun]
  case flushed => exact fun s f hawake hflush => ⟨_, s.acting_of State.fwlFlushDone hawake, s.fwlFlushDone_does hflush⟩
  case scan =>
    intro s hawake hrestart u hintact
    have hscan := exec_sessionAgeingScan hawake hrestart
    rw [s.sessScan_of_intact hintact] at hscan
    exact hscan
  case move =>
    intro s i x j hawake hflush hx hecc hfree
    refine (s.acting_of (fun u => u.stashMove (stashBase + i)) hawake).trans ?_
    rw [s.stashMove_of_free hflush (Nat.le_add_right _ _) hx hecc hfree]

end Sys2Proof.Machine

/-!
PROOFS. The FDB command DELETE on an entry with an uncorrectable error (R267, R268).
-/
namespace Sys2Proof.Machine
namespace State

variable (s : State)

/-- No walk is in progress, so none has entries to visit. -/
theorem walksUp_of_none (h : s.cel.walks = []) : s.walksUp = s := by
  have hcel : { s.cel with walks := [] } = s.cel := by rw [← h]
  unfold walksUp walksTo
  rw [h]
  show { s with cel := { s.cel with walks := s.cel.walks.map _ } } = s
  rw [h, List.map_nil, hcel]

/-- An entry is read as it was last written. -/
theorem fdbAt_fdbPut (j : Nat) (x : Option FdbEntry) (i : Nat) : (s.fdbPut j x).fdbAt i = if i = j then x else s.fdbAt i :=
  spGet_spSet (fun _ => none) s.cel.fdb i j x

/-- Where an entry lies rests on the per-boot key alone. -/
theorem fdbIndex_congr {s t : State} (h : s.cls = t.cls) (mac vid w : Nat) : s.fdbIndex mac vid w = t.fdbIndex mac vid w := by
  unfold fdbIndex hashSlice
  rw [h]

/-- The entry in way 0 is found before those of the other ways. -/
theorem fdbFind_of_way0 {mac vid : Nat} {e : FdbEntry} (h : s.fdbAt (s.fdbIndex mac vid 0) = some e) (hmac : e.mac = mac)
    (hvid : e.vid = vid) : s.fdbFind mac vid = some (s.fdbIndex mac vid 0) := by
  unfold fdbFind
  exact List.find?_cons_of_pos (by simp [h, hmac, hvid])

/-- The entry at index `i` is lost to an uncorrectable error (R267). -/
def fdbLose (s : State) (i : Nat) : State := ((s.notify 0x142 0x02).fdbPut i none).cinc (Ctr.swc 8)

theorem fdbCheck_of_uncorrectable {i : Nat} (h : s.eccAt .fdb i = 2) : s.fdbCheck i = (false, s.fdbLose i) := by
  unfold fdbCheck eccRead
  simp only [h, if_true, fdbLose]

/-- DELETE of an entry that its own read invalidates ends as where there is none. -/
theorem fdbRun_delete_of_uncorrectable {j : Nat} (hfind : s.walksUp.fdbFind s.walksUp.fdbData.mac s.walksUp.fdbData.vid = some j)
    (hecc : s.walksUp.eccAt .fdb j = 2) (port : Nat) (all : Bool) :
    s.fdbRun 4 port all = (s.walksUp.fdbLose j).fdbDone 1 (s.walksUp.rf .SWC_FDB_STATUS_INDEX) := by
  unfold fdbRun
  simp only [hfind, s.walksUp.fdbCheck_of_uncorrectable hecc, Bool.false_eq_true, if_false]

theorem fdbCmd_of_idle (hidle : s.on .SWC_FDB_STATUS_BUSY = false) (hwalks : s.cel.walks.any (fun w => !w.cmd) = false)
    (op port : Nat) (all : Bool) : s.fdbCmd op port all = s.fdbRun op port all := by
  unfold fdbCmd
  simp only [hidle, hwalks, Bool.false_eq_true, if_false, Bool.false_and]

theorem result_fdbDone {r : Nat} (hr : r < 8) (i : Nat) : (s.fdbDone r i).rf .SWC_FDB_STATUS_RESULT = r := by
  unfold fdbDone
  rw [rf_wf_of_ne _ _ _ _ (by decide), rf_wf_of_ne _ _ _ _ (by decide)]
  exact rf_wf_fits _ _ (by decide) hr

theorem logWrite_of_taken (htaken : s.wfail = none) (space off bytes reqId : Nat) : s.logWrite space off bytes reqId = s := by
  unfold logWrite
  rw [htaken]

/-- A write that took effect is not logged, so a field outside TOP_INT_STATUS and RAK_WAIT is as its effect left it. -/
theorem rf_did_of_taken (q : Sender) (a : Nat) {e : State} (hquiet : e.quiet) (htaken : e.wfail = none) (f : Fld)
    (h1 : f.addr ≠ Reg.TOP_INT_STATUS) (h2 : f.addr ≠ Reg.RAK_WAIT) : (s.did q a e).rf f = e.rf f := by
  unfold did logBy
  split
  · rw [e.draw.2.logWrite_of_taken htaken]
    exact s.rf_after (t := e.draw.2) hquiet f h1 h2
  · rw [e.logWrite_of_taken htaken, s.rf_after hquiet f h1 h2]

/-- The RESULT that a command of SWC_FDB_CMD ends with is what is read after it. -/
theorem result_did_fdbDone (q : Sender) (a : Nat) {u : State} (hquiet : u.quiet) (htaken : u.wfail = none) {r : Nat} (hr : r < 8)
    (i : Nat) : (s.did q a (u.fdbDone r i)).rf .SWC_FDB_STATUS_RESULT = r := by
  rw [s.rf_did_of_taken q a (e := u.fdbDone r i) hquiet htaken _ (by decide) (by decide)]
  exact u.result_fdbDone hr i

end State

/-- DELETE with its key runs its operation. -/
theorem exec_fdbDelete {s : State} {q : Sender} (h : s.reaches q Reg.SWC_FDB_CMD) :
    exec (.fdbDelete q) s = .next (s.did q Reg.SWC_FDB_CMD ((s.begun q.req).fdbCmd 4 0 false)) :=
  keyAct s h (p := (57, 0)) (g := fun u => u.fdbCmd 4 0 false) (by decide) (by decide) (by decide) (by decide) rfl

/-- An awake device. -/
def idleDevice : State := State.reset.power fun p => { p with porst := false }

/-- The index of way 0 for address 0 and VID 0, which rests on the per-boot key. -/
def damagedIndex : Nat := idleDevice.fdbIndex 0 0 0

/-- The same device with an entry of that address and VID for port 3 in way 0, and an uncorrectable error in its word. -/
def damagedFdb : State :=
  { idleDevice.fdbPut damagedIndex (some ⟨0, 0, 3, 0x80, 0⟩) with ecc := spSet (fun _ => 0) [] (eccKey .fdb damagedIndex) 2 }

theorem fdbAt_damagedFdb : damagedFdb.fdbAt damagedIndex = some ⟨0, 0, 3, 0x80, 0⟩ := by
  refine (idleDevice.fdbAt_fdbPut damagedIndex _ damagedIndex).trans ?_
  rw [if_pos rfl]

theorem eccAt_damagedFdb : damagedFdb.eccAt .fdb damagedIndex = 2 := by
  unfold State.eccAt damagedFdb
  exact spGet_spSet_self (fun _ => 0) [] (eccKey .fdb damagedIndex) 2

theorem fdbFind_damagedFdb : damagedFdb.fdbFind 0 0 = some damagedIndex := by
  have hkey : damagedFdb.cls = idleDevice.cls := rfl
  have hindex : damagedFdb.fdbIndex 0 0 0 = damagedIndex := State.fdbIndex_congr hkey 0 0 0
  have hfind := damagedFdb.fdbFind_of_way0 ((congrArg damagedFdb.fdbAt hindex).trans fdbAt_damagedFdb) rfl rfl
  rwa [hindex] at hfind

/-- SWC_FDB_DATA names address 0 and VID 0. -/
theorem fdbData_damagedFdb : damagedFdb.fdbData.mac = 0 ∧ damagedFdb.fdbData.vid = 0 := by decide

/-- A write by the Cortex complex counts nothing. -/
theorem begun_damagedFdb : damagedFdb.begun .ccx = damagedFdb := rfl

theorem walksUp_damagedFdb : damagedFdb.walksUp = damagedFdb := damagedFdb.walksUp_of_none rfl

theorem reaches_damagedFdb : damagedFdb.reaches .ccx Reg.SWC_FDB_CMD := by
  unfold State.reaches
  decide

theorem idle_damagedFdb : damagedFdb.on .SWC_FDB_STATUS_BUSY = false := by decide

/-- The entry that SWC_FDB_DATA names is found. -/
theorem find_damagedFdb : damagedFdb.fdbFind damagedFdb.fdbData.mac damagedFdb.fdbData.vid = some damagedIndex := by
  obtain ⟨hmac, hvid⟩ := fdbData_damagedFdb
  rw [hmac, hvid, fdbFind_damagedFdb]

/-- DELETE finds the entry of `damagedFdb` and ends with RESULT 1. -/
theorem exec_fdbDelete_damagedFdb : exec (.fdbDelete .ccx) damagedFdb = .next
    (damagedFdb.did .ccx Reg.SWC_FDB_CMD ((damagedFdb.fdbLose damagedIndex).fdbDone 1 (damagedFdb.rf .SWC_FDB_STATUS_INDEX))) := by
  have hrun := damagedFdb.fdbRun_delete_of_uncorrectable (j := damagedIndex)
    (by rw [walksUp_damagedFdb, find_damagedFdb]) (by rw [walksUp_damagedFdb, eccAt_damagedFdb]) 0 false
  rw [walksUp_damagedFdb] at hrun
  rw [exec_fdbDelete reaches_damagedFdb, Sender.req, begun_damagedFdb, damagedFdb.fdbCmd_of_idle idle_damagedFdb rfl, hrun]

/-- Refutes O46: the entry that DELETE names in `damagedFdb` has an uncorrectable error, so the read that DELETE makes of it invalidates
it (R267) and the command ends with RESULT 1, and not the 0 that the statement gives whatever the state of the entry. -/
theorem not_fdbCommands : ¬ Obligations.FdbCommands := by
  intro h
  obtain ⟨-, -, hcommands, -⟩ := h
  obtain ⟨-, -, -, -, -, -, -, hdelete, -, -⟩ := hcommands damagedFdb .ccx reaches_damagedFdb idle_damagedFdb rfl
  rw [Sender.req, begun_damagedFdb, walksUp_damagedFdb] at hdelete
  have hstates := Host.Outcome.next.inj (exec_fdbDelete_damagedFdb.symm.trans (hdelete damagedIndex find_damagedFdb))
  have hactual := damagedFdb.result_did_fdbDone .ccx Reg.SWC_FDB_CMD (u := damagedFdb.fdbLose damagedIndex) ⟨rfl, rfl, rfl⟩ rfl
    (by decide : 1 < 8) (damagedFdb.rf .SWC_FDB_STATUS_INDEX)
  have hstated := damagedFdb.result_did_fdbDone .ccx Reg.SWC_FDB_CMD (u := damagedFdb.fdbPut damagedIndex none) ⟨rfl, rfl, rfl⟩ rfl
    (by decide : 0 < 8) damagedIndex
  rw [hstates] at hactual
  exact absurd (hactual.symm.trans hstated) (by decide)

end Sys2Proof.Machine
